-- ==== Sys2Proof/Word.lean ====
section
/-! DEFINITION.
The word types of the CH8128 and their plainest arithmetic: register words, bytes, numbered
elements (R6) and the saturating and field helpers that the later files share. -/

namespace Sys2Proof

/-- A register word (R8: registers are 32 bits wide). -/
abbrev Word := BitVec 32

/-- One byte of memory, of a buffer or of a frame. -/
abbrev Byte := BitVec 8

/-- A string of bytes, the first at the lowest address (R7). -/
abbrev Bytes := List (BitVec 8)

/-- A value of the tick counter (R404: 64 bits). -/
abbrev Tick := BitVec 64

/-- A port, 0 to 127 (R6). -/
abbrev PortId := Fin 128

/-- A bed, 0 to 7 (R6). -/
abbrev BedId := Fin 8

/-- A host lane, 0 to 255 (R6). -/
abbrev LaneId := Fin 256

/-- A ring index, 0 to 63 (R286). -/
abbrev RingId := Fin 64

/-- A mailbox channel, 0 to 15 (R371). -/
abbrev ChanId := Fin 16

/-- A pair of a port, 0 to 3 standing for A to D (R6). -/
abbrev Pair := Fin 4

/-- A rung by its value in the table of R31. -/
abbrev Rung := BitVec 4

/-- A host mode by its value in the table of R256. -/
abbrev HostMode := BitVec 4

/-- A master identity by the table of R369. -/
abbrev MasterId := BitVec 4

/-- A rung as the natural number of R31. -/
abbrev Rung.num (r : Rung) : Nat := r.toNat

end Sys2Proof
end

