-- ==== Sys2Proof/Enums.lean ====
section
/-! DEFINITION.
The closed sets of names of the manual, each with the code the manual gives it where a register,
a descriptor, an event or a frame carries it. -/

namespace Sys2Proof

/-- The device modes of R24. -/
inductive DevMode
  | off | boot | seedbed | calibrate | active | quiet | dormant | test
  deriving DecidableEq, Repr

/-- The values of R24. -/
def DevMode.code : DevMode → Nat
  | .off => 0 | .boot => 1 | .seedbed => 2 | .calibrate => 3
  | .active => 4 | .quiet => 5 | .dormant => 6 | .test => 7

/-- The port states of R28. -/
inductive PState
  | disabled | listening | training | up | still | dormant | fault | test
  deriving DecidableEq, Repr

/-- The values of R28. -/
def PState.code : PState → Nat
  | .disabled => 0 | .listening => 1 | .training => 2 | .up => 3
  | .still => 4 | .dormant => 5 | .fault => 6 | .test => 7

/-- The reasons of FAULT (R30). -/
inductive FReason
  | none | linePll | thermal
  deriving DecidableEq, Repr

/-- The values of R30. -/
def FReason.code : FReason → Nat
  | .none => 0 | .linePll => 1 | .thermal => 2

/-- A role on a link, or none yet (R35, R231). -/
inductive Role
  | none | head | tail
  deriving DecidableEq, Repr

/-- PORT.SPRINGSTAT.SROLE (R231). -/
def Role.code : Role → Nat
  | .none => 0 | .head => 1 | .tail => 2

/-- PORT.LINKCTL.ROLE (R62); 3 acts as AUTO. -/
inductive RoleSel
  | auto | head | tail
  deriving DecidableEq, Repr

/-- The completion statuses of R295. -/
inductive ST
  | ok | partialOk | refused | abortedReset | badParam | busy | notPowered | authFail | timeout
  deriving DecidableEq, Repr

/-- The values of R295. -/
def ST.code : ST → Nat
  | .ok => 0 | .partialOk => 1 | .refused => 2 | .abortedReset => 3 | .badParam => 4
  | .busy => 5 | .notPowered => 6 | .authFail => 7 | .timeout => 8

/-- The training phases of R102. -/
inductive Phase
  | none | handshake | echoHead | echoTail | timing | precoder | pam4 | ramp | data
  deriving DecidableEq, Repr

/-- The values of R102. -/
def Phase.code : Phase → Nat
  | .none => 0 | .handshake => 1 | .echoHead => 2 | .echoTail => 3 | .timing => 4
  | .precoder => 5 | .pam4 => 6 | .ramp => 7 | .data => 8

/-- The phase a code of R102 names; reserved codes name none. -/
def Phase.ofCode (n : Nat) : Phase :=
  if n = 1 then .handshake else if n = 2 then .echoHead else if n = 3 then .echoTail
  else if n = 4 then .timing else if n = 5 then .precoder else if n = 6 then .pam4
  else if n = 7 then .ramp else if n = 8 then .data else .none

/-- The training kinds of PORT.TRAINSTAT.KIND (R133). -/
inductive TKind
  | none | cold | warm | fast | threePair | standard
  deriving DecidableEq, Repr

/-- The values of R133. -/
def TKind.code : TKind → Nat
  | .none => 0 | .cold => 1 | .warm => 2 | .fast => 3 | .threePair => 4 | .standard => 5

/-- The kind a TIF names (R105); the reserved values read as none. -/
def TKind.ofCode (n : Nat) : TKind :=
  if n = 1 then .cold else if n = 2 then .warm else if n = 3 then .fast
  else if n = 4 then .threePair else .none

/-- The training causes of R131. -/
inductive TCause
  | none | timeout | margin | skew | pairFault | peerAbort | springLost | fpReject | lockLost
  | localAbort | clause
  deriving DecidableEq, Repr

/-- The values of R131. -/
def TCause.code : TCause → Nat
  | .none => 0 | .timeout => 1 | .margin => 2 | .skew => 3 | .pairFault => 4 | .peerAbort => 5
  | .springLost => 6 | .fpReject => 7 | .lockLost => 8 | .localAbort => 9 | .clause => 10

/-- The EV_LINK_DOWN causes of R343. -/
inductive Down
  | framingLost | oamLost | uncBurst | peerClose | clauseLink | pairFault | stillLost
  | trainFail | skew | roleConflict | localDown | clock | portFault
  deriving DecidableEq, Repr

/-- The values of R343. -/
def Down.code : Down → Nat
  | .framingLost => 1 | .oamLost => 2 | .uncBurst => 3 | .peerClose => 4 | .clauseLink => 5
  | .pairFault => 6 | .stillLost => 7 | .trainFail => 8 | .skew => 9 | .roleConflict => 10
  | .localDown => 11 | .clock => 12 | .portFault => 13

/-- The closing codes of LSTATE (R91). -/
inductive LState
  | data | closeStill | closeRetrain | closeRung | closeDown
  deriving DecidableEq, Repr

/-- The values of R91; the order is also the precedence of R95, CLOSE_DOWN highest. -/
def LState.code : LState → Nat
  | .data => 0 | .closeStill => 1 | .closeRetrain => 2 | .closeRung => 3 | .closeDown => 4

/-- The code an OAM field names; 5 to 15 are treated as DATA (R91). -/
def LState.ofCode (n : Nat) : LState :=
  if n = 1 then .closeStill else if n = 2 then .closeRetrain else if n = 3 then .closeRung
  else if n = 4 then .closeDown else .data

/-- The Spring states of R206. -/
inductive SState
  | off | listen | joining | partnered
  deriving DecidableEq, Repr

/-- The values of R206. -/
def SState.code : SState → Nat
  | .off => 0 | .listen => 1 | .joining => 2 | .partnered => 3

/-- The loss causes of R208, coded by PORT.SPRINGSTAT.LAST_LOSS (R231). -/
inductive Loss
  | none | carrier | silence | retry | restart | clock | disabled | reset
  deriving DecidableEq, Repr

/-- The values of R231. -/
def Loss.code : Loss → Nat
  | .none => 0 | .carrier => 1 | .silence => 2 | .retry => 3 | .restart => 4 | .clock => 5
  | .disabled => 6 | .reset => 7

/-- The health of a link (R160). -/
inductive Health
  | notUp | good | degraded
  deriving DecidableEq, Repr

/-- The values of R160. -/
def Health.code : Health → Nat
  | .notUp => 0 | .good => 1 | .degraded => 2

/-- The wake reasons of PORT.STILLSTAT.LAST_WAKE (R182). -/
inductive WakeBy
  | none | host | partner | command
  deriving DecidableEq, Repr

/-- The values of R182. -/
def WakeBy.code : WakeBy → Nat
  | .none => 0 | .host => 1 | .partner => 2 | .command => 3

/-- The states of a ring (R311). -/
inductive RState
  | idle | run | error | draining
  deriving DecidableEq, Repr

/-- The values of R311. -/
def RState.code : RState → Nat
  | .idle => 0 | .run => 1 | .error => 2 | .draining => 3

/-- The ring errors of R311. -/
inductive RErr
  | none | indexRange | tailOverrun | headOverrun | dmaError | badSize
  deriving DecidableEq, Repr

/-- The values of R311. -/
def RErr.code : RErr → Nat
  | .none => 0 | .indexRange => 1 | .tailOverrun => 2 | .headOverrun => 3 | .dmaError => 4
  | .badSize => 5

/-- The kinds of element an EV SOURCE or a TARGET names (R294). -/
inductive Elem
  | port (p : PortId)
  | bed (b : BedId)
  | lane (l : LaneId)
  | device
  deriving DecidableEq, Repr

/-- The 16-bit SOURCE or TARGET word of R294. -/
def Elem.code : Elem → Nat
  | .port p => p.val
  | .bed b => 0x1000 + b.val
  | .lane l => 0x2000 + l.val
  | .device => 0x3000

/-- The element a TARGET word names (R294), none for a reserved KIND or an INDEX out of range. -/
def Elem.ofCode (w : BitVec 16) : Option Elem :=
  let idx := w.toNat % 4096
  let kind := w.toNat / 4096
  if kind = 0 then (if h : idx < 128 then some (.port ⟨idx, h⟩) else none)
  else if kind = 1 then (if h : idx < 8 then some (.bed ⟨idx, h⟩) else none)
  else if kind = 2 then (if h : idx < 256 then some (.lane ⟨idx, h⟩) else none)
  else if kind = 3 then (if idx = 0 then some .device else none)
  else none

/-- The event codes of R341. -/
inductive Ev
  | reflost | security | reset | bootFallback | linkDown | rungChange | pairSpared | linkDegraded
  | laneLockLost | accessFault | powerRefused | ringError | linkUp | still | dormant | springRx
  | calDone | bistDone | telDrop
  deriving DecidableEq, Repr

/-- The values of R341. -/
def Ev.code : Ev → Nat
  | .reflost => 0x01 | .security => 0x02 | .reset => 0x03 | .bootFallback => 0x04
  | .linkDown => 0x05 | .rungChange => 0x06 | .pairSpared => 0x07 | .linkDegraded => 0x08
  | .laneLockLost => 0x09 | .accessFault => 0x0A | .powerRefused => 0x0B | .ringError => 0x0C
  | .linkUp => 0x0D | .still => 0x0E | .dormant => 0x0F | .springRx => 0x10 | .calDone => 0x11
  | .bistDone => 0x12 | .telDrop => 0x13

/-- The precedence classes of R341 and R409. -/
def Ev.cls : Ev → Nat
  | .reflost => 1 | .security => 2 | .reset => 3 | .bootFallback => 3 | .linkDown => 4
  | .rungChange => 5 | .pairSpared => 5 | .linkDegraded => 5 | .laneLockLost => 5
  | .accessFault => 5 | .powerRefused => 5 | .ringError => 5 | .linkUp => 6 | .still => 7
  | .dormant => 7 | .springRx => 8 | .calDone => 9 | .bistDone => 9 | .telDrop => 10

/-- The opcodes of R313. -/
inductive Op
  | portConfig | portEnable | portDisable | retrain | reset | laneConfig | loopback | diagRun
  | fpSave | fpLoad | calRun | calStore | bistRun | repairFuse | telConfig | sampleConfig
  | counterAccess | springConfig | powerState | regBatch | fwStage | fwActivate | attest
  | debugUnlock | estateSync
  deriving DecidableEq, Repr

/-- The values of R313. -/
def Op.code : Op → Nat
  | .portConfig => 0x0001 | .portEnable => 0x0002 | .portDisable => 0x0003 | .retrain => 0x0004
  | .reset => 0x0005 | .laneConfig => 0x0010 | .loopback => 0x0011 | .diagRun => 0x0020
  | .fpSave => 0x0021 | .fpLoad => 0x0022 | .calRun => 0x0030 | .calStore => 0x0031
  | .bistRun => 0x0032 | .repairFuse => 0x0033 | .telConfig => 0x0040 | .sampleConfig => 0x0041
  | .counterAccess => 0x0042 | .springConfig => 0x0050 | .powerState => 0x0051
  | .regBatch => 0x0060 | .fwStage => 0x0070 | .fwActivate => 0x0071 | .attest => 0x0072
  | .debugUnlock => 0x0073 | .estateSync => 0x0080

/-- Every opcode of R313, in the order of its table. -/
def Op.all : List Op :=
  [.portConfig, .portEnable, .portDisable, .retrain, .reset, .laneConfig, .loopback, .diagRun,
   .fpSave, .fpLoad, .calRun, .calStore, .bistRun, .repairFuse, .telConfig, .sampleConfig,
   .counterAccess, .springConfig, .powerState, .regBatch, .fwStage, .fwActivate, .attest,
   .debugUnlock, .estateSync]

/-- The opcode a descriptor's bytes 0 and 1 name (R314: one not listed names none). -/
def Op.ofCode (n : Nat) : Option Op := Op.all.find? fun o => o.code == n

/-- The start reasons of R427. -/
inductive Reason
  | none | refclkAbsent | refclkLost | flashAbsent | flashUnsupported | layoutInvalid | certInvalid
  | imageInvalid | rollback | noImage | hubBistFail | bedBistFail | coreNoReady | calFail
  | stageTimeout | startTimeout | fwFatal | userRetry
  deriving DecidableEq, Repr

/-- The values of R427. -/
def Reason.code : Reason → Nat
  | .none => 0x00 | .refclkAbsent => 0x01 | .refclkLost => 0x02 | .flashAbsent => 0x03
  | .flashUnsupported => 0x04 | .layoutInvalid => 0x05 | .certInvalid => 0x06
  | .imageInvalid => 0x07 | .rollback => 0x08 | .noImage => 0x09 | .hubBistFail => 0x0A
  | .bedBistFail => 0x0B | .coreNoReady => 0x0C | .calFail => 0x0D | .stageTimeout => 0x0E
  | .startTimeout => 0x0F | .fwFatal => 0x10 | .userRetry => 0x11

/-- The kinds of boot-log record (R424). -/
inductive LogKind
  | start | active | failed | tornCal | tornFp | tornBootctl | reflost | interrupted | seedbed
  deriving DecidableEq, Repr

/-- The values of R424. -/
def LogKind.code : LogKind → Nat
  | .start => 1 | .active => 2 | .failed => 3 | .tornCal => 4 | .tornFp => 5 | .tornBootctl => 6
  | .reflost => 7 | .interrupted => 8 | .seedbed => 9

/-- The results of verifying a slot (R511, R523). -/
inductive SlotRes
  | unknown | verified | invalid | rollback | incomplete
  deriving DecidableEq, Repr

/-- The values of R523. -/
def SlotRes.code : SlotRes → Nat
  | .unknown => 0 | .verified => 1 | .invalid => 2 | .rollback => 3 | .incomplete => 4

/-- A self-test verdict (R468), coded by R344. -/
inductive Verdict
  | notRun | pass | fail | aborted
  deriving DecidableEq, Repr

/-- The values of R344. -/
def Verdict.code : Verdict → Nat
  | .notRun => 0 | .pass => 1 | .fail => 2 | .aborted => 3

/-- The kinds of self-test (R467). -/
inductive BKind
  | logic | memory | analogue | lane | spring
  deriving DecidableEq, Repr

/-- The bit of a kind in KINDS (R467). -/
def BKind.bit : BKind → Nat
  | .logic => 0 | .memory => 1 | .analogue => 2 | .lane => 3 | .spring => 4

/-- The rejects of a mailbox write (R385). -/
inductive Reject
  | none | notSender | noLock | busy | badPtr | notReceiver | unbound
  deriving DecidableEq, Repr

/-- The values of R385. -/
def Reject.code : Reject → Nat
  | .none => 0 | .notSender => 1 | .noLock => 2 | .busy => 3 | .badPtr => 4 | .notReceiver => 5
  | .unbound => 6

/-- The Sluice sequence states (R451). -/
inductive SluiceSeq
  | idle | asking | gating | switching | restoring
  deriving DecidableEq, Repr

/-- The values of R451. -/
def SluiceSeq.code : SluiceSeq → Nat
  | .idle => 0 | .asking => 1 | .gating => 2 | .switching => 3 | .restoring => 4

/-- A block's answer to the Sluice (R436). -/
inductive Answer
  | ack | delay | refuse
  deriving DecidableEq, Repr

/-- A switched power domain (R431). -/
inductive Dom
  | hub
  | bed (b : BedId)
  deriving DecidableEq, Repr

/-- The wake sources of R442, coded by SLUICE.STAT.LAST_WAKE (R451). -/
inductive WakeSrc
  | none | doorbell | mailbox | spring | springUser | timer | gpio
  deriving DecidableEq, Repr

/-- The values of R451. -/
def WakeSrc.code : WakeSrc → Nat
  | .none => 0 | .doorbell => 1 | .mailbox => 2 | .spring => 3 | .springUser => 4 | .timer => 5
  | .gpio => 6

/-- The supply rails with a power-good monitor (R542). -/
inductive Rail
  | aon | io | core | afe | ld | serl | serh | spr
  deriving DecidableEq, Repr

/-- The cable tests of R232, in the order of R233. -/
inductive DTest
  | passive | tdr | xnext | anext | il
  deriving DecidableEq, Repr

/-- The bit of a test in the mask of R232, which is also its place in STATUS (R243). -/
def DTest.bit : DTest → Nat
  | .passive => 0 | .tdr => 1 | .xnext => 2 | .anext => 3 | .il => 4

/-- The Spring frame types that the device sends (R210). -/
inductive FType
  | keepalive | cap | select | trainStep | diag | dormNotice | wakeReq | wakeReady | wakeGo
  | wakeCold | spare | user
  deriving DecidableEq, Repr

/-- The values of R210. -/
def FType.code : FType → Nat
  | .keepalive => 0 | .cap => 1 | .select => 2 | .trainStep => 3 | .diag => 4 | .dormNotice => 5
  | .wakeReq => 6 | .wakeReady => 7 | .wakeGo => 8 | .wakeCold => 9 | .spare => 10 | .user => 11

/-- The rank of a frame among those due together (R211); lower is sent first. -/
def FType.rank : FType → Nat
  | .trainStep => 0 | .spare => 1 | .select => 2 | .wakeGo => 3 | .wakeCold => 4 | .wakeReady => 5
  | .wakeReq => 6 | .cap => 7 | .dormNotice => 8 | .diag => 9 | .user => 10 | .keepalive => 11

/-- The sequenced classes of R210. -/
def FType.sequenced : FType → Bool
  | .diag => true | .dormNotice => true | .user => true | _ => false

/-- A JTAG instruction (R476). -/
inductive Jtag
  | boundary | internal | bypass
  deriving DecidableEq, Repr

end Sys2Proof
end

