-- ==== Sys2Proof/Config.lean ====
section
/-! DEFINITION.
What an implementation or a part's manufacture fixes, and the free values: opaque constants with no
body, so that no proof can rest on a value of theirs. Numbers the manual states are plain
definitions. -/

namespace Sys2Proof.Config

/-- HUB.REV.STEPPING (R355, reset "Silicon"). Log 4 (DESIGN CHOICE). -/
opaque stepping : BitVec 8

/-- HUB.REV.GRADE (R355, reset "Fuse"): false = CH8128-C. Log 4 (DESIGN CHOICE). -/
opaque grade : Bool

/-- The 56-bit device serial number held in fuses (R355, R505). Log 4 (DESIGN CHOICE). -/
opaque serial : BitVec 56

/-- The fused identity seed of 32 bytes (R505), byte i. Log 4 (DESIGN CHOICE). -/
opaque seedByte : Nat → BitVec 8

/-- The digest of the root certificate in Wicket ROM (R505), byte i of 32. Log 4 (DESIGN CHOICE). -/
opaque romRootDigest : Nat → BitVec 8

/-- ML-DSA-65 verification (R507; FIPS 204): public key, context string, message, signature.
Log 4 (DESIGN CHOICE). -/
opaque mldsaVerify : Bytes → Bytes → Bytes → Bytes → Bool

/-- ML-DSA-65 deterministic signing (R507): seed ξ, context string, message; byte i.
Log 4 (DESIGN CHOICE). -/
opaque mldsaSign : Bytes → Bytes → Bytes → Nat → BitVec 8

/-- ML-DSA-65 public key of a seed (R506), byte i of 1,952. Log 4 (DESIGN CHOICE). -/
opaque mldsaPublic : Bytes → Nat → BitVec 8

/-- What a receiver, a sensor or an adaptation has measured where the manual states no number:
a stream of bytes, indexed by the free counter of State and by a position.
Log 4 (DESIGN CHOICE). -/
opaque freeByte : Nat → Nat → BitVec 8

/-- Which memory instances a bed has (R473): the manual numbers them and gives no list.
Log 69 (DESIGN CHOICE). -/
opaque memInstance : BitVec 12 → Bool

/-- The rounding of a precoder output from its exact value in units of 2^−20 to units of 1/256
(R113 asks for a resolution of 1/256 or finer and leaves the rounding open).
Log 4 (DESIGN CHOICE). -/
opaque precRound : Int → Int

/-- The default taps that CMD_LANE_CONFIG loads for a mode and ELEC (R269 names them and gives no
values). Log 4 (DESIGN CHOICE). -/
opaque txeqDefault : HostMode → Bool → Word

/-- The order in which a mode's default family is given a lane PLL is not stated; this picks the
PLL of two free ones (R259). Log 4 (DESIGN CHOICE). -/
opaque pllFirst : Bool

/-- The status that a CMD_DIAG_RUN target takes when its record was written and not every test
records OK: R234 withholds the success bit and states no status.
Log 4 (DESIGN CHOICE). Log 28 (DEDUCED). -/
opaque diagFailCode : Nat

/-- The maximum gain of the AGC, in 0.05 dB units (R126 names it and gives no value).
Log 4 (DESIGN CHOICE). -/
opaque agcMax : Nat

/-- A canceller's or equaliser's word resampled to the pair-spared rate (R125 states no formula).
Log 4 (DESIGN CHOICE). -/
opaque resample : BitVec 16 → BitVec 16

/-- The clause's Tw_sys_tx of a rung in ticks (R162, R174: Clause 78's figure, which the manual does not
give). Log 4 (DESIGN CHOICE). -/
opaque twSysTx : Rung → Nat

/-- R203. The carrier-offset estimate that a receiver's refinement on pilots and its tracking on fill make
of an estimate, by time and port: the manual gives no number. Log 4 (DESIGN CHOICE). -/
opaque trackFoff : Nat → Nat → BitVec 8 → BitVec 8

/-- The value a timer, a count or a field of the manual saturates at for 32 bits. -/
def sat32 : Nat := 0xFFFFFFFF

/-- One millisecond in ticks (156,250 tk). -/
def tkPerMs : Nat := 156250

/-- 60 s in ticks, the window of R49 and R552. -/
def tk60s : Nat := 9375000000

/-- One second in ticks. -/
def tk1s : Nat := 156250000

end Sys2Proof.Config
end

