-- ==== Sys2Proof/Forms.lean ====
section
/-! DEFINITION.
The operand forms of the commands: what a command brings from outside. A descriptor's header and
data fetched by DMA, frames decided by a receiver, and measurements of the analogue parts are
operands, because they are made outside the block (notes/assumptions/6). -/

namespace Sys2Proof

/-- The header of a command descriptor (R293) with the command ring it came on.
Log 6 (DESIGN CHOICE). -/
structure CmdHdr where
  /-- The command ring, 0 to 15 (R286). -/
  ring : Fin 16
  /-- CID, bytes 4–5. -/
  cid : BitVec 16
  /-- FLAGS bit 0, PORTSET. -/
  portset : Bool
  /-- FLAGS bit 1, FENCE. -/
  fence : Bool
  /-- TARGET, bytes 6–7. -/
  target : BitVec 16
  /-- PORTSET, bytes 16–31. -/
  ports : BitVec 128
  /-- DETAIL_ADDR, bytes 8–15. -/
  detail : BitVec 64
  deriving DecidableEq, Repr

/-- The shape of the request that carries a register write (R345): a whole dword, a dword whose byte
enables are not all set, or a request that is longer than 16 dwords or crosses a 64-byte boundary.
Log 67 (DEDUCED). -/
inductive WriteForm
  | whole | partialDword | oversized | msix
  deriving DecidableEq, Repr

/-- The 16 bytes of one target's lane configuration (R321). -/
structure LaneCfg where
  hostmap0 : Word
  hostmap1 : Word
  lanemap : Word
  flags : Byte
  pad : BitVec 24
  deriving DecidableEq, Repr

/-- One 16-byte entry of a register batch (R335), its STATUS byte left out. -/
structure RegEntry where
  offset : Word
  mask : Word
  value : Word
  pad : BitVec 24
  deriving DecidableEq, Repr

/-- A reflection that TDR or PASSIVE finds (R235, R238). -/
structure Refl where
  /-- R232. Round-trip delay in units of 0.01 ns. -/
  time : Nat
  /-- Reflection coefficient ρ in thousandths, signed. -/
  rho : Int
  /-- The other pair that receives the pulse at this delay with coupling of −10 dB or more. -/
  coupled : Option Pair
  deriving DecidableEq, Repr

/-- What a cable test measures on one pair (R235–R241). Log 6 (DESIGN CHOICE). -/
structure PairObs where
  refls : List Refl
  /-- R238. Impedance of the first 2 m in 0.1 Ω units, where it could be told. -/
  imp : Option Nat
  next : List Byte
  anext : List Byte
  il : List Byte
  deriving DecidableEq, Repr

/-- What a cable test measures on a port. -/
structure DiagObs where
  pairs : List PairObs
  /-- R241, R243. Largest pair skew by the arrival of the sweep's commas, in 0.5 ns units. -/
  skew : Byte
  energySeen : Bool
  category : Byte
  deriving DecidableEq, Repr

/-- A 64b/66b block as the clauses number its bits: the sync header at bits 0 and 1, then the 64 bits of
the payload (R70). -/
abbrev Blk66 := BitVec 66

/-- What a port's ingress lanes bring: a 64b/66b block of the stream; an alignment marker of the lanes'
own structure (R70, R267); a block of an RS-FEC codeword that could not be corrected (R268); and what the
lanes' decoders count beside the stream, by logical lane (R482): a codeword in which a number of symbols were
corrected, none where it could not be, and an invalid code group or sync header. -/
inductive HostBlk
  | blk (b : Blk66)
  | marker
  | lost
  | codeword (lane : Fin 4) (corrected : Option Nat)
  | codeErr (lane : Fin 4)
  deriving DecidableEq, Repr

/-- A released section and the uncoded bits of its row as the receiver decided them (R135–R141). -/
structure SecObs where
  /-- The final decisions on the 1,300 coded bits. -/
  decided : BitVec 1300
  /-- The demapper's hard decisions on the same bits. -/
  hard : BitVec 1300
  /-- The decisions on the row's 1,040 uncoded bits. -/
  uncoded : BitVec 1040
  /-- R135–R138. How many sections after it have been received when it is released, termination sections
  among them. -/
  ahead : Nat
  /-- The decisions on the two following sections, as far as they have been received. -/
  next1 : BitVec 1300
  next2 : BitVec 1300
  /-- R139. The first pass after which every check of the section was satisfied; none where no pass
  was such. -/
  pass : Option Nat
  deriving DecidableEq, Repr

/-- The squared errors of a pair: their sum over a number of coordinates, in units of 1/65,536 of a
squared coordinate unit, and that number (R149). -/
structure ErrSum where
  sum : Nat
  count : Nat
  deriving DecidableEq, Repr

/-- What the comma slot of a local pair has brought in the last four row groups (R89), the two dimensions
in 1/256 of a coordinate. -/
structure CommaObs where
  pair : Pair
  vals : List (Int × Int)
  deriving DecidableEq, Repr

/-- What the clause of a standard rung has counted on a port in an epoch (R152, R481). -/
structure EpochObs where
  port : PortId
  /-- The code frames, none where the clause has none. -/
  frames : Nat
  /-- The uncorrectable frames, or the receive code errors. -/
  errs : Nat
  deriving DecidableEq, Repr

/-- What an end measures when it meets the exit condition of a phase (R112–R115). -/
structure ReadyObs where
  /-- R61, R247. Arrival of each local pair relative to the earliest, 0.5 ns units. -/
  delay : List Byte
  /-- The errors of each local pair over the partner's known symbols (R115, R149). -/
  errs : List ErrSum
  /-- The 192 precoder coefficients computed for the partner (R114). -/
  coef : List (BitVec 16)
  deriving DecidableEq, Repr

/-- The result of a standard rung's clause training (R130). -/
structure ClauseObs where
  ok : Bool
  rxmap : Byte
  polinv : BitVec 4
  skew : Byte
  /-- The errors of each local pair over the clause's constellation (R149). -/
  errs : List ErrSum
  deriving DecidableEq, Repr

/-- What Clause 28 settled with the partner (R48). -/
structure C28Obs where
  /-- The partner's advertised rungs, bit n−1 for rung n. -/
  partner : BitVec 9
  /-- The clause made this end MASTER (R37). -/
  master : Bool
  /-- The partner advertises the fast-retrain ability (R130). -/
  fastRt : Bool
  /-- The partner's EEE advertisement, bit n−1 for rung n (R173). -/
  eee : BitVec 9
  deriving DecidableEq, Repr

/-- What a start stage finds outside the device (R416, R418). -/
structure StageObs where
  sfdp : Bool
  supported : Bool
  density : BitVec 5
  layoutOk : Bool
  deriving DecidableEq, Repr

/-- What a self-test kind reached in the tick in which it stopped (R468, R471, R473). -/
structure BistObs where
  atTerminal : Bool
  checkMet : Bool
  /-- A lock, a sync detection or an acceptance failed within the run (R468). -/
  inRunFail : Bool
  /-- The running image holds the kind's golden value (R469). -/
  golden : Bool
  /-- MEMORY pass 1's allocation, one FUSEDATA word per entry (R471, R478). -/
  alloc : List Word
  deriving DecidableEq, Repr

end Sys2Proof
end

