-- ==== Sys2Proof/Syntax.lean ====
section
/-! DEFINITION.
The commands of the block: one constructor per row of spec/opcode_table.json, in the table's
order. A command is one whole step of the part: an event on a pin or on the line, a timer's
expiry, an access by a master, a descriptor's action, or a step of one of its engines. -/

namespace Sys2Proof

/-- One constructor per row of spec/opcode_table.json. -/
inductive Instr
  -- supplies, resets of the package and of the PCIe functions
  | powerOn
  | powerRemoval
  | perstAssert
  | perstRelease (straps : BitVec 6)
  | railPowerGoodLost (rails : List Rail)
  | railPowerGoodRegained (rails : List Rail)
  | hotReset
  | pcieLinkDown
  | flrPf0
  | flrPf1
  | flrComplete (pf1 : Bool)
  | d3hotEntry (pf1 : Bool)
  | d3hotExit (pf1 : Bool)
  | smbusClockLowTimeout
  -- clocks, temperature and the estate
  | loopFirstLock
  | loopLockTimeout
  | clockMonitorTrip
  | refclkEdgesResumed
  | reacquireEdgeMissing
  | loopRelock
  | linePllLockLost (b : BedId)
  | linePllRelock (b : BedId)
  | linePllRelockTimeout (b : BedId)
  | linePllPostResetTimeout (b : BedId)
  | lanePllLockLost (b : BedId) (pll : Fin 2)
  | lanePllLock (b : BedId) (pll : Fin 2)
  | steerStep (b : BedId)
  | tenderWatchdogExpiry (b : BedId)
  | tempSample (temps : List (BitVec 12))
  | esyncEdge
  | esyncFollowTimeout
  -- descriptor commands
  | cmdPortConfig (h : CmdHdr) (select : Byte) (linkctl trainctl decctl stillctl fpctl : Word)
  | cmdPortEnable (h : CmdHdr)
  | cmdPortDisable (h : CmdHdr)
  | cmdRetrain (h : CmdHdr)
  | cmdReset (h : CmdHdr)
  | resetComplete (e : Elem)
  | cmdLaneConfig (h : CmdHdr) (cfgs : List LaneCfg)
  | cmdLoopback (h : CmdHdr) (side kind rung on : Byte)
  | cmdDiagRun (h : CmdHdr) (tests : Byte) (nvp : BitVec 16) (buf : BitVec 64)
  | cmdFpSave (h : CmdHdr) (toFlash : Byte) (buf : BitVec 64)
  | cmdFpLoad (h : CmdHdr) (fromFlash : Byte) (data : List Bytes)
  | cmdCalRun (h : CmdHdr) (groups : Byte)
  | cmdCalStore (h : CmdHdr)
  | cmdBistRun (h : CmdHdr) (kinds : Byte)
  | cmdRepairFuse (h : CmdHdr) (confirm : Word)
  | cmdTelConfig (h : CmdHdr) (en : Byte) (periodMs : BitVec 16) (ports : BitVec 128)
  | cmdSampleConfig (h : CmdHdr) (k : Byte)
  | counterGrant (h : CmdHdr)
  | counterRevoke (h : CmdHdr)
  | counterWrite (h : CmdHdr) (counter : BitVec 16) (value : BitVec 64)
  | cmdSpringConfig (h : CmdHdr) (select springEn : Byte) (springctl : Word)
  | cmdPowerState (h : CmdHdr) (state : Byte)
  | cmdRegBatch (h : CmdHdr) (buf : BitVec 64) (entries : List RegEntry)
  | cmdFwStage (h : CmdHdr) (flags : Byte) (offset length : Word) (data : Bytes)
  | cmdFwActivate (h : CmdHdr) (slot restart : Byte)
  | cmdAttest (h : CmdHdr) (reportLen : Word) (nonce : Bytes) (reportAddr : BitVec 64)
  | cmdDebugUnlock (h : CmdHdr) (tokenLen : Word) (token : Bytes)
  | estateSyncFollow (h : CmdHdr) (timeoutMs : Word) (value : BitVec 64)
  | estateSyncLead (h : CmdHdr) (timeoutMs : Word) (value : BitVec 64)
  | commandTargetTimeout (ring : Fin 16) (cid : BitVec 16) (e : Elem)
  -- rings
  | hostProducerDoorbell (r : RingId) (v : Word)
  | deviceConsumerDoorbell (r : RingId) (v : Word)
  | doorbellMisuse (addr : Word)
  | commandFetch (ring : Fin 16) (entry : Bytes)
  | commandStart (ring : Fin 16)
  | completionWrite (ring : Fin 16) (cid : BitVec 16)
  | eventEntryWrite
  | ringEnable (m : MasterId) (r : RingId) (cfg : Word)
  | ringDisable (m : MasterId) (r : RingId) (cfg : Word)
  | ringDrainComplete (r : RingId)
  | ringDmaError (r : RingId)
  | msixCoalesceTimeout (r : RingId)
  | springTxEntryTake (b : BedId) (entry : Bytes) (payload : Bytes)
  | springRxEntryWrite (b : BedId)
  | telemetryDumpDue
  | telemetryDumpWritten
  | sampleCountdownExpiry (p : PortId) (rx : Bool)
  | sampleRecordQueue (p : PortId) (rx : Bool) (ticks : List Tick) (fine : List (BitVec 6)) (sects : List (Fin 16))
  -- register accesses
  | registerWrite (m : MasterId) (addr : BitVec 26) (v : Word) (form : WriteForm)
  | offBlockAccess (m : MasterId) (kind : BitVec 3) (addr : BitVec 26)
  | afaultClear (m : MasterId)
  | dshiftClear (m : MasterId) (p : PortId)
  | fpClear (m : MasterId) (p : PortId)
  | laneTxeqWrite (m : MasterId) (l : LaneId) (v : Word)
  | fuseGo (m : MasterId) (b : BedId) (v : Word)
  | fuseBlowDone (b : BedId) (readBackOk : Bool)
  | flashRead (m : MasterId) (ctl : Word)
  | flashProgram (m : MasterId) (ctl : Word)
  | flashErase (m : MasterId) (ctl : Word)
  | flashOpDone (deviceError : Bool)
  -- mailboxes
  | mbxLockRead (ms : List MasterId) (c : ChanId)
  | mbxLockRelease (m : MasterId) (c : ChanId) (v : Word)
  | mbxStageWrite (m : MasterId) (c : ChanId) (which : Fin 3) (v : Word)
  | mbxPost (m : MasterId) (c : ChanId)
  | mbxTake (m : MasterId) (c : ChanId)
  | mbxDone (m : MasterId) (c : ChanId) (result : Byte)
  | mbxBellSet (m : MasterId) (c : ChanId) (v : Word)
  | mbxBellClear (m : MasterId) (c : ChanId) (v : Word)
  | mbxMaskWrite (m : MasterId) (c : ChanId) (v : Word)
  | mbxBindWrite (m : MasterId) (c : ChanId) (v : Word)
  | mbxBindctlLock (m : MasterId) (v : Word)
  -- start-up and fallback
  | seedbedStatus (buf : Bytes)
  | seedbedVerify (buf : Bytes)
  | setPreferred (buf : Bytes)
  | retry (buf : Bytes)
  | startStageEnd (o : StageObs)
  | coreReadyReport (m : MasterId)
  | startStageTimeout
  | startTimeout
  | fwFatal
  | failedStartRestart
  | slotBackgroundVerify
  | svnFuseBlow
  -- power domains
  | sluiceBlockAnswer (blk : Byte)
  | sluiceAnswerTimeout (blk : Byte)
  | sluiceReask (blk : Byte)
  | sluiceDelayLimit (blk : Byte)
  | sluiceBusIdle (d : Dom)
  | sluiceBusIdleTimeout (d : Dom)
  | domainOffComplete (d : Dom)
  | domainSupplyGood (d : Dom)
  | domainSupplyTimeout (d : Dom)
  | hubRingsRestored
  | bedIdleHoldoffExpiry (b : BedId)
  | waketimeReached
  | gpioRisingEdge (g : Fin 8)
  | wakeActedOn
  -- the Spring channel
  | springWaitExpiry (p : PortId)
  | roleIntervalExpiry (p : PortId)
  | tailSyncWaitExpiry (p : PortId)
  | capRepeatTimer (p : PortId)
  | syncWordDetect (p : PortId) (bits : Word) (rssi foff : Byte)
  | springHeader (p : PortId) (hdr : BitVec 72)
  | springFrameAbort (p : PortId)
  | springTxFrameEnd (p : PortId)
  | cap (p : PortId) (payload : Bytes)
  | select (p : PortId) (payload : Bytes)
  | trainStep (p : PortId) (payload : Bytes)
  | quietReq (p : PortId) (payload : Bytes)
  | quietAck (p : PortId) (payload : Bytes)
  | sweepReq (p : PortId) (payload : Bytes)
  | sweepAck (p : PortId) (payload : Bytes)
  | sweepDone (p : PortId)
  | diagEnd (p : PortId)
  | dormNotice (p : PortId)
  | wakeReq (p : PortId)
  | wakeReady (p : PortId) (payload : Bytes)
  | wakeGo (p : PortId) (payload : Bytes)
  | wakeCold (p : PortId)
  | spare (p : PortId) (payload : Bytes)
  | user (p : PortId) (payload : Bytes)
  | springCarrierLoss (p : PortId)
  | springSilence (p : PortId)
  | springRetryExpiry (p : PortId)
  | keepaliveTimer (p : PortId)
  | selectRepeatTimer (p : PortId)
  | joiningTimeout (p : PortId)
  | trainStepRepeat (p : PortId)
  | spareRepeat (p : PortId)
  | wakeReqRepeat (p : PortId)
  | wakeReadyRepeat (p : PortId)
  | wakeAnswerTimeout (p : PortId)
  | dormantNoticeAckTimeout (p : PortId)
  -- standard rungs
  | cableChangeEpisode (p : PortId)
  | clause28Complete (p : PortId) (o : C28Obs)
  | clause28MsFault (p : PortId)
  | clauseTrainingResult (p : PortId) (o : ClauseObs)
  | clauseLinkFail (p : PortId)
  | clauseFastRetrainTrigger (p : PortId)
  | lineLpiChange (p : PortId) (rx enter : Bool)
  -- the CH line in data mode
  | commaLockAcquire (p : PortId) (pair : Pair) (xs ys : List Int)
  | commaLockLoss (p : PortId) (o : CommaObs)
  | pairFailure (p : PortId) (pairs : List Pair)
  | oamFieldForm (p : PortId) (blocks : List HostBlk)
  | oamFieldReceive (p : PortId) (oam : BitVec 198)
  | oamLost (p : PortId)
  | msgTimeout (p : PortId)
  | healthExtTimer (p : PortId)
  | sectionRelease (p : PortId) (o : SecObs)
  | snrUpdate (p : PortId) (errs : List ErrSum)
  | degradeEpochEnd (o : EpochObs)
  | terminationEnd (p : PortId)
  -- training
  | trainingRowGroupForm (p : PortId)
  | tifAccept (p : PortId) (tif : BitVec 512)
  | phaseReady (p : PortId) (o : ReadyObs)
  | echoConverged (p : PortId)
  | partnerSignalDetect (p : PortId)
  | trainingDeadlineExpiry (p : PortId)
  | tifLossTimeout (p : PortId)
  | tailNoHeadTif (p : PortId)
  -- Still
  | stillConditionMet (p : PortId)
  | hostNonLpiBlock (p : PortId) (frame : Bool)
  | refreshDue (p : PortId)
  | partnerRefreshWindowEnd (p : PortId) (tifSeen : Bool) (commas : BitVec 4)
  | stillWakeTimeout (p : PortId)
  -- host lanes
  | ingressLockLost (l : LaneId) (cause : BitVec 3)
  | ingressLockGained (l : LaneId) (skew : Byte)
  | hostModeReady (p : PortId)
  -- diagnostics
  | diagTestEnd (p : PortId) (outcome : Byte) (o : DiagObs)
  | quietAckWaitExpiry (p : PortId)
  | quietDurationExpiry (p : PortId)
  | sweepAckTimeout (p : PortId)
  | sweepStartDelay (p : PortId)
  | sweepDurationEnd (p : PortId)
  | sweepReceiveTimeout (p : PortId)
  -- fingerprints, calibration, self-test and the rest
  | fpFlashWriteDone (p : PortId)
  | calRunEnd (b : BedId) (pass : BitVec 4) (block : Bytes)
  | calStoreComplete
  | bistKindStop (bed : Option BedId) (o : BistObs)
  | bistReinitEnd (b : BedId)
  | bistReinitTimeout (b : BedId)
  | pcieLinkUp
  | springPayloadFailure (p : PortId)
  | jtagInstruction (ins : Jtag)
  | smbusStatusRead (c : ChanId) (bell : Bool)
  | esyncLeadPulseEnd
  | fwStageChunkDone
  deriving DecidableEq, Repr

end Sys2Proof
end

