-- ==== Sys2Proof/Machine/State.lean ====
section
/-! DEFINITION.
The state of the block as plain data: every register, queue, counter, mode and pin that the manual
gives the CH8128, and the queue of waiting commands. A field's default is its value in
State.reset. -/

namespace Sys2Proof.Machine

/-- Memory as a list of listed cells in canonical form: addresses strictly rising, and no cell
equal to what an unlisted address reads as. -/
abbrev Mem := List Host.Cell

/-- The reasons for which a command is faulted. -/
inductive Fault
  /-- Internal scan chains are being shifted (R476): raised by JTAG_INSTRUCTION once a scan scope is
  open; the chains' content is not published. Safe: the machine stops where the hardware shifts. -/
  | internalScan
  deriving DecidableEq, Repr

/-- The reasons for which a command is refused by the model. -/
inductive Refusal
  /-- An instruction whose meaning is not written yet, by its mnemonic. Safe. -/
  | notModelled (mnemonic : String)
  deriving DecidableEq, Repr

/-- The key by which a command in progress is found: its ring and CID (R293), with the serial that
the model gives it when it acts, which tells commands with equal CIDs apart.
Log 10 (DESIGN CHOICE). -/
structure CmdKey where
  ring : Fin 16
  cid : BitVec 16
  serial : Nat
  deriving DecidableEq, Repr

/-- One target of a command in progress: the element, and its status once it has one. -/
structure CmdTgt where
  elem : Elem
  status : Option ST := none
  /-- The model's time at which it finished (R309). -/
  doneAt : Option Nat := none
  deriving DecidableEq, Repr

/-- A fetched or started command (R292, R296, R298). -/
structure CmdRec where
  hdr : CmdHdr
  op : Op
  /-- R298. OPCODE as fetched; the code of op unless no opcode has it. -/
  raw : BitVec 16 := BitVec.ofNat 16 op.code
  /-- The model's own: the serial it took when it acted. -/
  serial : Nat := 0
  started : Bool := false
  /-- R325, R333. STATE of a CMD_POWER_STATE; the groups of a CMD_CAL_RUN. -/
  arg : Byte := 0
  /-- The command's action has run. -/
  acted : Bool := false
  /-- Failed under R294 or R314: no detail buffer, an empty bitmap. -/
  badForm : Option ST := none
  targets : List CmdTgt := []
  /-- The model's time and the tick at which a target has last finished. -/
  last : Nat × Tick := (0, 0)
  /-- Tick at which the last target finished (R298). -/
  doneTick : Option Tick := none
  deriving DecidableEq, Repr

/-- An event on its way to a ring (R301). -/
structure Event where
  tick : Tick
  /-- The model's own time of the stamp, which a load of the tick counter leaves alone (R407). -/
  time : Nat
  code : Ev
  src : Elem
  /-- DATA, bytes 16–31 of the entry, byte 16 lowest (R344). -/
  data : BitVec 128
  deriving DecidableEq, Repr

/-- A ring of R286 with its set-up registers (R310, R311). -/
structure Ring where
  /-- R310. BASE_LO as last written, bits [11:0] reserved. -/
  baseLo : Word := 0
  /-- R310. BASE_HI as last written. -/
  baseHi : Word := 0
  /-- R310. CFG as last written. -/
  cfg : Word := 0x0000100C
  /-- R310. Base sampled at the enable. -/
  base : BitVec 64 := 0
  /-- R310. LOG2SIZE sampled at the enable. -/
  logSize : Nat := 6
  /-- R287. Head. -/
  head : Nat := 0
  /-- R287. Tail. -/
  tail : Nat := 0
  /-- R288. The device's phase. -/
  phase : Bool := false
  /-- R311. STAT.STATE. -/
  state : RState := .idle
  /-- R311. STAT.ERR. -/
  err : RErr := .none
  /-- R305, R311. STAT.OVERFLOW. -/
  overflow : Bool := false
  /-- R305, R311. LOST.COUNT. -/
  lost : Nat := 0
  /-- R290. The doorbell dword as last written. -/
  bell : Word := 0
  /-- R307, R442. A doorbell latched while it cannot act. -/
  latched : Option Word := none
  /-- R301, R305. The next entry written carries LOST_BEFORE. -/
  lostBefore : Bool := false
  /-- R305. The overflow store of an event ring, up to 512 entries. -/
  store : List Event := []
  /-- R306. Entries written since the last message. -/
  unsent : Nat := 0
  deriving DecidableEq, Repr

/-- The last-applied configuration of CMD_PORT_CONFIG that the Well keeps (R317, R352). -/
structure AppliedCfg where
  /-- R317, R352. PORT.LINKCTL as last applied; none where no value has been. -/
  linkctl : Option Word := none
  /-- R317, R352. PORT.TRAINCTL as last applied; none where no value has been. -/
  trainctl : Option Word := none
  /-- R317, R352. PORT.DECCTL as last applied; none where no value has been. -/
  decctl : Option Word := none
  /-- R317, R352. PORT.STILLCTL as last applied; none where no value has been. -/
  stillctl : Option Word := none
  /-- R317, R352. PORT.FPCTL as last applied; none where no value has been. -/
  fpctl : Option Word := none
  deriving DecidableEq, Repr

/-- The configuration registers of a port (R400). -/
structure PortCfg where
  /-- R62. PORT.LINKCTL. -/
  linkctl : Word := 0x01807FF0
  /-- R132. PORT.TRAINCTL as last written. -/
  trainctl : Word := 0x00000313
  /-- R159. PORT.DECCTL as last written. -/
  decctl : Word := 0x01850090
  /-- R181. PORT.STILLCTL. -/
  stillctl : Word := 0x00000C41
  /-- R230. PORT.SPRINGCTL. -/
  springctl : Word := 0x00029824
  /-- R254. PORT.FPCTL. -/
  fpctl : Word := 0x0001A829
  /-- R276. PORT.HOSTMAP0. -/
  hostmap0 : Word := 0
  /-- R277. PORT.HOSTMAP1. -/
  hostmap1 : Word := 0
  /-- R278. PORT.LANEMAP; its reset value depends on the port. -/
  lanemap : Word := 0x00000860
  /-- R367. PORT.TRIM[0–3]. -/
  trim : List Word := [0x820, 0x820, 0x820, 0x820]
  /-- R11, R132. TRAINCTL.MIN_MARGIN in force since the last training. -/
  minMargin : BitVec 5 := 4
  /-- R11, R144. DECCTL.PROFILE in force since the last training. -/
  profile : BitVec 2 := 0
  /-- R431. The Spring island's copy of SPRING_EN. -/
  islandEn : Bool := false
  /-- R431. The Spring island's copy of PORT.SPRINGCTL. -/
  islandCtl : Word := 0x00029824
  /-- R317, R352. Last-applied configuration in the Well. -/
  applied : AppliedCfg := {}
  deriving DecidableEq, Repr

/-- What follows a close or an abort that a port has begun (R120, R123, R175, R318). -/
inductive After
  | none | listening | disabled | dormant | warm
  deriving DecidableEq, Repr

/-- Why a STILL port is being woken by command (R172, R175, R274). -/
inductive WakeJob
  | none | retrain | disable | dormant | close
  | loopback (side kind rung : Byte)
  deriving DecidableEq, Repr

/-- What a port puts on the line by Clause 28 (R33, R37, R48, R60, R173). -/
structure C28Adv where
  /-- R33. The base page's technology bits A0 to A6. -/
  base : BitVec 7
  /-- R48. The 1000BASE-T message page is sent. -/
  gigabit : Bool
  /-- R48. The MultiGBASE-T extended next page: the rungs 3 to 7, bit 0 for rung 3, and the fast-retrain
  ability. -/
  multi : BitVec 5
  fastRt : Bool
  /-- R48, R173. The EEE advertisement page, where it is sent: bit n − 1 for rung n. -/
  eee : Option (BitVec 9)
  /-- R37. Manual MASTER or SLAVE configuration; none for automatic configuration as a multiport device. -/
  manual : Option Bool
  /-- R60. The crossover in force: 0 = Auto-MDIX, 1 = MDI, 2 = MDI-X. -/
  mdix : BitVec 2
  deriving DecidableEq, Repr

/-- The link of a port: negotiation, ladder and result (R28–R65). -/
structure Link where
  /-- R28, R357. PORT.STATE.STATE. -/
  state : PState := .disabled
  /-- R30. The reason of FAULT. -/
  freason : FReason := .none
  /-- R31, R64. LINKSTAT.RUNG while UP or STILL. -/
  rung : Rung := 0
  /-- R54. The link's role on a CH rung. -/
  role : Role := .none
  /-- R37, R64. LINKSTAT.TIMING. -/
  timing : Bool := false
  /-- R56, R64. LINKSTAT.SPARED. -/
  spared : Bool := false
  /-- R64. LINKSTAT.SPARED_PAIR. -/
  sparedPair : Pair := 0
  /-- R59, R64. LINKSTAT.RXMAP. -/
  rxmap : Byte := 0
  /-- R59, R64. LINKSTAT.POLINV. -/
  polinv : BitVec 4 := 0
  /-- R61, R64. LINKSTAT.SKEW. -/
  skew : Byte := 0
  /-- R50, R65. DSHIFT.REMOVED. -/
  removed : BitVec 9 := 0
  /-- R50. The rung of the last failed attempts. -/
  failRung : Rung := 0
  /-- R50. Consecutive failed attempts at that rung. -/
  failCount : Nat := 0
  /-- R49, R50. UP was reached since the last counted failure. -/
  upSince : Bool := false
  /-- R49. The rungs and times of earlier link-downs by R154, R158. -/
  downs : List (Rung × Nat) := []
  /-- R62. RUNG as sampled at the entry to LISTENING. -/
  sRung : Rung := 0
  /-- R46, R62, R264. The candidate set as formed at the entry to LISTENING. -/
  sCand : BitVec 9 := 0
  /-- R35. ROLE as sampled at the entry to LISTENING. -/
  sRole : RoleSel := .auto
  /-- R181. EEE_EN as sampled at the entry to LISTENING. -/
  sEee : Bool := false
  /-- R40. The Spring wait window is running. -/
  window : Bool := false
  /-- R40. The window has been extended. -/
  extended : Bool := false
  /-- R40. A valid header was decided during the window. -/
  hdrSeen : Bool := false
  /-- R100. The time of the first Spring frame accepted in this episode of LISTENING. -/
  heardAt : Option Nat := none
  /-- R43. Clause 28 is running. -/
  c28 : Bool := false
  /-- R33, R37, R48, R60. What the port's last Clause 28 start has put on the line. -/
  c28Adv : Option C28Adv := none
  /-- R44. Clause 28 was abandoned for a Spring handshake. -/
  c28Held : Bool := false
  /-- R44. The partner with which NO_CH was reached in this episode. -/
  noCh : Option (BitVec 64) := none
  /-- R54. The partner advertised pair-sparing at the handshake of this link. -/
  partnerSpare : Bool := false
  /-- R251. The partner's PHY_ID at the handshake of this link. -/
  partnerId : BitVec 64 := 0
  /-- R130. The clause's fast retrain is agreed. -/
  c28Fast : Bool := false
  /-- R173. EEE is agreed for the link. -/
  eee : Bool := false
  /-- R316. The time of the last link-down. -/
  downAt : Option Nat := none
  /-- R344. The time of the last EV_LINK_UP. -/
  upAt : Option Nat := none
  /-- R120. What follows the closing in progress. -/
  after : After := .none
  /-- R172. The command for which a STILL port wakes. -/
  wakeJob : WakeJob := .none
  /-- R398. LISTENING is held with no line activity until relock. -/
  held : Bool := false
  deriving DecidableEq, Repr

/-- The training of a port (R100–R134). -/
structure Train where
  /-- R102, R133. TRAINSTAT.PHASE. -/
  phase : Phase := .none
  /-- R133. TRAINSTAT.KIND. -/
  kind : TKind := .none
  /-- R105. The rung being trained. -/
  rung : Rung := 0
  /-- R131, R133. TRAINSTAT.LAST_CAUSE. -/
  lastCause : TCause := .none
  /-- R133. TRAINSTAT.TIMING_LOCK. -/
  timingLock : Bool := false
  /-- R133. TRAINSTAT.FAILS, saturating at 0xFF. -/
  fails : Nat := 0
  /-- R133. TRAINSTAT.ENTRY_MARGIN. -/
  entryMargin : BitVec 5 := 0
  /-- R128. Each pair's SNR at the last data-mode entry, 0.25 dB units. -/
  entrySnr : List Byte := [0, 0, 0, 0]
  /-- R134. TRAINTIME.LAST_US. -/
  lastUs : Nat := 0
  /-- R100. The origin of the limits. -/
  origin : Nat := 0
  /-- R318. The training was entered from data mode. -/
  fromData : Bool := false
  /-- R103. A training row group has been sent in this training. -/
  sent : Bool := false
  /-- R105. READY in the current phase. -/
  ready : Bool := false
  /-- R107. The last accepted TIF of the partner. -/
  partner : Option (BitVec 512) := none
  /-- R108. The partner's next signal: the TSEQ from which it is expected, and its phase. -/
  peerNext : Option (Byte × Phase) := none
  /-- R112. A TIF has been accepted in this phase. -/
  tifInPhase : Bool := false
  /-- R111. This end is silent. -/
  silent : Bool := true
  /-- R103. TSEQ. -/
  tseq : Byte := 0
  /-- R104. The training generator's shift line. -/
  gen : BitVec 58 := BitVec.allOnes 58
  /-- R108. The countdown in progress: its next SW_CNT. -/
  sw : Option Nat := none
  /-- R108. The phase the countdown leads to. -/
  swTo : Phase := .none
  /-- R114. CB_ACK of this end. -/
  cbAck : Byte := 0
  /-- R114. The next block in cyclic order. -/
  cbNext : Nat := 0
  /-- R114. The coefficients computed for the partner. -/
  ownCoef : List (BitVec 16) := []
  /-- R114. The coefficients received from the partner, 24 a block. -/
  rxCoef : List (BitVec 16) := []
  /-- R113. The precoder in use, 48 taps a pair. -/
  held : List (BitVec 16) := []
  /-- R105. Own measured skew. -/
  skew : Byte := 0
  /-- R105. Own margins, five bits a pair. -/
  margins : List (BitVec 5) := [0, 0, 0, 0]
  /-- R115, R149. The SNR of each pair as RAMP measured it, 0.25 dB units. -/
  snr : List Byte := [0, 0, 0, 0]
  /-- R122. ABORT row groups still to send. -/
  abortLeft : Nat := 0
  /-- R122. The cause the ABORT carries. -/
  abortCause : TCause := .none
  /-- R124. A failed pair that this end reports for the head's decision. -/
  report : Option Pair := none
  /-- R393. The recovery waits for the bed's line PLL. -/
  waitPll : Bool := false
  /-- R120. The tail sends KIND = 0 until it accepts a head TIF. -/
  await : Bool := false
  deriving DecidableEq, Repr

/-- A pair's comma lock: the partner pair received and its polarity (R88). -/
structure Lock where
  ident : Pair
  inverted : Bool
  deriving DecidableEq, Repr

/-- The CH line of a port in data mode (R66–R99, R135–R161). -/
structure Line where
  /-- R91. SEQ of the next row group sent. -/
  seq : Byte := 0
  /-- R71. The transmit scrambler's shift line, output k ago at bit k−1. -/
  txScr : BitVec 58 := BitVec.allOnes 58
  /-- R76. Encoder memory, sections t−1 and t−2. -/
  enc1 : BitVec 1300 := 0
  enc2 : BitVec 1300 := 0
  /-- R88, R98. FRAMESTAT.COMMA_LOCK, with identity and polarity. -/
  locks : List (Option Lock) := [none, none, none, none]
  /-- R94, R98. The last valid OAM field. -/
  oam : Option (BitVec 198) := none
  /-- R98. FRAMESTAT.OAM_VALID. -/
  oamValid : Bool := false
  /-- R154. Row groups since the last valid field, as OAM_LOST counts them. -/
  oamGap : Nat := 0
  /-- R91. The closing code in progress. -/
  closing : LState := .data
  /-- R77. The countdown in progress: the next CLOSE_CNT to send. -/
  closeCnt : Option Nat := none
  /-- R121. The model's time at which the closing in progress was decided. -/
  closeAt : Nat := 0
  /-- R95. A lower-ranking end that waits for the next data mode: its code, rung
  and what follows it. -/
  waitEnd : Option (LState × Rung × After) := none
  /-- R120. EV_LINK_DOWN with cause LOCAL_DOWN falls due with the next row group. -/
  downDue : Bool := false
  /-- R77. Termination rows remain to be sent. -/
  term : Bool := false
  /-- R77. The termination rows of this end's planned end have been sent. -/
  done : Bool := false
  /-- R95. The partner's last valid closing code. -/
  pClosing : LState := .data
  /-- R166. The partner's CLOSE_CNT = 0 field has been accepted. -/
  pClosed : Bool := false
  /-- R91. RUNG_REQ being sent. -/
  rungReq : Rung := 0
  /-- R91. SPARE_REQ being sent, with its pair. -/
  spareReq : Option Pair := none
  /-- R96. Messages waiting: type and content. -/
  msgs : List (BitVec 4 × BitVec 128) := []
  /-- R96. The message being sent. -/
  msg : Option (BitVec 4 × BitVec 128) := none
  /-- R96. MSG_TOGGLE, MSG_ACK and the last accepted toggle. -/
  msgTog : Bool := false
  msgAck : Bool := false
  /-- R154, R155. The last released sections, newest first, true = uncorrectable. -/
  uncWin : List Bool := []
  /-- R155. Row groups for which OAM_LOST and UNC_BURST stay suspended, 0 for not. -/
  susp : Nat := 0
  /-- R55, R155. The one pair that met a condition of R53 when the last suspension began, until every pair
  is well again. -/
  suspPair : Option Pair := none
  /-- R155. Row groups before a new suspension may begin. -/
  suspCool : Nat := 0
  /-- R91. UNC_SEEN of the previous row group. -/
  uncSeen : Bool := false
  /-- R97. HEALTH_EXT counts since the last one. -/
  hxUnc : Nat := 0
  hxCorr : Nat := 0
  /-- R116. The first data row group has been sent. -/
  txData : Bool := false
  /-- R116. An OAM field with LSTATE = DATA has been accepted. -/
  rxData : Bool := false
  /-- R161. PAIRSNR, 0.25 dB units. -/
  snr : List Byte := [0, 0, 0, 0]
  /-- R128, R149. The SNR of the last updates, newest first, four at most. -/
  snrHist : List (List Byte) := []
  /-- R128. Time of the last retrain request. -/
  reqAt : Option Nat := none
  /-- R152. UNC_SECTIONS growth in the epoch. -/
  epUnc : Nat := 0
  /-- R152. The SNR of the epoch's updates, and the row groups received in it. -/
  epSnrs : List (List Byte) := []
  epGroups : Nat := 0
  /-- R153. Consecutive clean epochs. -/
  clean : Nat := 0
  /-- R153, R160. QUAL.HEALTH. -/
  health : Health := .notUp
  /-- R160. QUAL.DEG_UNC_SEEN. -/
  degUnc : Bool := false
  /-- R160. QUAL.DEG_MARGIN_SEEN. -/
  degMargin : Bool := false
  /-- R160. QUAL.REMOTE_DEGRADED, and the epoch's gathering of it. -/
  remoteDeg : Bool := false
  epRemote : Bool := false
  /-- R160. QUAL.LAST_DOWN. -/
  lastDown : BitVec 4 := 0
  /-- R145, R160. QUAL.PROFILE_USED. -/
  deep : Bool := false
  /-- R160. QUAL.MIN_MARGIN_NOW. -/
  minNow : BitVec 5 := 0
  /-- R84, R90. The coordinates of the last row group sent, in slot and pair order. -/
  txPts : List (Int × Int) := []
  /-- R113. The last 48 precoder outputs per pair, newest first, in 1/256 units. -/
  prec : List (List Int) := [[], [], [], []]
  deriving DecidableEq, Repr

/-- What the decoder of a CH port does with sections (R135–R138): nothing; data mode; what is left of a
data mode that this end has left by its planned end; the flush after an unplanned end. -/
inductive RxRun
  | off | on | drain | flush
  deriving DecidableEq, Repr

/-- The receiver of a CH port beyond its demapper: descrambler, window decoder and the blocks on their
way to the host side (R70, R71, R135–R142). -/
structure Rx where
  /-- R108, R136–R138. What the decoder is doing. -/
  run : RxRun := .off
  /-- R71. The receive descrambler's shift line. -/
  scr : BitVec 58 := BitVec.allOnes 58
  /-- R73. Decided sections t−1 and t−2. -/
  dec1 : BitVec 1300 := 0
  dec2 : BitVec 1300 := 0
  /-- R142. The row of the next section to be released. -/
  row : Nat := 0
  /-- R136. Sections released since the start of data mode. -/
  released : Nat := 0
  /-- R137, R138. Sections that are still in the window once no more are received; none while they are. -/
  left : Option Nat := none
  /-- R142. The last released section was uncorrectable. -/
  lastUnc : Bool := false
  /-- R69. Descrambled bits of the block that has not yet ended, and whether it is marked errored. -/
  part : List Bool := []
  partMark : Bool := false
  /-- R94. SEQ that the next row group should carry. -/
  seqNext : Option Byte := none
  /-- R139, R492. Iteration counts of the last released sections, newest first. -/
  iters : List Nat := []
  deriving DecidableEq, Repr

/-- The adaptive elements of a port's receiver (R126, R127), in the units of R247. An empty list stands
for zeros. -/
structure Adapt where
  /-- R127. One gain per pair, 0.05 dB units. -/
  agc : List Nat := []
  /-- R127. Echo cancellers, 64 words a pair. -/
  echo : List (BitVec 16) := []
  /-- R127. NEXT cancellers, 12 paths of 32 words. -/
  next : List (BitVec 16) := []
  /-- R127. FEXT cancellers, 12 paths of 4 words. -/
  fext : List (BitVec 16) := []
  /-- R127. Feed-forward equalisers beside their main tap, 8 words a pair. -/
  ffe : List (BitVec 16) := []
  /-- R126. The FFE main tap of each pair, 1 as 4,096. -/
  main : List (BitVec 16) := []
  /-- R126, R127. The tail's loop-timing estimate, 0.01 ppm units. -/
  foff : BitVec 16 := 0
  /-- R127. The receive phase of each pair. -/
  phase : Bytes := []
  /-- R61, R247. The deskew of each pair: its arrival relative to the earliest, 0.5 ns units. -/
  delay : Bytes := []
  deriving DecidableEq, Repr

/-- Low-power idle of a port (R163–R174, R182). -/
structure Still where
  /-- R164. The Still condition holds. -/
  cond : Bool := false
  /-- R166, R182. STILLSTAT.QUIET. -/
  quiet : Bool := false
  /-- R182. STILLSTAT.LOCAL_LPI. -/
  lpi : Bool := false
  /-- R168, R182. STILLSTAT.MISSED_REFRESH. -/
  missed : Bool := false
  /-- R168. Consecutive missed refreshes. -/
  missRun : Nat := 0
  /-- R182. STILLSTAT.LAST_WAKE. -/
  lastWake : WakeBy := .none
  /-- R166. Own termination finished. -/
  ended : Bool := false
  /-- R166. Quiet row-group number. -/
  qrg : Nat := 0
  /-- R167. Refresh row groups still to send. -/
  refresh : Nat := 0
  /-- R169. Next SW_CNT of the wake in progress. -/
  wake : Option Nat := none
  /-- R169. A wake that starts at the first quiet boundary (R172). -/
  wakeDue : Bool := false
  /-- R172. A partner wake TIF or data row group has been accepted since the wake began. -/
  heard : Bool := false
  /-- R174. The transmit direction of a standard rung is in LPI. -/
  txLpi : Bool := false
  /-- R174. The receive direction of a standard rung is in LPI. -/
  rxLpi : Bool := false
  /-- R170, R174. The time at which the transmit direction of a standard rung has begun to wake. -/
  wakeAt : Option Nat := none
  /-- R168, R174. EV_STILL with flag 0 has been raised and the port has still to leave STILL. -/
  left : Bool := false
  /-- R172. Pairs without comma in the last refresh. -/
  noComma : BitVec 4 := 0
  deriving DecidableEq, Repr

/-- Dormancy of a port (R175–R179). -/
structure Dorm where
  /-- R175. The dormant notice has been sent and waits for its acknowledgement. -/
  noticeWait : Bool := false
  /-- R176. The partner's notice has been accepted. -/
  noticeRx : Bool := false
  /-- R344. A fingerprint was saved for this entry. -/
  saved : Bool := false
  /-- R443. A port wake is in progress. -/
  waking : Bool := false
  /-- R443. A wake cause is latched and not yet acted on. -/
  latched : Bool := false
  /-- R443. The time at which the wake cause was latched or accepted. -/
  latchAt : Nat := 0
  /-- R179. A wake cause that arrived during entry. -/
  afterEntry : Bool := false
  /-- R177. Time of the last wake message accepted. -/
  lastMsg : Option Nat := none
  /-- R445. The digest of a held WAKE_READY. -/
  heldReady : Option Bytes := none
  /-- R179, R252. The fingerprint was replaced or invalidated while the port was DORMANT. -/
  evicted : Bool := false
  deriving DecidableEq, Repr

/-- The signal a port sends toward the switch ASIC (R261, R262). -/
inductive Egress
  | idle | fault | stream | lpi | test
  deriving DecidableEq, Repr

/-- The host side of a port (R256–R279). -/
structure HostSide where
  /-- R261, R279. HOSTSTAT.MODE. -/
  mode : HostMode := 0
  /-- R261. A mode change has not yet reached its first valid symbol. -/
  changing : Bool := false
  /-- R266, R279. HOSTSTAT.SKEW. -/
  skew : Byte := 0
  /-- R279. HOSTSTAT.LAST_CAUSE. -/
  lastCause : BitVec 3 := 0
  /-- R272. The mode in use at the last EV_LINK_DOWN. -/
  downMode : HostMode := 0
  /-- R271. EV_LANE_LOCK_LOST flag 1 stands without its flag 0. -/
  lost : Bool := false
  /-- R262. What goes toward the ASIC. -/
  egress : Egress := .idle
  /-- R70. Blocks of the ASIC that wait for a row group. -/
  txq : List Blk66 := []
  /-- R1, R142, R267. The blocks and markers that the last section released toward the ASIC brought. -/
  out : List HostBlk := []
  /-- R267. Blocks sent toward the ASIC since the last alignment marker, and idle blocks to delete. -/
  amCount : Nat := 0
  amDebt : Nat := 0
  deriving DecidableEq, Repr

/-- A sequenced or other Spring frame to send (R187, R210). -/
structure TxFrame where
  typ : FType
  payload : Bytes := []
  /-- R212. SEQ of a sequenced frame once it has one. -/
  seq : BitVec 4 := 0
  /-- R224. The USER entry it carries, by its number. -/
  slot : Option Nat := none
  /-- R212. It is being resent. -/
  again : Bool := false
  deriving DecidableEq, Repr

/-- A Spring transmit entry taken and not yet completed (R224, R303). -/
structure UserTx where
  /-- The entry's index in its queue. -/
  idx : Nat
  /-- The device's phase when it was taken. -/
  phase : Bool
  payload : Bytes
  /-- It breaks the form of R224, and completes ST_BAD_PARAM in its port's order. -/
  bad : Bool := false
  /-- The model's own: its number among the port's entries, by which its frame names it. -/
  num : Nat := 0
  /-- R305. Its queue has been disabled since it was taken. -/
  orphan : Bool := false
  deriving DecidableEq, Repr

/-- An accepted USER frame (R225, R304). -/
structure UserRx where
  port : PortId
  payload : Bytes
  mode4 : Bool
  tick : Tick
  rssi : Byte
  foff : Byte
  /-- R443. It was acknowledged when it was held in the island. -/
  acked : Bool := false
  /-- R212, R226. Its SEQ, and the session in which it was accepted. -/
  seq : BitVec 4 := 0
  sess : Nat := 0
  deriving DecidableEq, Repr

/-- The Spring channel of a port (R183–R231, R563). -/
structure Spring where
  /-- R206, R231. SPRINGSTAT.SSTATE. -/
  sstate : SState := .off
  /-- R231. SPRINGSTAT.SROLE. -/
  srole : Role := .none
  /-- R212. Next SEQ. -/
  txSeq : BitVec 4 := 0
  /-- R212. Expected SEQ. -/
  rxSeq : BitVec 4 := 0
  /-- R207. ACK_VALID. -/
  ackValid : Bool := false
  /-- R212. ACK_SEQ. -/
  ackSeq : BitVec 4 := 0
  /-- R212. Sequenced frames sent and not acknowledged, oldest first. -/
  out : List TxFrame := []
  /-- R212. Consecutive expiries for the oldest frame. -/
  expiries : Nat := 0
  /-- R211. Frames due, in the order they fell due. -/
  due : List TxFrame := []
  /-- R211. The frame in transmission. -/
  cur : Option TxFrame := none
  /-- R198. The header of the frame in transmission. -/
  curHdr : BitVec 72 := 0
  /-- R187–R189. The levels of the frame in transmission: preamble, sync word and body. -/
  body : List Int := []
  /-- R211. The time at which it was started, and whether another frame has pre-empted it. -/
  curAt : Nat := 0
  cut : Bool := false
  /-- The model's own: sessions entered, and USER entries taken. -/
  sess : Nat := 0
  taken : Nat := 0
  /-- R213. An acknowledgement is due. -/
  ackDue : Bool := false
  /-- R303. The port's transmit list, 16 at most. -/
  users : List UserTx := []
  /-- R201. A frame is being received. -/
  rxBusy : Bool := false
  /-- R204. The header of the frame being received, once decided. -/
  rxHdr : Option (BitVec 72) := none
  /-- R200. Latched RSSI of that frame. -/
  rxRssi : Byte := 0
  /-- R203. Its carrier offset. -/
  rxFoff : Byte := 0
  /-- R225. Tick of its sync detection. -/
  rxTick : Tick := 0
  /-- R207. The partner's last valid header. -/
  lastHdr : Option (BitVec 72) := none
  /-- R216. The partner's capability frame of the session. -/
  pcap : Option Bytes := none
  /-- R243. The PHY_ID of the partner's last capability frame. -/
  capId : BitVec 64 := 0
  /-- R184. The staged content of this port's capability frame. -/
  staged : Bytes := []
  /-- R217. The SELECT being sent (head) or last accepted (tail). -/
  sel : Option Bytes := none
  /-- R218. SELECT frames started. -/
  selCount : Nat := 0
  /-- R198. HS_DONE (tail: sent; head: decided). -/
  hsDone : Bool := false
  /-- R214. Consecutive accepted frames at or above S4_RSSI, 8 at most. -/
  good : Nat := 0
  /-- R231. SPRINGSTAT.RSSI. -/
  rssi : Byte := 0
  /-- R203, R231. SPRINGSTAT.FOFF. -/
  foff : Byte := 0
  /-- R208, R231. SPRINGSTAT.LAST_LOSS. -/
  lastLoss : Loss := .none
  /-- R41. The listen interval in progress, its draw 1–15. -/
  interval : Option Nat := none
  /-- R41. The 4 ms wait for the tail's sync word runs. -/
  waitTail : Bool := false
  /-- R42. Capability frames repeat every 16 ms. -/
  capRep : Bool := false
  /-- R220. The training-step message being repeated, and how many are left (none = no bound). -/
  step : Option (Bytes × Option Nat) := none
  /-- R221. The SPARE being repeated. -/
  spareRep : Option Byte := none
  /-- R222. WAKE_REQ repeats. -/
  wakeReq : Bool := false
  /-- R222. WAKE_READY repeats. -/
  wakeReady : Bool := false
  /-- R227. TYPE_UNKNOWN raised in this session. -/
  unknown : Bool := false
  /-- R227. Time of the last RX_FULL. -/
  fullAt : Option Nat := none
  /-- R184. The transmitter is muted. -/
  muted : Bool := false
  deriving DecidableEq, Repr

/-- A 48-bit counter and its overflow bit (R480). -/
structure Counter where
  val : BitVec 48 := 0
  ovf : Bool := false
  deriving DecidableEq, Repr

/-- A group of counters with what the tick in progress has added and written (R488). -/
structure Bank where
  vals : List Counter
  /-- R488. The model's time of the tick to which the two lists below belong. -/
  time : Nat := 0
  /-- R488. What each counter was incremented by in that tick. -/
  incs : List (Nat × Nat) := []
  /-- R488. The counters written in that tick. -/
  wrote : List Nat := []
  deriving DecidableEq, Repr

/-- Slot accounting of a port (R484, R485). -/
structure Slots where
  /-- R484. The span rung; 0 outside a span. -/
  span : Rung := 0
  /-- R484. The fractional accumulator, in units of 1/400 slot. -/
  acc : Nat := 0
  /-- R485. The remainder of the share that the current rung carries. -/
  capAcc : Nat := 0
  /-- R485. Blocks that pass the counting point and have met no due slot yet: frame, errored. -/
  tx : List (Bool × Bool) := []
  rx : List (Bool × Bool) := []
  /-- R485. A wake has begun and no slot has been carried since, per direction. -/
  txWake : Bool := false
  rxWake : Bool := false
  deriving DecidableEq, Repr

/-- A tagged block in flight, as its tag found the port (R490, R492, R498). -/
structure Flight where
  k : Byte
  slotNo : BitVec 48
  tick : Tick
  rung : Rung
  deep : Bool
  /-- R492. The port has left data mode or changed its rung since. -/
  left : Bool := false
  deriving DecidableEq, Repr

/-- Block sampling of one direction of a port (R489, R490). -/
structure Sampler where
  /-- R489. The countdown's reload. -/
  count : Nat := 0
  /-- R490. The tagged block in flight. -/
  flight : Option Flight := none
  deriving DecidableEq, Repr

/-- A queued sample record (R492, R498). -/
structure Sample where
  port : PortId
  rx : Bool
  rung : Rung
  iter : Byte
  k : Byte
  deep : Bool
  slotNo : BitVec 48
  ticks : List Tick
  fine : List (BitVec 6)
  incomplete : Bool
  deriving DecidableEq, Repr

/-- The result block of one pair in a diagnostic record (R244). -/
structure PairRes where
  length : BitVec 16 := 0xFFFF
  faultDist : BitVec 16 := 0xFFFF
  fault : Byte := 0
  imp : Byte := 0
  xpair : Byte := 0xFF
  rlWorst : Byte := 0xFF
  next : Bytes := [0xFF, 0xFF, 0xFF]
  anext : Bytes := List.replicate 32 0xFF
  il : Bytes := List.replicate 32 0xFF
  events : Bytes := List.replicate 32 0
  deriving DecidableEq, Repr

/-- A port's part in a CMD_DIAG_RUN (R233, R243). -/
structure Diag where
  key : CmdKey
  /-- The record's place in the buffer (R234). -/
  addr : Nat
  tests : Byte
  nvp : BitVec 16
  /-- The tests still to run; the first is in progress once begun. -/
  left : List DTest
  begun : Bool := false
  /-- R236. The port waits for QUIET_ACK. -/
  waitAck : Bool := false
  /-- R236. QUIET_REQ has been sent, and END not yet. -/
  asked : Bool := false
  /-- R233. The port is in TEST for its active tests. -/
  inTest : Bool := false
  /-- R241. The sweep is awaited. -/
  sweep : Bool := false
  /-- R233. The state in which the port's turn found it. -/
  prior : PState
  /-- R243. PSTATE: the port's state before the run. -/
  pstate : PState
  rung : Rung
  partner : BitVec 64
  start : Tick
  /-- R235. The deskew buffer's skew as PASSIVE copies it. -/
  deskew : Byte
  status : Bytes := [1, 1, 1, 1, 1]
  flags : Byte := 0
  category : Byte := 0
  skew : Byte := 0xFF
  pairs : List PairRes := []
  deriving DecidableEq, Repr

/-- A loopback in force (R274). -/
structure Loop where
  side : Byte
  kind : Byte
  rung : Rung
  prior : PState
  deriving DecidableEq, Repr

/-- A quiet or a sweep granted to the partner (R241, R242). -/
structure Grant where
  highz : Bool
  sweepMs : Option Nat
  sending : Bool
  prior : PState
  deriving DecidableEq, Repr

/-- A port. -/
structure Port where
  cfg : PortCfg := {}
  link : Link := {}
  train : Train := {}
  line : Line := {}
  rx : Rx := {}
  adapt : Adapt := {}
  still : Still := {}
  dorm : Dorm := {}
  host : HostSide := {}
  spring : Spring := {}
  slots : Slots := {}
  txSamp : Sampler := {}
  rxSamp : Sampler := {}
  /-- R481. Counters 0x00–0x3F. -/
  cnt : Bank := ⟨List.replicate 64 {}, 0, [], []⟩
  /-- R247, R249. The fingerprint slot in the Well, 2,048 bytes. -/
  fp : Option Bytes := none
  /-- R253. The ticks of the slot's last CLEAR and of its last CMD_FP_LOAD. -/
  fpClearAt : Option Nat := none
  fpLoadAt : Option Nat := none
  /-- R253. The tick of the last CMD_FP_SAVE to host memory, and where its copy lies. -/
  fpCopyAt : Option (Nat × Nat) := none
  /-- R255. FPSTAT.MAP_CHANGED. -/
  mapChanged : Bool := false
  /-- R251, R255. FPSTAT.LAST_REJECT. -/
  lastReject : BitVec 4 := 0
  diag : Option Diag := none
  loop : Option Loop := none
  grant : Option Grant := none
  /-- R500. The live page is granted. -/
  granted : Bool := false
  /-- R497. A counter was written since the previous dump. -/
  cntWritten : Bool := false
  /-- R497. Slot counters at the previous dump written that includes the port. -/
  prev : Option (List (BitVec 48)) := none
  /-- R401. The port is in reset. -/
  inReset : Bool := false
  /-- R401. The state from which the port resumes at the end of its reset: the state before it. -/
  resume : PState := .disabled
  deriving DecidableEq, Repr

/-- A host lane (R256–R280, R482). -/
structure Lane where
  /-- R280. LANE.CTL TX_INV and RX_INV. -/
  inv : BitVec 2 := 0
  /-- R280. LANE.CTL.PLL_SEL. -/
  pll : Fin 2 := 0
  /-- R269, R280. LANE.TXEQ. -/
  txeq : Word := 0x0003F000
  /-- R266. Ingress lock. -/
  locked : Bool := false
  /-- R272. Egress idle until its lane PLL relocks. -/
  idle : Bool := false
  /-- R270. The ingress adaptation restarts from mid-range. -/
  adapting : Bool := true
  /-- R482. The lane's five counters. -/
  cnt : Bank := ⟨List.replicate 5 {}, 0, [], []⟩
  /-- R399. The lane is in reset. -/
  inReset : Bool := false
  deriving DecidableEq, Repr

/-- A calibration run on a bed (R325, R455). -/
structure CalRun where
  key : Option CmdKey
  groups : BitVec 4
  /-- A device target or a start: the device is in CALIBRATE. -/
  wholeDevice : Bool
  /-- R344. The time at which the run began. -/
  start : Nat
  deriving DecidableEq, Repr

/-- A self-test run on a bed or the hub (R470). -/
structure BistRun where
  key : Option CmdKey
  left : List BKind
  result : List (BKind × Verdict)
  /-- Step 3 of R470 is in progress. -/
  reinit : Bool := false
  deriving DecidableEq, Repr

/-- A bed's power and clocks (R390, R413, R431). -/
structure BedPower where
  /-- R358, R439, R440. BEDON. -/
  on : Bool := false
  /-- R440. The supply switch is closed and power-up is in progress. -/
  rising : Bool := false
  /-- R439. The gate is closed and the domain is going off. -/
  falling : Bool := false
  /-- R448. BEDCTL.HOLD. -/
  hold : Bool := false
  /-- R445. The bed is needed again once it is off. -/
  wanted : Bool := false
  /-- R365. STAT.TENDER_RUN. -/
  tender : Bool := false
  /-- R399. Time of the last Tender watchdog firing. -/
  wdogAt : Option Nat := none
  /-- R393, R413. LINE_LOCK. -/
  lineLock : Bool := false
  /-- R393. The bed was reset for this loss. -/
  pllReset : Bool := false
  /-- R413. LANE0_LOCK, LANE1_LOCK. -/
  laneLock : List Bool := [false, false]
  /-- R413. LANE0_FAM, LANE1_FAM. -/
  laneFam : List (BitVec 2) := [0, 0]
  /-- R392, R413. STEER_NOW, in 0.001 ppm. -/
  steerNow : Int := 0
  /-- R399. The bed is in reset. -/
  inReset : Bool := false
  /-- R349. A forced gate stands on the bed. -/
  forced : Bool := false
  deriving DecidableEq, Repr

/-- A bed (R15, R18). -/
structure Bed where
  pow : BedPower := {}
  /-- R564. The role LFSR in the island. -/
  roleLfsr : BitVec 32 := 1
  /-- R490. The sampling LFSR. -/
  sampLfsr : BitVec 32 := 1
  /-- R489, R504. K in force. -/
  k : Byte := 0
  /-- R490, R504. The sample store, 64 records at most. -/
  store : List Sample := []
  /-- R553. TEMP. -/
  temp : BitVec 12 := 0
  /-- R553. VALID. -/
  tempValid : Bool := false
  /-- R552. The last sample was at or above 120 °C. -/
  hotRun : Bool := false
  /-- R552, R553. HELD. -/
  tempHeld : Bool := false
  /-- R553. TRIPS. -/
  trips : Nat := 0
  /-- R552. Times of the trips of the last 60 s. -/
  tripAt : List Nat := []
  /-- R325. The calibration run in progress. -/
  cal : Option CalRun := none
  /-- R465. CALSTAT.LAST_RUN, LAST_PASS. -/
  calRun : BitVec 4 := 0
  calPass : BitVec 4 := 0
  /-- R456, R465. PENDING, PENDING_FAIL. -/
  calPend : BitVec 4 := 0
  calFail : BitVec 4 := 0
  /-- R458. The bed block in force, pending results included. -/
  calBlk : Bytes := []
  /-- R457. Temperature at its last calibration. -/
  calTemp : Byte := 0
  /-- R470. The self-test run in progress. -/
  bist : Option BistRun := none
  /-- R477. BISTSTAT.RESULT. -/
  bistRes : BitVec 10 := 0
  /-- R477. BISTSTAT.REPAIRS. -/
  repairs : Nat := 0
  /-- R477. BISTSTAT.FROM_START. -/
  fromStart : Bool := false
  /-- R472. The soft-repair map in the always-on hub. -/
  softMap : List Word := []
  /-- R328. The last MEMORY verdict since the start passed. -/
  memPass : Bool := false
  /-- R473. Fuse rows blown: row and word. -/
  fuses : List (BitVec 8 × Word) := []
  /-- R368. FUSE.ROW. -/
  fuseRow : Byte := 0
  /-- R368. FUSEDATA. -/
  fuseData : Word := 0
  /-- R368. FUSE.BUSY, with the row and word being blown, and whether CMD_REPAIR_FUSE blows it. -/
  fuseBusy : Option (BitVec 8 × Word × Bool) := none
  /-- R478. FUSESTAT.ERR. -/
  fuseErr : Bool := false
  /-- R478. FUSESTAT.BAD. -/
  fuseBad : Nat := 0
  /-- R473. The rows that CMD_REPAIR_FUSE has still to blow. -/
  repair : Option (CmdKey × List Word) := none
  /-- R366. TRIMCTL.LEGACY as last written. -/
  legacy : Bool := false
  /-- R365. LEGACY_IN_USE. -/
  legacyUse : Bool := false
  /-- R483. The bed counters. -/
  cnt : Bank := ⟨List.replicate 4 {}, 0, [], []⟩
  /-- R483. The part of a µs in MAIN_ON_US, in ticks × 4. -/
  onFrac : Nat := 0
  /-- R443. A USER frame held in the island. -/
  heldUser : Option UserRx := none
  /-- R225. Accepted USER frames not yet written to the receive queue. -/
  rxq : List UserRx := []
  deriving DecidableEq, Repr

/-- The clocks and the tick of the hub (R386–R412). -/
structure Clk where
  /-- R361. STAT.LOCK. -/
  lock : Bool := false
  /-- R361. STAT.REFLOST. -/
  reflost : Bool := false
  /-- R361. STAT.ARMED. -/
  armed : Bool := false
  /-- R361. STAT.COAST. -/
  coast : Bool := false
  /-- R396. Reacquisition is in progress. -/
  reacq : Bool := false
  /-- R344. Tick of the trip. -/
  tripTick : Tick := 0
  /-- R396. Coast ticks counted. -/
  coastTicks : Nat := 0
  /-- R362, R404. The tick counter. -/
  tick : Tick := 0
  /-- R363. CLK.DIV as last written. -/
  div : Word := 0x50201008
  /-- R363. CLK.DIV applied. -/
  divUse : Word := 0x50201008
  /-- R364. CLK.STEER[n].OFFSET. -/
  steer : List (BitVec 16) := List.replicate 8 0
  /-- R281. CLK.RCLK[i] control fields. -/
  rclk : List Word := List.replicate 4 0x800
  /-- R411. CLK.CTL.CLKREQ_HOLD. -/
  clkreqHold : Bool := false
  /-- R412. ESYNC.COMP. -/
  comp : Byte := 0
  /-- R412. ESYNC.SYNCED. -/
  synced : Bool := false
  /-- R405, R412. The time of the last rising edge of ESYNC_IN. -/
  esyncAt : Option Nat := none
  /-- R405. The LEAD pulse is on ESYNC_OUT. -/
  leadPulse : Bool := false
  /-- R340, R356. The armed FOLLOW and its VALUE. -/
  follow : Option (CmdKey × BitVec 64) := none
  /-- R406. The time of the start of that FOLLOW, which arms from the tick after it. -/
  followAt : Nat := 0
  deriving DecidableEq, Repr

/-- One mailbox channel (R373–R385). -/
structure Chan where
  /-- R384. BIND. -/
  bind : Word := 0
  /-- R384. IRQ. -/
  irq : BitVec 7 := 0
  /-- R373. LOCK. -/
  lock : MasterId := 0
  /-- R347, R374. The owner that a read of the release's own tick still sees, and that tick. -/
  lockWas : MasterId := 0
  lockRel : Nat := 0
  /-- R374. The tick in which the owner took the lock. -/
  lockAt : Option Nat := none
  /-- R383. The ticks of the last resets of the bound receiver and of the bound sender, what the receiver's
  found staged, and the tick of the last DONE. -/
  rxRstAt : Option Nat := none
  txRstAt : Option Nat := none
  rstBox : Word × Word × Word := (0, 0, 0)
  doneAt : Option Nat := none
  /-- R385. PTR_LO, PTR_HI, META. -/
  ptrLo : Word := 0
  ptrHi : Word := 0
  metaw : Word := 0
  /-- R379. BELL and MASK. -/
  bell : Word := 0
  mask : Word := 0
  /-- R379. The bits that the tick in progress has set, and that tick. -/
  bellNew : Word := 0
  bellAt : Nat := 0
  /-- R385. STAT bits. -/
  notice : Bool := false
  taken : Bool := false
  done : Bool := false
  result : Byte := 0
  aborted : Bool := false
  withdrawn : Bool := false
  reject : Reject := .none
  /-- R382. The result of the taken notice will be discarded. -/
  discard : Bool := false
  /-- R380. Conditions identity 13 has not read: STAT and BELL. -/
  unreadStat : Bool := false
  unreadBell : Bool := false
  /-- R378. A post held for a sleeping receiver. -/
  heldPost : Bool := false
  deriving DecidableEq, Repr

/-- A notification raised by a mailbox change (R380). -/
structure Notify where
  dest : MasterId
  chan : ChanId
  deriving DecidableEq, Repr

/-- A Sluice request in progress (R436): it is gating once no block is asked or delayed. -/
structure SReq where
  /-- The domains still to be switched off. -/
  doms : List Dom
  /-- Blocks asked and not yet answered ACK. -/
  asked : List Byte
  /-- Blocks that answered DELAY and wait for the next ask. -/
  delayed : List Byte
  key : Option CmdKey
  /-- REQUEST of EV_POWER_REFUSED. -/
  req : Byte
  elem : Elem
  deriving DecidableEq, Repr

/-- The Sluice (R431–R451). -/
structure Sluice where
  /-- R447. CTL. -/
  ctl : BitVec 11 := 0x0C8
  /-- R449. WAKEEN. -/
  wakeen : BitVec 13 := 0x7
  /-- R450. WAKETIME. -/
  waketime : BitVec 64 := 0
  /-- R451. Latched wake sources, oldest first. -/
  latched : List WakeSrc := []
  /-- R442. The GPIO inputs whose rising edge is latched. -/
  gpioEdges : Byte := 0
  /-- R451. LAST_WAKE. -/
  lastWake : WakeSrc := .none
  /-- R451. LAST_BLOCK. -/
  lastBlock : Byte := 0
  /-- R451. LAST_REASON. -/
  lastReason : BitVec 2 := 0
  /-- R451. HUBMAIN_ON. -/
  hubOn : Bool := true
  /-- R439. The hub main domain is going off. -/
  hubFalling : Bool := false
  /-- R440. The hub main domain is being switched on. -/
  hubRising : Bool := false
  /-- R436. Requests in progress. -/
  reqs : List SReq := []
  /-- R445. A DORMANT entry is in progress since its request tick. -/
  entry : Bool := false
  /-- R438. Accesses held at the bridge of a domain whose gate is closing: master, offset, and the value of
  a write. -/
  heldAcc : List (MasterId × Nat × Option Word) := []
  deriving DecidableEq, Repr

/-- Start-up (R414–R428). -/
structure Boot where
  /-- R416. The stage in progress; 0 when no start is in progress. -/
  stage : Nat := 1
  /-- R247, R416. The model's time at which this start began. -/
  startAt : Nat := 0
  /-- R422. Consecutive failed starts, in the Well. -/
  count : Nat := 0
  /-- R422. Reason of the last failure, in the Well. -/
  lastReason : Reason := .none
  /-- R430. The image slot last tried, which SEEDBED shows. -/
  tried : Bool := false
  /-- R400. This start follows a device reset: the Well's port configuration is not restored. -/
  fresh : Bool := false
  /-- R358, R426. BOOTSTAT.REASON. -/
  reason : Reason := .none
  /-- R358. BOOTSTAT.SLOT. -/
  slot : Bool := false
  /-- R358. BOOTSTAT.FAILS. -/
  fails : Nat := 0
  /-- R358. BOOTSTAT.SEEDBED. -/
  seedbed : Bool := false
  /-- R358. BOOTSTAT.CAL_BLANK, TORN_CAL, TORN_FP; and a torn boot control copy (R425). -/
  calBlank : Bool := false
  tornCal : Bool := false
  tornFp : Bool := false
  tornCtl : Bool := false
  /-- R356. FWVER.VERSION. -/
  version : BitVec 16 := 0
  /-- R516. SVN of the running image. -/
  imageSvn : Byte := 0
  /-- R513. ADVANCE of the running image. -/
  advance : Bool := false
  /-- R283, R417. Subsystem vendor and ID. -/
  subsys : Word := 0x00001D5A
  /-- R416. Masters that have reported ready in this start. -/
  ready : List MasterId := []
  /-- R422. The start has failed and its restart is awaited. -/
  failed : Bool := false
  /-- R421. The time at which the 10 s of this start expired in stage 9, with the count and the reason before
  it, which an entry to ACTIVE in that tick restores. -/
  late : Option (Nat × Nat × Reason) := none
  /-- R423. The restart waits for the reference. -/
  waitRef : Bool := false
  /-- R428. This start follows RETRY. -/
  userRetry : Bool := false
  /-- R424. START_NO of this start; 0 while flash is unusable. -/
  startNo : Nat := 0
  /-- R424. The mode in force when the previous start's run ended, in the Well. -/
  lastMode : Nat := 0
  /-- R424. Records held until flash is usable, oldest first. -/
  held : List (LogKind × Nat × Nat × Nat × Tick) := []
  /-- R418. The flash has been found usable in this start. -/
  flashOk : Bool := false
  /-- R425. The non-preferred slot was started. -/
  fallback : Bool := false
  /-- R429. CALIBRATE is required in stage 8. -/
  calNeeded : Bool := false
  /-- R513. Anti-rollback bits are being blown. -/
  blowing : Bool := false
  /-- R479. HUB.BISTSTAT: LOGIC, MEMORY, REPAIRS. -/
  hubLogic : Verdict := .notRun
  hubMemory : Verdict := .notRun
  hubRepairs : Nat := 0
  /-- R511. The background check of the other slot is due. -/
  bgDue : Bool := false
  deriving DecidableEq, Repr

/-- An operation of the flash access registers in progress (R430). -/
structure FlashOp where
  op : BitVec 2
  addr : Nat
  len : Nat
  deriving DecidableEq, Repr

/-- An image staging (R336, R514). -/
structure Staging where
  slot : Bool
  /-- Bytes staged since the last FIRST. -/
  done : Nat
  /-- MAGIC held back. -/
  magic : Bytes
  /-- The chunk in progress: its key, offset, data and LAST. -/
  chunk : Option (CmdKey × Nat × Bytes × Bool)
  deriving DecidableEq, Repr

/-- A fingerprint on its way to flash (R249, R324). -/
structure FpWrite where
  port : PortId
  key : CmdKey
  /-- R253. The tick of the copy. -/
  tick : Nat
  /-- The Well slot as it stood at the save. -/
  body : Bytes
  /-- The copy that is being written and its CHECK, once the write has begun. -/
  copy : Option (Nat × Bytes) := none
  deriving DecidableEq, Repr

/-- Flash, its access registers and what is written there (R418, R430). -/
structure Flash where
  /-- R418. The content, an unlisted byte erased (0xFF). -/
  mem : Mem := []
  /-- R430. ADDR. -/
  addr : BitVec 26 := 0
  /-- R430. CTL OP and LEN. -/
  ctl : BitVec 11 := 0
  /-- R430. STAT.BUSY with the operation. -/
  busy : Option FlashOp := none
  /-- R430. STAT.DONE. -/
  done : Bool := false
  /-- R430. STAT.ERR. -/
  err : BitVec 3 := 0
  /-- R430. STAT.SFDP_OK. -/
  sfdp : Bool := false
  /-- R430. STAT.DENSITY. -/
  density : BitVec 5 := 0
  /-- R430. DATA[0–63]. -/
  data : List Word := List.replicate 64 0
  /-- R514. The staging in progress. -/
  stage : Option Staging := none
  /-- R249, R324. Fingerprint writes, one at a time: the first is in progress once begun. -/
  fpq : List FpWrite := []
  deriving DecidableEq, Repr

/-- A store of the calibration record in progress (R460). -/
structure CalStore where
  /-- The command, none for a start. -/
  key : Option CmdKey
  /-- The record without its DIGEST, as taken in the start tick. -/
  body : Bytes
  /-- The second write of a first store. -/
  second : Bool
  /-- The groups taken of each bed. -/
  taken : List (BitVec 4)
  deriving DecidableEq, Repr

/-- The calibration record (R457–R466) and a store in progress. -/
structure CalRec where
  /-- R466. CALREC.VALID. -/
  valid : Bool := false
  /-- R466. CALREC.SLOT. -/
  slot : Bool := false
  /-- R466. CALREC.OTHER_VALID. -/
  other : Bool := false
  /-- R466. CALSEQ. -/
  seq : BitVec 32 := 0
  /-- R457. DIGEST of the record in force. -/
  digest : Bytes := []
  /-- R460. The store in progress. -/
  store : Option CalStore := none
  deriving DecidableEq, Repr

/-- Security (R505–R524). -/
structure Sec where
  /-- R506, R523. KEY_READY. -/
  key : Bool := false
  /-- R523. DEVCERT_OK. -/
  devcert : Bool := false
  /-- R519, R523. UNLOCKED. -/
  unlocked : BitVec 2 := 0
  /-- R476, R523. SEED_BLOCKED. -/
  blocked : Bool := false
  /-- R523. SLOTSTAT. -/
  slotA : SlotRes := .unknown
  slotB : SlotRes := .unknown
  /-- R512. The anti-rollback fuses. -/
  svn : BitVec 64 := 0
  /-- R520. The Well's flag that the device was unlocked. -/
  wellUnlock : Bool := false
  /-- R524. SEC.CHAIN: the 32 KiB mirrored at stage 3. -/
  chainBytes : Bytes := []
  deriving DecidableEq, Repr

/-- The configuration of dumps (R329). -/
structure TelCfg where
  en : Bool
  periodMs : Nat
  ports : BitVec 128
  deriving DecidableEq, Repr

/-- Telemetry (R493–R504). -/
structure Tel where
  /-- R502, R503. EN, PERIOD_MS and PORTS in force. -/
  cfg : TelCfg := { en := false, periodMs := 1000, ports := 0 }
  /-- R329. Settings that wait for the next boundary, and the time from which they wait. -/
  next : Option (TelCfg × Nat) := none
  /-- R495, R502. DUMP_SEQ. -/
  seq : Nat := 0
  /-- R502. The dump being written: its entries, 512 bytes each. -/
  writing : List Bytes := []
  /-- R497. Of each port in that dump: its slot counters, and whether a counter had been written. -/
  snap : List (PortId × List (BitVec 48) × Bool) := []
  /-- R493. Tick of the dump being written. -/
  snapTick : Tick := 0
  /-- R496. TICK of the previous dump written. -/
  prevTick : Option Tick := none
  /-- R495. A dump was dropped since the previous dump written. -/
  dropped : Bool := false
  /-- R344. Time of the last EV_TEL_DROP since the ring was enabled. -/
  dropAt : Option Nat := none
  deriving DecidableEq, Repr

/-- A vector of an MSI-X table (R282, R306): message address, message data, and the mask bit of its vector
control. Log 62 (PRESUMED). -/
structure MsixVec where
  addr : BitVec 64 := 0
  data : Word := 0
  mask : Bool := true
  deriving DecidableEq, Repr

/-- The MSI-X table and pending-bit array of a function (R282, R284, R306). Log 62 (PRESUMED). -/
structure MsixTab where
  /-- R306. The 64 vectors of the function. -/
  vecs : List MsixVec := List.replicate 64 {}
  /-- R306. Pending bits: messages held back by a masked vector. -/
  pend : BitVec 64 := 0
  deriving DecidableEq, Repr

/-- The supplies, the PCIe endpoint and the pins (R282–R285, R525–R536, R542). -/
structure Pins where
  /-- R542. The device is powered. -/
  powered : Bool := true
  /-- R541. PERST# is asserted. -/
  perst : Bool := false
  /-- R541. Rails that have lost power-good. -/
  lost : List Rail := []
  /-- R541, R542. A start begins once every rail is good. -/
  startDue : Bool := false
  /-- R282. The PCIe link is up. -/
  link : Bool := false
  /-- R417. The endpoint trains. -/
  training : Bool := false
  /-- R417. Configuration requests are answered. -/
  cfgReady : Bool := false
  /-- R285. D3hot of PF0 and of PF1. -/
  d3pf0 : Bool := false
  d3pf1 : Bool := false
  /-- R284, R306, R308. The MSI-X tables of PF0 and of PF1. -/
  msix0 : MsixTab := {}
  msix1 : MsixTab := {}
  /-- R308. A function level reset is in progress. -/
  flr0 : Bool := false
  flr1 : Bool := false
  /-- R531. EST_ID as latched. -/
  estId : BitVec 6 := 0
  /-- R536. HUB.GPIO DIR, OUT, IN and PULL. -/
  gpioDir : Byte := 0
  gpioOut : Byte := 0
  gpioIn : Byte := 0
  gpioPull : Byte := 0xFF
  /-- R380. SMBALERT# is asserted. -/
  alert : Bool := false
  /-- R476. The JTAG instruction in force. -/
  jtag : Jtag := .bypass
  /-- R476. Every core is stopped for internal scan. -/
  scanStop : Bool := false
  deriving DecidableEq, Repr

/-- A Spring transmit write-back that waits until DMA is possible (R285, R303). -/
structure WriteBack where
  bed : BedId
  idx : Nat
  phase : Bool
  status : ST
  detail : Byte
  tick : Tick
  /-- R305. Its queue has been disabled since the entry was taken. -/
  orphan : Bool := false
  deriving DecidableEq, Repr

/-- The hub (R355–R360). -/
structure Hub where
  /-- R358. MODE.MODE. -/
  mode : DevMode := .boot
  /-- R434. The base mode under TEST and the prior mode of CALIBRATE. -/
  base : DevMode := .active
  /-- R358. MODE.CHANGING. -/
  changing : Bool := false
  /-- R433. The mode a change in progress leads to. -/
  target : DevMode := .boot
  /-- R359. AFAULT fields and AFAULT_ADDR. -/
  afKind : BitVec 3 := 0
  afMaster : MasterId := 0
  afValid : Bool := false
  afCount : Nat := 0
  afBadSize : Bool := false
  afAddr : Word := 0
  /-- R350. Time of the held fault, which orders same-tick faults by master. -/
  afAt : Option Nat := none
  /-- R347, R350. The tick in which the last CLEAR acts. -/
  afClearAt : Nat := 0
  /-- R14. The register writes of the tick in progress: time, offset, master and value. -/
  writes : List (Nat × Nat × MasterId × Word) := []
  /-- R360. RETAIN[0–63]. -/
  retain : List Word := List.replicate 64 0
  /-- R352. The Well's listed set as saved: offset and value. -/
  saved : List (BitVec 26 × Word) := []
  /-- R312. EVROUTE. -/
  evroute : Word := 0
  /-- R342. An event ring has been enabled since the start or the last FLR of PF0. -/
  evSeen : Bool := false
  /-- R384. BINDCTL.LOCKED. -/
  bindLocked : Bool := false
  /-- R553. HUB.TEMP[8]. -/
  temp : BitVec 12 := 0
  tempValid : Bool := false
  hotRun : Bool := false
  trips : Nat := 0
  deriving DecidableEq, Repr

/-- The state of the CH8128. -/
structure State where
  /-- The commands that wait, first in, first out. -/
  pending : List Instr
  pins : Pins
  hub : Hub
  clk : Clk
  sluice : Sluice
  boot : Boot
  flash : Flash
  cal : CalRec
  sec : Sec
  tel : Tel
  /-- R371. The mailbox channels. -/
  chans : Vector Chan 16
  /-- R376. Mailbox memory, an unlisted byte 0. -/
  mbxMem : Mem
  /-- R286. The rings. -/
  rings : Vector Ring 64
  /-- R292. Commands fetched or in progress, in order of fetch. -/
  cmds : List CmdRec
  /-- R302. Events due, in the order of R409. -/
  due : List Event
  /-- R342. Events held, and whether older ones were dropped. -/
  held : List Event
  heldLost : Bool
  /-- R306. MSI-X messages sent: PF1 or PF0, and the vector. -/
  msix : List (Bool × Nat)
  /-- R285. Messages that wait for a function to leave D3hot. -/
  msixHeld : List (Bool × Nat)
  /-- R380. Notifications raised. -/
  notes : List Notify
  /-- R289. What the device has written to host memory, an unlisted byte 0. -/
  hostMem : Mem
  /-- R285, R303. Spring transmit write-backs that wait. -/
  heldWb : List WriteBack
  ports : Vector Port 128
  beds : Vector Bed 8
  lanes : Vector Lane 256
  /-- The model's own: ticks elapsed since State.reset, never reloaded. -/
  now : Nat
  /-- The model's own: how many free values have been taken. -/
  free : Nat
  /-- The model's own: how many commands have acted on their targets. -/
  acts : Nat
  deriving DecidableEq, Repr

/-- The vector whose element i is f i. -/
def mkVec {α : Type} (n : Nat) (f : Fin n → α) : Vector α n :=
  ⟨((List.finRange n).map f).toArray, by simp⟩

/-- PORT.LANEMAP at reset (R278): L0 = 2(p mod 16), L1 = 2(p mod 16) + 1, both valid. -/
def laneMapReset (p : PortId) : Word :=
  let l := 2 * (p.val % 16)
  BitVec.ofNat 32 (l + 0x20 + (l + 1) * 0x40 + 0x800)

/-- A port at reset. Log 2 (DESIGN CHOICE). -/
def Port.reset (p : PortId) : Port := { cfg := { lanemap := laneMapReset p } }

/-- The role LFSR's seed (R564). -/
def roleSeed (n : Nat) : BitVec 32 :=
  let v := (Config.serial.setWidth 32) ^^^ BitVec.ofNat 32 (0x10000 + n)
  if v = 0 then 1 else v

/-- A bed at reset, its island just powered. Log 2 (DESIGN CHOICE). -/
def Bed.reset (b : BedId) : Bed := { roleLfsr := roleSeed b.val }

/-- The machine right after power-on reset, PERST# just released: BOOT, stage 1 of a start, the
main loop not locked, every register at its reset value and no command waiting.
Log 2 (DESIGN CHOICE). Log 3 (DESIGN CHOICE). -/
def State.reset : State where
  pending := []
  pins := {}
  hub := {}
  clk := {}
  sluice := {}
  boot := {}
  flash := {}
  cal := {}
  sec := {}
  tel := {}
  chans := mkVec 16 fun _ => {}
  mbxMem := []
  rings := mkVec 64 fun _ => {}
  cmds := []
  due := []
  held := []
  heldLost := false
  msix := []
  msixHeld := []
  notes := []
  hostMem := []
  heldWb := []
  ports := mkVec 128 Port.reset
  beds := mkVec 8 Bed.reset
  lanes := mkVec 256 fun _ => {}
  now := 0
  free := 0
  acts := 0

end Sys2Proof.Machine
end

