-- ==== Sys2Proof/Machine/Ops.lean ====
section
/-! DEFINITION.
The named operations over the state that the families share: bit fields and bytes, memory, access
to the elements, counters, events, and the statuses of commands. -/

namespace Sys2Proof.Machine

/-! ## Outcomes -/

/-- The answer of a command that leads to t: the queue and the model's time are the step's, and no
command changes them. -/
def answer (s t : State) : Host.Outcome State Fault Refusal :=
  .next { t with pending := s.pending, now := s.now }

/-- R541, R542. A rail without which the device is held in reset has lost power-good.
Log 8 (DEDUCED). -/
def State.railHeld (s : State) : Bool :=
  s.pins.lost.any fun r => r == .aon || r == .io || r == .core

/-- R542. A rail of the beds' main domains has lost power-good. -/
def State.bedRails (s : State) : Bool :=
  s.pins.lost.any fun r => r == .afe || r == .ld || r == .serl || r == .serh

/-- R399, R476, R542. Powered, out of reset and not stopped for internal scan: something can happen
in the device. Log 8 (DEDUCED). -/
def State.live (s : State) : Bool :=
  s.pins.powered && !s.pins.perst && !s.pins.scanStop && !s.railHeld && !s.pins.startDue

/-- The answer of a command whose effect f needs a live device; a device held in PERST#, without
supply or stopped for scan takes no effect. Log 8 (DEDUCED). -/
def onLive (s : State) (f : State → State) : Host.Outcome State Fault Refusal :=
  answer s (if s.live then f s else s)

/-! ## Bits and bytes -/

/-- The field of len bits from bit lo. -/
def fld {n : Nat} (w : BitVec n) (lo len : Nat) : Nat := (w.toNat / 2 ^ lo) % 2 ^ len

/-- Bit i. -/
def bit {n : Nat} (w : BitVec n) (i : Nat) : Bool := w.getLsbD i

/-- 1 for true. -/
def b2n (b : Bool) : Nat := if b then 1 else 0

/-- The word with its field of len bits from bit lo replaced by v. -/
def setFld {n : Nat} (w : BitVec n) (lo len v : Nat) : BitVec n :=
  BitVec.ofNat n (w.toNat - fld w lo len * 2 ^ lo + (v % 2 ^ len) * 2 ^ lo)

/-- A word from its fields: pairs of the lowest bit and the value, the values already in range. -/
def packW (fs : List (Nat × Nat)) : Word :=
  BitVec.ofNat 32 (fs.foldl (fun a f => a + f.2 * 2 ^ f.1) 0)

/-- n bytes of v, the least significant first (R7). -/
def leBytes : Nat → Nat → Bytes
  | 0, _ => []
  | n + 1, v => BitVec.ofNat 8 v :: leBytes n (v / 256)

/-- The number of a string of bytes, the least significant first (R7). -/
def leNat : Bytes → Nat
  | [] => 0
  | b :: bs => b.toNat + 256 * leNat bs

/-- Byte i of a string, 0 beyond its end. -/
def byteAt (bs : Bytes) (i : Nat) : Byte := bs.getD i 0

/-- The little-endian number in n bytes from byte i. -/
def leAt (bs : Bytes) (i n : Nat) : Nat := leNat ((bs.drop i).take n)

/-- n bytes of a string from byte i, 0 beyond its end. -/
def slice (bs : Bytes) (i n : Nat) : Bytes :=
  let t := (bs.drop i).take n
  t ++ List.replicate (n - t.length) 0

/-- The string with the bytes xs in place of those from byte i. -/
def splice (bs : Bytes) (i : Nat) (xs : Bytes) : Bytes :=
  bs.take i ++ xs ++ bs.drop (i + xs.length)

/-- n zero bytes. -/
def zeros (n : Nat) : Bytes := List.replicate n 0

/-- All of a list of bytes are zero. -/
def allZero (bs : Bytes) : Bool := bs.all (· == 0)

/-- A list with element i replaced. -/
def upd {α : Type} : List α → Nat → α → List α
  | [], _, _ => []
  | _ :: xs, 0, a => a :: xs
  | x :: xs, i + 1, a => x :: upd xs i a

/-- A saturating 32-bit number. -/
def sat (n : Nat) : Nat := if n > Config.sat32 then Config.sat32 else n

/-- Ticks as microseconds (156.25 tk a microsecond), rounded down. -/
def tkToUs (n : Nat) : Nat := n * 4 / 625

/-! ## Memory -/

/-- What memory m reads as at address a, an unlisted address reading as d. -/
def memRead (d : Byte) (m : Mem) (a : Nat) : Byte :=
  match m with
  | [] => d
  | c :: cs => if c.1 = a then c.2 else memRead d cs a

/-- Memory m with byte v at address a, in canonical form. -/
def memWrite (d : Byte) (m : Mem) (a : Nat) (v : Byte) : Mem :=
  match m with
  | [] => if v = d then [] else [(a, v)]
  | c :: cs =>
    if c.1 < a then c :: memWrite d cs a v
    else if c.1 = a then (if v = d then cs else (a, v) :: cs)
    else if v = d then c :: cs else (a, v) :: c :: cs

/-- Memory m with the bytes bs from address a. -/
def memWriteBytes (d : Byte) (m : Mem) (a : Nat) (bs : Bytes) : Mem :=
  match bs with
  | [] => m
  | b :: rest => memWriteBytes d (memWrite d m a b) (a + 1) rest

/-- n bytes of memory m from address a. -/
def memReadBytes (d : Byte) (m : Mem) (a n : Nat) : Bytes :=
  (List.range n).map fun i => memRead d m (a + i)

/-- Memory m with n bytes from address a reading as unlisted ones. -/
def memErase (m : Mem) (a n : Nat) : Mem :=
  m.filter fun c => decide (c.1 < a) || decide (a + n ≤ c.1)

/-- The canonical form: addresses strictly rising, and no cell equal to the default d. -/
def Memory.wf (d : Byte) : Mem → Bool
  | [] => true
  | [c] => c.2 != d
  | c :: c' :: cs => c.2 != d && decide (c.1 < c'.1) && Memory.wf d (c' :: cs)

/-- R289. The device's write to host memory. Log 5 (DESIGN CHOICE). -/
def State.hostWrite (s : State) (a : Nat) (bs : Bytes) : State :=
  { s with hostMem := memWriteBytes 0 s.hostMem a bs }

/-- R418. A flash byte; erased flash reads as 0xFF. Log 5 (DESIGN CHOICE). -/
def State.flashByte (s : State) (a : Nat) : Byte := memRead 0xFF s.flash.mem a

/-- R418. Flash bytes from an offset. -/
def State.flashBytes (s : State) (a n : Nat) : Bytes := memReadBytes 0xFF s.flash.mem a n

/-- R418. Bytes programmed or written in flash. Log 5 (DESIGN CHOICE). -/
def State.flashWrite (s : State) (a : Nat) (bs : Bytes) : State :=
  { s with flash := { s.flash with mem := memWriteBytes 0xFF s.flash.mem a bs } }

/-- R418. An erase of n bytes of flash. Log 5 (DESIGN CHOICE). -/
def State.flashErase (s : State) (a n : Nat) : State :=
  { s with flash := { s.flash with mem := memErase s.flash.mem a n } }

/-- The MSI-X table of PF1 or of PF0. -/
def State.msixTab (s : State) (pf1 : Bool) : MsixTab := if pf1 then s.pins.msix1 else s.pins.msix0

/-- The state with a function's MSI-X table changed by f. -/
def State.modMsix (s : State) (pf1 : Bool) (f : MsixTab → MsixTab) : State :=
  if pf1 then { s with pins := { s.pins with msix1 := f s.pins.msix1 } }
  else { s with pins := { s.pins with msix0 := f s.pins.msix0 } }

/-- R306. The vector is masked in its function's table. -/
def State.msixMasked (s : State) (pf1 : Bool) (vec : Nat) : Bool :=
  ((s.msixTab pf1).vecs.getD vec {}).mask

/-- R285, R306. A function sends an MSI-X message, holds it while in D3hot, or sets the pending bit of a
masked vector. Log 62 (PRESUMED). -/
def State.message (s : State) (pf1 : Bool) (vec : Nat) : State :=
  if (if pf1 then s.pins.d3pf1 else s.pins.d3pf0) then
    { s with msixHeld := s.msixHeld ++ [(pf1, vec)] }
  else if s.msixMasked pf1 vec then
    s.modMsix pf1 fun t => { t with pend := t.pend ||| BitVec.ofNat 64 (2 ^ vec) }
  else { s with msix := s.msix ++ [(pf1, vec)] }

/-- R284, R306. A write of a dword of a function's MSI-X table; a vector that is unmasked while its message is
pending sends it. Log 62 (PRESUMED). -/
def State.msixWrite (s : State) (pf1 : Bool) (off : Nat) (v : Word) : State :=
  let i := off / 16 % 64
  let e := (s.msixTab pf1).vecs.getD i {}
  let e1 : MsixVec := match off % 16 / 4 with
    | 0 => { e with addr := (e.addr &&& 0xFFFFFFFF00000000) ||| (v &&& 0xFFFFFFFC).setWidth 64 }
    | 1 => { e with addr := (e.addr &&& 0xFFFFFFFF) ||| (v.setWidth 64 <<< 32) }
    | 2 => { e with data := v }
    | _ => { e with mask := v.getLsbD 0 }
  let due := (s.msixTab pf1).pend.getLsbD i && !e1.mask
  let t := s.modMsix pf1 fun m => { m with
    vecs := upd m.vecs i e1, pend := if due then m.pend &&& ~~~BitVec.ofNat 64 (2 ^ i) else m.pend }
  if due then t.message pf1 i else t

/-! ## Elements -/

def State.port (s : State) (p : PortId) : Port := s.ports.get p
def State.bed (s : State) (b : BedId) : Bed := s.beds.get b
def State.lane (s : State) (l : LaneId) : Lane := s.lanes.get l
def State.ring (s : State) (r : RingId) : Ring := s.rings.get r
def State.chan (s : State) (c : ChanId) : Chan := s.chans.get c

/-- The state with port p changed by f; the other elements stay. -/
def State.modPort (s : State) (p : PortId) (f : Port → Port) : State :=
  { s with ports := s.ports.set p.val (f (s.port p)) p.isLt }

/-- The state with bed b changed by f. -/
def State.modBed (s : State) (b : BedId) (f : Bed → Bed) : State :=
  { s with beds := s.beds.set b.val (f (s.bed b)) b.isLt }

/-- The state with lane l changed by f. -/
def State.modLane (s : State) (l : LaneId) (f : Lane → Lane) : State :=
  { s with lanes := s.lanes.set l.val (f (s.lane l)) l.isLt }

/-- The state with ring r changed by f. -/
def State.modRing (s : State) (r : RingId) (f : Ring → Ring) : State :=
  { s with rings := s.rings.set r.val (f (s.ring r)) r.isLt }

/-- The state with channel c changed by f. -/
def State.modChan (s : State) (c : ChanId) (f : Chan → Chan) : State :=
  { s with chans := s.chans.set c.val (f (s.chan c)) c.isLt }

/-- R6. The bed of a port. -/
def bedOf (p : PortId) : BedId := ⟨p.val / 16, by omega⟩

/-- R15. The bed of a host lane. -/
def bedOfLane (l : LaneId) : BedId := ⟨l.val / 32, by omega⟩

/-- R6. Port i of a bed. -/
def portOf (b : BedId) (i : Fin 16) : PortId := ⟨16 * b.val + i.val, by omega⟩

/-- R15. Lane i of a bed. -/
def laneOf (b : BedId) (i : Fin 32) : LaneId := ⟨32 * b.val + i.val, by omega⟩

def allPorts : List PortId := List.finRange 128
def allBeds : List BedId := List.finRange 8
def allLanes : List LaneId := List.finRange 256
def allRings : List RingId := List.finRange 64
def allChans : List ChanId := List.finRange 16
def allPairs : List Pair := List.finRange 4

/-- R6. The ports of a bed, ascending. -/
def portsOf (b : BedId) : List PortId := (List.finRange 16).map (portOf b)

/-- R15. The lanes of a bed, ascending. -/
def lanesOf (b : BedId) : List LaneId := (List.finRange 32).map (laneOf b)

/-- The state after f on each element of a list in turn. -/
def forAll {α : Type} (xs : List α) (f : α → State → State) (s : State) : State :=
  xs.foldl (fun t x => f x t) s

/-- The record updates of a port's parts. -/
def State.modLink (s : State) (p : PortId) (f : Link → Link) : State :=
  s.modPort p fun q => { q with link := f q.link }
def State.modTrain (s : State) (p : PortId) (f : Train → Train) : State :=
  s.modPort p fun q => { q with train := f q.train }
def State.modLine (s : State) (p : PortId) (f : Line → Line) : State :=
  s.modPort p fun q => { q with line := f q.line }
def State.modStill (s : State) (p : PortId) (f : Still → Still) : State :=
  s.modPort p fun q => { q with still := f q.still }
def State.modDorm (s : State) (p : PortId) (f : Dorm → Dorm) : State :=
  s.modPort p fun q => { q with dorm := f q.dorm }
def State.modHost (s : State) (p : PortId) (f : HostSide → HostSide) : State :=
  s.modPort p fun q => { q with host := f q.host }
def State.modSpring (s : State) (p : PortId) (f : Spring → Spring) : State :=
  s.modPort p fun q => { q with spring := f q.spring }
def State.modCfg (s : State) (p : PortId) (f : PortCfg → PortCfg) : State :=
  s.modPort p fun q => { q with cfg := f q.cfg }
def State.modPow (s : State) (b : BedId) (f : BedPower → BedPower) : State :=
  s.modBed b fun d => { d with pow := f d.pow }

/-- R28. The state of a port. -/
def State.pst (s : State) (p : PortId) : PState := (s.port p).link.state

/-- R435. A bed's main domain is on. -/
def State.bedOn (s : State) (b : BedId) : Bool := (s.bed b).pow.on

/-- R401. The state of a port, or the one to which it returns at the end of its reset. -/
def Port.settles (q : Port) : PState := if q.inReset then q.resume else q.link.state

/-- R25, R401. The port is DISABLED or DORMANT, and stays so. -/
def Port.atRest (q : Port) : Bool := q.settles == .disabled || q.settles == .dormant

/-- R25, R233. Every port of the bed is DISABLED or DORMANT, and none awaits its turn for a cable test. -/
def State.bedIdle (s : State) (b : BedId) : Bool :=
  (portsOf b).all fun p => (s.port p).atRest && (s.port p).diag.isNone

/-- R436. The bed's Tender has answered ACK to a request to switch its bed off, and starts no new work. -/
def State.tenderReady (s : State) (b : BedId) : Bool :=
  s.sluice.reqs.any fun r => r.doms.contains (.bed b) &&
    !(r.asked ++ r.delayed).contains (BitVec.ofNat 8 (0x10 + b.val))

/-- R316, R434. A calibration or self-test run holds the bed. -/
def State.bedTest (s : State) (b : BedId) : Bool :=
  (s.bed b).cal.isSome || (s.bed b).bist.isSome

/-- A rung of the Caerhorn line code (R31). -/
def isCh (r : Rung) : Bool := r == 8 || r == 9

/-! ## Free values -/

/-- A byte that the manual leaves open, at position i of the next free value. -/
def State.freeAt (s : State) (i : Nat) : Byte := Config.freeByte s.free i

/-- The free value has been taken. Log 4 (DESIGN CHOICE). -/
def State.takeFree (s : State) : State := { s with free := s.free + 1 }

/-! ## Counters -/

/-- What counter i of a bank was incremented by in the tick in progress. -/
def Bank.incOf (b : Bank) (i : Nat) : Nat :=
  (b.incs.filter (fun x => x.1 == i)).foldl (fun a x => a + x.2) 0

/-- A bank whose lists belong to the tick t. -/
def Bank.at (b : Bank) (t : Nat) : Bank :=
  if b.time = t then b else { b with time := t, incs := [], wrote := [] }

/-- R480, R488. Counter i plus n, modulo 2^48; passing the top sets the overflow bit, but not in a
tick in which the counter was written. -/
def Bank.add (b0 : Bank) (t i n : Nat) : Bank :=
  let b := b0.at t
  match b.vals[i]? with
  | none => b0
  | some c =>
    let v := c.val.toNat + n
    let ovf := c.ovf || (decide (2 ^ 48 ≤ v) && !b.wrote.contains i)
    { b with vals := upd b.vals i { val := BitVec.ofNat 48 v, ovf := ovf },
             incs := b.incs ++ [(i, n)] }

/-- R488. Counter i takes v, to which the tick's increments are then added; the overflow bit
clears. -/
def Bank.write (b0 : Bank) (t i : Nat) (v : BitVec 48) : Bank :=
  let b := b0.at t
  { b with vals := upd b.vals i { val := v + BitVec.ofNat 48 (b.incOf i), ovf := false },
           wrote := i :: b.wrote }

/-- Counter i of a bank. -/
def Bank.get (b : Bank) (i : Nat) : Counter := b.vals.getD i {}

/-- R487. Port counter i counts n more. -/
def State.count (s : State) (p : PortId) (i n : Nat) : State :=
  s.modPort p fun q => { q with cnt := q.cnt.add s.now i n }

/-- R487. Bed counter i counts n more. -/
def State.countBed (s : State) (b : BedId) (i n : Nat) : State :=
  s.modBed b fun d => { d with cnt := d.cnt.add s.now i n }

/-- R487. Lane counter i counts n more. -/
def State.countLane (s : State) (l : LaneId) (i n : Nat) : State :=
  s.modLane l fun d => { d with cnt := d.cnt.add s.now i n }

/-! ## Events -/

/-- The order of R409: tick, class, source, code. Log 14 (DEDUCED). -/
def Event.before (a b : Event) : Bool :=
  if a.time = b.time then
    if a.code.cls = b.code.cls then
      if a.src.code = b.src.code then decide (a.code.code < b.code.code)
      else decide (a.src.code < b.src.code)
    else decide (a.code.cls < b.code.cls)
  else decide (a.time < b.time)

/-- A list of events in order with e put in its place, after those it does not precede.
Log 14 (DEDUCED). -/
def insertEv (e : Event) : List Event → List Event
  | [] => [e]
  | x :: xs => if e.before x then e :: x :: xs else x :: insertEv e xs

/-- The DATA of an event (R344): (entry byte, number of bytes, value), the value cut to its bytes. -/
def evData (fs : List (Nat × Nat × Nat)) : BitVec 128 :=
  BitVec.ofNat 128
    (fs.foldl (fun a f => a + (f.2.2 % 2 ^ (8 * f.2.1)) * 2 ^ (8 * (f.1 - 16))) 0)

/-- R301, R409. An event of this tick becomes due. Log 14 (DEDUCED). -/
def State.raise (s : State) (c : Ev) (src : Elem) (fs : List (Nat × Nat × Nat)) : State :=
  { s with due := insertEv { tick := s.clk.tick, time := s.now, code := c, src := src,
                             data := evData fs } s.due }

/-- R409. An event of this tick that an event of higher precedence has made impossible is not
raised. -/
def State.unraise (s : State) (keep : Event → Bool) : State :=
  { s with due := s.due.filter fun e => decide (e.time ≠ s.now) || keep e }

/-- R389, R404. The tick counter counts: the loop has locked since power-on or PERST#. -/
def State.ticking (s : State) : Bool := s.clk.armed || s.clk.coast

/-- R408. The effect of a command's action or of a register write belongs to the tick after it:
what f stamps carries that tick. Log 9 (DEDUCED). -/
def inNextTick (f : State → State) (s : State) : State :=
  let n := if s.ticking then 1 else 0
  let t := f { s with now := s.now + 1, clk := { s.clk with tick := s.clk.tick + n } }
  { t with now := s.now, clk := { t.clk with tick := t.clk.tick - n } }

/-! ## Commands in progress -/

/-- The record has key k. Log 10 (DESIGN CHOICE). -/
def CmdRec.is (r : CmdRec) (k : CmdKey) : Bool :=
  r.hdr.ring == k.ring && r.hdr.cid == k.cid && r.serial == k.serial

/-- The key of a record. -/
def CmdRec.key (r : CmdRec) : CmdKey :=
  { ring := r.hdr.ring, cid := r.hdr.cid, serial := r.serial }

/-- R298. Every target of the record has its status. -/
def CmdRec.allDone (r : CmdRec) : Bool := r.targets.all fun t => t.status.isSome

/-- R298. The record after targets finish at a model's time and tick: the latest finish gives TICK
once every target has its status. Log 9 (DEDUCED). -/
def CmdRec.stamp (r : CmdRec) (now : Nat) (tick : Tick) : CmdRec :=
  let r' := { r with last := if r.last.1 ≤ now then (now, tick) else r.last }
  if r'.allDone then { r' with doneTick := some r'.last.2 } else r'

/-- Target e of a record has no status yet. -/
def CmdRec.awaits (r : CmdRec) (e : Elem) : Bool :=
  r.acted && r.doneTick.isNone &&
    r.targets.any (fun (t : CmdTgt) => t.elem == e && t.status.isNone)

/-- Target e of the command of key k has no status yet. -/
def State.stillWaits (s : State) (k : CmdKey) (e : Elem) : Bool :=
  s.cmds.any fun r => r.is k && r.awaits e

/-- R298. A record's target e takes its status unless it has one. -/
def CmdRec.finish (r : CmdRec) (e : Elem) (st : ST) (now : Nat) (tick : Tick) : CmdRec :=
  if r.awaits e then
    let ts := r.targets.map fun t =>
      if t.elem == e && t.status.isNone then { t with status := some st, doneAt := some now } else t
    CmdRec.stamp { r with targets := ts } now tick
  else r

/-- R298. Target e of the commands that satisfy q takes its status. -/
def State.finishWhere (s : State) (q : CmdRec → Bool) (e : Elem) (st : ST) : State :=
  { s with cmds := s.cmds.map fun r => if q r then r.finish e st s.now s.clk.tick else r }

/-- R298. Target e of the command of key k takes its status. -/
def State.finish (s : State) (k : CmdKey) (e : Elem) (st : ST) : State :=
  s.finishWhere (fun r => r.is k && r.doneTick.isNone) e st

/-- R298. Target e of every command in progress with opcode o takes its status. -/
def State.finishOp (s : State) (o : Op) (e : Elem) (st : ST) : State :=
  s.finishWhere (fun r => r.op == o && r.doneTick.isNone) e st

/-- A command with opcode o has target e without a status. -/
def State.waiting (s : State) (o : Op) (e : Elem) : Bool :=
  s.cmds.any fun r => r.op == o && r.acted &&
    r.targets.any fun t => t.elem == e && t.status.isNone

/-- The command that waits for element e under opcode o, in order of start. -/
def State.waiter (s : State) (o : Op) (e : Elem) : Option CmdKey :=
  (s.cmds.find? fun r => r.op == o && r.acted &&
    r.targets.any fun t => t.elem == e && t.status.isNone).map
    CmdRec.key

/-- The CID of a key, 0 for none. -/
def cidOf (k : Option CmdKey) : Nat :=
  match k with
  | some k => k.cid.toNat
  | none => 0

/-- R309. A target that satisfies q and has finished in the reset's own tick ends ST_ABORTED_RESET all the
same: the reset precedes. -/
def CmdRec.overtaken (r : CmdRec) (q : Elem → Bool) (now : Nat) : CmdRec :=
  let late (t : CmdTgt) : CmdTgt :=
    if q t.elem && t.doneAt == some now then { t with status := some .abortedReset } else t
  { r with targets := r.targets.map late }

/-- R308, R309. Every target that satisfies q and has no status, or has it from this tick, ends
ST_ABORTED_RESET; a CMD_RESET runs on to the end of the reset (R320, R403). -/
def State.abortTargets (s : State) (q : Elem → Bool) : State :=
  { s with cmds := s.cmds.map fun r =>
      if r.op == .reset then r
      else r.targets.foldl (fun a t =>
        if q t.elem then a.finish t.elem .abortedReset s.now s.clk.tick else a) (r.overtaken q s.now) }

end Sys2Proof.Machine
end

