-- ==== Sys2Proof/Machine/Codes.lean ====
section
/-! DEFINITION.
Checks and sequences that several families use: the CRC-32 of R106, the CRC-16 of R92, the
recurrences of R71, R490 and R564, and SHAKE256 (R457, R505; FIPS 202). -/

namespace Sys2Proof.Machine

/-! ## Bit strings -/

/-- Bits lo to lo + n − 1 of a word, the lowest first. -/
def bitsOf {w : Nat} (x : BitVec w) (lo n : Nat) : List Bool :=
  (List.range n).map fun i => x.getLsbD (lo + i)

/-- The number whose bit i is element i. -/
def natOfBits : List Bool → Nat
  | [] => 0
  | b :: bs => b2n b + 2 * natOfBits bs

/-- The bits of a string of bytes, byte 0 first and each byte least significant bit first. -/
def bitsOfBytes (bs : Bytes) : List Bool := bs.flatMap fun b => bitsOf b 0 8

/-- The bytes of a string of bits, eight to a byte, the first the least significant. -/
def bytesOfBits : Nat → List Bool → Bytes
  | 0, _ => []
  | n + 1, bs => BitVec.ofNat 8 (natOfBits (bs.take 8)) :: bytesOfBits n (bs.drop 8)

/-! ## Cyclic checks -/

/-- One bit into a CRC register of w bits with polynomial p, most significant bit first. -/
def crcStep {w : Nat} (p : BitVec w) (crc : BitVec w) (b : Bool) : BitVec w :=
  if crc.msb.xor b then (crc <<< 1) ^^^ p else crc <<< 1

/-- The bits of a register, the highest first. -/
def msbFirst {w : Nat} (x : BitVec w) : List Bool := (bitsOf x 0 w).reverse

/-- R106. The 32 check bits in the order in which they are appended, x^31 first. Log 60 (PRESUMED). -/
def crc32 (bs : List Bool) : List Bool :=
  msbFirst (~~~(bs.foldl (crcStep (0x04C11DB7 : BitVec 32)) (BitVec.allOnes 32)))

/-- R92. The 16 check bits in the order in which they are appended, x^15 first. Log 60 (PRESUMED). -/
def crc16 (bs : List Bool) : List Bool :=
  msbFirst (bs.foldl (crcStep (0x1021 : BitVec 16)) (BitVec.allOnes 16))

/-- R106 over bytes, as the four bytes that are appended. Log 26 (DEDUCED). -/
def crc32Bytes (bs : Bytes) : Bytes := bytesOfBits 4 (crc32 (bitsOfBytes bs))

/-- The record's last four bytes are the check over the rest. -/
def crc32Ok (bs : Bytes) : Bool :=
  let n := bs.length - 4
  bs.drop n == crc32Bytes (bs.take n)

/-! ## Recurrences -/

/-- One output of the recurrence with the given delays: bit k of the state is the output of k + 1
values ago. The new output is shifted in at bit 0. Log 26 (DEDUCED). -/
def lfsrStep {w : Nat} (delays : List Nat) (st : BitVec w) : Bool × BitVec w :=
  let z := delays.foldl (fun a d => a.xor (st.getLsbD (d - 1))) false
  (z, (st <<< 1) ||| BitVec.ofNat w (b2n z))

/-- n outputs, the first first, and the state after them. Log 26 (DEDUCED). -/
def lfsrRun {w : Nat} (delays : List Nat) : Nat → BitVec w → List Bool × BitVec w
  | 0, st => ([], st)
  | n + 1, st =>
    let (z, st1) := lfsrStep delays st
    let (zs, st2) := lfsrRun delays n st1
    (z :: zs, st2)

/-- R71. The delays of the sender's direction. -/
def dirDelays (head : Bool) : List Nat := if head then [39, 58] else [19, 58]

/-- R490, R564. The delays of x^32 + x^22 + x^2 + x + 1. -/
def bedDelays : List Nat := [1, 2, 22, 32]

/-- R564. A draw of four outputs, repeated while it is 0, at most n times. -/
def roleDraw : Nat → BitVec 32 → Nat × BitVec 32
  | 0, st => (1, st)
  | n + 1, st =>
    let (zs, st1) := lfsrRun bedDelays 4 st
    let v := natOfBits zs
    if v = 0 then roleDraw n st1 else (v, st1)

/-- R490. A draw of K + 1 outputs; 0 is taken as 1. -/
def sampDraw (k : Nat) (st : BitVec 32) : Nat × BitVec 32 :=
  let (zs, st1) := lfsrRun bedDelays (k + 1) st
  let v := natOfBits zs
  (if v = 0 then 1 else v, st1)

/-! ## SHAKE256 -/

/-- The next state of the byte register whose bit 0 gives the bits of the round constants: x^8 + x^6 + x^5 +
x^4 + 1. -/
def rcNext (r : Byte) : Byte := (r <<< 1) ^^^ (if r.msb then 0x71 else 0)

/-- The bits of n constants, seven a round, and the register after them: bit 2^j − 1 of a constant is the
j-th of its seven. -/
def roundConsts : Nat → Byte → List (BitVec 64)
  | 0, _ => []
  | n + 1, r =>
    let run := (List.range 7).foldl (fun (c : Nat × Byte) j =>
      (if bit c.2 0 then c.1 + 2 ^ (2 ^ j - 1) else c.1, rcNext c.2)) (0, r)
    BitVec.ofNat 64 run.1 :: roundConsts n run.2

/-- The walk of the lanes: from a lane (x, y), as x + 5y, to the lane (y, 2x + 3y) into which a round moves
it. -/
def laneWalk (i : Nat) : Nat := i / 5 + 5 * ((2 * (i % 5) + 3 * (i / 5)) % 5)

/-- The first n moves of a round from lane i on, the t-th of the walk: where a lane comes from, where it
goes, and by how much it is rotated. -/
def laneMoves : Nat → Nat → Nat → List (Nat × Nat × Nat)
  | 0, _, _ => []
  | n + 1, t, i => (i, laneWalk i, (t + 1) * (t + 2) / 2 % 64) :: laneMoves n (t + 1) (laneWalk i)

/-- Lane i of a Keccak state. -/
def kLane (a : List (BitVec 64)) (i : Nat) : BitVec 64 := a.getD i 0

/-- A Keccak state made lane by lane. -/
def kState (f : Nat → BitVec 64) : List (BitVec 64) := (List.range 25).map f

/-- The parity of column x. -/
def kColumn (a : List (BitVec 64)) (x : Nat) : BitVec 64 :=
  (List.range 5).foldl (fun s y => s ^^^ kLane a (x % 5 + 5 * y)) 0

/-- The first step of a round: every lane takes the parities of the columns beside it. -/
def kMix (a : List (BitVec 64)) : List (BitVec 64) :=
  let par := (List.range 5).map (kColumn a)
  kState fun i => kLane a i ^^^ kLane par ((i + 4) % 5) ^^^ (kLane par ((i + 1) % 5)).rotateLeft 1

/-- The lanes moved and rotated; lane 0 stays. -/
def kMove (a : List (BitVec 64)) : List (BitVec 64) :=
  (laneMoves 24 0 1).foldl (fun b m => upd b m.2.1 ((kLane a m.1).rotateLeft m.2.2)) a

/-- The last steps of a round: the only non-linear one, along a row, and the constant in lane 0. -/
def kRow (rc : BitVec 64) (a : List (BitVec 64)) : List (BitVec 64) :=
  kState fun i =>
    let at5 (k : Nat) : BitVec 64 := kLane a ((i + k) % 5 + 5 * (i / 5))
    at5 0 ^^^ (at5 2 &&& ~~~at5 1) ^^^ (if i = 0 then rc else 0)

/-- Keccak-f[1600]. -/
def keccakF (a : List (BitVec 64)) : List (BitVec 64) :=
  (roundConsts 24 1).foldl (fun b rc => kRow rc (kMove (kMix b))) a

/-- The state with one 136-byte block added. -/
def absorb (a : List (BitVec 64)) (blk : Bytes) : List (BitVec 64) :=
  (List.range 25).map fun i =>
    if i < 17 then kLane a i ^^^ BitVec.ofNat 64 (leAt blk (8 * i) 8) else kLane a i

/-- The blocks of a padded message absorbed in turn. -/
def absorbAll : Nat → List (BitVec 64) → Bytes → List (BitVec 64)
  | 0, a, _ => a
  | n + 1, a, bs => absorbAll n (keccakF (absorb a (bs.take 136))) (bs.drop 136)

/-- n blocks of 136 output bytes. -/
def squeeze : Nat → List (BitVec 64) → Bytes
  | 0, _ => []
  | n + 1, a => (a.take 17).flatMap (fun l => leBytes 8 l.toNat) ++ squeeze n (keccakF a)

/-- The first n output bytes of SHAKE256 over a message (FIPS 202). Log 60 (PRESUMED). -/
def shake256 (msg : Bytes) (n : Nat) : Bytes :=
  let q := 136 - msg.length % 136
  let pad := if q = 1 then [0x9F] else (0x1F : Byte) :: (zeros (q - 2) ++ [0x80])
  let m := msg ++ pad
  (squeeze (n / 136 + 1) (absorbAll (m.length / 136) (List.replicate 25 0) m)).take n

/-- R473, R478. The loader rejects a fuse row: bits 30 to 0 are of odd parity, or its instance does not
exist. Log 69 (DESIGN CHOICE). -/
def fuseRejected (w : BitVec 32) : Bool :=
  (bitsOf w 0 31).foldl Bool.xor false || !Config.memInstance (w.extractLsb' 0 12)

end Sys2Proof.Machine
end

