-- ==== Sys2Proof/Machine/Operands.lean ====
section
/-! DEFINITION.
What the fields of control registers, of descriptors and of the frames' operands mean: the readings
that every family shares. -/

namespace Sys2Proof.Machine

/-! ## PORT.LINKCTL (R62) -/

/-- RUNG; 10–15 act as 0. -/
def lcRung (w : Word) : Rung := let r := fld w 0 4; if r ≤ 9 then BitVec.ofNat 4 r else 0
/-- ADV, bit n − 1 for rung n. -/
def lcAdv (w : Word) : BitVec 9 := BitVec.ofNat 9 (fld w 4 9)
def lcDshift (w : Word) : Bool := bit w 13
def lcPspare (w : Word) : Bool := bit w 14
def lcSpring (w : Word) : Bool := bit w 15
/-- ROLE; 3 acts as AUTO. -/
def lcRole (w : Word) : RoleSel :=
  let r := fld w 16 2
  if r = 1 then .head else if r = 2 then .tail else .auto

/-- MDIX; 3 acts as 0. -/
def lcMdix (w : Word) : BitVec 2 := let m := fld w 18 2; if m = 3 then 0 else BitVec.ofNat 2 m
def lcPause (w : Word) : Bool := bit w 28
def lcAsmDir (w : Word) : Bool := bit w 29

/-! ## PORT.TRAINCTL (R132) -/

def tcFast (w : Word) : Bool := bit w 0
def tcWarm (w : Word) : Bool := bit w 1
def tcMinMargin (w : Word) : BitVec 5 := BitVec.ofNat 5 (fld w 2 5)
def tcDrop (w : Word) : Nat := fld w 7 5
def tcFreeze (w : Word) : Bool := bit w 12

/-! ## PORT.DECCTL (R159) -/

def dcProfile (w : Word) : BitVec 2 := BitVec.ofNat 2 (fld w 0 2)
def dcDegMargin (w : Word) : Nat := fld w 2 5
def dcDegUnc (w : Word) : Nat := fld w 7 8
/-- CLEAR_EPOCHS; 0 acts as 1. -/
def dcClear (w : Word) : Nat := max 1 (fld w 15 4)
def dcDownUnc (w : Word) : Nat := fld w 19 5
def dcErrMark (w : Word) : Bool := bit w 24

/-! ## PORT.STILLCTL (R181) -/

def scStill (w : Word) : Bool := bit w 0
def scEee (w : Word) : Bool := bit w 1
def scFollow (w : Word) : Bool := bit w 10
def scWakeSpring (w : Word) : Bool := bit w 11

/-! ## PORT.SPRINGCTL (R230) -/

def spThresh (w : Word) : Nat := fld w 0 8
def spS2Only (w : Word) : Bool := bit w 8
def spS4Rssi (w : Word) : Nat := fld w 9 8
def spUser (w : Word) : Bool := bit w 17

/-! ## PORT.FPCTL (R254) -/

def fcAuto (w : Word) : Bool := bit w 0
def fcDtemp (w : Word) : Nat := fld w 1 7
def fcAge (w : Word) : Nat := fld w 8 8
def fcLoaded (w : Word) : Bool := bit w 16

/-! ## Host modes and lanes (R256–R278) -/

/-- R276, R277. The host mode bound to a rung; 0 = not configured. -/
def hostMode (c : PortCfg) (r : Rung) : HostMode :=
  let n := r.toNat
  if 1 ≤ n ∧ n ≤ 8 then BitVec.ofNat 4 (fld c.hostmap0 (4 * (n - 1)) 4)
  else if n = 9 then BitVec.ofNat 4 (fld c.hostmap1 0 4) else 0

/-- R256. Lanes of a mode. -/
def modeLanes (m : HostMode) : Nat :=
  if m = 0 then 0 else if m = 10 then 4 else if m = 12 then 2 else if m.toNat ≤ 11 then 1 else 0

/-- R256. Ports that share a lane in a mode. -/
def modePorts (m : HostMode) : Nat :=
  if m = 4 ∨ m = 6 then 4 else if m = 7 then 2 else 1

/-- R256, R259, R413. Family of a mode: 0 = none, 1 = A, 2 = B, 3 = C. -/
def modeFam (m : HostMode) : Nat :=
  let n := m.toNat
  if n = 0 then 0 else if n ≤ 4 then 3 else if n ≤ 10 then 2 else if n ≤ 12 then 1 else 0

/-- R278. The bed-local lane of logical lane i, where it is valid. -/
def mapLane (w : Word) (i : Nat) : Option (Fin 32) :=
  if bit w (6 * i + 5) then some (Fin.ofNat 32 (fld w (6 * i) 5)) else none

/-- R278. SUBPORT. -/
def mapSub (w : Word) : Nat := fld w 24 2

/-- R263. The logical lanes that a mode needs are valid. -/
def lanesOk (w : Word) (m : HostMode) : Bool :=
  (List.range (modeLanes m)).all fun i => bit w (6 * i + 5)

/-- R34, R264. The rung's host side is configured and has its lanes. -/
def rungHosted (c : PortCfg) (r : Rung) : Bool :=
  let m := hostMode c r
  m != 0 && lanesOk c.lanemap m

/-- R63, R271. The physical lanes of a port's mode, L0 first. -/
def portLanes (p : PortId) (c : PortCfg) (m : HostMode) : List LaneId :=
  (List.range (modeLanes m)).filterMap fun i =>
    (mapLane c.lanemap i).map (laneOf (bedOf p))

/-- The rungs 1 to 9, the highest first. -/
def rungsDown : List Rung := [9, 8, 7, 6, 5, 4, 3, 2, 1]

/-- Bit of a rung in ADV, REMOVED and RUNGS. -/
def rungBit (r : Rung) : Nat := r.toNat - 1

/-- A set of rungs as R46 forms it from RUNG, ADV, REMOVED and the host side. -/
def candidatesOf (c : PortCfg) (rung : Rung) (adv removed : BitVec 9) : BitVec 9 :=
  let ok (r : Rung) : Bool :=
    rungHosted c r &&
      (if rung = 0 then adv.getLsbD (rungBit r) && !removed.getLsbD (rungBit r) else r == rung)
  BitVec.ofNat 9 ((rungsDown.filter ok).foldl (fun a r => a + 2 ^ rungBit r) 0)

/-- The highest rung of a set, 0 for the empty set. -/
def highest (set : BitVec 9) : Rung :=
  (rungsDown.find? fun r => set.getLsbD (rungBit r)).getD 0

/-- R46. The candidate set of a port in LISTENING, from the values sampled at its entry. -/
def candidates (q : Port) : BitVec 9 := q.link.sCand

/-- R563. The candidate set as the registers now stand. -/
def candidatesNow (q : Port) : BitVec 9 :=
  candidatesOf q.cfg (lcRung q.cfg.linkctl) (lcAdv q.cfg.linkctl) q.link.removed

/-- R261. The resting mode of a set of rungs. -/
def restMode (c : PortCfg) (set : BitVec 9) : HostMode := hostMode c (highest set)

/-- R43, R100, R102. The Spring handshake is in progress: HANDSHAKE, the first phase of a training.
Log 47 (DEDUCED). -/
def Port.inHandshake (q : Port) : Bool :=
  q.link.state == .listening && q.link.heardAt.isSome && !q.link.c28 && !q.spring.hsDone &&
    (q.spring.sstate == .joining || q.spring.sstate == .partnered)

/-! ## Clause 28 (R33, R37, R48, R60, R173) -/

/-- The standard rungs of a set. -/
def stdRungs (set : BitVec 9) : BitVec 9 := set &&& 0x7F

/-- R173. The host modes that carry LPI. -/
def modeLpi (m : HostMode) : Bool :=
  [1, 2, 3, 5, 6, 7, 8, 9, 10].contains m.toNat

/-- R173. The standard rungs of a port for which it advertises EEE. -/
def eeeRungs (q : Port) : BitVec 9 :=
  BitVec.ofNat 9 ((rungsDown.filter fun r =>
    (stdRungs (candidates q)).getLsbD (rungBit r) && modeLpi (hostMode q.cfg r)).foldl
      (fun a r => a + 2 ^ rungBit r) 0)

/-- R33, R37, R48, R60, R173. The pages that a port's Clause 28 sends, and the configuration it asks for:
A3 alone of A0 to A4, and PAUSE and ASM_DIR in A5 and A6. -/
def Port.c28Form (q : Port) : C28Adv :=
  let std := stdRungs (candidates q)
  let multi : BitVec 5 := std.extractLsb' 2 5
  { base := BitVec.ofNat 7 (8 * b2n (std.getLsbD 0) + 32 * b2n (lcPause q.cfg.linkctl) +
      64 * b2n (lcAsmDir q.cfg.linkctl)),
    gigabit := std.getLsbD 1, multi := multi, fastRt := multi != 0,
    eee := if q.link.sEee then some (eeeRungs q) else none,
    manual := match q.link.sRole with | .head => some true | .tail => some false | .auto => none,
    mdix := lcMdix q.cfg.linkctl }

/-! ## Loopbacks that keep the line (R275) -/

/-- R275. The state as the line sees it: a port in a loopback entered from UP stays in data mode. -/
def Port.ls (q : Port) : PState :=
  if q.link.state = .test then
    match q.loop with
    | some l => if l.prior = .up then .up else .test
    | none => .test
  else q.link.state

/-! ## Identities -/

/-- R216, R355. The PHY_ID of a port. -/
def phyId (p : PortId) : BitVec 64 :=
  BitVec.ofNat 64 (Config.serial.toNat * 256 + p.val)

/-- The first 64 bits of a digest as a number (R248). -/
def digest64 (d : Bytes) : BitVec 64 := BitVec.ofNat 64 (leAt d 0 8)

/-! ## Pair and row-group arithmetic -/

/-- The pairs in use: all four, or the three that remain (R54). -/
def activePairs (spared : Bool) (bad : Pair) : List Pair :=
  allPairs.filter fun i => !spared || i != bad

/-- The mask of a list of pairs. -/
def pairMask (ps : List Pair) : BitVec 4 :=
  BitVec.ofNat 4 (ps.foldl (fun a i => a + 2 ^ i.val) 0)

/-- R64. Two bits of a receive map for a local pair. -/
def mapOf (rxmap : Byte) (i : Pair) : Pair := Fin.ofNat 4 (fld rxmap (2 * i.val) 2)

/-- The local pair that receives the partner's pair j, where one does. -/
def localOf (rxmap : Byte) (j : Pair) : Option Pair := allPairs.find? fun i => mapOf rxmap i == j

/-- R60, R61, R88. The pairs in use on the link, or on the one being trained; 100BASE-TX uses A and B.
Log 74 (DEDUCED). -/
def Port.pairs (q : Port) : List Pair :=
  if (if q.link.state = .training then q.train.rung else q.link.rung) = 1 then [0, 1]
  else activePairs q.link.spared q.link.sparedPair

/-- The least of a list of margins, 31 for none. -/
def minMargin (ms : List (BitVec 5)) : BitVec 5 :=
  ms.foldl (fun a m => if m.toNat < a.toNat then m else a) 31

/-- The margins of the pairs in use. -/
def activeMargins (ps : List Pair) (ms : List (BitVec 5)) : List (BitVec 5) :=
  ps.map fun i => ms.getD i.val 0

/-! ## SNR and margin (R149, R150) -/

/-- R149. The mean energy per dimension to which the errors are related: 165 for Lily-512; a clause's
constellation is normalised to its own. -/
def snrEnergy (ch : Bool) : Nat := if ch then 165 else 1

/-- R149, R161. 10 log₁₀(energy / MSE) in 0.25 dB units, rounded down and held within a byte: the number
of steps i from 1 on with energy / MSE ≥ 10^(i/40). Log 74 (DEDUCED). -/
def snrOf (ch : Bool) (e : ErrSum) : Byte :=
  let want := (65536 * snrEnergy ch * e.count) ^ 40
  let got := e.sum ^ 40
  BitVec.ofNat 8 ((List.range 255).filter fun i => decide (got * 10 ^ (i + 1) ≤ want)).length

/-- R150. The threshold of a rung and profile, in 0.25 dB units. -/
def snrThreshold (r : Rung) (deep : Bool) : Nat :=
  if isCh r then (if deep then 104 else 110)
  else if r = 2 then 70 else if r = 1 then 48 else 92

/-- R150. A margin in 0.5 dB units, rounded down and held within five bits. -/
def marginOf (snr : Byte) (thr : Nat) : BitVec 5 := BitVec.ofNat 5 (min 31 ((snr.toNat - thr) / 2))

/-- R150. The margins of four pairs. -/
def marginsOf (r : Rung) (deep : Bool) (snr : List Byte) : List (BitVec 5) :=
  allPairs.map fun i => marginOf (snr.getD i.val 0) (snrThreshold r deep)

end Sys2Proof.Machine
end

