-- ==== Sys2Proof/Machine/Fingerprint.lean ====
section
/-! DEFINITION.
Fingerprints (R247–R253, R565): their bytes, their digests, the checks that make one usable, and
what changes a slot. -/

namespace Sys2Proof.Machine

/-- R248. The digest of a fingerprint's link block. -/
def fpDigest (f : Bytes) : Bytes := shake256 (f.take 32) 32

/-- R247. CHECK verifies. -/
def fpCheckOk (f : Bytes) : Bool := f.length == 2048 && f.drop 2016 == shake256 (f.take 2016) 32

/-- R249. A slot's content with CHECK recomputed. -/
def fpSeal (f : Bytes) : Bytes := f.take 2016 ++ shake256 (f.take 2016) 32

def fpRung (f : Bytes) : Rung := BitVec.ofNat 4 (byteAt f 1).toNat
def fpHead (f : Bytes) : BitVec 64 := BitVec.ofNat 64 (leAt f 4 8)
def fpTail (f : Bytes) : BitVec 64 := BitVec.ofNat 64 (leAt f 12 8)
def fpByTail (f : Bytes) : Bool := bit (byteAt f 32) 0
def fpConfirmed (f : Bytes) : Bool := bit (byteAt f 33) 0
def fpSource (f : Bytes) : Bool := bit (byteAt f 33) 1
def fpTemp (f : Bytes) : Int := (byteAt f 36).toInt
def fpUptime (f : Bytes) : Nat := leAt f 40 4
def fpSeq (f : Bytes) : Nat := leAt f 44 4
def fpRxmap (f : Bytes) : Byte := byteAt f 56
def fpPolinv (f : Bytes) : BitVec 4 := BitVec.ofNat 4 (byteAt f 57).toNat

/-- R247. The stored precoder coefficients, 192 words. -/
def fpCoef (f : Bytes) : List (BitVec 16) :=
  (List.range 192).map fun i => BitVec.ofNat 16 (leAt f (1376 + 2 * i) 2)

/-- R249. A slot with CONFIRMED set or cleared and CHECK recomputed. -/
def fpSetConfirmed (v : Bool) (f : Bytes) : Bytes :=
  fpSeal (splice f 33 [setFld (byteAt f 33) 0 1 (b2n v)])

/-- R249. A slot with SOURCE = LOADED and CHECK recomputed. -/
def fpSetLoaded (f : Bytes) : Bytes := fpSeal (splice f 33 [setFld (byteAt f 33) 1 1 1])

/-- R553. A bed's temperature in whole °C, rounded down, as a signed byte carries it. -/
def State.bedTempC (s : State) (b : BedId) : Int := (s.bed b).temp.toInt / 4

/-- R416. Seconds since the last start. -/
def State.uptime (s : State) : Nat := (s.now - s.boot.startAt) / Config.tk1s

/-- R251. The form of the checks that an occasion sets (R565): the role, the partner's PHY_ID where
it is checked, the CAP of check 5 where it is made, whether a CAP refuses warm training, and the
rungs that pass check 11. -/
structure FpForm where
  role : Role
  partner : Option (BitVec 64)
  cap5 : Option Bytes
  warmOk : Bool
  rungOk : BitVec 16

/-- R251. The first check that fails, 0 for none. -/
def State.fpReject (s : State) (p : PortId) (o : FpForm) : Nat :=
  let q := s.port p
  match q.fp with
  | none => 1
  | some f =>
    let own := if fpByTail f then fpTail f else fpHead f
    let other := if fpByTail f then fpHead f else fpTail f
    if !fpCheckOk f then 2
    else if fpByTail f != (o.role == .tail) || own != phyId p ||
        (match o.partner with | some x => other != x | none => false) then 3
    else if !fpConfirmed f then 4
    else if (match o.cap5 with
        | some c => (c.drop 16).take 8 != (fpDigest f).take 8 || byteAt c 5 != byteAt f 1
        | none => false) then 5
    else if !tcWarm q.cfg.trainctl || !o.warmOk then 6
    else if (f.drop 64).take 32 != s.cal.digest then 7
    else if fcDtemp q.cfg.fpctl != 0 &&
        decide (fcDtemp q.cfg.fpctl < (s.bedTempC (bedOf p) - fpTemp f).natAbs) then 8
    else if !fpSource f && fcAge q.cfg.fpctl != 0 &&
        decide (fcAge q.cfg.fpctl * 3600 < s.uptime - fpUptime f) then 9
    else if fpSource f && !fcLoaded q.cfg.fpctl then 10
    else if !o.rungOk.getLsbD (fpRung f).toNat then 11
    else 0

/-- R251, R255. An evaluation, recorded in LAST_REJECT. Log 49 (DEDUCED). -/
def State.fpEval (s : State) (p : PortId) (o : FpForm) : Bool × State :=
  let r := s.fpReject p o
  (r == 0, s.modPort p fun q => { q with lastReject := BitVec.ofNat 4 r })

/-- WARM_OK of a CAP, true where no CAP is held. -/
def capWarm (c : Option Bytes) : Bool :=
  match c with
  | some c => bit (byteAt c 4) 3
  | none => true

/-- R565. The form for a retrain from data mode at rung r. -/
def State.fpRetrain (s : State) (p : PortId) : FpForm :=
  let q := s.port p
  { role := q.link.role, partner := some q.link.partnerId, cap5 := none,
    warmOk := capWarm q.spring.pcap, rungOk := BitVec.ofNat 16 (2 ^ q.link.rung.toNat) }

/-- The rungs of a set of R46 as a mask by rung value. -/
def rungMask (set : BitVec 9) : BitVec 16 := BitVec.ofNat 16 (set.toNat * 2)

/-- R565. The form at a handshake. Log 49 (DEDUCED). -/
def State.fpHandshake (s : State) (p : PortId) (role : Role) (cap : Bytes) (mask : BitVec 16) :
    FpForm :=
  { role := role, partner := some (BitVec.ofNat 64 (leAt cap 8 8)), cap5 := some cap,
    warmOk := capWarm (some cap), rungOk := mask }

/-- R565. The form for a dormant wake. -/
def State.fpDormant (s : State) (p : PortId) (mask : BitVec 16) : FpForm :=
  let q := s.port p
  { role := q.spring.srole, partner := (s.port p).spring.pcap.map fun c => BitVec.ofNat 64 (leAt c 8 8),
    cap5 := none, warmOk := capWarm q.spring.pcap, rungOk := mask }

/-- R247, R251. The slot's fingerprint is one for the port's link: check 3 passes. -/
def Port.fpOfLink (q : Port) (p : PortId) (f : Bytes) : Bool :=
  let own := if fpByTail f then fpTail f else fpHead f
  let other := if fpByTail f then fpHead f else fpTail f
  fpByTail f == (q.link.role == Role.tail) && own == phyId p && other == q.link.partnerId

/-- R252. A slot emptied. -/
def Port.fpClear (q : Port) : Port := { q with fp := none }

/-- R252. A slot's CONFIRMED cleared. -/
def Port.fpUnconfirm (q : Port) : Port := { q with fp := q.fp.map (fpSetConfirmed false) }

/-- n free bytes from position i. -/
def State.freeBytes (s : State) (i n : Nat) : Bytes := (List.range n).map fun k => s.freeAt (i + k)

/-- R247. n words of a fingerprint from a byte. -/
def fpWords (f : Bytes) (a n : Nat) : List (BitVec 16) :=
  (List.range n).map fun i => BitVec.ofNat 16 (leAt f (a + 2 * i) 2)

/-- n words as bytes, absent ones 0. -/
def wordBytes (n : Nat) (ws : List (BitVec 16)) : Bytes :=
  (List.range n).flatMap fun i => leBytes 2 (ws.getD i 0).toNat

/-- R126. The adaptive elements on first use: cancellers and equalisers zero but for the main taps, the
AGC at maximum gain, the loop timing at zero offset. -/
def Adapt.fresh : Adapt :=
  { agc := List.replicate 4 Config.agcMax, main := List.replicate 4 4096 }

/-- R117. The adaptive elements as a fingerprint seeds them. -/
def Adapt.load (a : Adapt) (f : Bytes) : Adapt :=
  { a with
    agc := (List.range 4).map fun i => 5 * (byteAt f (48 + i)).toNat, echo := fpWords f 96 256,
    next := fpWords f 608 384, fext := [], ffe := fpWords f 1760 32, main := List.replicate 4 4096,
    foff := BitVec.ofNat 16 (leAt f 38 2), delay := (f.drop 52).take 4 }

/-- R127. The adaptive elements after a span of adaptation, from a free value: the AGC moves by at most
0.1 dB where one is in force. Log 73 (DESIGN CHOICE). -/
def Adapt.step (a : Adapt) (data : Bool) (fr : Nat → Byte) : Adapt :=
  let w (i : Nat) : BitVec 16 := BitVec.ofNat 16 ((fr (2 * i)).toNat + 256 * (fr (2 * i + 1)).toNat)
  let ws (i n : Nat) : List (BitVec 16) := (List.range n).map fun k => w (i + k)
  { agc := (List.range 4).map fun i =>
      if data then (a.agc.getD i 0 + (fr i).toNat % 5) - 2 else 5 * (fr i).toNat,
    echo := ws 2 256, next := ws 258 384, fext := ws 642 48, ffe := ws 690 32, main := ws 722 4,
    foff := w 726, phase := (List.range 4).map fun i => fr (1454 + i), delay := a.delay }

/-- R124, R125. The elements of a failed pair are dropped. -/
def Adapt.dropPair (a : Adapt) (i : Pair) : Adapt :=
  let other (q : Nat) : Nat := let k := q % 3; if k < q / 3 then k else k + 1
  let path (n : Nat) (ws : List (BitVec 16)) : List (BitVec 16) :=
    ws.zipIdx.map fun x =>
      if x.2 / n / 3 = i.val ∨ other (x.2 / n) = i.val then 0 else x.1
  let own (n : Nat) (ws : List (BitVec 16)) : List (BitVec 16) :=
    ws.zipIdx.map fun x => if x.2 / n = i.val then 0 else x.1
  { a with
    agc := upd a.agc i.val 0, echo := own 64 a.echo, next := path 32 a.next, fext := path 4 a.fext,
    ffe := own 8 a.ffe, main := own 1 a.main }

/-- R125. The cancellers and equalisers resampled to the pair-spared rate. Log 4 (DESIGN CHOICE). -/
def Adapt.resample (a : Adapt) : Adapt :=
  let r (ws : List (BitVec 16)) : List (BitVec 16) := ws.map Config.resample
  { a with echo := r a.echo, next := r a.next, fext := r a.fext, ffe := r a.ffe, main := r a.main }

/-- R127, R132. The receiver adapts, unless ADAPT_FREEZE holds it; data says that it is in data mode.
Log 73 (DESIGN CHOICE). -/
def State.adaptOn (s : State) (p : PortId) (data : Bool) : State :=
  let q := s.port p
  if tcFreeze q.cfg.trainctl then s
  else (s.modPort p fun q => { q with adapt := q.adapt.step data (Config.freeByte s.free) }).takeFree

/-- R250. The bytes that a save forms for the port's link. The measured fields whose values the
manual leaves to the receiver are free. -/
def State.fpForm (s : State) (p : PortId) : Bytes :=
  let q := s.port p
  let tail := q.link.role == .tail
  let me := (phyId p).toNat
  let him := q.link.partnerId.toNat
  let link : Bytes := [1, BitVec.ofNat 8 q.link.rung.toNat, 0, 0] ++
    leBytes 8 (if tail then him else me) ++ leBytes 8 (if tail then me else him) ++ zeros 12
  let same := match q.fp with
    | some f => f.take 32 == link && fpConfirmed f
    | none => false
  let margin := if q.line.snrHist.isEmpty then q.train.entryMargin else q.line.minNow
  let head : Bytes := [BitVec.ofNat 8 (b2n tail), BitVec.ofNat 8 (b2n same + 4 * b2n q.line.deep)] ++
    s.freeBytes 0 2 ++ [BitVec.ofInt 8 (s.bedTempC (bedOf p)), BitVec.ofNat 8 margin.toNat] ++
    (if tail then leBytes 2 q.adapt.foff.toNat else zeros 2) ++ leBytes 4 s.uptime ++ zeros 4 ++
    ((List.range 4).map fun i => BitVec.ofNat 8 (q.adapt.agc.getD i 0 / 5)) ++ slice q.adapt.delay 0 4 ++
    [q.link.rxmap, q.link.polinv.setWidth 8] ++ zeros 6
  let coef := (List.range 192).flatMap fun i => leBytes 2 (q.train.ownCoef.getD i 0).toNat
  let body := link ++ head ++ slice s.cal.digest 0 32 ++ wordBytes 256 q.adapt.echo ++
    wordBytes 384 q.adapt.next ++ coef ++ wordBytes 32 q.adapt.ffe ++ s.freeBytes 12 128 ++ zeros 64
  body ++ shake256 body 32

/-- R97, R250. The 128 bits of FP_CONFIRM from the slot. -/
def fpConfirmBits (f : Bytes) : BitVec 128 := BitVec.ofNat 128 (leNat ((fpDigest f).take 16))

/-- R418. The flash offset of copy k of a port's fingerprint. Log 54 (DESIGN CHOICE). -/
def fpFlashAddr (p : PortId) (k : Nat) : Nat := 0x2400000 + 4096 * p.val + 2048 * k

/-- R249. A flash copy of a port. -/
def State.fpCopy (s : State) (p : PortId) (k : Nat) : Bytes := s.flashBytes (fpFlashAddr p k) 2048

/-- R249. The verifying flash copy with the higher SAVE_SEQ, with its number. -/
def State.fpFlash (s : State) (p : PortId) : Option (Nat × Bytes) :=
  let a := s.fpCopy p 0
  let b := s.fpCopy p 1
  if fpCheckOk a && fpCheckOk b then (if fpSeq b < fpSeq a then some (0, a) else some (1, b))
  else if fpCheckOk a then some (0, a)
  else if fpCheckOk b then some (1, b)
  else none

/-- R249. A copy that is written but does not verify. -/
def fpTorn (f : Bytes) : Bool := !fpCheckOk f && !(f.all (· == 0xFF))

/-- R249. The copy that a save to flash overwrites and the SAVE_SEQ that it takes: the older of two
that verify, the one that does not verify where one does, copy 0 where none does. -/
def State.fpTarget (s : State) (p : PortId) : Nat × Nat :=
  match s.fpFlash p with
  | some (k, f) => (1 - k, fpSeq f + 1)
  | none => (0, 1)

/-- R249, R324. The next fingerprint write that still has its command begins: the copy is erased and
bytes 0–2,015 are written. Log 53 (DEDUCED). Log 54 (DESIGN CHOICE). -/
def State.fpNext : Nat → State → State
  | 0, s => s
  | n + 1, s =>
    match s.flash.fpq with
    | [] => s
    | w :: ws =>
      if w.copy.isSome then s
      else if !s.stillWaits w.key (.port w.port) then
        State.fpNext n { s with flash := { s.flash with fpq := ws } }
      else
        let (k, seq) := s.fpTarget w.port
        let f := fpSeal (splice w.body 44 (leBytes 4 seq))
        let a := fpFlashAddr w.port k
        let t := (s.flashErase a 2048).flashWrite a (f.take 2016)
        let w1 : FpWrite := { w with copy := some (k, f.drop 2016) }
        { t with flash := { t.flash with fpq := w1 :: ws } }

/-- R253. A CMD_FP_SAVE of this tick includes what an automatic save has put into the slot. -/
def State.fpRecopy (s : State) (p : PortId) (f : Bytes) : State :=
  let t := match (s.port p).fpCopyAt with
    | some (n, a) => if s.now ≤ n then s.hostWrite a f else s
    | none => s
  if t.flash.fpq.any fun w => w.port == p && decide (s.now ≤ w.tick) then
    State.fpNext 129 { t with flash := { t.flash with fpq := t.flash.fpq.map fun (w : FpWrite) =>
      if w.port = p ∧ s.now ≤ w.tick then { w with body := f, copy := none } else w } }
  else t

/-- R250, R253. A save to the Well slot; a CLEAR or a CMD_FP_LOAD of the same tick stands. -/
def State.fpSaveWell (s : State) (p : PortId) : State :=
  let q := s.port p
  let later (o : Option Nat) : Bool := match o with | some n => decide (s.now ≤ n) | none => false
  let f := s.fpForm p
  let t := if later q.fpClearAt || later q.fpLoadAt then s
    else s.modPort p fun q => { q with fp := some f }
  (t.fpRecopy p f).takeFree

end Sys2Proof.Machine
end

