-- ==== Sys2Proof/Machine/RingBase.lean ====
section
/-! DEFINITION.
What the rings share: sizes and indices, producing an entry with its phase, MSI-X messages, ring
errors and the write-backs of the Spring transmit queues (R286–R312). -/

namespace Sys2Proof.Machine

/-- R287. Entries of a ring. -/
def Ring.size (r : Ring) : Nat := 2 ^ r.logSize

/-- R287. Entries between head and tail. -/
def Ring.used (r : Ring) : Nat := (r.tail + r.size - r.head) % r.size

/-- R287. Entries that can still be written. Log 4 (DESIGN CHOICE). -/
def Ring.free (r : Ring) : Nat := r.size - 1 - r.used

/-- R287. The index after i. -/
def Ring.succ (r : Ring) (i : Nat) : Nat := (i + 1) % r.size

/-- R310. The fields of CFG. -/
def Ring.vec (r : Ring) : Nat := fld r.cfg 5 6
def Ring.irqEn (r : Ring) : Bool := bit r.cfg 11
def Ring.coalN (r : Ring) : Nat := max 1 (fld r.cfg 12 8)
def Ring.coalUs (r : Ring) : Nat := fld r.cfg 20 8

/-- The ring of an index, for indices that R286 lists. -/
def ringOf (n : Nat) : RingId := Fin.ofNat 64 n

def cmdRing (c : Fin 16) : RingId := ⟨c.val, by omega⟩
def cplRing (c : Fin 16) : RingId := ⟨16 + c.val, by omega⟩
def evRing (e : Fin 4) : RingId := ⟨32 + e.val, by omega⟩
def telRing : RingId := 36
def sprTxRing (b : BedId) : RingId := ⟨40 + b.val, by omega⟩
def sprRxRing (b : BedId) : RingId := ⟨48 + b.val, by omega⟩

/-- R286. The kinds of ring index. -/
def isCmdRing (r : RingId) : Bool := decide (r.val < 16)
def isCplRing (r : RingId) : Bool := decide (16 ≤ r.val) && decide (r.val < 32)
def isEvRing (r : RingId) : Bool := decide (32 ≤ r.val) && decide (r.val < 36)
def isSprTx (r : RingId) : Bool := decide (40 ≤ r.val) && decide (r.val < 48)
def isSprRx (r : RingId) : Bool := decide (48 ≤ r.val) && decide (r.val < 56)
/-- Rings that the host produces into. -/
def hostProduced (r : RingId) : Bool := isCmdRing r || isSprTx r
/-- Rings that the device produces into. -/
def devProduced (r : RingId) : Bool := isCplRing r || isEvRing r || r == 36 || isSprRx r

/-- R286. Bytes of an entry. -/
def entrySize (r : RingId) : Nat :=
  if isCmdRing r || isSprTx r then 64 else if isSprRx r then 288 else if r = 36 then 512 else 32

/-- R285, R431. The ring engine can issue DMA for PF0 (false) or PF1 (true). -/
def State.dmaOk (s : State) (pf1 : Bool) : Bool :=
  s.sluice.hubOn && !s.sluice.hubFalling && !(if pf1 then s.pins.d3pf1 else s.pins.d3pf0)

/-- R306. A ring sends its message. -/
def State.sendMsix (s : State) (r : RingId) : State :=
  (s.modRing r fun g => { g with unsent := 0 }).message (decide (r = telRing)) (s.ring r).vec

/-- R306. An entry of the ring has been written: the message, or the count toward one. -/
def State.signal (s : State) (r : RingId) : State :=
  let g := s.ring r
  if !g.irqEn then s
  else if g.coalUs = 0 then s.sendMsix r
  else if g.coalN ≤ g.unsent + 1 then s.sendMsix r
  else s.modRing r fun g => { g with unsent := g.unsent + 1 }

/-- R287, R288, R289. The device writes an entry, formed with its phase, at the tail. -/
def State.produce (s : State) (r : RingId) (entry : Bool → Bytes) : State :=
  let g := s.ring r
  let t := s.hostWrite (g.base.toNat + entrySize r * g.tail) (entry g.phase)
  let next := g.succ g.tail
  (t.modRing r fun h => { h with tail := next, phase := if next = 0 then !h.phase else h.phase,
                                 lostBefore := false }).signal r

/-- R305. An entry for the ring is dropped and counted. Log 65 (DEDUCED). -/
def State.ringDrop (s : State) (r : RingId) : State :=
  s.modRing r fun g => { g with lost := sat (g.lost + 1), overflow := true, lostBefore := true }

/-- R309, R311. A ring enters ERROR. -/
def State.ringError (s : State) (r : RingId) (e : RErr) : State :=
  (s.modRing r fun g => { g with state := .error, err := e }).raise .ringError .device
    [(16, 1, r.val), (17, 1, e.code)]

/-- R303. The bytes 32–63 of a completed Spring transmit entry. -/
def writeBackBytes (w : WriteBack) : Bytes :=
  [BitVec.ofNat 8 w.status.code, BitVec.ofNat 8 (b2n w.phase), w.detail, 0] ++
    leBytes 8 w.tick.toNat ++ zeros 20

/-- R303, R305. A write-back goes to memory, or is dropped where its queue is not running or has been
disabled since the entry was taken. Log 31 (DEDUCED). -/
def State.writeBackNow (s : State) (w : WriteBack) : State :=
  let r := sprTxRing w.bed
  let g := s.ring r
  if g.state = .run && !w.orphan then
    (s.hostWrite (g.base.toNat + 64 * w.idx + 32) (writeBackBytes w)).signal r
  else s.ringDrop r

/-- R285, R303. A Spring transmit entry completes; its write-back waits where DMA is not
possible. -/
def State.completeTx (s : State) (b : BedId) (u : UserTx) (st : ST) (detail : Nat) : State :=
  let w : WriteBack := { bed := b, idx := u.idx, phase := u.phase, status := st,
                         detail := BitVec.ofNat 8 detail, tick := s.clk.tick, orphan := u.orphan }
  if s.dmaOk false then s.writeBackNow w else { s with heldWb := s.heldWb ++ [w] }

/-- R285, R307. The write-backs that waited. -/
def State.flushWb (s : State) : State :=
  if s.dmaOk false then forAll s.heldWb (fun w t => t.writeBackNow w) { s with heldWb := [] }
  else s

/-! ## The telemetry ring (R305, R491–R498, R501) -/

/-- R497. A dump that is being written is dropped. Log 51 (DEDUCED). -/
def State.telCancel (s : State) : State :=
  if s.tel.writing.isEmpty then s
  else
    let t := forAll (s.tel.snap.filter fun x => x.2.2)
      (fun x t => t.modPort x.1 fun q => { q with cntWritten := true }) s
    { t with tel := { t.tel with writing := [], snap := [], dropped := true } }

/-- R493, R501. The tick is a dump boundary of the period in force. Log 51 (DEDUCED). -/
def State.telBoundary (s : State) : Bool :=
  s.clk.tick.toNat % (s.tel.cfg.periodMs * Config.tkPerMs) == 0

/-- R491, R498. The stage-0 tick of a record. -/
def Sample.at (r : Sample) : Tick := r.ticks.headD 0

/-- R495, R498. A SAMPLE entry. -/
def sampleBytes (r : Sample) (lost phase : Bool) : Bytes :=
  slice ([5, BitVec.ofNat 8 r.port.val, 0,
      BitVec.ofNat 8 (b2n phase + 8 * b2n lost + 16 * b2n r.incomplete)] ++ zeros 4 ++
    leBytes 8 r.at.toNat ++
    [BitVec.ofNat 8 (b2n r.rx), r.rung.setWidth 8, r.iter, r.k, BitVec.ofNat 8 (b2n r.deep)] ++
    zeros 3 ++ leBytes 8 r.slotNo.toNat ++
    (List.range 6).flatMap (fun i => leBytes 8 (r.ticks.getD i 0).toNat) ++
    (List.range 6).map fun i => (r.fine.getD i 0).setWidth 8) 0 512

/-- R492. The bed whose store holds the record of the earliest stage-0 tick. Log 52 (DEDUCED). -/
def State.sampleBed (s : State) : Option BedId :=
  allBeds.foldl (fun a b =>
    match (s.bed b).store, a with
    | [], _ => a
    | _ :: _, none => some b
    | r :: _, some c =>
      match (s.bed c).store with
      | [] => some b
      | q :: _ => if r.at.toNat < q.at.toNat then some b else some c) none

/-- R305, R492, R501. Stored sample records are written while the telemetry ring has room, never
between the entries of a dump nor before the dump of the same tick; a ring that is not running drops
them. Log 52 (DEDUCED). -/
def State.sampleDrain : Nat → State → State
  | 0, s => s
  | n + 1, s =>
    match s.sampleBed with
    | none => s
    | some b =>
      match (s.bed b).store with
      | [] => s
      | r :: rs =>
        let t := s.modBed b fun d => { d with store := rs }
        if (s.ring telRing).state != .run then State.sampleDrain n (t.ringDrop telRing)
        else if !s.tel.writing.isEmpty || (s.ring telRing).free = 0 || !s.dmaOk true ||
            (s.tel.cfg.en && s.telBoundary) then s
        else State.sampleDrain n (t.produce telRing (sampleBytes r s.tel.dropped))

/-- R215, R226, R304, R443. The port tells its partner to hold USER frames. -/
def State.rxHold (s : State) (p : PortId) : Bool :=
  let d := s.bed (bedOf p)
  let g := s.ring (sprRxRing (bedOf p))
  if s.hub.mode = .dormant then
    if bit s.sluice.wakeen 3 then d.heldUser.isSome else true
  else if g.state != .run then spUser (s.port p).cfg.islandCtl
  else d.heldUser.isSome || decide (g.free ≤ 16 + d.rxq.length)

end Sys2Proof.Machine
end

