-- ==== Sys2Proof/Machine/SpringCode.lean ====
section
/-! DEFINITION.
The Spring frame's bits and levels (R185–R199): the two LDPC codes, the header, the payload, the
whitening, the pilots and the mapping to levels. -/

namespace Sys2Proof.Machine

/-- R194. The rate-1/2 columns: (row, shift) of each information group. -/
def halfCols : List (List (Nat × Nat)) :=
  [[(0, 7), (4, 19), (9, 2)], [(1, 13), (5, 0), (10, 21)], [(2, 4), (6, 17), (11, 10)],
   [(0, 15), (3, 22), (7, 6)], [(1, 9), (4, 3), (8, 18)], [(2, 20), (5, 11), (9, 14)],
   [(3, 1), (6, 23), (10, 8)], [(4, 12), (7, 16), (11, 5)], [(0, 22), (5, 6), (8, 11)],
   [(1, 3), (6, 10), (9, 19)], [(2, 17), (7, 0), (10, 13)], [(3, 8), (8, 14), (11, 23)]]

/-- R194. The rate-3/4 columns. -/
def quarterCols : List (List (Nat × Nat)) :=
  [[(0, 3), (1, 14), (3, 9)], [(1, 20), (2, 5), (4, 16)], [(2, 11), (3, 0), (5, 22)],
   [(0, 18), (3, 7), (4, 2)], [(1, 6), (4, 13), (5, 19)], [(0, 10), (2, 23), (5, 4)],
   [(0, 1), (2, 17), (3, 12)], [(1, 8), (3, 21), (4, 5)], [(2, 14), (4, 0), (5, 9)],
   [(0, 23), (3, 4), (5, 15)], [(0, 6), (1, 11), (4, 20)], [(1, 2), (2, 19), (5, 13)],
   [(0, 16), (1, 0), (2, 7)], [(1, 22), (2, 3), (3, 17)], [(2, 9), (3, 14), (4, 23)],
   [(3, 19), (4, 8), (5, 1)], [(0, 12), (4, 15), (5, 6)], [(0, 20), (1, 17), (5, 10)]]

/-- R193. The entries (column, shift) of a row. -/
def rowEntries (cols : List (List (Nat × Nat))) (r : Nat) : List (Nat × Nat) :=
  (cols.zipIdx).flatMap fun c => (c.1.filter (·.1 == r)).map fun e => (c.2, e.2)

/-- R195. sigma of row r and check k. -/
def sigma (cols : List (List (Nat × Nat))) (info : List Bool) (r k : Nat) : Bool :=
  (rowEntries cols r).foldl (fun a e => a.xor (info.getD (24 * e.1 + (k + e.2) % 24) false)) false

/-- R195. The parity groups, each from the one before. -/
def parityRows (cols : List (List (Nat × Nat))) (info : List Bool) :
    Nat → Nat → List Bool → List Bool
  | 0, _, _ => []
  | n + 1, r, prev =>
    let g := (List.range 24).map fun k => (sigma cols info r k).xor (prev.getD k false)
    g ++ parityRows cols info n (r + 1) g

/-- R195. The codeword of 576 bits of an information part. -/
def springEncode (cols : List (List (Nat × Nat))) (rows : Nat) (info : List Bool) : List Bool :=
  info ++ parityRows cols info rows 0 []

/-- R193. A received codeword satisfies every check. -/
def springChecks (cols : List (List (Nat × Nat))) (rows : Nat) (c : List Bool) : Bool :=
  let k := cols.length
  c.drop (24 * k) == parityRows cols (c.take (24 * k)) rows 0 []

/-- R196. The 240 coded header bits. -/
def headerCoded (h : BitVec 72) : List Bool :=
  let info := (List.range 288).map fun i => if i % 24 < 6 then h.getLsbD (6 * (i / 24) + i % 24)
    else false
  bitsOf h 0 72 ++ (parityRows halfCols info 12 0 []).take 168

/-- R198, R199. A header from its bits 0 to 55, with its CRC. -/
def headerSeal (h : BitVec 72) : BitVec 72 :=
  let low := bitsOf h 0 56
  BitVec.ofNat 72 (natOfBits (low ++ crc16 low))

/-- R199. The header's CRC passes, and LEN is in range. -/
def headerOk (h : BitVec 72) : Bool :=
  bitsOf h 56 16 == crc16 (bitsOf h 0 56) && decide (fld h 5 9 ≤ 256)

/-- R190. Codewords of a payload of n bytes. -/
def payloadWords (mode4 : Bool) (n : Nat) : Nat :=
  let k := if mode4 then 432 else 288
  if n = 0 then 0 else (8 * n + 32 + k - 1) / k

/-- R197. The bits of a payload with its CRC, filled up to whole information parts. -/
def payloadInfo (mode4 : Bool) (bs : Bytes) : List Bool :=
  let k := if mode4 then 432 else 288
  let b := bitsOfBytes bs
  let t := b ++ crc32 b
  t ++ List.replicate (payloadWords mode4 bs.length * k - t.length) false

/-- R197. The codewords of information bits cut into parts. -/
def payloadCodewords (mode4 : Bool) : Nat → List Bool → List Bool
  | 0, _ => []
  | n + 1, bs =>
    let k := if mode4 then 432 else 288
    let c := if mode4 then springEncode quarterCols 6 (bs.take k)
             else springEncode halfCols 12 (bs.take k)
    c ++ payloadCodewords mode4 n (bs.drop k)

/-- R197. The coded payload. -/
def payloadCoded (mode4 : Bool) (bs : Bytes) : List Bool :=
  payloadCodewords mode4 (payloadWords mode4 bs.length) (payloadInfo mode4 bs)

/-- R192. n whitening bits. -/
def whitening (n : Nat) : List Bool := (lfsrRun [5, 9] n (BitVec.allOnes 9)).1

/-- The whitened coded bits (R192). -/
def whiten (bs : List Bool) : List Bool := List.zipWith Bool.xor bs (whitening bs.length)

/-- R185. The level of a Spring-2 symbol. -/
def level2 (b : Bool) : Int := if b then 1 else -1

/-- R185. The level of a Spring-4 symbol, its first bit a. -/
def level4 (a b : Bool) : Int :=
  if a then (if b then 1 else 3) else (if b then -1 else -3)

/-- The Spring-4 levels of a string of bits. -/
def levels4 : List Bool → List Int
  | a :: b :: rest => level4 a b :: levels4 rest
  | _ => []

/-- R189. Data levels with the four pilots before each 60. -/
def withPilots (m : Int) : Nat → List Int → List Int
  | 0, _ => []
  | n + 1, ls => if ls.isEmpty then [] else
    [m, m, -m, -m] ++ ls.take 60 ++ withPilots m n (ls.drop 60)

/-- R187, R189, R192. The body's levels of a frame: header blocks, then payload blocks.
Log 66 (DESIGN CHOICE). -/
def springBody (h : BitVec 72) (payload : Bytes) : List Int :=
  let mode4 := h.getLsbD 4
  let bits := whiten (headerCoded h ++ payloadCoded mode4 payload)
  let hd := (bits.take 240).map level2
  let rest := bits.drop 240
  let pl := if mode4 then levels4 rest else rest.map level2
  withPilots 1 4 hd ++ withPilots (if mode4 then 3 else 1) (pl.length / 60 + 1) pl

/-- R188. The sync word sent by a head (true) or a tail. -/
def syncWord (head : Bool) : Word := if head then 0xE4A71D3B else 0x1B58E2C4

/-- R187. The preamble: 32 Spring-2 symbols 1, 0, 1, 0 and so on. -/
def preamble : List Int := (List.range 32).map fun i => level2 (i % 2 == 0)

/-- R188. A sync word's levels, bit 31 first. -/
def syncLevels (w : Word) : List Int := (List.range 32).map fun i => level2 (w.getLsbD (31 - i))

/-- R187. The levels of a whole frame, sent by a head (true) or a tail. -/
def springFrame (head : Bool) (h : BitVec 72) (payload : Bytes) : List Int :=
  preamble ++ syncLevels (syncWord head) ++ springBody h payload

/-- R185, R211. Symbols sent after a time in ticks: one each µs, 156.25 tk. -/
def symbolsIn (tk : Nat) : Nat := tk * 4 / 625

/-- R211. How much of a frame is sent that is pre-empted after n symbols: up to the end of the current
body block, and to position 256 at least. -/
def cutAt (n : Nat) : Nat := 64 + max 256 (64 * ((n - 64) / 64 + 1))

/-- Bits of a word that are set. -/
def popcount {w : Nat} (x : BitVec w) : Nat :=
  (bitsOf x 0 w).foldl (fun a b => a + b2n b) 0

/-- R201. At least 28 of 32 decided bits agree with the word of the receive direction. -/
def syncDetects (word bits : Word) : Bool := decide (popcount (word ^^^ bits) ≤ 4)

end Sys2Proof.Machine
end

