-- ==== Sys2Proof/Machine/SpringBase.lean ====
section
/-! DEFINITION.
The Spring link engine's shared operations (R183–R231, R563): when it runs, what it sends next, the
capability frame, the roles, entering and leaving a session. -/

namespace Sys2Proof.Machine

/-- R184. The device modes in which Spring runs. -/
def springMode (m : DevMode) : Bool :=
  match m with
  | .active | .quiet | .dormant | .test => true
  | _ => false

/-- R184, R395. The port's Spring channel runs. -/
def State.springRuns (s : State) (p : PortId) : Bool :=
  let q := s.port p
  q.cfg.islandEn && springMode s.hub.mode && !s.clk.reflost && !q.spring.muted &&
    !s.pins.lost.contains .spr

/-- R227, R344. EV_SPRING_RX. -/
def State.springEvent (s : State) (p : PortId) (cause : Nat) (loss : Nat) (phy : Nat) : State :=
  s.raise .springRx (.port p)
    [(16, 1, cause), (17, 1, loss), (18, 1, (s.port p).spring.srole.code), (24, 8, phy)]

/-! ## The capability frame -/

/-- R216. Set RUNGS: the candidate set, as the registers stand outside LISTENING (R563). -/
def capRungs (q : Port) : BitVec 9 :=
  if q.link.state = .listening then candidates q else candidatesNow q

/-- R216, R251. The content of the port's capability frame, and the evaluation it makes.
Log 22 (DEDUCED). -/
def State.capBuild (s : State) (p : PortId) : Bytes × State :=
  let q := s.port p
  let form : FpForm := { role := q.spring.srole, partner := none, cap5 := none, warmOk := true,
                         rungOk := BitVec.allOnes 16 }
  let (ok, s1) := if q.spring.srole = .none then (false, s) else s.fpEval p form
  let fp := q.fp.getD []
  let flags := b2n (lcPspare q.cfg.linkctl) + 2 * b2n (!spS2Only q.cfg.islandCtl) + 4 +
    8 * b2n (tcWarm q.cfg.trainctl)
  let bytes := [1, 0] ++ leBytes 2 (capRungs q).toNat ++
    [BitVec.ofNat 8 flags, if ok then byteAt fp 1 else 0] ++ leBytes 2 256 ++
    leBytes 8 (phyId p).toNat ++ (if ok then (fpDigest fp).take 8 else zeros 8)
  (bytes, s1)

/-- R184. The Tender stages the capability frame while its bed's main domain is on. -/
def State.capStage (s : State) (p : PortId) : State :=
  if s.bedOn (bedOf p) then
    let (c, t) := s.capBuild p
    t.modSpring p fun g => { g with staged := c }
  else s

/-- R184. The last content that the Tender stages for the ports of a bed whose main domain goes off now. -/
def State.capStageBed (s : State) (b : BedId) : State :=
  if s.bedOn b then
    forAll (portsOf b) (fun p t => t.modSpring p fun g => { g with staged := (s.capBuild p).1 }) s
  else s

/-! ## Sending -/

/-- What a port's Spring transmitter puts on its phantom (R186, R206). -/
inductive SpringTx
  | off | fill | frame
  deriving DecidableEq, Repr

/-- R184, R186, R206, R208. The transmitter's output: fill, the carrier at level 0, between the frames of a
PARTNERED end and of a joining tail; a joining head sends its frames alone. -/
def State.springTx (s : State) (p : PortId) : SpringTx :=
  let g := (s.port p).spring
  if !s.springRuns p then .off
  else
    match g.sstate with
    | .off => .off
    | .listen => .off
    | .joining => if g.cur.isSome then .frame else if g.srole = .tail then .fill else .off
    | .partnered => if g.cur.isSome then .frame else .fill

/-- R203, R231. The carrier-offset estimate now: refined on the frame in reception, and tracked on fill in
PARTNERED. -/
def State.foffNow (s : State) (p : PortId) : Byte :=
  let g := (s.port p).spring
  if g.rxBusy then Config.trackFoff s.now p.val g.rxFoff
  else if g.sstate = .partnered then Config.trackFoff s.now p.val g.foff
  else g.foff

/-- R214. Payloads are sent in Spring-4. -/
def tx4 (q : Port) : Bool :=
  !spS2Only q.cfg.islandCtl &&
  (match q.spring.pcap with | some c => bit (byteAt c 4) 1 | none => false) &&
  (match q.spring.lastHdr with | some h => h.getLsbD 24 | none => false)

/-- R215. The partner's last valid header carries RX_HOLD. -/
def remoteHold (q : Port) : Bool :=
  match q.spring.lastHdr with
  | some h => h.getLsbD 25
  | none => false

/-- R214. RX4_OK. -/
def rx4Ok (q : Port) : Bool := !spS2Only q.cfg.islandCtl && decide (8 ≤ q.spring.good)

/-- R198. The header of a frame. -/
def State.springHdr (s : State) (p : PortId) (f : TxFrame) : BitVec 72 :=
  let q := s.port p
  let g := q.spring
  let mode4 := (f.typ == .user || f.typ == .diag) && tx4 q
  headerSeal (BitVec.ofNat 72
    (f.typ.code + 16 * b2n mode4 + 2 ^ 5 * f.payload.length + 2 ^ 14 * b2n f.typ.sequenced +
     2 ^ 15 * (if f.typ.sequenced then f.seq else g.txSeq).toNat + 2 ^ 19 * b2n g.ackValid +
     2 ^ 20 * g.ackSeq.toNat + 2 ^ 24 * b2n (rx4Ok q) + 2 ^ 25 * b2n (s.rxHold p) +
     2 ^ 26 * b2n (g.srole == .tail && g.hsDone) + 2 ^ 27 * q.link.state.code +
     2 ^ 30 * g.rssi.toNat + 2 ^ 38 * (s.foffNow p).toNat))

/-- The frame of lowest rank in a list, the first of those (R211). -/
def minRank : List TxFrame → Option TxFrame
  | [] => none
  | f :: fs =>
    match minRank fs with
    | none => some f
    | some g => if f.typ.rank ≤ g.typ.rank then some f else some g

/-- R211, R212, R215. The next sequenced frame that may start. -/
def seqNext (q : Port) : Option TxFrame :=
  let g := q.spring
  let sq := g.due.filter fun f => f.typ.sequenced
  let free (f : TxFrame) : Bool := !(f.typ == .user && remoteHold q)
  match sq.find? fun f => f.again with
  | some f => if free f then some f else none
  | none =>
    if 8 ≤ g.out.length then none
    else minRank (sq.filter free)

/-- R206, R211, R213. The frame that would start now. -/
def State.springNext (s : State) (p : PortId) : Option TxFrame :=
  let q := s.port p
  let g := q.spring
  if !s.springRuns p then none else
  match g.sstate with
  | .off => none
  | .listen => none
  | .joining => g.due.find? fun f => f.typ == .cap
  | .partnered =>
    match minRank (g.due.filter fun f => !f.typ.sequenced && f.typ != .keepalive) with
    | some f => some f
    | none =>
      match seqNext q with
      | some f => some f
      | none =>
        if g.ackDue || g.due.any (fun f => f.typ == .keepalive) then some { typ := .keepalive }
        else none

/-- R217. The SELECT that a head sends now: outside LISTENING it is KEEP. -/
def selectNow (q : Port) (pay : Bytes) : Bytes :=
  if q.link.state = .listening then pay else [15, 0] ++ slice pay 2 8

/-- R187, R198, R212. A frame's transmission starts. Log 22 (DEDUCED). -/
def State.springStart (s : State) (p : PortId) (f : TxFrame) : State :=
  let s0 := if f.typ = .cap then s.capStage p else s
  let q := s0.port p
  let g := q.spring
  let pay := if f.typ = .cap then g.staged else if f.typ = .select then selectNow q f.payload
    else f.payload
  let fresh := f.typ.sequenced && !f.again
  let f1 := { f with payload := pay, seq := if fresh then g.txSeq else f.seq, again := false }
  let hdr := s0.springHdr p f1
  let due := if f.typ = .keepalive then g.due.filter (fun x => x.typ != .keepalive)
    else g.due.erase f
  let s1 := s0.modSpring p fun g => { g with
    due := due, cur := some f1, curHdr := hdr, body := springFrame (g.srole == .head) hdr pay,
    curAt := s0.now, cut := false, ackDue := false,
    sel := if f.typ = .select then some pay else g.sel,
    txSeq := if fresh then g.txSeq + 1 else g.txSeq,
    out := if fresh then g.out ++ [f1] else g.out,
    selCount := if f.typ = .select then g.selCount + 1 else g.selCount }
  let s2 := s1.count p 0x30 1
  if f.again then s2.count p 0x36 1 else s2

/-- R211. The sequenced frame in transmission is pre-empted: it ends with its current body block; one that
ends there anyway is sent whole. -/
def State.springCut (s : State) (p : PortId) : State :=
  let g := (s.port p).spring
  let n := cutAt (symbolsIn (s.now - g.curAt))
  if g.cut || decide (g.body.length ≤ n) then s
  else (s.modSpring p fun g => { g with body := g.body.take n, cut := true }).count p 0x35 1

/-- R211. Start what is due when no frame is in transmission; a Repeated or Single frame pre-empts a
sequenced one, and starts when that has ended. -/
def State.springKick (s : State) (p : PortId) : State :=
  match s.springNext p with
  | none => s
  | some f =>
    match (s.port p).spring.cur with
    | none => s.springStart p f
    | some c =>
      if c.typ.sequenced && !f.typ.sequenced && f.typ != .keepalive then
        s.springCut p
      else s

/-- A frame falls due. A Repeated frame that is already due is not doubled. -/
def State.springDue (s : State) (p : PortId) (f : TxFrame) : State :=
  (s.modSpring p fun g =>
    if !f.typ.sequenced && g.due.any (fun x => x.typ == f.typ) then
      { g with due := g.due.map fun x => if x.typ == f.typ then f else x }
    else { g with due := g.due ++ [f] }).springKick p

/-- Frames of a type are no longer due. -/
def State.springUndue (s : State) (p : PortId) (t : FType) : State :=
  s.modSpring p fun g => { g with due := g.due.filter fun x => x.typ != t }

/-- R97, R240. A DIAG frame falls due. -/
def State.springDiag (s : State) (p : PortId) (bytes : Bytes) : State :=
  s.springDue p { typ := .diag, payload := bytes }

/-! ## Roles and states -/

/-- R41, R564. A new listen interval is drawn from the bed's LFSR. -/
def State.springDraw (s : State) (p : PortId) : State :=
  let (v, st) := roleDraw 64 (s.bed (bedOf p)).roleLfsr
  (s.modBed (bedOf p) fun d => { d with roleLfsr := st }).modSpring p fun g =>
    { g with interval := some v, waitTail := false }

/-- R41, R42. The head role is taken: JOINING, and the first capability frame. -/
def State.springHead (s : State) (p : PortId) (rep : Bool) : State :=
  (s.modSpring p fun g => { g with srole := .head, sstate := .joining, interval := none,
                                   capRep := rep }).springDue p { typ := .cap }

/-- R206. LISTEN under a role selection: R41 or R42. Log 21 (DEDUCED). -/
def State.springListen (s : State) (p : PortId) (sel : RoleSel) : State :=
  let t := s.modSpring p fun g => { g with sstate := .listen, srole := .none, interval := none,
                                           waitTail := false, capRep := false, due := [] }
  match sel with
  | .head => t.springHead p true
  | .tail => t.modSpring p fun g => { g with srole := .tail }
  | .auto => t.springDraw p

/-- R563. LISTEN outside LISTENING: a HEAD port joins, any other listens and sends nothing. -/
def State.springIdle (s : State) (p : PortId) : State :=
  let t := s.modSpring p fun g => { g with sstate := .listen, srole := .none, interval := none,
                                           waitTail := false, capRep := false, due := [] }
  if lcRole (s.port p).cfg.linkctl = .head then t.springHead p true else t

/-- R227. The detail code of R224 for a loss. -/
def lossDetail : Loss → Nat
  | .carrier => 2 | .silence => 2 | .retry => 2 | .restart => 3 | .disabled => 4 | .clock => 5
  | .reset => 0 | .none => 0

/-- R224. The port's taken transmit entries complete for a loss. -/
def State.usersEnd (s : State) (p : PortId) (c : Loss) : State :=
  let us := (s.port p).spring.users
  let st := if c = .reset then ST.abortedReset else ST.timeout
  (forAll us (fun u t =>
    if u.bad then t.completeTx (bedOf p) u .badParam 0
    else t.completeTx (bedOf p) u st (lossDetail c)) s).modSpring p fun g => { g with users := [] }

/-- R207. Entry to PARTNERED. -/
def State.springPartner (s : State) (p : PortId) : State :=
  let id := match (s.port p).spring.pcap with | some c => leAt c 8 8 | none => 0
  (s.modSpring p fun g => { g with
    sstate := .partnered, sess := g.sess + 1, txSeq := 0, rxSeq := 0, ackValid := false, ackSeq := 0, out := [],
    expiries := 0, unknown := false, due := [], interval := none, waitTail := false, capRep := false,
    hsDone := false, selCount := 0 }).springEvent p 1 0 id

/-- R208. The session ends: what is in flight is dropped, and EV_SPRING_RX says so. The partner's last valid
header stays (R214, R215, R231). -/
def State.springEndSession (s : State) (p : PortId) (c : Loss) : State :=
  if (s.port p).spring.sstate = .partnered then
    let t := ((s.modSpring p fun g => { g with lastLoss := c }).springEvent p 2 c.code 0).count p 0x38 1
    (t.usersEnd p c).modSpring p fun g => { g with
      due := [], out := [], cur := none, body := [], ackDue := false, expiries := 0,
      hsDone := false, sel := none, selCount := 0, pcap := none,
      ackValid := false }
  else s.modSpring p fun g => { g with due := [], cur := none, body := [] }

/-- R206, R208. The channel leaves PARTNERED or JOINING with a cause, and takes the state that its
role gives it. -/
def State.springLeave (s : State) (p : PortId) (c : Loss) : State :=
  let t := s.springEndSession p c
  if c = .disabled then
    t.modSpring p fun g => { g with sstate := .off, srole := .none, interval := none,
                                    waitTail := false, capRep := false, rxBusy := false,
                                    rxHdr := none }
  else
    match (t.port p).spring.srole with
    | .head => (t.modSpring p fun g => { g with sstate := .joining, capRep := true }).springDue p
        { typ := .cap }
    | .tail => t.modSpring p fun g => { g with sstate := .listen }
    | .none => t.springIdle p

/-- R206. What the channel does at an entry of its port to LISTENING. -/
def State.springAtListening (s : State) (p : PortId) : State :=
  let q := s.port p
  if !q.cfg.islandEn then s else
  match q.spring.sstate with
  | .off => s.springListen p q.link.sRole
  | .listen => s.springListen p q.link.sRole
  | _ =>
    let keep := match q.link.sRole with
      | .auto => true
      | .head => q.spring.srole == Role.head
      | .tail => q.spring.srole == Role.tail
    if keep then
      if q.spring.srole = Role.head then
        (s.modSpring p fun g => { g with capRep := true }).springDue p { typ := .cap }
      else s
    else (s.springEndSession p .restart).springListen p q.link.sRole

/-- R63, R184, R563. SPRING_EN becomes 1 in the island. R563 says what the channel then does in DISABLED,
DORMANT and FAULT; the model does the same in every other port state. Log 21 (DEDUCED). -/
def State.springOn (s : State) (p : PortId) : State :=
  if (s.port p).spring.sstate = .off then
    if springMode s.hub.mode then s.springIdle p else s
  else s

end Sys2Proof.Machine
end

