-- ==== Sys2Proof/Machine/PortOps.lean ====
section
/-! DEFINITION.
The transitions of a port between its states (R28–R30) with all that they carry: negotiation, the
ladder, link-up and link-down, recovery, training's start and failure, and the host side that each
state has (R46–R58, R116–R124, R154–R158, R261, R271). -/

namespace Sys2Proof.Machine

/-! ## The host side (R261, R262) -/

/-- R261. A lane that no port of its bed has in use is powered down. -/
def State.lanesIdle (s : State) (ls : List LaneId) : State :=
  forAll ls (fun l t =>
    let used := (portsOf (bedOfLane l)).any fun p =>
      (portLanes p (t.port p).cfg (t.port p).host.mode).contains l
    if used then t else t.modLane l fun d => { d with locked := false, adapting := true }) s

/-- R259, R280. The lane PLL of a bed that serves a mode's family. -/
def State.pllFor (s : State) (b : BedId) (m : HostMode) : Fin 2 :=
  if ((s.bed b).pow.laneFam.getD 1 0).toNat = modeFam m then 1 else 0

/-- R261. The port's lanes take a mode, and what goes toward the ASIC. -/
def State.hostSet (s : State) (p : PortId) (m : HostMode) (e : Egress) : State :=
  let q := s.port p
  let old := portLanes p q.cfg q.host.mode
  let t0 := if m = 0 then s else
    forAll (portLanes p q.cfg m) (fun l t => t.modLane l fun d => { d with
      pll := s.pllFor (bedOf p) m }) s
  let t := t0.modHost p fun h => { h with
    mode := m, egress := e, changing := m != 0 && (h.changing || h.mode != m),
    skew := if m = 0 then 0 else h.skew, lost := if m = 0 then false else h.lost }
  let t := if m = 0 then t.modStill p fun l => { l with lpi := false } else t
  if q.host.mode = m then t else t.lanesIdle old

/-- R261. DISABLED, DORMANT and FAULT: the lanes electrically idle and powered down. -/
def State.hostOff (s : State) (p : PortId) : State := s.hostSet p 0 .idle

/-- R266. Every ingress lane of the mode is locked. -/
def State.ingressUp (s : State) (p : PortId) : Bool :=
  let q := s.port p
  let ls := portLanes p q.cfg q.host.mode
  q.host.mode != 0 && ls.length == modeLanes q.host.mode && ls.all fun l => (s.lane l).locked

/-! ## Parts of a port at rest -/

/-- The training has ended: its record stays, its course is cleared. -/
def Train.stop (t : Train) : Train :=
  { t with phase := .none, ready := false, partner := none, tifInPhase := false, silent := true,
           sw := none, swTo := .none, abortLeft := 0, report := none, await := false,
           waitPll := false, timingLock := false, fromData := false, sent := false,
           peerNext := none }

/-- R135. W, the sections that the window holds. -/
def decWindow (deep : Bool) : Nat := if deep then 18 else 6

/-- R137, R138. The receiver when this end leaves data mode: after a planned end what the partner still
sends is taken to its end, and the window is flushed after any other. -/
def Rx.leave (x : Rx) (planned deep : Bool) : Rx :=
  match x.run with
  | .on => if planned then { x with run := .drain }
    else { x with run := .flush, left := some (decWindow deep) }
  | _ => x

/-- R77, R79. This end's own planned end has run to its termination rows. -/
def Line.planned (l : Line) : Bool := l.closing != .data && l.done

/-- R137, R138. The receiver of a port that leaves data mode now. -/
def Port.rxLeave (q : Port) : Rx := q.rx.leave q.line.planned q.line.deep

/-- R71, R76, R136. The receiver at the partner's first data row group; R171: the descrambler keeps its
state over a quiet period. -/
def Rx.start (x : Rx) (resume : Bool) : Rx :=
  { run := .on, scr := if resume then x.scr else BitVec.allOnes 58, iters := x.iters,
    seqNext := if resume then x.seqNext else none }

/-- R79, R95, R98. The line leaves data mode: what the registers keep stays, and an end that waits for
the next data mode; comma lock stays only where a
training follows at once (R112). -/
def Line.leave (l : Line) (keep : Bool) : Line :=
  { oam := l.oam, oamValid := l.oamValid, waitEnd := l.waitEnd, lastDown := l.lastDown,
    degUnc := l.degUnc, degMargin := l.degMargin, remoteDeg := l.remoteDeg, minNow := l.minNow, deep := l.deep, reqAt := l.reqAt,
    prec := l.prec, locks := if keep then l.locks else [none, none, none, none] }

/-- The port leaves Still. LAST_WAKE and MISSED_REFRESH stay (R182), and LOCAL_LPI, which is the host side's. -/
def Still.leave (l : Still) : Still := { lastWake := l.lastWake, missed := l.missed, lpi := l.lpi }

/-- R492. A tagged block is in flight while the port leaves data mode. -/
def Sampler.leave (m : Sampler) : Sampler :=
  { m with flight := m.flight.map fun f => { f with left := true } }

/-- R489, R492. The tagged blocks in flight when the port leaves data mode: their records are
incomplete. -/
def State.sampleFlush (s : State) (p : PortId) : State :=
  s.modPort p fun q => { q with txSamp := q.txSamp.leave, rxSamp := q.rxSamp.leave }

/-- The port leaves its data path, training and Still, for a state with no line activity. -/
def State.portRest (s : State) (p : PortId) : State :=
  (s.sampleFlush p).modPort p fun q => { q with
    train := q.train.stop, line := q.line.leave false, rx := q.rxLeave, still := q.still.leave, slots := {},
    loop := none,
    spring := { q.spring with
      spareRep := none,
      due := q.spring.due.filter fun f => f.typ != .spare &&
        (f.typ != .trainStep || byteAt f.payload 0 == 3),
      step := match q.spring.step with | some (_, none) => none | x => x },
    dorm := { q.dorm with noticeRx := false, noticeWait := false },
    link := { q.link with
      state := .disabled, freason := .none, timing := false, role := .none, spared := false,
      window := false, extended := false, hdrSeen := false, heardAt := none, c28 := false, c28Held := false,
      noCh := none, eee := false, c28Fast := false, after := .none, wakeJob := .none,
      held := false } }

/-! ## Link down and the ladder -/

/-- R344. Microseconds since the last EV_LINK_UP, 0 if not UP. -/
def State.upUs (s : State) (p : PortId) : Nat :=
  let l := (s.port p).link
  match l.upAt with
  | some t =>
    if (s.port p).ls = .up ∨ l.state = .still then sat (tkToUs (s.now - t)) else 0
  | none => 0

/-- R343, R344. EV_LINK_DOWN; a STILL port leaves STILL with it (R168), with one EV_STILL of flag 0. The
EV_LINK_DEGRADED of an epoch that ends in this tick is not raised (R153, R157). Log 16 (DEDUCED). -/
def State.linkDown (s : State) (p : PortId) (c : Down) (pairs : BitVec 4) (tc : TCause)
    (fr : FReason) : State :=
  let q := s.port p
  let rung := if q.link.state = .training then q.train.rung else q.link.rung
  let t := ((s.unraise fun e => !(e.code == .linkDegraded && e.src == .port p)).raise .linkDown (.port p)
    [(16, 1, c.code), (17, 1, rung.toNat), (18, 1, pairs.toNat), (19, 1, tc.code),
     (20, 4, s.upUs p), (24, 1, fr.code)]).count p 0x27 1
  let t1 := if q.link.state = .still && !q.still.left then
      (t.raise .still (.port p) [(16, 1, 0), (17, 1, q.link.rung.toNat)]).modStill p fun l =>
        { l with left := true }
    else t
  t1.modPort p fun q => { q with
    loop := if q.ls = .up then none else q.loop,
    link := { q.link with downAt := some s.now, state := q.ls },
    host := { q.host with downMode := q.host.mode },
    line := { q.line with
      health := .notUp,
      lastDown := if c.code ≤ 7 then BitVec.ofNat 4 c.code else q.line.lastDown } }

/-- R50. One more failed attempt at a rung; the second in a row removes it. Log 24 (DEDUCED). -/
def State.failAttempt (s : State) (p : PortId) (rung : Rung) (down : Bool) : State :=
  let q := s.port p
  let l := q.link
  if !lcDshift q.cfg.linkctl || l.sRung != 0 || (isCh rung && l.role != .head) then s else
  let n := if l.failRung = rung && (down || !l.upSince) then l.failCount + 1 else 1
  if n < 2 then
    s.modLink p fun l => { l with failRung := rung, failCount := n, upSince := false }
  else
    let rem := l.removed ||| BitVec.ofNat 9 (2 ^ rungBit rung)
    (s.modLink p fun l => { l with failRung := 0, failCount := 0, upSince := false,
                                   removed := rem }).raise .rungChange (.port p)
      [(16, 1, rung.toNat), (17, 1, 0), (18, 1, 1), (20, 2, rem.toNat)]

/-- R49. A link-down by R154 or R158, counted where it is the third at its rung within 60 s.
Log 24 (DEDUCED). Log 63 (DEDUCED). -/
def State.countDown (s : State) (p : PortId) (rung : Rung) : State :=
  let l := (s.port p).link
  let old := l.downs.filter fun d => decide (s.now - d.2 < Config.tk60s)
  let n := (old.filter fun d => d.1 == rung).length
  let t := s.modLink p fun l => { l with downs := old ++ [(rung, s.now)] }
  if 2 ≤ n then t.failAttempt p rung true
  else t.modLink p fun l => { l with failCount := 0, failRung := 0 }

/-- R154, R157. An EV_LINK_DOWN of this tick by a criterion of R154. -/
def Event.critOf (e : Event) (p : PortId) (now : Nat) : Bool :=
  e.time == now && e.code == .linkDown && e.src == .port p && decide (1 ≤ fld e.data 0 8) &&
    decide (fld e.data 0 8 ≤ 4)

/-- R157. Two criteria in one tick: the event and LAST_DOWN carry the one that comes first in order. -/
def State.recause (s : State) (p : PortId) (c : Down) : State :=
  if s.due.any fun e => e.critOf p s.now && decide (c.code < fld e.data 0 8) then
    ({ s with due := s.due.map fun (e : Event) =>
        if e.critOf p s.now then { e with data := setFld e.data 0 8 c.code } else e } : State).modLine p
      fun l => { l with lastDown := BitVec.ofNat 4 c.code }
  else s

/-- R154, R156, R157. The event of a criterion and its count under R49, one for the criteria of a tick. -/
def State.critEvent (s : State) (p : PortId) (c : Down) : State :=
  if s.due.any fun e => e.critOf p s.now then s.recause p c
  else (s.linkDown p c 0 .none .none).countDown p (s.port p).link.rung

/-- R51. REMOVED is cleared, and the earlier link-downs are forgotten (R49). -/
def State.clearRemoved (s : State) (p : PortId) : State :=
  s.modLink p fun l => { l with removed := 0, failRung := 0, failCount := 0, downs := [] }

/-! ## LISTENING -/

/-- R393, R395, R552. LISTENING has no line activity for now. Log 64 (DEDUCED). -/
def State.lineHeld (s : State) (p : PortId) : Bool :=
  let d := s.bed (bedOf p)
  s.clk.reflost || d.tempHeld || d.pow.inReset || (d.pow.on && !d.pow.lineLock)

/-- R39, R43, R46. Clause 28 starts, unless there is nothing to offer or the line is held. -/
def State.c28Start (s : State) (p : PortId) : State :=
  let q := s.port p
  if candidates q = 0 || q.link.held then s
  else s.modLink p fun l => { l with c28 := true, c28Held := false, c28Adv := some q.c28Form }

/-- R28, R40, R62, R206, R261. A fresh entry to LISTENING. -/
def State.toListening (s : State) (p : PortId) : State :=
  let q := s.port p
  let c := q.cfg
  let s1 := s.portRest p
  let held := s1.lineHeld p
  let s2 := s1.modLink p fun l => { l with
    state := .listening, rung := 0, sRung := lcRung c.linkctl, sCand := candidatesNow q,
    sRole := lcRole c.linkctl, sEee := scEee c.stillctl, held := held,
    window := lcSpring c.linkctl }
  let m := restMode c (candidatesNow q)
  let s3 := s2.hostSet p m (if m = 0 then .idle else .fault)
  let s4 := s3.springAtListening p
  if lcSpring c.linkctl then s4 else s4.c28Start p

/-! ## The other resting states -/

/-- R318. DISABLED: the lanes go idle. No end waits for a later data mode (R95). -/
def State.toDisabled (s : State) (p : PortId) : State :=
  ((s.portRest p).hostOff p).modPort p fun q => { q with
    link := { q.link with rung := 0 }, line := { q.line with waitEnd := none } }

/-- R318. A disable has come to its end. -/
def State.disableDone (s : State) (p : PortId) : State :=
  ((s.toDisabled p).clearRemoved p).finishOp .portDisable (.port p) .ok

/-- R178. The payload of WAKE_READY. -/
def readyPayload (q : Port) : Bytes :=
  match q.fp with
  | some f => (fpDigest f).take 8
  | none => zeros 8

/-- R178, R222. The waking end begins the exchange, its bed powered and the device awake. -/
def State.wakeStart (s : State) (p : PortId) : State :=
  let t := s.modPort p fun q => { q with
    dorm := { q.dorm with waking := true, latched := false, afterEntry := false },
    spring := { q.spring with wakeReq := q.spring.srole == .head,
                              wakeReady := q.spring.srole == .tail } }
  let q := t.port p
  if q.spring.sstate != .partnered then t
  else if q.spring.srole = .head then t.springDue p { typ := .wakeReq }
  else t.springDue p { typ := .wakeReady, payload := readyPayload q }

/-- R175, R344. DORMANT, with EV_DORMANT flag 1. -/
def State.toDormant (s : State) (p : PortId) : State :=
  let saved := (s.port p).dorm.saved
  let again := (s.port p).dorm.afterEntry
  let t := ((s.portRest p).hostOff p).modPort p fun q => { q with
    link := { q.link with state := .dormant, rung := 0 }, line := { q.line with waitEnd := none },
    dorm := { latchAt := s.now, lastMsg := q.dorm.lastMsg } }
  let t1 := (t.raise .dormant (.port p) [(16, 1, 1), (17, 1, b2n saved)]).finishWhere
    (fun r => r.op == .powerState && r.arg == 1 && r.doneTick.isNone) (.port p) .ok
  if again then t1.wakeStart p else t1

/-- R178, R344. EV_DORMANT flag 0, with how the port leaves. Log 21 (DEDUCED). -/
def State.leaveDormant (s : State) (p : PortId) (exit : Nat) : State :=
  let t := (s.raise .dormant (.port p) [(16, 1, 0), (18, 1, exit)]).modPort p fun q => { q with
    dorm := {}, spring := { q.spring with
      wakeReq := false, wakeReady := false,
      due := q.spring.due.filter fun f => f.typ != .wakeReq && f.typ != .wakeReady } }
  t.finishWhere (fun r => r.op == .powerState && r.arg == 0 && r.doneTick.isNone) (.port p) .ok

/-- R30. FAULT with a reason: EV_LINK_DOWN in every case. -/
def State.toFault (s : State) (p : PortId) (r : FReason) : State :=
  let t := ((s.linkDown p .portFault 0 .none r).portRest p).hostOff p
  (t.modLink p fun l => { l with state := .fault, freason := r, rung := 0 }).finishOp .powerState
    (.port p) .refused

/-! ## Training -/

/-- R11. The kinds of training at whose start the fields of apply point TRAIN take effect; a tail that
waits for the head's kind is in a warm or a fast one. -/
def kindApplies (k : TKind) : Bool := k == .cold || k == .warm || k == .fast || k == .none

/-- R11. The fields of apply point TRAIN take effect. -/
def PortCfg.trainApply (c : PortCfg) : PortCfg :=
  { c with minMargin := tcMinMargin c.trainctl, profile := dcProfile c.decctl }

/-- R117, R119, R125, R126. The adaptive elements and the coefficients computed for the partner, at a
training's start: cold from nothing, warm from the fingerprint, the others as they are. -/
def Port.adaptStart (q : Port) (kind : TKind) : Port :=
  match kind with
  | .cold => { q with adapt := .fresh, train := { q.train with ownCoef := [] } }
  | .warm =>
    match q.fp with
    | some f => { q with adapt := q.adapt.load f, train := { q.train with ownCoef := fpCoef f } }
    | none => q
  | _ => q

/-- R100–R119. A training begins: the fields of apply point TRAIN take effect (R11), and the host
side takes the mode of the rung (R261). Timing lock and precoder are kept from data mode (R119).
Log 75 (DEDUCED). -/
def State.startTraining (s : State) (p : PortId) (kind : TKind) (phase : Phase) (rung : Rung)
    (origin : Nat) (silent fromData : Bool) : State :=
  let q := s.port p
  let m := hostMode q.cfg rung
  let s1 := s.modPort p fun q => Port.adaptStart { q with
    cfg := if kindApplies kind then q.cfg.trainApply else q.cfg,
    loop := none,
    link := { q.link with state := .training, window := false, c28 := false, c28Held := false },
    line := q.line.leave fromData,
    rx := q.rxLeave,
    still := q.still.leave,
    train := { q.train.stop with
      phase := phase, kind := kind, rung := rung, origin := origin, silent := silent,
      fromData := fromData, tseq := 0, gen := BitVec.allOnes 58, cbAck := 0, cbNext := 0,
      rxCoef := [], margins := [0, 0, 0, 0], snr := [0, 0, 0, 0],
      timingLock := fromData && isCh rung && q.train.timingLock,
      held := if fromData then q.train.held else [],
      await := kind == .none } } kind
  let s2 := s1.hostSet p m .fault
  if fromData then s2.count p 0x28 1 else s2

/-- R131, R133. A failed training is recorded. -/
def State.noteFail (s : State) (p : PortId) (c : TCause) : State :=
  s.modTrain p fun t => { t with lastCause := c, fails := min 255 (t.fails + 1) }

/-- R252. The fingerprint is unconfirmed. -/
def State.fpUnconf (s : State) (p : PortId) : State := s.modPort p Port.fpUnconfirm

/-- R120, R156. The retrain that a head may choose: FAST, WARM, or none. -/
def State.retrainKind (s : State) (p : PortId) : Option TKind × State :=
  let q := s.port p
  if q.link.spared then (none, s)
  else if tcFast q.cfg.trainctl then (some .fast, s)
  else
    let (ok, t) := s.fpEval p (s.fpRetrain p)
    (if ok then some .warm else none, t)

/-- R119, R120. The head starts the retrain it chose, or the tail awaits the head's TIF. -/
def State.recover (s : State) (p : PortId) (origin : Nat) : State :=
  let q := s.port p
  if q.link.spared then s.toListening p
  else if q.link.role = .tail then
    s.startTraining p .none .timing q.link.rung origin false true
  else
    let r := s.retrainKind p
    match r.1 with
    | some k => r.2.startTraining p k .timing q.link.rung origin false true
    | none => r.2.toListening p

/-- R154, R156, R157. A link-down criterion is met: the event, the count of R49, and the recovery
unless the rung was removed, the link was spared, or the partner closed. -/
def State.downRecover (s : State) (p : PortId) (c : Down) : State :=
  let q := s.port p
  let rung := q.link.rung
  let t1 := (s.critEvent p c).sampleFlush p
  if (t1.port p).link.removed != q.link.removed || c = .peerClose || !isCh rung then
    t1.toListening p
  else t1.recover p s.now

/-- R88. The identity that comes in on a local pair: of its lock, else the one that the other three
locks leave, else of the receive map. Log 17 (DEDUCED). -/
def Port.partnerPair (q : Port) (i : Pair) : Pair :=
  match q.line.locks.getD i.val none with
  | some k => k.ident
  | none =>
    let seen := q.line.locks.filterMap fun k => k.map (·.ident)
    if seen.length = 3 then (allPairs.find? fun j => !seen.contains j).getD (mapOf q.link.rxmap i)
    else mapOf q.link.rxmap i

/-- R105, R220, R221. A local pair as the head names it. Log 17 (DEDUCED). -/
def Port.headPair (q : Port) (i : Pair) : Pair :=
  if q.link.role = .tail then q.partnerPair i else i

/-- R124. The local pair that a tail takes for a pair that the head names: the one that receives it,
else its one pair without lock. Where no pair receives it and not exactly one is without lock, the receive
map and then the pair of the same name stand in. Log 17 (DEDUCED). -/
def Port.ownPair (q : Port) (named : Pair) : Pair :=
  let locked (j : Pair) : Option Lock := q.line.locks.getD j.val none
  match allPairs.find? fun j => match locked j with | some k => k.ident == named | none => false with
  | some j => j
  | none =>
    match allPairs.filter fun j => (locked j).isNone with
    | [j] => j
    | _ => (localOf q.link.rxmap named).getD named

/-- R54. Sparing is possible on this link. -/
def sparePossible (q : Port) : Bool :=
  lcPspare q.cfg.linkctl && q.link.partnerSpare && !q.link.spared

/-- The port sends data row groups. -/
def Port.sendsData (q : Port) : Bool :=
  !q.line.term && match q.ls with
    | .up => isCh q.link.rung && !q.still.quiet
    | .still => isCh q.link.rung && !q.still.quiet
    | .training => q.train.phase == .data && q.train.abortLeft == 0
    | _ => false

/-- R55, R93. What the row groups with the spare request still take from data mode.
Log 68 (DEDUCED). -/
def Line.spareKeep (l d : Line) (req : Option Pair) : Line :=
  if req.isNone then l
  else { l with
    spareReq := req, seq := d.seq, txScr := d.txScr, enc1 := d.enc1, enc2 := d.enc2, msgs := d.msgs,
    msg := d.msg, msgTog := d.msgTog, msgAck := d.msgAck, uncSeen := d.uncSeen,
    snrHist := d.snrHist }

/-- R55. The first row group of three-pair training: data mode's framing has stopped, and the spare
request with it. Log 68 (DEDUCED). -/
def Port.spareStop (q : Port) : Port :=
  if q.line.spareReq.isNone then q
  else { q with
    line := { q.line with
      spareReq := none, seq := 0, txScr := BitVec.allOnes 58, enc1 := 0, enc2 := 0, msgs := [],
      msg := none, msgTog := false, msgAck := false, uncSeen := false, snrHist := [] } }

/-- R55, R56, R125. Three-pair training begins at the tick of EV_PAIR_SPARED: the host side
re-forms to one lane, and the fingerprint is unconfirmed (R252). An end that was sending data row
groups sets the spare request. Log 68 (DEDUCED). -/
def State.sparePair (s : State) (p : PortId) (bad : Pair) : State :=
  let q := s.port p
  let old := q
  let req := if q.sendsData then some (q.headPair bad) else none
  let t := (s.raise .pairSpared (.port p)
    [(16, 1, bad.val), (17, 1, 0), (18, 1, q.link.rung.toNat)]).sampleFlush p
  let t1 := t.startTraining p .threePair .timing 8 s.now false true
  let t2 := t1.modPort p fun q => { q.fpUnconfirm with
    link := { q.link with spared := true, sparedPair := bad },
    adapt := (q.adapt.dropPair bad).resample,
    line := { q.line with locks := upd q.line.locks bad.val none }.spareKeep old.line req }
  if q.spring.sstate = .partnered then
    let named := q.headPair bad
    (t2.modSpring p fun g => { g with spareRep := some (BitVec.ofNat 8 named.val) }).springDue p
      { typ := .spare, payload := [BitVec.ofNat 8 named.val] }
  else t2

/-- R123, R343. The EV_LINK_DOWN cause of a failed training. -/
def trainDown (kind : TKind) (c : TCause) : Down :=
  if kind = .threePair then .pairFault
  else if c = .skew then .skew
  else if c = .pairFault then .pairFault
  else .trainFail

/-- R123. What follows a failed training, once the end is silent: a warm one at once after a fast one, its
limits measured from the tick of failure. -/
def State.afterTrain (s : State) (p : PortId) : State :=
  let q := s.port p
  match q.link.after with
  | .disabled => s.disableDone p
  | .dormant => s.toDormant p
  | .warm =>
    s.startTraining p (if q.link.role = .head then .warm else .none) .timing q.train.rung q.train.origin
      false true
  | _ => s.toListening p

/-- R122, R220. The ABORT message over Spring, five times in all. -/
def State.springAbort (s : State) (p : PortId) (c : TCause) : State :=
  let q := s.port p
  let sp := if q.link.spared then 1 + 2 * (q.headPair q.link.sparedPair).val else 0
  let pay : Bytes := [3, BitVec.ofNat 8 c.code, BitVec.ofNat 8 sp]
  (s.modSpring p fun g => { g with step := some (pay, some 4) }).springDue p
    { typ := .trainStep, payload := pay }

/-- R122. The end makes its abandonment known: by TIFs from TIMING on while it transmits, otherwise
over Spring; it is then silent. Answers whether ABORT row groups remain to be sent. -/
def State.abortSignal (s : State) (p : PortId) (c : TCause) : Bool × State :=
  let t := (s.port p).train
  if t.phase = .echoHead || t.phase = .echoTail || t.phase = .handshake || t.silent then
    (false, if t.kind = .standard then s else s.springAbort p c)
  else if t.kind = .standard then (false, s)
  else (true, s.modTrain p fun t => { t with abortLeft := 8, abortCause := c, sw := none })

/-- R122, R123. The end stops, by its abort where it abandons the training itself, and goes on. -/
def State.trainQuit (s : State) (p : PortId) (c : TCause) (own : Bool) (after : After) : State :=
  let (more, t) := if own then s.abortSignal p c else (false, s)
  let u := t.modLink p fun l => { l with after := after }
  if more then u else u.afterTrain p

/-- R54, R343. PAIRS of a failed training's EV_LINK_DOWN: the pairs that failed, a spared one among them. -/
def Port.failedPairs (q : Port) (pairs : BitVec 4) : BitVec 4 :=
  if q.link.spared then pairs ||| pairMask [q.link.sparedPair] else pairs

/-- R123. A training fails with a cause; own says that this end abandons it (R122), and pairs names the
pairs that failed. After a fast one a warm one follows at once where the head holds a usable fingerprint,
and the tail awaits it. Log 47 (DEDUCED). -/
def State.trainFailWith (s : State) (p : PortId) (c : TCause) (own : Bool) (pairs : BitVec 4) : State :=
  let q := s.port p
  let kind := q.train.kind
  let s1 := s.noteFail p c
  if kind = .fast && c != .localAbort then
    let (ok, s2) := if q.link.role = .head then s1.fpEval p (s1.fpRetrain p) else (true, s1)
    let s3 := s2.modTrain p fun t => { t with origin := s.now }
    s3.trainQuit p c own (if ok then .warm else .listening)
  else
    let down := trainDown kind c
    let s2 := if kind = .warm then s1.fpUnconf p else s1
    let mask := if down = .pairFault then q.failedPairs pairs else 0
    let s3 := (s2.linkDown p down mask c .none).failAttempt p q.train.rung false
    s3.trainQuit p c own .listening

/-- R123. A training fails. Log 47 (DEDUCED). -/
def State.trainFail (s : State) (p : PortId) (c : TCause) (own : Bool) : State :=
  s.trainFailWith p c own 0

/-- R124, R125. A training fails for its pairs. -/
def State.trainFailPairs (s : State) (p : PortId) (pairs : List Pair) : State :=
  s.trainFailWith p .pairFault true (pairMask pairs)

/-- R121. The partner's ABORT in the tick in which a deadline passed: the cause is PEER_ABORT, and this end
sends no ABORT of its own. Log 47 (DEDUCED). -/
def State.peerAbortNow (s : State) (p : PortId) : State :=
  let q := s.port p
  let fell := q.link.downAt == some s.now || (q.link.after == .warm && q.train.origin == s.now)
  if fell && (q.train.lastCause == .timeout || q.train.lastCause == .margin) then
    let t := ({ s with due := s.due.map fun (e : Event) =>
        if e.time == s.now && e.code == .linkDown && e.src == .port p then
          { e with data := setFld e.data 24 8 TCause.peerAbort.code } else e } : State).modTrain p fun t =>
      { t with lastCause := .peerAbort, abortLeft := 0 }
    if q.train.abortLeft ≠ 0 then t.afterTrain p else t
  else s

/-! ## UP -/

/-- R484. A span begins, or its rung is raised. -/
def Slots.linkUp (t : Slots) (r : Rung) : Slots :=
  if t.span.toNat < r.toNat then { t with span := r } else t

/-- R344. LFLAGS of EV_LINK_UP. -/
def linkFlags (q : Port) : Nat :=
  b2n q.line.deep + 2 * b2n q.link.spared + 4 * q.link.sparedPair.val * b2n q.link.spared +
    16 * b2n q.link.timing + 32 * b2n q.link.eee

/-- R271, R272, R344. EV_LANE_LOCK_LOST. -/
def State.laneEvent (s : State) (p : PortId) (flag : Nat) (lane : Nat) : State :=
  let h := (s.port p).host
  s.raise .laneLockLost (.port p)
    [(16, 1, flag), (17, 1, lane), (18, 1, h.lastCause.toNat), (19, 1, h.mode.toNat)]

/-- R272. A port that comes UP without its host ingress reports the loss in the same tick. -/
def State.laneCheck (s : State) (p : PortId) : State :=
  if s.ingressUp p then s.modHost p fun h => { h with lost := false }
  else
    let q := s.port p
    let bad := (portLanes p q.cfg q.host.mode).find? fun l => !(s.lane l).locked
    let n := match bad with | some l => l.val % 32 | none => fld q.cfg.lanemap 0 5
    (s.modHost p fun h => { h with lost := true }).laneEvent p 1 n

/-- R97. FP_CONFIRM is queued where the slot holds a fingerprint for the port's link. -/
def State.fpConfirm (s : State) (p : PortId) : State :=
  match (s.port p).fp with
  | some f =>
    if isCh (s.port p).link.rung && (s.port p).fpOfLink p f then
      s.modLine p fun l => { l with msgs := l.msgs ++ [(1, fpConfirmBits f)] }
    else s
  | none => s

/-- R56, R97, R116, R130, R133, R250. The port is UP: the registers of the training, EV_RUNG_CHANGE where
the rung changed, EV_LINK_UP, the host side's stream, the automatic save, and FP_CONFIRM where the slot
holds a fingerprint for the link. -/
def State.toUp (s : State) (p : PortId) : State :=
  let q := s.port p
  let old := q.link.rung
  let rung := q.train.rung
  let us := sat (tkToUs (s.now - q.train.origin))
  let em := minMargin (activeMargins q.pairs q.train.margins)
  let s1 := s.modPort p fun q => { q with
    link := { q.link with state := .up, rung := rung, upAt := some s.now, upSince := true,
                          after := .none,
                          timing := if isCh rung then q.link.role == .head else q.link.timing },
    train := { q.train with phase := if isCh rung then .data else .none, fails := 0, lastUs := us,
                            entryMargin := em, entrySnr := q.train.snr, sw := none,
                            ready := false, report := none, await := false },
    line := { q.line with health := .good, epUnc := 0, epSnrs := [], epGroups := 0, clean := 0,
                          epRemote := false, snrHist := [] },
    slots := q.slots.linkUp rung }
  let changed := (q.train.fromData && old != rung && old != 0) || q.train.kind == .threePair
  let s2 := if changed then
      s1.raise .rungChange (.port p) [(16, 1, old.toNat), (17, 1, rung.toNat),
        (18, 1, if q.link.spared then 2 else 3), (20, 2, q.link.removed.toNat)]
    else s1
  let s3 := s2.hostSet p (hostMode q.cfg rung) .stream
  let q3 := s3.port p
  let s4 := (s3.raise .linkUp (.port p)
    [(16, 1, rung.toNat), (17, 1, q3.train.kind.code), (18, 1, linkFlags q3), (19, 1, em.toNat),
     (20, 4, us), (24, 1, q3.host.mode.toNat)]).count p 0x26 1
  let s5 := s4.laneCheck p
  let save := isCh rung && !q3.link.spared && fcAuto q3.cfg.fpctl &&
    (q3.train.kind == .cold || q3.train.kind == .warm || q3.train.kind == .fast)
  (if save then s5.fpSaveWell p else s5).fpConfirm p

/-! ## Loss of the Spring partner, as the port sees it -/

/-- R44, R110. What a lost or ended session means to the port: an abandoned Clause 28 is taken up
again, and a training before TIMING fails. -/
def State.springLostPort (s : State) (p : PortId) : State :=
  let q := s.port p
  if q.link.state = .listening && q.link.c28Held then
    if q.link.window then s.modLink p fun l => { l with c28Held := false }
    else s.c28Start p
  else if q.link.state = .training && (q.train.phase == .echoHead || q.train.phase == .echoTail) &&
      q.train.kind != .standard then
    s.trainFail p .springLost true
  else s

end Sys2Proof.Machine
end

