-- ==== Sys2Proof/Machine/DiagOps.lean ====
section
/-! DEFINITION.
The cable tests' shared operations (R232–R245): the course of a port's tests, what each measurement
puts into the record, and the record. -/

namespace Sys2Proof.Machine

/-! ## Test outcomes (R245) -/

def tsOk : Byte := 0
def tsNotRun : Byte := 1
def tsWrongState : Byte := 2
def tsNoPartner : Byte := 3
def tsRefused : Byte := 4
def tsInterfered : Byte := 5
def tsTimeout : Byte := 6
def tsAborted : Byte := 7
def tsUnsupported : Byte := 8

/-- The tests of R232, in the order of R233. -/
def allTests : List DTest := [.passive, .tdr, .xnext, .anext, .il]

def DTest.active (t : DTest) : Bool := t != .passive

/-- R237, R245. A test records its status; TDR without a result leaves FAULT unknown. What PASSIVE of the same
run has filled stays, which R237 does not say. Log 28 (DEDUCED). -/
def Diag.record (d : Diag) (t : DTest) (st : Byte) : Diag :=
  { d with
    status := upd d.status t.bit st,
    pairs := if t = .tdr ∧ st ≠ tsOk then d.pairs.map fun (q : PairRes) => { q with fault := 5 }
      else d.pairs }

/-- A reflection in its place along the cable, in 0.1 m units. -/
structure Located where
  dist : Nat
  rho : Int
  coupled : Option Pair
  deriving DecidableEq, Repr

/-- R232. L = NVP × 0.299792458 m/ns × t / 2, rounded to 0.1 m. Log 28 (DEDUCED). -/
def distOf (nvp : BitVec 16) (time : Nat) : Nat :=
  (nvp.toNat * 299792458 * time + 10000000000000) / 20000000000000

/-- R232. A reflection at its distance. -/
def Refl.locate (nvp : BitVec 16) (r : Refl) : Located :=
  { dist := distOf nvp r.time, rho := r.rho, coupled := r.coupled }

/-- R238. What a reflection is, by the codes of FAULT: 0 where it is a joint. The table gives no precedence to
one that meets two of its conditions: OPEN or SHORT comes before CROSS_SHORT here. Log 28 (DEDUCED). -/
def reflFault (r : Located) : Byte :=
  if 500 ≤ r.rho then 1
  else if r.rho ≤ -500 then 2
  else if r.coupled.isSome then 3
  else if 100 ≤ r.rho.natAbs then 4
  else 0

/-- R238. An OPEN, SHORT or CROSS_SHORT. -/
def reflHard (r : Located) : Bool := reflFault r == 1 || reflFault r == 2 || reflFault r == 3

/-- R238. A hard fault lies nearer than distance d. -/
def hardNearer (rs : List Located) (d : Nat) : Bool := rs.any fun r => reflHard r && decide (r.dist < d)

/-- The farthest of a list of reflections. -/
def farthest : List Located → Option Located
  | [] => none
  | r :: rs =>
    match farthest rs with
    | none => some r
    | some q => if q.dist < r.dist then some r else some q

/-- Two distances lie within 1 m. -/
def near (a b : Nat) : Bool := decide (a ≤ b + 10) && decide (b ≤ a + 10)

/-- The middle one of a list of distances, none for none; of two, the lower. -/
def median (ds : List Nat) : Option Nat :=
  let s := ds.mergeSort (· ≤ ·)
  if s.isEmpty then none else s[(s.length - 1) / 2]?

/-- R238. The far end that a pair with an open far end shows; of each other pair the farthest reflection with
ρ ≥ +0.5 counts as its far end for the median, which R238 does not say. Log 28 (DEDUCED). -/
def farOpen (all : List (List Located)) (i : Nat) : Option Located :=
  let cand (rs : List Located) : Option Located := farthest (rs.filter fun r => decide (500 ≤ r.rho))
  let others := (List.range 4).filterMap fun j =>
    if j = i then none else (cand (all.getD j [])).map (·.dist)
  match median others with
  | none => none
  | some m => farthest ((all.getD i []).filter fun r => decide (500 ≤ r.rho) && near r.dist m)

/-- R238. The far end that a pair with a terminated far end shows. Log 28 (DEDUCED). -/
def farTerm (all : List (List Located)) (i : Nat) : Option Located :=
  let rs := all.getD i []
  let ok (r : Located) : Bool :=
    decide (20 ≤ r.rho.natAbs) && decide (r.rho.natAbs < 500) &&
    decide (2 ≤ ((List.range 4).filter fun j =>
      j != i && (all.getD j []).any fun q => near q.dist r.dist).length) &&
    !hardNearer rs r.dist
  farthest (rs.filter ok)

/-- R238. The eight largest reflections in ascending distance, the far end among them. -/
def eightLargest (rs : List Located) (far : Option Located) : List Located :=
  let big := rs.mergeSort fun a b => decide (b.rho.natAbs ≤ a.rho.natAbs)
  let top := big.take 8
  let top1 := match far with
    | some f => if top.contains f then top else
        (if top.length < 8 then top ++ [f] else top.take 7 ++ [f])
    | none => top
  top1.mergeSort fun a b => decide (a.dist ≤ b.dist)

/-- R244. ρ × 127 as a signed byte, rounded to the nearest and held within the byte. Log 28 (DEDUCED). -/
def rhoCode (rho : Int) : Byte :=
  let m := min 127 ((rho.natAbs * 127 + 500) / 1000)
  if rho < 0 then BitVec.ofInt 8 (-(m : Int)) else BitVec.ofNat 8 m

/-- R244. The return loss of the largest reflection, −20 log₁₀|ρ| in 0.5 dB units, rounded down: the number
of steps i from 1 on with |ρ| ≤ 10^(−i/40); 0xFF where there is none. Log 28 (DEDUCED). -/
def returnLoss (rs : List Located) : Byte :=
  let big := rs.foldl (fun a r => max a r.rho.natAbs) 0
  if big = 0 then 0xFF
  else BitVec.ofNat 8 ((List.range 254).filter fun i =>
    decide (big ^ 40 * 10 ^ (i + 1) ≤ 1000 ^ 40)).length

/-- R238, R245. The band of an impedance in 0.1 Ω units; a value on an edge belongs to the band nearer
100 Ω. Log 28 (DEDUCED). -/
def impCode : Option Nat → Byte
  | none => 0
  | some z => if z < 800 then 1 else if z < 900 then 2 else if z ≤ 1100 then 3 else if z ≤ 1200 then 4 else 5

/-- R244. The bytes of EVENTS. -/
def eventBytes (rs : List Located) (far : Option Located) : Bytes :=
  let one (r : Located) : Bytes :=
    let kind : Byte := if far = some r then 2
      else if reflHard r then 3
      else if reflFault r = 4 && !hardNearer rs r.dist then 3 else 1
    leBytes 2 r.dist ++ [rhoCode r.rho, kind]
  slice ((eightLargest rs far).flatMap one) 0 32

/-- R238, R244. What TDR puts into pair i's block. Log 28 (DEDUCED). -/
def tdrPair (highz : Bool) (all : List (List Located)) (i : Nat) (o : PairObs) (q : PairRes) :
    PairRes :=
  let rs := all.getD i []
  let far := if highz then farOpen all i else farTerm all i
  let faults := rs.filter fun r => far != some r && reflFault r != 0
  let nearest := match faults.mergeSort fun a b => decide (a.dist ≤ b.dist) with
    | [] => none
    | r :: _ => some r
  { q with
    length := match far with | some r => BitVec.ofNat 16 r.dist | none => 0xFFFF,
    faultDist := match nearest with | some r => BitVec.ofNat 16 r.dist | none => 0xFFFF,
    fault := match nearest with | some r => reflFault r | none => 0,
    xpair := match nearest with
      | some r => if reflFault r = 3 then (match r.coupled with
          | some x => BitVec.ofNat 8 x.val | none => 0xFF) else 0xFF
      | none => 0xFF,
    imp := impCode o.imp, rlWorst := returnLoss rs, events := eventBytes rs far }

/-- R235. What PASSIVE puts into a pair's block; the far-end connector is the farthest reflection
within 30 m. Log 28 (DEDUCED). -/
def passivePair (ch : Bool) (all : List Located) (o : PairObs) (q : PairRes) : PairRes :=
  let rs := all.filter fun r => decide (r.dist ≤ 300)
  let far := farthest rs
  { q with
    length := match far with | some r => BitVec.ofNat 16 r.dist | none => 0xFFFF,
    events := eventBytes rs far, next := slice o.next 0 3,
    il := if ch then slice o.il 0 32 else q.il }

/-- R235–R241. A test that produced results puts them into the record. -/
def Diag.fill (d : Diag) (t : DTest) (o : DiagObs) : Diag :=
  let obs (i : Nat) : PairObs := o.pairs.getD i
    { refls := [], imp := none, next := [], anext := [], il := [] }
  let map2 (f : Nat → PairObs → PairRes → PairRes) : List PairRes :=
    d.pairs.zipIdx.map fun x => f x.2 (obs x.2) x.1
  let refls (i : Nat) : List Located := (obs i).refls.map (Refl.locate d.nvp)
  match t with
  | .passive =>
    { d with pairs := map2 fun i o q => passivePair (isCh d.rung) (refls i) o q, skew := d.deskew,
             flags := d.flags ||| (if isCh d.rung then 0x0C else 0x04) }
  | .tdr =>
    let all := (List.range 4).map refls
    { d with pairs := map2 fun i o q => tdrPair (bit d.flags 1) all i o q }
  | .xnext => { d with pairs := map2 fun _ o q => { q with next := slice o.next 0 3 },
                       flags := d.flags &&& 0xFB }
  | .anext => { d with pairs := map2 fun _ o q => { q with anext := slice o.anext 0 32 } }
  | .il => { d with pairs := map2 fun _ o q => { q with il := slice o.il 0 32 }, skew := o.skew,
                    flags := d.flags &&& 0xF7 }

/-- R245. CATEGORY needs the insertion loss, NEXT and length of all four pairs. -/
def Diag.known (d : Diag) : Bool :=
  d.pairs.all fun q => q.length != 0xFFFF && q.next.all (· != 0xFF) && q.il.all (· != 0xFF)

/-- R244. A pair block. -/
def PairRes.bytes (q : PairRes) : Bytes :=
  leBytes 2 q.length.toNat ++ leBytes 2 q.faultDist.toNat ++ [q.fault, q.imp, q.xpair, q.rlWorst] ++
    slice q.next 0 3 ++ zeros 5 ++ slice q.anext 0 32 ++ slice q.il 0 32 ++ slice q.events 0 32

/-- R243, R244. The record. -/
def Diag.bytes (d : Diag) (p : PortId) (stop : Tick) : Bytes :=
  [1, BitVec.ofNat 8 p.val, d.tests, 0, BitVec.ofNat 8 d.pstate.code, d.rung.setWidth 8,
   if d.known then d.category else 0, d.skew] ++
    leBytes 8 d.start.toNat ++ leBytes 8 stop.toNat ++ leBytes 8 d.partner.toNat ++
    slice d.status 0 5 ++ [0, d.flags, 0] ++ leBytes 2 d.nvp.toNat ++ zeros 22 ++
    d.pairs.flatMap PairRes.bytes

/-! ## What the drivers of a port in TEST do (R237, R239, R241, R242) -/

/-- What drives a line: the link itself, zero differential output, nothing at high impedance, the pulse of
R237 on each pair in turn, or the PAM-2 signal of R239 without TIF content, on each pair in turn or on all
four. -/
inductive Drive
  | link
  | zero
  | highZ
  | pulse
  | trainInTurn
  | trainAll
  deriving DecidableEq, Repr

/-- R237, R239, R241, R242. What drives a port's line; between its tests a port in TEST is silent. -/
def Port.drive (q : Port) : Drive :=
  match q.grant, q.diag with
  | some g, _ =>
    if g.sweepMs.isSome then (if g.sending then .trainAll else .zero) else if g.highz then .highZ else .zero
  | none, some d =>
    if !d.inTest then .link
    else if d.begun then
      match d.left with
      | .tdr :: _ => .pulse
      | .xnext :: _ => .trainInTurn
      | _ => .zero
    else .zero
  | none, none => .link

/-! ## The course of a run -/

/-- The status of a target whose tests do not all record OK. Log 28 (DEDUCED). -/
def diagFail : ST :=
  match Config.diagFailCode % 7 with
  | 0 => .refused | 1 => .abortedReset | 2 => .badParam | 3 => .busy | 4 => .notPowered
  | 5 => .authFail | _ => .timeout

/-- R234. Every requested test records OK. -/
def Diag.allOk (d : Diag) : Bool :=
  allTests.all fun t => !bit d.tests t.bit || d.status.getD t.bit 1 == tsOk

/-- R210, R236. The port has a Spring partner that advertised DIAG. -/
def diagPartner (q : Port) : Bool :=
  q.spring.sstate == .partnered &&
    match q.spring.pcap with | some c => bit (byteAt c 4) 2 | none => false

/-- R236. END goes to a partner that was asked for quiet. -/
def State.diagEndQuiet (s : State) (p : PortId) : State :=
  match (s.port p).diag with
  | some d =>
    if d.asked then
      let t := s.modPort p fun q => { q with diag := some { d with asked := false } }
      if diagPartner (t.port p) then t.springDiag p [6] else t
    else s
  | none => s

/-- R233. The port returns to its state before its active tests. -/
def State.testReturn (s : State) (p : PortId) (prior : PState) : State :=
  if prior = .listening then s.toListening p
  else if s.pst p = .test then (s.portRest p).hostOff p else s

/-- R234, R243. The port's record is written and its target completes. -/
def State.diagWrite (s : State) (p : PortId) : State :=
  match (s.port p).diag with
  | none => s
  | some d =>
    let t := s.hostWrite d.addr (d.bytes p s.clk.tick)
    (t.modPort p fun q => { q with diag := none }).finish d.key (.port p)
      (if d.allOk then .ok else diagFail)

/-- R233. Every requested active test that has not run records a status. -/
def Diag.recordLeft (d : Diag) (st : Byte) : Diag :=
  { d.left.foldl (fun a t => a.record t st) d with left := [] }

/-- R233. A port enters TEST for its active tests; the line falls silent. -/
def State.enterTest (s : State) (p : PortId) : State :=
  let t := (s.portRest p).hostSet p 0 .test
  t.modLink p fun l => { l with state := .test, rung := 0 }

/-- R236, R241. The next of the port's tests begins, or its tests are at their end. -/
def State.diagBegin (s : State) (p : PortId) : State :=
  match (s.port p).diag with
  | none => s
  | some d =>
    match d.left with
    | [] =>
      let t := s.diagEndQuiet p
      let t1 := t.diagWrite p
      if d.inTest then t1.testReturn p d.prior else t1
    | .il :: _ =>
      let t := s.diagEndQuiet p
      let d1 := { (((t.port p).diag).getD d) with begun := true }
      if diagPartner (t.port p) then
        (t.modPort p fun q => { q with diag := some { d1 with sweep := true } }).springDiag p
          [3, 16]
      else
        let d2 := { (d1.record .il tsNoPartner) with left := [] }
        let t1 := (t.modPort p fun q => { q with diag := some d2 }).diagWrite p
        if d.inTest then t1.testReturn p d.prior else t1
    | _ :: _ => s.modPort p fun q => { q with diag := some { d with begun := true } }

/-- A port of the command has a test in progress in the bed. -/
def State.diagActive (s : State) (k : CmdKey) (b : BedId) : Bool :=
  (portsOf b).any fun p => match (s.port p).diag with
    | some d => d.key == k && d.inTest
    | none => false

/-- R233. PASSIVE still runs for a port of the command. -/
def State.diagPassive (s : State) (k : CmdKey) : Bool :=
  allPorts.any fun p => match (s.port p).diag with
    | some d => d.key == k && (match d.left with | .passive :: _ => true | _ => false)
    | none => false

/-- R233, R236. A port's turn for its active tests. -/
def State.diagTurn (s : State) (p : PortId) : State :=
  match (s.port p).diag with
  | none => s
  | some d =>
    let st := s.pst p
    if d.left.isEmpty then s.diagWrite p
    else if st = .disabled || st = .listening then
      let d1 := { d with inTest := true, begun := false, prior := st,
                         start := if bit d.tests 0 then d.start else s.clk.tick }
      let s1 := s.enterTest p
      if diagPartner (s1.port p) then
        (s1.modPort p fun q => { q with diag := some { d1 with waitAck := true, asked := true } })
          |>.springDiag p [1, 50, 1]
      else (s1.modPort p fun q => { q with diag := some d1 }).diagBegin p
    else (s.modPort p fun q => { q with diag := some (d.recordLeft tsWrongState) }).diagWrite p

/-- R233. The next port of a bed takes its turn, n turns at most: a turn that ends at once gives way
to the next. -/
def State.diagNext : Nat → CmdKey → BedId → State → State
  | 0, _, _, s => s
  | n + 1, k, b, s =>
    if s.diagPassive k || s.diagActive k b then s
    else
      match (portsOf b).find? fun p => match (s.port p).diag with
        | some d => d.key == k
        | none => false with
      | none => s
      | some p => State.diagNext n k b (s.diagTurn p)

/-- R233. The beds of a command go on. -/
def State.diagGo (s : State) (k : CmdKey) : State := forAll allBeds (State.diagNext 16 k) s

/-- R234. The port's run ends with its remaining tests ABORTED and its record written; the port's
state is the caller's. -/
def State.diagAbort (s : State) (p : PortId) : State :=
  match (s.port p).diag with
  | none => s
  | some d =>
    let t := s.diagEndQuiet p
    ((t.modPort p fun q => { q with diag := some { (d.recordLeft tsAborted) with asked := false } })
      |>.diagWrite p).diagGo d.key

/-- R234. A reset ends the port's run with no record. -/
def State.diagDrop (s : State) (p : PortId) : State :=
  match (s.port p).diag with
  | none => s
  | some d => (s.modPort p fun q => { q with diag := none }).diagGo d.key

/-- R233. The test in progress ends with a status; the next one, or the next port, follows. -/
def State.diagDone (s : State) (p : PortId) (st : Byte) : State :=
  match (s.port p).diag with
  | none => s
  | some d =>
    match d.left with
    | [] => s
    | t :: rest =>
      let d1 := { (d.record t st) with left := rest, begun := false, sweep := false }
      let s1 := s.modPort p fun q => { q with diag := some d1 }
      (if d.inTest then s1.diagBegin p
       else if rest.isEmpty then s1.diagWrite p else s1).diagGo d.key

/-- R241. The loss of the Spring partner ends an IL in progress. -/
def State.diagLost (s : State) (p : PortId) : State :=
  match (s.port p).diag with
  | some d =>
    (match d.left with
     | .il :: _ => if d.begun && d.inTest then s.diagDone p tsAborted else s
     | _ => s)
  | none => s

/-- R242. A granted quiet or sweep ends; the port returns to its prior state. -/
def State.grantEnd (s : State) (p : PortId) : State :=
  match (s.port p).grant with
  | none => s
  | some g => (s.modPort p fun q => { q with grant := none }).testReturn p g.prior

/-- R208. The channel leaves PARTNERED, or is switched off, with everything that follows. -/
def State.springLose (s : State) (p : PortId) (c : Loss) : State :=
  let t := s.springLeave p c
  (t.springLostPort p).diagLost p

end Sys2Proof.Machine
end

