-- ==== Sys2Proof/Machine/FlashOps.lean ====
section
/-! DEFINITION.
What is kept in flash (R418–R425, R457–R460, R508–R511): the boot log, the boot control records,
the certificate chain, the images and the calibration records. -/

namespace Sys2Proof.Machine

/-! ## Regions (R418) -/

def bootctlBase : Nat := 0x10000
def chainBase : Nat := 0x20000
def imageBase (slotB : Bool) : Nat := if slotB then 0x1100000 else 0x100000
def calBase (slot1 : Bool) : Nat := if slot1 then 0x2200000 else 0x2100000
def logBase : Nat := 0x2300000

/-- R418. Bytes programmed: an erased byte takes the value; what a byte that is not erased then
holds is not stated, and is free. -/
def State.flashProgram (s : State) (a : Nat) (bs : Bytes) : State :=
  let one (i : Nat) (b : Byte) : Byte := if s.flashByte (a + i) = 0xFF then b else s.freeAt i
  let t := s.flashWrite a (bs.zipIdx.map fun x => one x.2 x.1)
  if (List.range bs.length).all fun i => s.flashByte (a + i) == 0xFF then t else t.takeFree

/-! ## The boot log (R424) -/

/-- R424. The image slot in use, 0xFF for none. -/
def State.slotByte (s : State) : Byte :=
  if s.hub.mode = .seedbed then 0xFF
  else if s.boot.stage = 0 || decide (6 ≤ s.boot.stage) then BitVec.ofNat 8 (b2n s.boot.slot)
  else 0xFF

/-- R424. The bytes of a record. -/
def State.logRecord (s : State) (k : LogKind) (reason last detail : Nat) (tick : Tick) : Bytes :=
  let b := [BitVec.ofNat 8 k.code, BitVec.ofNat 8 reason, s.slotByte,
    BitVec.ofNat 8 s.boot.count] ++ leBytes 4 s.boot.startNo ++ leBytes 8 tick.toNat ++
    [BitVec.ofNat 8 last] ++ leBytes 2 detail ++ zeros 9
  b ++ crc32Bytes b

/-- The places of the log that hold a byte that is not erased. -/
def State.logPlaces (s : State) : List Nat :=
  s.flash.mem.foldl (fun acc c =>
    if logBase ≤ c.1 ∧ c.1 < logBase + 0x100000 then
      let i := (c.1 - logBase) / 32
      if acc.contains i then acc else acc ++ [i]
    else acc) []

/-- R424. The valid records: place and START_NO. -/
def State.logValid (s : State) : List (Nat × Nat) :=
  s.logPlaces.filterMap fun i =>
    let r := s.flashBytes (logBase + 32 * i) 32
    if crc32Ok r then some (i, leAt r 4 4) else none

/-- R424. The highest START_NO in the log, 0 for none. Log 29 (DEDUCED). -/
def State.logHighest (s : State) : Nat := s.logValid.foldl (fun a r => max a r.2) 0

/-- R424. The place after the newest valid record. -/
def State.logNext (s : State) : Nat :=
  let v := s.logValid
  if v.isEmpty then 0
  else
    let top := (v.filter fun r => r.2 == s.logHighest).map fun r => r.1
    match top.find? fun i => !top.contains ((i + 1) % 32768) with
    | some i => (i + 1) % 32768
    | none => 0

/-- R424. A record is programmed, the sector erased first where the record enters it. -/
def State.logWrite (s : State) (k : LogKind) (reason last detail : Nat) (tick : Tick) : State :=
  let i := s.logNext
  let a := logBase + 32 * i
  let s1 := if i % 128 = 0 then s.flashErase a 4096 else s
  s1.flashProgram a (s.logRecord k reason last detail tick)

/-- R424, R431. Flash can be written now. Log 29 (DEDUCED). -/
def State.logReady (s : State) : Bool := s.boot.flashOk && s.sluice.hubOn

/-- R424. A record of the boot log, held while flash is not usable. -/
def State.log (s : State) (k : LogKind) (reason last detail : Nat) : State :=
  if s.logReady then s.logWrite k reason last detail s.clk.tick
  else { s with boot := { s.boot with
    held := s.boot.held ++ [(k, reason, last, detail, s.clk.tick)] } }

/-- R424. The held records are written in order. Log 29 (DEDUCED). -/
def State.logFlush (s : State) : State :=
  if s.logReady then
    forAll s.boot.held (fun r t => t.logWrite r.1 r.2.1 r.2.2.1 r.2.2.2.1 r.2.2.2.2)
      { s with boot := { s.boot with held := [] } }
  else s

/-! ## Boot control (R420) -/

def State.bootctl (s : State) (k : Nat) : Bytes := s.flashBytes (bootctlBase + 4096 * k) 32

/-- R420. A copy verifies. -/
def bootctlOk (c : Bytes) : Bool := byteAt c 0 == 1 && crc32Ok c

/-- R420. The verifying copy with the higher SEQ. -/
def State.bootctlBest (s : State) : Option Nat :=
  let a := s.bootctl 0
  let b := s.bootctl 1
  if bootctlOk a && bootctlOk b then (if leAt a 4 4 < leAt b 4 4 then some 1 else some 0)
  else if bootctlOk a then some 0
  else if bootctlOk b then some 1
  else none

/-- R420. The preferred slot is B. -/
def State.preferredB (s : State) : Bool :=
  match s.bootctlBest with
  | some k => byteAt (s.bootctl k) 1 == 1
  | none => false

/-- R420. The boot control record is written for a slot, over the other copy. -/
def State.bootctlWrite (s : State) (slotB : Bool) : State :=
  let (k, seq) := match s.bootctlBest with
    | some k => (1 - k, leAt (s.bootctl k) 4 4 + 1)
    | none => (0, 1)
  let b := [1, BitVec.ofNat 8 (b2n slotB), 0, 0] ++ leBytes 4 seq ++ zeros 20
  (s.flashErase (bootctlBase + 4096 * k) 4096).flashWrite (bootctlBase + 4096 * k)
    (b ++ crc32Bytes b)

/-! ## Certificates (R507–R509) -/

def ascii (cs : List Nat) : Bytes := cs.map (BitVec.ofNat 8)
/-- R507. The context strings CH8128-CERT, -IMAGE, -UNLOCK and -ATTEST. -/
def ctxHead : List Nat := [67, 72, 56, 49, 50, 56, 45]
def ctxCert : Bytes := ascii (ctxHead ++ [67, 69, 82, 84])
def ctxImage : Bytes := ascii (ctxHead ++ [73, 77, 65, 71, 69])
def ctxUnlock : Bytes := ascii (ctxHead ++ [85, 78, 76, 79, 67, 75])
def ctxAttest : Bytes := ascii (ctxHead ++ [65, 84, 84, 69, 83, 84])

/-- R509. COUNT. -/
def State.certCount (s : State) : Nat := leNat (s.flashBytes chainBase 4)

def State.cert (s : State) (k : Nat) : Bytes := s.flashBytes (chainBase + 4 + 5293 * k) 5293

def certKey (c : Bytes) : Bytes := slice c 32 1952
def certId (c : Bytes) : Nat := leAt c 4 4
def certUsage (c : Bytes) : Byte := byteAt c 1

/-- R508, R509. A certificate's signature verifies under a key. -/
def certSigned (c key : Bytes) : Bool :=
  Config.mldsaVerify key ctxCert (slice c 0 1984) (slice c 1984 3309)

/-- R509. Certificate k verifies under its parent, which appears earlier; a parent other than the
root carries CA. -/
def certOk (cs : List Bytes) (k : Nat) : Bool :=
  let c := cs.getD k []
  if k = 0 then certSigned c (certKey c)
  else
    match (List.range k).find? fun j => certId (cs.getD j []) == leAt c 8 4 with
    | none => false
    | some j =>
      let q := cs.getD j []
      (j == 0 || bit (certUsage q) 3) && certSigned c (certKey q)

/-- R509. The chain's certificates, none for a COUNT out of range. -/
def State.certs (s : State) : List Bytes :=
  let n := s.certCount
  if 1 ≤ n ∧ n ≤ 6 then (List.range n).map s.cert else []

/-- R509. Stage 3 accepts the chain. -/
def State.chainOk (s : State) : Bool :=
  let cs := s.certs
  !cs.isEmpty &&
    shake256 (slice (cs.getD 0 []) 0 1984) 32 == (List.range 32).map Config.romRootDigest &&
    (List.range cs.length).all (certOk cs)

/-- R510, R519. The key of a chain certificate with an identifier and a usage bit. -/
def State.chainKey (s : State) (id usage : Nat) : Option Bytes :=
  (s.certs.find? fun c => certId c == id && bit (certUsage c) usage).map certKey

/-- R505. The fused identity seed. -/
def seed : Bytes := (List.range 32).map Config.seedByte

/-- R506. The derived public key. -/
def identityKey : Bytes := (List.range 1952).map (Config.mldsaPublic seed)

/-- R509. DEVCERT_OK. -/
def State.devcertOk (s : State) : Bool :=
  s.certs.any fun c => bit (certUsage c) 2 && leAt c 12 7 == Config.serial.toNat &&
    certKey c == identityKey

/-! ## Images (R510–R512) -/

/-- R512. The fused security version: 1 plus the highest blown bit. -/
def fusedSvn (f : BitVec 64) : Nat :=
  (List.range 64).foldl (fun a i => if f.getLsbD i then i + 1 else a) 0

/-- R510. MAGIC as stored. -/
def imageMagic : Bytes := [0xA7, 0xC8, 0x31, 0x5A]

/-- R510. The 4 KiB header of a slot. -/
def State.imageHead (s : State) (slotB : Bool) : Bytes := s.flashBytes (imageBase slotB) 4096

def imgVersion (h : Bytes) : BitVec 16 := BitVec.ofNat 16 (leAt h 8 2)
def imgSvn (h : Bytes) : Byte := byteAt h 10
def imgBody (h : Bytes) : Nat := leAt h 12 4
def imgAdvance (h : Bytes) : Bool := bit (byteAt h 5) 0
def imgSubsys (h : Bytes) : Word := BitVec.ofNat 32 (leAt h 16 4)

/-- R511. The first check of a header. -/
def headerForm (h : Bytes) : Bool :=
  h.take 4 == imageMagic && byteAt h 4 == 1 && decide (1 ≤ imgBody h) &&
    decide (imgBody h ≤ 16773120) && decide ((byteAt h 5).toNat < 2) && allZero (slice h 6 2) &&
    byteAt h 11 == 0 && allZero (slice h 24 8) && allZero (slice h 96 32) &&
    allZero (slice h 3437 659)

/-- R511. The result of verifying a slot whose header is h, its first four bytes as given. -/
def State.verifyHead (s : State) (slotB : Bool) (h : Bytes) : SlotRes :=
  if h.take 4 == [0xFF, 0xFF, 0xFF, 0xFF] then .incomplete
  else if !headerForm h then .invalid
  else
    match s.chainKey (leAt h 20 4) 0 with
    | none => .invalid
    | some key =>
      if !Config.mldsaVerify key ctxImage (slice h 0 128) (slice h 128 3309) then .invalid
      else if shake256 (s.flashBytes (imageBase slotB + 0x1000) (imgBody h)) 64 != slice h 32 64 then
        .invalid
      else if (imgSvn h).toNat < fusedSvn s.sec.svn then .rollback
      else .verified

/-- R511. The result of verifying a slot. -/
def State.verifySlot (s : State) (slotB : Bool) : SlotRes := s.verifyHead slotB (s.imageHead slotB)

/-- R523. SEC.SLOTSTAT takes a result. Log 56 (DESIGN CHOICE). -/
def State.slotResult (s : State) (slotB : Bool) (r : SlotRes) : State :=
  { s with sec := if slotB then { s.sec with slotB := r } else { s.sec with slotA := r } }

/-- R344. EV_SECURITY. -/
def State.security (s : State) (kind object cid : Nat) : State :=
  s.raise .security .device [(16, 1, kind), (17, 1, object), (18, 2, cid)]

/-- R511. The event of a slot that failed verification. -/
def State.slotEvent (s : State) (r : SlotRes) (cid : Nat) : State :=
  match r with
  | .verified => s
  | .rollback => s.security 4 1 cid
  | _ => s.security 3 1 cid

/-- R511. A slot is verified: its result is recorded, and a failure reported. Log 38 (DEDUCED). -/
def State.verify (s : State) (slotB : Bool) (cid : Nat) : SlotRes × State :=
  let r := s.verifySlot slotB
  (r, (s.slotResult slotB r).slotEvent r cid)

/-! ## Calibration records (R457–R460) -/

def State.calSlot (s : State) (k : Bool) : Bytes := s.flashBytes (calBase k) 0x19020

/-- R459. A slot is blank. -/
def State.calBlank (s : State) (k : Bool) : Bool :=
  (s.flashBytes (calBase k) 64).all (· == 0xFF)

/-- R459. A record's DIGEST verifies. -/
def calDigestOk (r : Bytes) : Bool :=
  if byteAt r 0 != 1 || leAt r 0x10 4 != 0xFFFFFFFF then false
  else r.drop 0x19000 == shake256 (r.take 0x19000) 32

/-- R459. A record names this device. -/
def calSerialOk (r : Bytes) : Bool := leAt r 8 8 == Config.serial.toNat

/-- R459. A slot holds a verifying record. -/
def State.calOk (s : State) (k : Bool) : Bool :=
  let r := s.calSlot k
  calDigestOk r && calSerialOk r

def calRecSeq (r : Bytes) : Nat := leAt r 4 4

/-- R458. Bed n's block of a record. -/
def calBedBlock (r : Bytes) (b : BedId) : Bytes := slice r (0x1000 + 0x3000 * b.val) 0x3000

/-- R457. The digest of a record. -/
def calRecDigest (r : Bytes) : Bytes := slice r 0x19000 32

/-- R456, R457. The block of the record in force, nothing where there is none. -/
def State.calForce (s : State) (b : BedId) : Bytes :=
  if s.cal.valid then calBedBlock (s.calSlot s.cal.slot) b else []

end Sys2Proof.Machine
end

