-- ==== Sys2Proof/Machine/Access.lean ====
section
/-! DEFINITION.
Which blocks answer an access (R345–R350, R353, R371) and what a fault leaves in HUB.AFAULT. -/

namespace Sys2Proof.Machine

/-- The blocks of R353. -/
inductive Block
  | hub | clk | sluice | mbx | tel | ring | sec | flash
  | bed (b : BedId) | bedclk (b : BedId) | xbar (b : BedId) | tender (b : BedId)
  | port (b : BedId) | lane (b : BedId)
  deriving DecidableEq, Repr

/-- R23. The base of a bed in BAR0. -/
def bedBase (b : BedId) : Nat := 0x1000000 + b.val * 0x400000

/-- R23. The base of a port's window. -/
def portBase (p : PortId) : Nat := bedBase (bedOf p) + 0x100000 + (p.val % 16) * 0x10000

/-- R280. The base of a lane's window. -/
def laneBase (l : LaneId) : Nat := bedBase (bedOfLane l) + 0x200000 + (l.val % 32) * 0x10000

/-- R353. The block that an offset lies in, none outside every block. -/
def blockOf (a : Nat) : Option Block :=
  if a < 0x1000 then some .hub
  else if a < 0x2000 then some .clk
  else if a < 0x3000 then some .sluice
  else if a < 0x4000 then none
  else if a < 0x8000 then some .mbx
  else if a < 0x10000 then none
  else if a < 0x20000 then some .tel
  else if a < 0x21000 then some .ring
  else if a < 0x30000 then none
  else if a < 0x40000 then some .sec
  else if a < 0x50000 then some .flash
  else if a < 0x1000000 then none
  else if a < 0x3000000 then
    let b : BedId := Fin.ofNat 8 ((a - 0x1000000) / 0x400000)
    let o := (a - 0x1000000) % 0x400000
    if o < 0x1000 then some (.bed b)
    else if o < 0x2000 then some (.bedclk b)
    else if o < 0x3000 then some (.xbar b)
    else if o < 0x8000 then none
    else if o < 0x10000 then some (.tender b)
    else if o < 0x100000 then none
    else if o < 0x200000 then some (.port b)
    else some (.lane b)
  else none

/-- R371. PF0 and the SMBus port reach only HUB and CLK in a start until the bind table is
locked. -/
def State.early (s : State) (m : MasterId) : Bool :=
  (m == 11 || m == 13) && !s.hub.bindLocked && (s.hub.mode == .boot || s.hub.mode == .seedbed)

/-- R348, R349. The block answers a master. -/
def State.answers (s : State) (m : MasterId) (k : Block) : Bool :=
  match k with
  | .hub => true
  | .clk => true
  | .sluice => !s.early m
  | .mbx => !s.early m
  | .tel => s.sluice.hubOn && s.hub.mode != .boot && s.hub.mode != .seedbed
  | .ring => s.sluice.hubOn && !s.early m
  | .sec => s.sluice.hubOn && !s.early m
  | .flash => s.sluice.hubOn && !s.early m
  | .bed b => s.bedOn b && s.hub.mode != .boot && s.hub.mode != .seedbed
  | .bedclk b => s.bedOn b && s.hub.mode != .boot && s.hub.mode != .seedbed
  | .xbar b => s.bedOn b && s.hub.mode != .boot && s.hub.mode != .seedbed
  | .tender b => s.bedOn b && s.hub.mode != .boot && s.hub.mode != .seedbed
  | .port b => s.bedOn b && !(s.bed b).pow.forced && s.hub.mode != .boot && s.hub.mode != .seedbed
  | .lane b => s.bedOn b && !(s.bed b).pow.forced && s.hub.mode != .boot && s.hub.mode != .seedbed

/-- The bed of a block that lies in a bed's main domain. -/
def blockBed : Block → Option BedId
  | .bed b => some b
  | .bedclk b => some b
  | .xbar b => some b
  | .tender b => some b
  | .port b => some b
  | .lane b => some b
  | _ => none

/-- R348, R470. The register at an offset of a block answers: in a self-test run of its bed only
BED.BISTSTAT does. -/
def State.answersAt (s : State) (m : MasterId) (k : Block) (addr : Nat) : Bool :=
  s.answers m k &&
    match blockBed k with
    | some b => (s.bed b).bist.isNone || (addr - 0x1000000) % 0x400000 == 0x40
    | none => true

/-- R348. The offset of a register that the bed's Spring island answers to a read. -/
def islandReg (a : Nat) : Bool :=
  let o := a % 0x10000
  (a / 0x100000) % 4 == 1 && (o == 0 || o == 0x130 || o == 0x138 || o == 0x140)

/-- R347, R350. HUB.AFAULT after one more fault; a fault of the tick in which CLEAR is written precedes the
clear, which acts in the next. -/
def Hub.fault (h : Hub) (now : Nat) (m : MasterId) (kind : BitVec 3) (addr : Word) : Hub :=
  if now < h.afClearAt then h
  else if !h.afValid then
    { h with afKind := kind, afMaster := m, afAddr := addr, afValid := true, afCount := 1,
             afAt := some now }
  else if h.afAt = some now ∧ m.toNat < h.afMaster.toNat then
    { h with afKind := kind, afMaster := m, afAddr := addr, afCount := min 255 (h.afCount + 1) }
  else { h with afCount := min 255 (h.afCount + 1) }

/-- R348, R350. An access fault: captured in HUB.AFAULT, and its event raised. -/
def State.accessFault (s : State) (m : MasterId) (kind : BitVec 3) (addr : Nat) : State :=
  ({ s with hub := s.hub.fault s.now m kind (BitVec.ofNat 32 addr) }).raise .accessFault .device
    [(16, 1, kind.toNat), (17, 1, m.toNat), (20, 4, addr)]

/-- R345, R369. A write of a master to an offset: dropped with a fault where the block does not
answer, dropped without one where there is no block, and made by f otherwise. Identities that name
no master with BAR0 access make none. -/
def State.writeTo (s : State) (m : MasterId) (addr : Nat) (f : State → State) : State :=
  if m = 0 ∨ m = 12 ∨ m = 14 ∨ m = 15 then s else
  match blockOf addr with
  | none => s
  | some k => if s.answersAt m k addr then f s else s.accessFault m 2 addr

/-! ## A gate that is closing (R438, R439) -/

/-- R438. A request's handshake is complete and it waits for an idle bus. -/
def SReq.gating (r : SReq) : Bool := r.asked.isEmpty && r.delayed.isEmpty

/-- R438, R439. The request that gates a domain next: beds before the hub. -/
def State.gater (s : State) (d : Dom) : Option SReq :=
  s.sluice.reqs.find? fun q => q.gating && q.doms.contains d &&
    (d != .hub || q.doms.all (· == .hub))

/-- R431. The domain of a block that the Sluice can switch off. -/
def blockDom : Block → Option Dom
  | .tel => some .hub
  | .ring => some .hub
  | .sec => some .hub
  | .flash => some .hub
  | k => (blockBed k).map Dom.bed

/-- R438. The domain of an offset's block, where a new access to it is held at the bridge. -/
def State.holding (s : State) (addr : Nat) : Bool :=
  match (blockOf addr).bind blockDom with
  | some d => (s.gater d).isSome
  | none => false

/-- R438. An access is held at the bridge. -/
def State.holdAcc (s : State) (m : MasterId) (addr : Nat) (v : Option Word) : State :=
  if m = 0 ∨ m = 12 ∨ m = 14 ∨ m = 15 then s
  else { s with sluice := { s.sluice with heldAcc := s.sluice.heldAcc ++ [(m, addr, v)] } }

/-- R345, R369, R438. A write of value v to an offset, held where the gate of its domain is closing. -/
def State.writeAt (s : State) (m : MasterId) (addr : Nat) (v : Word) (f : State → State) : State :=
  if s.holding addr then s.holdAcc m addr (some v) else s.writeTo m addr f

/-- R345, R369. A read of a master with an effect f. -/
def State.readOf (s : State) (m : MasterId) (addr : Nat) (f : State → State) : State :=
  if m = 0 ∨ m = 12 ∨ m = 14 ∨ m = 15 then s else
  match blockOf addr with
  | none => s
  | some k =>
    if s.answersAt m k addr then f s
    else if islandReg addr && (match k with | .port _ => true | _ => false) &&
        s.hub.mode != .boot && s.hub.mode != .seedbed then f s
    else s.accessFault m 1 addr

end Sys2Proof.Machine
end

