-- ==== Sys2Proof/Machine/MailboxOps.lean ====
section
/-! DEFINITION.
The mailbox channels' shared operations (R369–R383): who runs, notifications, locks, and what the
reset of a master does to its channels. -/

namespace Sys2Proof.Machine

/-- R384. The fields of BIND. -/
def Chan.sender (c : Chan) : MasterId := BitVec.ofNat 4 (fld c.bind 0 4)
def Chan.receiver (c : Chan) : MasterId := BitVec.ofNat 4 (fld c.bind 4 4)
def Chan.bound (c : Chan) : Bool := bit c.bind 8

/-- R385. A notice is posted or taken. -/
def Chan.outstanding (c : Chan) : Bool := c.notice || c.taken

/-- R384, R385. The addresses of a channel's registers. -/
def mbxAddr (c : ChanId) (o : Nat) : Nat := 0x4400 + 0x20 * c.val + o
def bindAddr (c : ChanId) : Nat := 0x4000 + 4 * c.val
def irqAddr (c : ChanId) : Nat := 0x4600 + 4 * c.val

/-- R369. The identity of a bed's Tender. -/
def tenderId (b : BedId) : MasterId := BitVec.ofNat 4 (3 + b.val)

/-- R371, R416. Gardener has been released in this start. -/
def State.gardenerOn (s : State) : Bool :=
  s.hub.mode != .seedbed && s.sluice.hubOn &&
    (s.boot.stage == 0 || (decide (6 ≤ s.boot.stage) && s.hub.bindLocked))

/-- R378. The master is running; in SEEDBED no receiver but Wicket is. -/
def State.runs (s : State) (m : MasterId) : Bool :=
  let n := m.toNat
  if n = 1 then s.sluice.hubOn
  else if s.hub.mode = .seedbed then false
  else if n = 2 then s.gardenerOn
  else if 3 ≤ n ∧ n ≤ 10 then (s.bed (Fin.ofNat 8 (n - 3))).pow.tender
  else if n = 11 then s.pins.link && !s.pins.flr0
  else n == 13

/-- R380. SMBALERT# follows the unread conditions of the channels bound to identity 13. -/
def State.alertUpdate (s : State) : State :=
  { s with pins := { s.pins with alert := allChans.any fun c =>
      (s.chan c).unreadStat || (s.chan c).unreadBell } }

/-- R380. A master is notified of a change of a channel; bell says that the change is of BELL.
Log 62 (PRESUMED). -/
def State.notify (s : State) (m : MasterId) (c : ChanId) (bell : Bool) : State :=
  if m = 11 then
    let q := (s.chan c).irq
    if bit q 6 then s.message false (fld q 0 6) else s
  else if m = 13 then
    (s.modChan c fun q => if bell then { q with unreadBell := true }
      else { q with unreadStat := true }).alertUpdate
  else { s with notes := s.notes ++ [{ dest := m, chan := c }] }

/-- R347, R374. The lock is released; it is free from the next tick. Log 25 (DEDUCED). -/
def Chan.unlock (c : Chan) (now : Nat) : Chan :=
  if c.lock = 0 then c else { c with lock := 0, lockWas := c.lock, lockRel := now }

/-- R347, R373. The owner that a read of this tick sees. Log 25 (DEDUCED). -/
def Chan.owner (c : Chan) (now : Nat) : MasterId :=
  if c.lock != 0 then c.lock else if c.lockRel = now then c.lockWas else 0

/-- R381. BELL, MASK, PTR and META at their reset values. -/
def Chan.clearBox (c : Chan) : Chan :=
  { c with bell := 0, mask := 0, ptrLo := 0, ptrHi := 0, metaw := 0, bellNew := 0,
           unreadBell := false }

/-- R383. A channel notes when its bound ends were reset, and what the receiver's reset found staged. -/
def Chan.noteReset (c : Chan) (rs rr : Bool) (now : Nat) : Chan :=
  { c with
    rxRstAt := if rr then some now else c.rxRstAt, txRstAt := if rs then some now else c.txRstAt,
    rstBox := if rr then (c.ptrLo, c.ptrHi, c.metaw) else c.rstBox }

/-- R381–R383. What a reset of the bound sender and of the bound receiver does to channel c; two of one tick
are one of both, and a DONE of the sender's reset tick loses its result. -/
def State.chanEnds (s : State) (c : ChanId) (rs rr : Bool) : State :=
  let q := s.chan c
  if (rs || rr) && q.txRstAt == some s.now && q.rxRstAt == some s.now then
    s.modChan c fun q => { (q.clearBox.unlock s.now) with
      notice := false, taken := false, done := false, result := 0, aborted := false,
      withdrawn := false, discard := false, heldPost := false, unreadStat := false }
  else if rr then
    if q.outstanding && !q.discard then
      (s.modChan c fun q => { (q.clearBox.unlock s.now) with
        notice := false, taken := false, done := true, result := 3, aborted := true,
        heldPost := false }).notify q.sender c false
    else s.modChan c fun q => { q.clearBox with taken := false, discard := false }
  else if rs then
    if q.notice then
      (s.modChan c fun q => { (q.unlock s.now) with
        notice := false, withdrawn := true, heldPost := false }).notify q.receiver c false
    else if q.taken then
      (s.modChan c fun q => { (q.unlock s.now) with discard := true }).notify q.receiver c false
    else if q.done && q.doneAt == some s.now then
      s.modChan c fun q => { (q.unlock s.now) with done := false, result := 0, unreadStat := false }
    else s
  else s

/-- R374, R381–R383. What the reset of the masters ms in one tick does to channel c. -/
def State.chanReset (s : State) (ms : List MasterId) (c : ChanId) : State :=
  let q := s.chan c
  let rs := q.bound && ms.contains q.sender
  let rr := q.bound && ms.contains q.receiver
  ((s.modChan c fun q => q.noteReset rs rr s.now).chanEnds c rs rr).modChan c fun q =>
    if q.lock != 0 && ms.contains q.lock then q.unlock s.now else q

/-- R370, R374, R381, R384. The masters ms are reset in one tick. -/
def State.resetMasters (s : State) (ms : List MasterId) : State :=
  let s1 := forAll allChans (fun c t => t.chanReset ms c) s
  let clr (c : ChanId) (t : State) : State := t.modChan c fun q => { q with irq := 0 }
  let s2 := if ms.contains 11 then forAll allChans clr s1 else s1
  let s3 := if ms.contains 1 then { s2 with hub := { s2.hub with bindLocked := false } } else s2
  s3.alertUpdate

/-- R372. The bind table in Wicket's ROM. -/
def romBind (c : ChanId) : Word :=
  let b (f t : Nat) : Word := BitVec.ofNat 32 (f + 16 * t + 256)
  if c = 0 then b 11 1 else if c = 1 then b 1 11 else if c = 2 then b 11 2
  else if c = 3 then b 2 11 else if c = 4 then b 13 2 else if c = 5 then b 2 13
  else if c.val ≤ 13 then b 2 (c.val - 3) else 0

/-- R371, R402. Wicket writes the bind table and locks it. -/
def State.bindAll (s : State) : State :=
  let t := forAll allChans (fun c u => u.modChan c fun q => { q with bind := romBind c }) s
  { t with hub := { t.hub with bindLocked := true } }

/-- R376. The pointer and length of the staged notice are allowed. -/
def Chan.ptrOk (c : Chan) : Bool :=
  if bit c.ptrHi 31 then
    fld c.ptrHi 0 31 == 0 && fld c.ptrLo 13 19 == 0 &&
      decide (fld c.ptrLo 0 13 + fld c.metaw 0 16 ≤ 8192)
  else c.sender == 11 || c.receiver == 11

/-- R377, R378. A notice is done with a result: the lock released, the sender told. -/
def State.noticeDone (s : State) (c : ChanId) (result : Byte) : State :=
  let q := s.chan c
  if q.discard then
    s.modChan c fun q => { q with notice := false, taken := false, discard := false }
  else
    (s.modChan c fun q => { (q.unlock s.now) with
      notice := false, taken := false, done := true, result := result,
      doneAt := some s.now }).notify q.sender c false

/-- R385. A write of a channel is rejected. -/
def State.mbxReject (s : State) (c : ChanId) (r : Reject) : State :=
  s.modChan c fun q => { q with reject := r }

/-- R442, R451. A wake source is latched. -/
def State.latchWake (s : State) (w : WakeSrc) : State :=
  { s with sluice := { s.sluice with latched := s.sluice.latched ++ [w] } }

/-- R375, R378, R383. A post that passes its conditions; one of the receiver's reset tick is made and then
aborted. -/
def State.postAccepted (s : State) (c : ChanId) : State :=
  let q := s.chan c
  let t := s.modChan c fun q => { q with done := false, result := 0, aborted := false,
                                         withdrawn := false, reject := .none, notice := true }
  if q.rxRstAt = some s.now then
    (t.modChan c fun q => { (q.unlock s.now) with
      notice := false, done := true, result := 3, aborted := true }).notify q.sender c false
  else if (q.receiver = 1 ∨ q.receiver = 2) ∧ (s.hub.mode = .dormant ∨ s.sluice.entry) then
    (t.modChan c fun q => { q with heldPost := true }).latchWake .mailbox
  else if s.runs q.receiver then t.notify q.receiver c false
  else t.noticeDone c 6

/-- R375, R383. A write of POST; the notice of the receiver's reset tick is what that reset found staged. -/
def State.post (s : State) (m : MasterId) (c : ChanId) : State :=
  let q0 := s.chan c
  let q := if q0.rxRstAt = some s.now then
      { q0 with ptrLo := q0.rstBox.1, ptrHi := q0.rstBox.2.1, metaw := q0.rstBox.2.2 } else q0
  if !q.bound then s.mbxReject c .unbound
  else if q.sender != m then s.mbxReject c .notSender
  else if q.lock != m then s.mbxReject c .noLock
  else if q.outstanding then s.mbxReject c .busy
  else if !q.ptrOk then s.mbxReject c .badPtr
  else s.postAccepted c

/-- R375, R385. CTL.TAKE, of the receiver where isR holds. -/
def State.chanTake (s : State) (isR : Bool) (c : ChanId) : State :=
  if !isR then s.mbxReject c .notReceiver
  else if (s.chan c).notice then
    s.modChan c fun q => { q with notice := false, taken := true, heldPost := false }
  else s

/-- R375, R383, R385. CTL.DONE with its RESULT, of the receiver where isR holds; in the tick of the receiver's
reset it stands in the aborted notice's place. -/
def State.chanDone (s : State) (isR : Bool) (c : ChanId) (r : Byte) : State :=
  if !isR then s.mbxReject c .notReceiver
  else if (s.chan c).outstanding then s.noticeDone c r
  else if (s.chan c).aborted && (s.chan c).rxRstAt == some s.now then
    s.modChan c fun q => { q with result := r, aborted := false }
  else s

/-- R379. Set bits of BELL by the sender; the unmasked ones that set notify. Log 25 (DEDUCED). -/
def State.bellSet (s : State) (c : ChanId) (v : Word) : State :=
  let q := s.chan c
  let rising := v &&& ~~~q.bell &&& ~~~q.mask
  let t := s.modChan c fun q => { q with
    bell := q.bell ||| v, bellAt := s.now,
    bellNew := if q.bellAt = s.now then q.bellNew ||| v else v }
  if rising = 0 then t else t.notify q.receiver c true

/-- R379. Clear bits of BELL by the receiver; a bit that this tick has set stays. Log 25 (DEDUCED). -/
def Chan.bellClear (q : Chan) (now : Nat) (v : Word) : Chan :=
  let keep := if q.bellAt = now then q.bellNew else 0
  { q with bell := q.bell &&& (~~~v ||| keep) }

/-- R379, R380. A mask written by the receiver; a set bell that it unmasks notifies. -/
def State.maskSet (s : State) (c : ChanId) (v : Word) : State :=
  let q := s.chan c
  let t := s.modChan c fun q => { q with mask := v }
  if q.bell &&& q.mask &&& ~~~v = 0 then t else t.notify q.receiver c true

/-- R373, R374. Reads of a lock: a free lock goes to the lowest identity of those that read it in one tick. -/
def State.lockRead (s : State) (ms : List MasterId) (c : ChanId) : State :=
  let q := s.chan c
  let took := q.lock != 0 && q.lockAt == some s.now
  if q.owner s.now != 0 && !took then s else
  let able := (if took then [q.lock] else []) ++
    ms.filter fun m => m != 0 && m != 12 && m != 14 && m != 15
  match able with
  | [] => s
  | m0 :: rest =>
    let win := rest.foldl (fun a m => if m.toNat < a.toNat then m else a) m0
    s.modChan c fun q => { q with lock := win, lockAt := some s.now }

end Sys2Proof.Machine
end

