-- ==== Sys2Proof/Machine/ResetOps.lean ====
section
/-! DEFINITION.
The resets (R399–R403) with what each leaves, the ends of runs that a reset cuts short, coast's end
of them, and the beginning of a start (R414, R426). -/

namespace Sys2Proof.Machine

/-! ## Ends of calibration and self-test runs (R433, R434, R462, R470) -/

/-- R433, R434. A bed is under test. -/
def Bed.underTest (d : Bed) : Bool :=
  d.bist.isSome || match d.cal with | some r => !r.wholeDevice | none => false

/-- R433, R434. TEST ends with the last bed under test. -/
def State.modeAfterTest (s : State) : State :=
  if s.hub.mode = .test && !(allBeds.any fun b => (s.bed b).underTest) then
    { s with hub := { s.hub with mode := s.hub.base } }
  else s

/-- R184, R563. A port's Spring channel may run again after a mode or a run that kept it silent. -/
def State.springResume (s : State) (p : PortId) : State :=
  let q := s.port p
  if q.cfg.islandEn && q.spring.sstate == .off then s.springOn p else s.springKick p

/-- R470. The ports of a bed leave a run: DISABLED, their Spring channels unmuted. -/
def State.bedRelease (s : State) (b : BedId) : State :=
  forAll (portsOf b) (fun p t =>
    let t1 := if t.pst p = .test then (t.portRest p).hostOff p else t
    (t1.modSpring p fun g => { g with muted := false }).springResume p) s

/-- R433. A device run has ended on its last bed: the device returns to its prior mode, and Spring
runs again. -/
def State.calModeEnd (s : State) : State :=
  if s.hub.mode = .calibrate && !(allBeds.any fun b => (s.bed b).cal.isSome) then
    forAll allPorts (fun p t => t.springResume p)
      { s with hub := { s.hub with mode := s.hub.base, changing := false } }
  else s

/-- R462, R475. The run on a bed ends with nothing kept of it. The device target of the command, if
it has one, ends ST_ABORTED_RESET. -/
def State.runDrop (s : State) (b : BedId) (st : ST) : State :=
  let d := s.bed b
  let key := match d.cal with
    | some r => r.key
    | none => match d.bist with | some r => r.key | none => none
  if d.cal.isSome || d.bist.isSome then
    let t := s.modBed b fun d => { d with cal := none, bist := none }
    let t1 := match key with
      | some k => (t.finish k (.bed b) st).finish k .device st
      | none => t
    ((t1.bedRelease b).modeAfterTest).calModeEnd
  else s

/-! ## Port reset -/

/-- R401. The state that follows a reset, by the state before it. -/
def resumeOf : PState → PState
  | .disabled => .disabled
  | .test => .disabled
  | .dormant => .dormant
  | .fault => .fault
  | .listening => .listening
  | .training => .listening
  | .up => .listening
  | .still => .listening

/-- The port's Spring channel holds a session. -/
def State.springSession (s : State) (p : PortId) : Bool := (s.port p).spring.sstate == .partnered

/-- R400. A port's configuration registers with the buffered values of apply point TRAIN
discarded. -/
def PortCfg.unbuffer (c : PortCfg) : PortCfg :=
  { c with trainctl := setFld c.trainctl 2 5 c.minMargin.toNat,
           decctl := setFld c.decctl 0 2 c.profile.toNat }

/-- R399, R400. A port goes into reset: everything of it but its configuration, its counters and
its fingerprint slot. R400 returns its status registers to their reset values; LAST_LOSS of a session that the
reset ends reads RESET, as R208 says. Log 27 (DEDUCED). -/
def State.portWipe (s : State) (p : PortId) : State :=
  let r := if (s.port p).inReset then (s.port p).resume else resumeOf (s.pst p)
  let s1 := (s.diagDrop p).sampleFlush p
  let s2 := ((s1.springEndSession p .reset).usersEnd p .reset).hostOff p
  s2.modPort p fun q => { q with
    cfg := q.cfg.unbuffer,
    link := { downAt := q.link.downAt, freason := if r = .fault then q.link.freason else .none },
    train := {}, line := {}, still := {}, dorm := {}, host := {},
    spring := { staged := q.spring.staged, muted := q.spring.muted, sess := q.spring.sess,
                taken := q.spring.taken,
                lastLoss := if s.springSession p then .reset else .none }, slots := {},
    mapChanged := false, lastReject := 0, diag := none, loop := none, grant := none,
    inReset := true, resume := r }

/-- R344. EV_RESET. -/
def State.resetEvent (s : State) (e : Elem) (origin cid : Nat) : State :=
  s.raise .reset e [(16, 1, origin), (18, 2, cid)]

/-- R403, R409. Events of the tick that a reset of the elements q makes impossible: those of later classes, and
EV_RESET of a narrower reset. -/
def State.resetUnraise (s : State) (q : Elem → Bool) : State :=
  s.unraise fun e => !(q e.src) || (decide (e.code.cls ≤ 3) && e.code != .reset) ||
    e.code == .powerRefused

/-- The element lies in a bed. -/
def inBed (b : BedId) : Elem → Bool
  | .port p => bedOf p == b
  | .bed c => c == b
  | .lane l => bedOfLane l == b
  | .device => false

/-- R308, R399. A port reset. -/
def State.portReset (s : State) (p : PortId) (cid : Nat) : State :=
  let s1 := (s.resetUnraise (· == .port p)).resetEvent (.port p) 1 cid
  let s2 := (s1.abortTargets fun e => e == .port p).portWipe p
  if (s2.bed (bedOf p)).cal.isSome then s2.runDrop (bedOf p) .abortedReset else s2

/-- R401. A port's reset ends: it resumes by its state before it. Log 64 (DEDUCED). -/
def State.portResume (s : State) (p : PortId) : State :=
  let q := s.port p
  if !q.inReset then s else
  let t := s.modPort p fun q => { q with inReset := false }
  if q.resume = .listening then t.toListening p
  else (t.modLink p fun l => { l with state := q.resume }).springResume p

/-! ## Bed, Tender and lane resets -/

/-- R399, R400. A bed reset: its ports, lanes, PLLs and Tender, and the run on it. forced is the
forced gate of a reset with ORIGIN BED_FAULT (R438). Log 20 (DEDUCED). Log 27 (DEDUCED). -/
def State.bedReset (s : State) (b : BedId) (origin cid : Nat) : State :=
  let forced := origin == 2
  let s1 := (s.resetUnraise (inBed b)).resetEvent (.bed b) origin cid
  let s2 := s1.abortTargets (inBed b)
  let s3 := s2.runDrop b .abortedReset
  let s4 := forAll (portsOf b) (fun p t => t.portWipe p) s3
  let s5 := forAll (lanesOf b) (fun l t => t.modLane l fun x =>
    { x with locked := false, idle := true, adapting := true }) s4
  let s6 := s5.modBed b fun d => { d with
    pow := { d.pow with tender := false, lineLock := false, laneLock := [false, false],
                        laneFam := [0, 0], steerNow := 0, inReset := true, forced := forced,
                        pllReset := false },
    calRun := 0, calPass := 0, calPend := 0, calFail := 0, calBlk := s.calForce b, bistRes := 0,
    repairs := 0, fromStart := false, legacyUse := d.legacy, fuseErr := false, repair := none }
  s6.resetMasters [tenderId b]

/-- R259, R276. The families that the ports of a bed are configured for, in ascending order. -/
def State.bedFams (s : State) (b : BedId) : List Nat :=
  let used := (portsOf b).flatMap fun p =>
    rungsDown.map fun r => modeFam (hostMode (s.port p).cfg r)
  [1, 2, 3].filter fun f => used.contains f

/-- R259. The lane PLLs take the families of a bed; of two free PLLs the choice is open. -/
def State.famAssign (s : State) (b : BedId) : State :=
  let want := s.bedFams b
  let have0 := (s.bed b).pow.laneFam
  let keep := have0.map fun f => if want.contains f.toNat then f else 0
  let fresh := want.filter fun f => !(keep.map (·.toNat)).contains f
  let put (fs : List (BitVec 2)) (f : Nat) : List (BitVec 2) :=
    let a := if Config.pllFirst then 0 else 1
    if fs.getD a 0 = 0 then upd fs a (BitVec.ofNat 2 f)
    else if fs.getD (1 - a) 0 = 0 then upd fs (1 - a) (BitVec.ofNat 2 f) else fs
  let fams := fresh.foldl put keep
  s.modBed b fun d => { d with pow := { d.pow with
    laneFam := fams,
    laneLock := (List.range 2).map fun i =>
      d.pow.laneLock.getD i false && fams.getD i 0 == have0.getD i 0 } }

/-- R401, R402. A bed reset ends: its Tender runs, its map is loaded, and its ports resume. -/
def State.bedResume (s : State) (b : BedId) : State :=
  if !(s.bed b).pow.inReset then s else
  let t := s.modPow b fun w => { w with inReset := false, forced := s.clk.coast, tender := true }
  let t1 := t.famAssign b
  let t2 := forAll (lanesOf b) (fun l u => u.modLane l fun x => { x with idle := false }) t1
  forAll (portsOf b) (fun p u => u.portResume p) t2

/-- R399, R402. A Tender core reset: its mailbox channels end, and a self-test of its bed. -/
def State.tenderReset (s : State) (b : BedId) : State :=
  let t := if (s.bed b).bist.isSome then s.runDrop b .abortedReset else s
  t.resetMasters [tenderId b]

/-- R320, R399. A lane reset: its CDR and adaptation restart. -/
def State.laneReset (s : State) (l : LaneId) (cid : Nat) : State :=
  let t := (s.resetEvent (.lane l) 1 cid).abortTargets fun e => e == .lane l
  t.modLane l fun x => { x with inReset := true, adapting := true }

/-! ## What a reset of the host's side abandons (R308) -/

/-- R297. The long operations. -/
def longOp : Op → Bool
  | .calRun => true
  | .bistRun => true
  | .diagRun => true
  | .fwStage => true
  | .repairFuse => true
  | _ => false

/-- R308, R462. The opcodes of the operations whose interruption is logged. -/
def State.cutOps (s : State) : List Nat :=
  s.cmds.filterMap fun r =>
    if r.acted && r.doneTick.isNone && (longOp r.op || r.op == .calStore) then some r.op.code else none

/-- R308. A bed's run by command, and its repair, stop. -/
def State.abandonBed (s : State) (b : BedId) (byCmd : Bool) : State :=
  (if byCmd then s.runDrop b .abortedReset else s).modBed b fun d => { d with repair := none }

/-- R308. A port's diagnostics stop, and it returns from its tests. -/
def State.abandonDiag (s : State) (p : PortId) : State :=
  match (s.port p).diag with
  | none => s
  | some d =>
    let u := (s.diagEndQuiet p).modPort p fun q => { q with diag := none }
    if d.inTest then u.testReturn p d.prior else u

/-- R308. A port's USER entries are abandoned. -/
def State.abandonUsers (s : State) (p : PortId) : State :=
  s.modPort p fun q => { q with
    spring := { q.spring with users := [], due := q.spring.due.filter fun f => f.typ != .user } }

/-- R308. The device's staging, its fingerprint saves that have not begun, a commanded store and an
armed FOLLOW are abandoned. -/
def State.abandonDevice (s : State) : State :=
  { s with
    flash := { s.flash with stage := none, fpq := s.flash.fpq.filter fun w => w.copy.isSome },
    cal := { s.cal with store := match s.cal.store with
      | some c => if c.key.isSome then none else some c
      | none => none },
    clk := { s.clk with follow := none } }

/-- R308. The commands in progress are abandoned: long operations stop and discard their results. -/
def State.abandon (s : State) : State :=
  let byCmd (b : BedId) : Bool :=
    (match (s.bed b).cal with | some r => r.key.isSome | none => false) ||
    (match (s.bed b).bist with | some r => r.key.isSome | none => false)
  let s1 := forAll allBeds (fun b t => t.abandonBed b (byCmd b)) { s with cmds := [], heldWb := [] }
  (forAll allPorts (fun p t => t.abandonUsers p)
    (forAll allPorts (fun p t => t.abandonDiag p) s1)).abandonDevice

/-- R308. The abandoned operations are logged. -/
def State.logCut (s : State) (ops : List Nat) : State :=
  forAll ops (fun o t => t.log .interrupted 0 0 o) s

/-- R308. FLR of PF0. -/
def State.flrPf0 (s : State) : State :=
  let ops := s.cutOps
  let s1 := s.abandon
  let s2 := forAll allRings (fun r t => if r = telRing then t else t.modRing r fun _ => {}) s1
  let s3 := { s2 with hub := { s2.hub with evroute := 0, evSeen := false },
                      pins := { s2.pins with flr0 := true, d3pf0 := false, msix0 := {} },
                      msixHeld := s2.msixHeld.filter fun m => m.1 }
  (s3.resetMasters [11]).logCut ops

/-- R308, R331, R500. FLR of PF1. -/
def State.flrPf1 (s : State) : State :=
  let s1 := forAll allPorts (fun p t => t.modPort p fun q => { q with granted := false })
    (s.modRing telRing fun _ => {})
  let s2 := s1.telCancel
  ({ s2 with pins := { s2.pins with flr1 := true, d3pf1 := false, msix1 := {} },
             msixHeld := s2.msixHeld.filter fun m => !m.1 }).resetMasters [12]

/-! ## The beginning of a start -/

/-- R473. The loader of a start counts the fuse rows that it rejects. Log 69 (DESIGN CHOICE). -/
def Bed.fuseLoad (d : Bed) : Bed :=
  { d with fuseBad := (d.fuses.filter fun f => fuseRejected f.2).length }

/-- R11, R414, R416, R426, R476. A start begins, with the fields of apply point BOOT in effect, outside which
boundary scan acts: BOOT, and stage 1 or, where the loop is locked, stage 2.
Log 50 (DEDUCED). -/
def State.startBegin (s : State) (retry : Bool) : State :=
  let b := s.boot
  { s with
    beds := s.beds.map Bed.fuseLoad,
    hub := { s.hub with mode := .boot, changing := false },
    clk := { s.clk with divUse := s.clk.div },
    pins := { s.pins with jtag := .bypass },
    boot := { b with
      stage := if s.clk.lock then 2 else 1, startAt := s.now, ready := [], failed := false,
      late := none, waitRef := false, userRetry := retry, startNo := 0, flashOk := false, fallback := false,
      calNeeded := false, blowing := false, bgDue := false, slot := false, fails := b.count,
      reason := if b.count ≠ 0 then b.lastReason else if retry then .userRetry else .none,
      seedbed := false, calBlank := false, tornCal := false, tornFp := false, tornCtl := false,
      version := 0, imageSvn := 0, advance := false, hubLogic := .notRun, hubMemory := .notRun,
      hubRepairs := 0 } }

/-! ## Device reset, PERST# and power -/

/-- R351, R400. A bed after a device reset: fuses, its island's LFSR, its soft map, what its
temperature sensor holds, and LEGACY where a value of it waited for a reset. Log 27 (DEDUCED). -/
def Bed.wipe (d : Bed) : Bed :=
  let new := d.legacy != d.legacyUse && d.legacy
  { legacy := new, legacyUse := new, fuses := d.fuses, roleLfsr := d.roleLfsr, softMap := d.softMap, fuseBad := d.fuseBad,
    trips := d.trips, tripAt := d.tripAt, hotRun := d.hotRun, tempHeld := d.tempHeld,
    temp := d.temp }

/-- R400. A port after a device reset: its fingerprint slot and what the Well holds of it. -/
def Port.wipe (p : PortId) (q : Port) : Port :=
  { Port.reset p with
    cfg := { (Port.reset p).cfg with applied := q.cfg.applied }, fp := q.fp }

/-- R400, R414, R433. A device reset, and the start that it begins. Log 13 (DEDUCED). -/
def State.deviceReset (s : State) (retry : Bool) : State :=
  let ops := s.cutOps
  let s1 := (s.abandon.logCut ops).resetMasters [1, 2, 3, 4, 5, 6, 7, 8, 9, 10, 11, 12, 13]
  let s2 := { s1 with
    pins := { s1.pins with flr0 := false, flr1 := false, gpioDir := 0, gpioOut := 0,
                           gpioPull := 0xFF },
    hub := { temp := s1.hub.temp, trips := s1.hub.trips, hotRun := s1.hub.hotRun },
    clk := { s1.clk with steer := List.replicate 8 0,
                         rclk := List.replicate 4 0x800, clkreqHold := false, comp := 0,
                         follow := none },
    sluice := {},
    boot := { s1.boot with lastMode := s1.hub.mode.code, fresh := true, held := s1.boot.held.filter fun r =>
      r.1 == LogKind.failed && (r.2.1 == Reason.refclkAbsent.code || r.2.1 == Reason.refclkLost.code) },
    flash := { mem := s1.flash.mem },
    cal := {},
    sec := { unlocked := s1.sec.unlocked, blocked := s1.sec.blocked, svn := s1.sec.svn,
             wellUnlock := s1.sec.wellUnlock },
    tel := {},
    rings := mkVec 64 fun _ => {},
    ports := mkVec 128 fun p => (s1.port p).wipe p,
    beds := mkVec 8 fun b => (s1.bed b).wipe,
    lanes := mkVec 256 fun _ => {} }
  s2.startBegin retry

/-- R400. What is lost with PERST#: all but the Well, flash, fuses and the levels of pins. The
interruptions are noted in the Well. Log 27 (DEDUCED). -/
def State.perstWipe (s : State) : State :=
  let ops := s.cutOps
  let held := s.boot.held.filter fun r => r.1 == .interrupted
  let cut := ops.map fun o => ((LogKind.interrupted, 0, 0, o, s.clk.tick) : LogKind × Nat × Nat × Nat × Tick)
  { State.reset with
    pending := s.pending, now := s.now, free := s.free, acts := s.acts, msix := s.msix, notes := s.notes,
    hostMem := s.hostMem,
    pins := { powered := s.pins.powered, perst := s.pins.perst, lost := s.pins.lost,
              gpioIn := s.pins.gpioIn, estId := s.pins.estId, jtag := s.pins.jtag },
    clk := { esyncAt := s.clk.esyncAt },
    boot := { stage := 0, count := s.boot.count, lastReason := s.boot.lastReason,
              tried := s.boot.tried, lastMode := s.hub.mode.code, held := held ++ cut },
    flash := { mem := s.flash.mem },
    sec := { svn := s.sec.svn, wellUnlock := s.sec.wellUnlock },
    ports := mkVec 128 fun p =>
      let c := (s.port p).cfg
      let q := (s.port p).wipe p
      { q with cfg := { q.cfg with hostmap0 := c.hostmap0, hostmap1 := c.hostmap1, lanemap := c.lanemap } },
    lanes := mkVec 256 fun l => { inv := (s.lane l).inv, txeq := (s.lane l).txeq },
    beds := mkVec 8 fun b => { fuses := (s.bed b).fuses, roleLfsr := (s.bed b).roleLfsr,
                               softMap := (s.bed b).softMap } }

/-- R400. What is left when power goes: flash and fuses. -/
def State.powerWipe (s : State) : State :=
  { State.reset with
    pending := s.pending, now := s.now, free := s.free, acts := s.acts, msix := s.msix, notes := s.notes,
    hostMem := s.hostMem,
    pins := { powered := false, perst := s.pins.perst, lost := s.pins.lost,
              gpioIn := s.pins.gpioIn },
    clk := { esyncAt := s.clk.esyncAt },
    boot := { stage := 0 },
    flash := { mem := s.flash.mem },
    sec := { svn := s.sec.svn },
    beds := mkVec 8 fun b => { Bed.reset b with fuses := (s.bed b).fuses } }

end Sys2Proof.Machine
end

