-- ==== Sys2Proof/Machine/CalOps.lean ====
section
/-! DEFINITION.
Calibration and self-test at work: the runs on a bed and their ends, the record's store and its
selection at a start (R433, R434, R452–R475). -/

namespace Sys2Proof.Machine

/-! ## The mode of a run (R433, R434) -/

/-- R433, R434. The first bed to come under test takes the device into TEST. -/
def State.testMode (s : State) : State :=
  if s.hub.mode = .test then s
  else { s with hub := { s.hub with mode := .test, base := s.hub.mode } }

/-- R325, R470. The ports of a bed go into TEST. -/
def State.bedIsolate (s : State) (b : BedId) : State :=
  forAll (portsOf b) (fun p t => t.modLink p fun l => { l with state := .test }) s

/-- R325, R470. The Spring transmitters of a bed are muted, and each channel leaves PARTNERED. -/
def State.bedMute (s : State) (b : BedId) : State :=
  forAll (portsOf b) (fun p t =>
    (t.springLose p .disabled).modSpring p fun g => { g with muted := true }) s

/-- R316, R325, R327. Every port of a bed is DISABLED. -/
def State.bedDisabled (s : State) (b : BedId) : Bool :=
  (portsOf b).all fun p => (s.port p).settles == .disabled

/-! ## Calibration runs (R325, R455, R456, R463) -/

/-- R456. A bed block with the groups g taken from another: the pair corrections of LINE_AFE and
LINE_ADC are one region whose encoding is not published. -/
def calMerge (g : BitVec 4) (new old : Bytes) : Bytes :=
  let n := slice new 0 0x3000
  let o := slice old 0 0x3000
  (if g.getLsbD 0 || g.getLsbD 1 then n.take 0x2000 else o.take 0x2000) ++
    (if g.getLsbD 2 then slice n 0x2000 0x800 else slice o 0x2000 0x800) ++
    (if g.getLsbD 3 then slice n 0x2800 0x200 else slice o 0x2800 0x200) ++
    (if g.getLsbD 0 then slice n 0x2A00 0x100 else slice o 0x2A00 0x100) ++ zeros 0x500

/-- R454, R458. The trim words of a bed's PORT.TRIM, in the block's order. -/
def State.trimWords (s : State) (b : BedId) : Bytes :=
  (portsOf b).flatMap fun p => (s.port p).cfg.trim.flatMap fun w => leBytes 4 (fld w 0 16)

/-- R366, R454, R458. The word that the trim DACs of a pair take: PORT.TRIM's with LEGACY_IN_USE, else that of
the corrections in force. -/
def State.dacWord (s : State) (p : PortId) (pr : Pair) : BitVec 16 :=
  let d := s.bed (bedOf p)
  if d.legacyUse then ((s.port p).cfg.trim.getD pr.val 0).setWidth 16
  else BitVec.ofNat 16 (leAt d.calBlk (0x2A00 + 4 * (4 * (p.val % 16) + pr.val)) 2)

/-- R454. The block that a run has found: with LEGACY_IN_USE its trim words are PORT.TRIM's. -/
def State.calFound (s : State) (b : BedId) (block : Bytes) : Bytes :=
  let n := slice block 0 0x3000
  if (s.bed b).legacyUse then splice n 0x2A00 (s.trimWords b) else n

/-- R325, R463. A run begins on a bed: what was pending of its groups is discarded. -/
def State.calBegin (s : State) (b : BedId) (key : Option CmdKey) (g : BitVec 4) (whole : Bool) : State :=
  let s1 := if g.getLsbD 3 then s.bedMute b else s
  let drop := g &&& (s1.bed b).calPend
  let s2 := s1.modBed b fun d => { d with
    cal := some { key := key, groups := g, wholeDevice := whole, start := s.now },
    calPend := d.calPend &&& ~~~g, calFail := d.calFail &&& ~~~g,
    calBlk := if drop = 0 then d.calBlk else calMerge drop (s.calForce b) d.calBlk }
  { s2 with cal := { s2.cal with store := s2.cal.store.map fun c =>
    { c with taken := upd c.taken b.val (c.taken.getD b.val 0 &&& ~~~g) } } }

/-- R325. A run over the whole device is on some bed. -/
def State.calWhole (s : State) : Bool :=
  allBeds.any fun b => match (s.bed b).cal with | some r => r.wholeDevice | none => false

/-- R433. The device enters CALIBRATE once every bed's main domain is on. -/
def State.calModeGo (s : State) : State :=
  if s.hub.changing && s.hub.target = .calibrate &&
      allBeds.all fun b => s.bedOn b || s.bedRails then
    { s with hub := { s.hub with mode := .calibrate, base := s.hub.mode, changing := false } }
  else s

/-- R344, R456. A run's groups end with their verdicts, and EV_CAL_DONE says so. -/
def State.calResult (s : State) (b : BedId) (r : CalRun) (pass : BitVec 4) (block : Bytes) : State :=
  let ok := pass &&& r.groups
  let found := s.calFound b block
  let s1 := s.modBed b fun d => { d with
    cal := none, calRun := r.groups, calPass := ok, calPend := d.calPend ||| r.groups,
    calFail := (d.calFail &&& ~~~r.groups) ||| (r.groups &&& ~~~ok),
    calBlk := calMerge ok found d.calBlk,
    calTemp := if ok = 0 then d.calTemp else BitVec.ofInt 8 (s.bedTempC b) }
  s1.raise .calDone (.bed b)
    [(16, 1, r.groups.toNat), (17, 1, ok.toNat), (18, 2, cidOf r.key),
     (20, 4, (s.now - r.start) / Config.tkPerMs)]

/-- R325. The target of a run's command is done: a device target with the last bed. -/
def State.calTarget (s : State) (b : BedId) (r : CalRun) : State :=
  match r.key with
  | none => s
  | some k =>
    if !r.wholeDevice then s.finish k (.bed b) .ok
    else if s.calWhole then s else s.finish k .device .ok

/-! ## The record (R457–R460) -/

/-- R457. The bytes 0x14–0x1C of a record: LEGACY and TEMP. -/
def State.calHeadTail (s : State) (old : Bytes) : Bytes :=
  let fresh (b : BedId) : BitVec 4 := (s.bed b).calPend &&& ~~~(s.bed b).calFail
  let leg (b : BedId) : Bool :=
    if (fresh b).getLsbD 0 then (s.bed b).legacyUse else bit (byteAt old 0x14) b.val
  BitVec.ofNat 8 (allBeds.foldl (fun a b => a + (if leg b then 2 ^ b.val else 0)) 0) ::
    allBeds.map fun b => if fresh b = 0 then byteAt old (0x15 + b.val) else (s.bed b).calTemp

/-- R457, R460. The record that a store writes, without its DIGEST. -/
def State.calForm (s : State) (seq : Nat) : Bytes :=
  let old := if s.cal.valid then (s.calSlot s.cal.slot).take 0x1000 else zeros 0x1000
  [1, 0, 0, 0] ++ leBytes 4 seq ++ leBytes 8 Config.serial.toNat ++ leBytes 4 0xFFFFFFFF ++
    s.calHeadTail old ++ zeros 0xFE3 ++ allBeds.flatMap fun b => slice (s.bed b).calBlk 0 0x3000

/-- R460. The target slot is erased and the record written, DIGEST apart. -/
def State.calErase (s : State) (slot : Bool) (body : Bytes) : State :=
  (s.flashErase (calBase slot) 0x20000).flashWrite (calBase slot) body

/-- R460. A store begins. Log 42 (DEDUCED). -/
def State.calStoreBegin (s : State) (key : Option CmdKey) : State :=
  let slot := s.cal.valid && !s.cal.slot
  let body := s.calForm (if s.cal.valid then s.cal.seq.toNat + 1 else 1)
  let t := s.calErase slot body
  { t with cal := { t.cal with store := some {
    key := key, body := body, second := false, taken := allBeds.map fun b => (s.bed b).calPend } } }

/-- R326. The stored results are pending no longer. Log 42 (DEDUCED). -/
def State.calStored (s : State) (c : CalStore) : State :=
  forAll allBeds (fun b t => t.modBed b fun d => { d with
    calPend := d.calPend &&& ~~~(c.taken.getD b.val 0),
    calFail := d.calFail &&& ~~~(c.taken.getD b.val 0) })
    { s with cal := { s.cal with store := none } }

/-- R460. DIGEST is written: the record is in force, and a first store goes on with slot 1. Answers
whether the store is done. Log 42 (DEDUCED). -/
def State.calDigestWrite (s : State) (c : CalStore) : Bool × State :=
  let first := !s.cal.valid
  let slot := c.second || (s.cal.valid && !s.cal.slot)
  let digest := shake256 c.body 32
  let t := s.flashWrite (calBase slot + 0x19000) digest
  let t1 : State := { t with cal := { t.cal with
    valid := true, slot := slot, other := !first, seq := BitVec.ofNat 32 (leAt c.body 4 4),
    digest := digest } }
  if first then
    let body := splice c.body 4 (leBytes 4 2)
    let t2 := t1.calErase true body
    (false, { t2 with cal := { t2.cal with store := some { c with body := body, second := true } } })
  else (true, t1.calStored c)

/-- R459. A slot is torn: logged, and shown in HUB.BOOTSTAT. -/
def State.tornCalLog (s : State) (k : Bool) : State :=
  let t := s.log .tornCal 0 0 (b2n k)
  { t with boot := { t.boot with tornCal := true } }

/-- R459. A slot whose DIGEST verifies under another serial number. -/
def State.calForeign (s : State) (k : Bool) : Bool :=
  let r := s.calSlot k
  calDigestOk r && !calSerialOk r

/-- R459. The record of a slot is put in force on every bed. -/
def State.calTake (s : State) (k other : Bool) : State :=
  let r := s.calSlot k
  let t := { s with cal := { s.cal with
    valid := true, slot := k, other := other, seq := BitVec.ofNat 32 (calRecSeq r),
    digest := calRecDigest r } }
  forAll allBeds (fun b u => u.modBed b fun d => { d with
    calBlk := calBedBlock r b, calTemp := byteAt r (0x15 + b.val) }) t

/-- R459. Stage 8 selects the record. -/
def State.calSelect (s : State) : State :=
  let ok0 := s.calOk false
  let ok1 := s.calOk true
  let foreign (k : Bool) (t : State) : State := if s.calForeign k then t.security 3 3 0 else t
  let s1 := foreign true (foreign false s)
  if ok0 && ok1 then
    s1.calTake (decide (calRecSeq (s.calSlot false) < calRecSeq (s.calSlot true))) true
  else if ok0 then (s1.tornCalLog true).calTake false false
  else if ok1 then (s1.tornCalLog false).calTake true false
  else if s.calBlank false && s.calBlank true then
    { s1 with boot := { s1.boot with calBlank := true, calNeeded := true } }
  else
    let torn (k : Bool) (t : State) : State := if s.calBlank k then t else t.tornCalLog k
    let t := torn true (torn false s1)
    { t with boot := { t.boot with calNeeded := true } }

/-! ## Self-test (R467–R475) -/

/-- R467, R470. The kinds that KINDS selects, in their order. -/
def kindsOf (k : Byte) : List BKind :=
  [BKind.logic, .memory, .analogue, .lane, .spring].filter fun x => bit k x.bit

/-- R468, R469. The verdict of a kind that stops; hub goldens lie in Wicket ROM. -/
def verdictOf (k : BKind) (hub : Bool) (o : BistObs) : Verdict :=
  let line := k == .lane || k == .spring
  let met := o.checkMet && (hub || o.golden) && !(line && o.inRunFail)
  if o.atTerminal then (if met then .pass else .fail)
  else if line && o.inRunFail then .fail
  else .aborted

/-- R470. Step 1 of a run on a bed: its ports are in TEST, also in the memory test of a start's stage 7, of
which R24 and R29 say DISABLED, and R470 and R474 TEST. Log 43 (DEDUCED). -/
def State.bistBegin (s : State) (b : BedId) (key : Option CmdKey) (kinds : List BKind) : State :=
  let s1 := if kinds.contains .spring then s.bedMute b else s
  (s1.bedIsolate b).modBed b fun d => { d with
    bist := some { key := key, left := kinds, result := [] }, bistRes := 0, fromStart := key.isNone }

/-- R344. The verdicts of a run, two bits a kind. -/
def bistWord (r : List (BKind × Verdict)) : BitVec 10 :=
  BitVec.ofNat 10 (r.foldl (fun a x => a + x.2.code * 2 ^ (2 * x.1.bit)) 0)

/-- R468, R471, R472. A kind of a bed's run stops with its verdict. -/
def State.kindStop (s : State) (b : BedId) (r : BistRun) (k : BKind) (rest : List BKind) (v : Verdict)
    (alloc : List Word) : State :=
  let res := r.result ++ [(k, v)]
  s.modBed b fun d => { d with
    bist := some { r with left := rest, result := res, reinit := rest.isEmpty },
    bistRes := bistWord res,
    softMap := if k = .memory ∧ v ≠ .aborted then alloc else d.softMap,
    repairs := if k = .memory ∧ v ≠ .aborted then min 255 alloc.length else d.repairs,
    memPass := if k = .memory then v == .pass else d.memPass }

/-- R470. Status registers of a port at their reset values; REMOVED, the counters and the fingerprint
slot are kept, and so is the island. -/
def Port.reinit (q : Port) : Port :=
  { q with
    link := { state := q.link.state, removed := q.link.removed, failRung := q.link.failRung,
              failCount := q.link.failCount, upSince := q.link.upSince, downs := q.link.downs,
              downAt := q.link.downAt },
    train := {}, line := {}, rx := {}, adapt := {}, still := {}, host := {}, mapChanged := false,
    lastReject := 0 }

/-- R401, R470. Steps 3 and 4 of a run end. -/
def State.bistReturn (s : State) (b : BedId) (r : BistRun) : State :=
  let s1 := forAll (portsOf b) (fun p t => t.modPort p Port.reinit) s
  let s2 := forAll (lanesOf b) (fun l t => t.modLane l fun x =>
    { x with locked := false, idle := false, adapting := true }) s1
  let s3 := s2.modBed b fun d => { d with
    bist := none, calRun := 0, calPass := 0, fuseErr := false,
    pow := { d.pow with tender := true, lineLock := !s.clk.reflost, laneLock := [false, false],
                        laneFam := [0, 0] } }
  let s4 := ((s3.famAssign b).bedRelease b).modeAfterTest
  match r.key with
  | none => s4
  | some k =>
    let made := if r.result.any fun x => x.1 == .memory && x.2 != .aborted then (s.bed b).repairs else 0
    let t := s4.raise .bistDone (.bed b)
      [(16, 2, (bistWord r.result).toNat), (18, 2, k.cid.toNat), (20, 1, min 255 made)]
    let t1 := t.finish k (.bed b) .ok
    if allBeds.any fun c => match (t1.bed c).bist with | some q => q.key == some k | none => false then t1
    else t1.finish k .device .ok

end Sys2Proof.Machine
end

