-- ==== Sys2Proof/Machine/LineCode.lean ====
section
/-! DEFINITION.
The Caerhorn line code (R66–R92, R103–R107, R113): the Ripple code, the scrambler, Lily-512, the
rows and their slots, the precoder, and the check fields of OAM fields and training info frames. -/

namespace Sys2Proof.Machine

/-! ## Ripple (R73–R75, R78) -/

/-- R74. The entries of B_i row r: (i, r, column, shift). -/
def rippleBase : List (Nat × Nat × Nat × Nat) :=
  let c (j : Nat) (e : List (Nat × Nat × Nat)) : List (Nat × Nat × Nat × Nat) :=
    e.map fun x => (x.1, x.2.1, j, x.2.2)
  c 0 [(0, 0, 0), (1, 1, 7), (2, 2, 56)] ++ c 1 [(0, 1, 0), (1, 2, 31), (2, 0, 47)] ++
  c 2 [(0, 2, 0), (1, 0, 13), (2, 1, 39)] ++ c 3 [(0, 0, 17), (1, 1, 40), (2, 2, 25)] ++
  c 4 [(0, 1, 29), (1, 2, 9), (2, 0, 16)] ++ c 5 [(0, 2, 44), (1, 0, 50), (2, 1, 4)] ++
  c 6 [(0, 0, 52), (1, 1, 24), (2, 2, 14)] ++ c 7 [(0, 1, 11), (1, 2, 55), (2, 0, 35)] ++
  c 8 [(0, 2, 19), (1, 0, 3), (2, 1, 63)] ++ c 9 [(0, 0, 8), (1, 1, 62), (2, 2, 37)] ++
  c 10 [(0, 1, 46), (1, 2, 20), (2, 0, 58)] ++ c 11 [(0, 2, 57), (1, 0, 36), (2, 1, 22)] ++
  c 12 [(0, 0, 33), (1, 1, 15), (2, 2, 1)] ++ c 13 [(0, 1, 5), (1, 2, 43), (2, 0, 27)] ++
  c 14 [(0, 2, 26), (1, 0, 59), (2, 1, 49)] ++ c 15 [(0, 0, 61), (1, 1, 48), (2, 2, 30)] ++
  c 16 [(0, 1, 38), (1, 2, 2), (2, 0, 10)] ++ c 17 [(0, 0, 0), (0, 1, 23), (1, 2, 34)] ++
  c 18 [(0, 1, 0), (0, 2, 41), (2, 2, 53)] ++ c 19 [(0, 2, 0), (1, 0, 21), (2, 1, 12)]

/-- Column group j of a section. -/
def rippleGroup (c : BitVec 1300) (j : Nat) : BitVec 65 := c.extractLsb' (65 * j) 65

/-- R73. The left side of check row r, bit k for check k: sections t, t−1 and t−2. -/
def rippleSum (r : Nat) (c0 c1 c2 : BitVec 1300) : BitVec 65 :=
  rippleBase.foldl (fun a e =>
    if e.2.1 = r then
      let c := if e.1 = 0 then c0 else if e.1 = 1 then c1 else c2
      a ^^^ (rippleGroup c e.2.2.1).rotateRight e.2.2.2
    else a) 0

/-- R73. Every check of a section holds. -/
def rippleOk (c0 c1 c2 : BitVec 1300) : Bool :=
  rippleSum 0 c0 c1 c2 == 0 && rippleSum 1 c0 c1 c2 == 0 && rippleSum 2 c0 c1 c2 == 0

/-- R75. The section of information bits v after sections c1 and c2. -/
def rippleEncode (v : BitVec 1105) (c1 c2 : BitVec 1300) : BitVec 1300 :=
  let c0 : BitVec 1300 := v.setWidth 1300
  let p17 := rippleSum 0 c0 c1 c2
  let p18 := rippleSum 1 c0 c1 c2 ^^^ p17.rotateRight 23
  let p19 := rippleSum 2 c0 c1 c2 ^^^ p18.rotateRight 41
  c0 ||| (p17.setWidth 1300 <<< 1105) ||| (p18.setWidth 1300 <<< 1170) |||
    (p19.setWidth 1300 <<< 1235)

/-! ## Lily-512 (R80–R83) -/

/-- R80. The grid indices of the points, by ascending y and then x. -/
def lilyGrid : List (Nat × Nat) :=
  let edge (g : Nat) : Bool := decide (g < 4) || decide (20 ≤ g)
  (List.range 24).flatMap fun gy =>
    ((List.range 24).filter fun gx => !(edge gx && edge gy)).map fun gx => (gx, gy)

/-- R81. The subset of grid indices. -/
def lilySubset (g : Nat × Nat) : Nat :=
  (g.1 + g.2) % 2 + 2 * (g.1 % 2) + 4 * ((g.1 / 2 + g.2 / 2) % 2) + 8 * (g.1 / 2 % 2) +
    16 * ((g.1 / 4 + g.2 / 4) % 2)

/-- R83. The point of a label. -/
def lilyPoint (label : Nat) : Int × Int :=
  let g := (lilyGrid.filter fun g => lilySubset g == label % 32).getD (label / 32) (0, 0)
  (2 * (g.1 : Int) - 23, 2 * (g.2 : Int) - 23)

/-- R84. The label of data symbol m from the row's uncoded bits and its section. -/
def rowLabel (u : BitVec 1040) (c : BitVec 1300) (m : Nat) : Nat :=
  let q := natOfBits (bitsOf u (4 * m) 4)
  let s := natOfBits ((List.range 5).map fun i => c.getLsbD (260 * i + m))
  32 * q + s

/-! ## Slots (R68, R86, R87, R90) -/

/-- A symbol of a pair: the pair and the 2D point. -/
abbrev Sym := Pair × (Int × Int)

/-- R86. The comma of a pair. -/
def comma (p : Pair) : Int × Int :=
  (if p.val < 2 then 23 else 17, if p.val % 2 = 0 then 23 else 17)

/-- R87. The pilot word of a pair. -/
def pilotWord (p : Pair) : BitVec 7 :=
  match p.val with
  | 0 => 0b0011101
  | 1 => 0b0100111
  | 2 => 0b1001110
  | _ => 0b1110010

/-- R68, R87. Slot 0 of row r on the active pairs. -/
def slot0 (ps : List Pair) (r : Nat) : List Sym :=
  ps.map fun p =>
    if r = 0 then (p, comma p)
    else
      let d : Int := if (pilotWord p).getLsbD (r - 1) then -1 else 1
      (p, (23 * d, -23 * d))

/-- R84, R90. The data slots of a row from its points in symbol order: each slot takes one point for
each active pair. -/
def dataSlots (ps : List Pair) : Nat → List (Int × Int) → List Sym
  | 0, _ => []
  | n + 1, pts =>
    if pts.isEmpty then []
    else ps.zip (pts.take ps.length) ++ dataSlots ps n (pts.drop ps.length)

/-- R84, R90. A coded row, with the pad point of the three-pair layout. -/
def codedRow (ps : List Pair) (r : Nat) (u : BitVec 1040) (c : BitVec 1300) : List Sym :=
  let pts := (List.range 260).map fun m => lilyPoint (rowLabel u c m)
  let padded := if ps.length = 3 then pts ++ [(1, 1)] else pts
  slot0 ps r ++ dataSlots ps 88 padded

/-! ## The row-group stream (R69, R71, R72, R76) -/

/-- R69. The stream of an OAM field and 66 blocks. -/
def groupStream (oam : BitVec 198) (blocks : List (BitVec 257)) : List Bool :=
  bitsOf oam 0 198 ++ ((List.range 66).flatMap fun b => bitsOf (blocks.getD b 0) 0 257)

/-- R71. The stream scrambled in the sender's direction, with the shift line after it. -/
def scramble (head : Bool) (st : BitVec 58) (bits : List Bool) : List Bool × BitVec 58 :=
  let (z, st1) := lfsrRun (dirDelays head) bits.length st
  (List.zipWith Bool.xor bits z, st1)

/-- R71, R104. A generator n outputs on. Log 70 (DEDUCED). -/
def genSkip (d : List Nat) : Nat → BitVec 58 → BitVec 58
  | 0, g => g
  | n + 1, g => genSkip d n (lfsrStep d g).2

/-- The symbols of the rows from r on, n of them, of a scrambled stream, and the two last
sections. -/
def codedRows (ps : List Pair) : Nat → Nat → List Bool → BitVec 1300 → BitVec 1300 →
    List Sym × BitVec 1300 × BitVec 1300
  | 0, _, _, c1, c2 => ([], c1, c2)
  | n + 1, r, bits, c1, c2 =>
    let u : BitVec 1040 := BitVec.ofNat 1040 (natOfBits (bits.take 1040))
    let v : BitVec 1105 := BitVec.ofNat 1105 (natOfBits ((bits.drop 1040).take 1105))
    let c := rippleEncode v c1 c2
    let (rest, d1, d2) := codedRows ps n (r + 1) (bits.drop 2145) c c1
    (codedRow ps r u c ++ rest, d1, d2)

/-- R78. The symbols of the two termination rows. -/
def termRows (ps : List Pair) (c1 c2 : BitVec 1300) : List Sym :=
  (codedRows ps 2 0 [] c1 c2).1

/-! ## The precoder (R85, R113) -/

/-- R113. A value in units of 2^−20 brought to units of 1/256: exact where it is a multiple. -/
def precRound (x : Int) : Int := if x % 4096 = 0 then x / 4096 else Config.precRound x

/-- R85. A value in units of 1/256 reduced into [−24, +24). -/
def precWrap (x : Int) : Int := (x + 6144) % 12288 - 6144

/-- R113. One coordinate through the precoder of taps h, the last outputs newest first. -/
def precStep (h : List (BitVec 16)) (past : List Int) (a : Int) : Int × List Int :=
  let acc := (List.zipWith (fun (w : BitVec 16) (v : Int) => w.toInt * v) h past).foldl (· + ·) 0
  let v := precWrap (precRound (a * 1048576 - acc))
  (v, (v :: past).take 48)

/-- R113. The 48 taps of a pair. -/
def pairTaps (held : List (BitVec 16)) (p : Pair) : List (BitVec 16) :=
  (held.drop (48 * p.val)).take 48

/-- R67, R113. Symbols through the precoders of their pairs, x first. -/
def precode (held : List (BitVec 16)) : List Sym → List (List Int) →
    List (Int × Int) × List (List Int)
  | [], st => ([], st)
  | (p, (x, y)) :: rest, st =>
    let h := pairTaps held p
    let (vx, s1) := precStep h (st.getD p.val []) x
    let (vy, s2) := precStep h s1 y
    let (out, st1) := precode held rest (upd st p.val s2)
    ((vx, vy) :: out, st1)

/-! ## The training signal (R103, R104, R107) -/

/-- R104. The point of a slot and pair in a phase, from the bits it draws. -/
def trainPoint (ph : Phase) (g : List Bool) : Int × Int :=
  let bitAt (i : Nat) : Bool := g.getD i false
  let two (a b : Bool) : Int := if a then (if b then 5 else 15) else (if b then -5 else -15)
  match ph with
  | .pam4 => (two (bitAt 0) (bitAt 1), two (bitAt 2) (bitAt 3))
  | .ramp => lilyPoint (natOfBits g)
  | _ => ((if bitAt 0 then -13 else 13), (if bitAt 1 then -13 else 13))

/-- R104. Bits drawn per slot and pair. -/
def trainDraw (ph : Phase) : Nat :=
  match ph with
  | .pam4 => 4
  | .ramp => 9
  | _ => 2

/-- R66. Data slots of a row with n active pairs. -/
def rowSlots (n : Nat) : Nat := if n = 3 then 87 else 65

/-- The points of n slots and pairs, and the generator after them. -/
def trainPoints (head : Bool) (ph : Phase) : Nat → BitVec 58 → List (Int × Int) × BitVec 58
  | 0, st => ([], st)
  | n + 1, st =>
    let (g, st1) := lfsrRun (dirDelays head) (trainDraw ph) st
    let (rest, st2) := trainPoints head ph n st1
    (trainPoint ph g :: rest, st2)

/-- R104. Training rows from r on, n of them. -/
def trainRows (head : Bool) (ps : List Pair) (ph : Phase) : Nat → Nat → BitVec 58 →
    List Sym × BitVec 58
  | 0, _, st => ([], st)
  | n + 1, r, st =>
    let m := rowSlots ps.length
    let (pts, st1) := trainPoints head ph (m * ps.length) st
    let (rest, st2) := trainRows head ps ph n (r + 1) st1
    (slot0 ps r ++ dataSlots ps m pts ++ rest, st2)

/-- R107. The points of a list of levels, x first. -/
def pairUp : List Int → List (Int × Int)
  | x :: y :: rest => (x, y) :: pairUp rest
  | _ => []

/-- R107. Row 0 of a training row group. -/
def tifRow (head : Bool) (ps : List Pair) (tif : BitVec 512) : List Sym :=
  let m := rowSlots ps.length
  let n := 2 * m * ps.length
  let mask := (lfsrRun (dirDelays head) n (BitVec.allOnes 58)).1
  let lv : List Int := mask.zipIdx.map fun x =>
    if (tif.getLsbD x.2).xor x.1 then -13 else 13
  slot0 ps 0 ++ dataSlots ps m (pairUp lv)

/-! ## Check fields (R92, R106) -/

/-- R92. An OAM field from its bits 0 to 181. -/
def oamSeal (o : BitVec 182) : BitVec 198 :=
  let low := bitsOf o 0 182
  BitVec.ofNat 198 (natOfBits (low ++ crc16 low))

/-- R94. The CRC of an OAM field passes. -/
def oamOk (o : BitVec 198) : Bool := bitsOf o 182 16 == crc16 (bitsOf o 0 182)

/-- R106. A training info frame from its bits 0 to 479. -/
def tifSeal (t : BitVec 480) : BitVec 512 :=
  let low := bitsOf t 0 480
  BitVec.ofNat 512 (natOfBits (low ++ crc32 low))

/-- R107. The CRC of a training info frame passes. -/
def tifOk (t : BitVec 512) : Bool := bitsOf t 480 32 == crc32 (bitsOf t 0 480)

end Sys2Proof.Machine
end

