-- ==== Sys2Proof/Machine/LinkOps.lean ====
section
/-! DEFINITION.
How a link that is UP or STILL is closed, retrained, woken and taken to DORMANT (R77, R95, R120,
R156, R158, R169, R172, R175): the operations that commands and line events share. -/

namespace Sys2Proof.Machine

/-! ## Planned ends (R77, R95, R120) -/

/-- R77, R95. A planned end with a closing code begins, or replaces a lower-ranking one in its
countdown. own says that this end raises EV_LINK_DOWN with cause LOCAL_DOWN with its first closing
row group. Log 16 (DEDUCED). -/
def State.closeLink (s : State) (p : PortId) (code : LState) (after : After) (own : Bool) : State :=
  let l := (s.port p).line
  if l.closing.code < code.code then
    s.modPort p fun q => { q with
      line := { q.line with closing := code, downDue := own, closeAt := s.now,
                            closeCnt := if q.line.closing = .data then some 3 else q.line.closeCnt },
      link := { q.link with after := after } }
  else if l.closing = code && after != .none then
    s.modLink p fun k => { k with after := if k.after = .disabled then .disabled else after }
  else s

/-! ## Wakes from Still (R169, R172) -/

/-- R169, R172. A wake cause at an end that is quiet or on its way into quiet. -/
def State.stillWake (s : State) (p : PortId) (w : WakeBy) : State :=
  let q := s.port p
  if q.still.quiet then
    if q.still.wake.isSome then s
    else s.modStill p fun l => { l with
      wake := some 18, refresh := 0, lastWake := w, wakeDue := false, heard := false }
  else if q.line.closing = .closeStill && !q.still.wakeDue then
    s.modStill p fun l => { l with wakeDue := true, lastWake := w }
  else s

/-- R172. A command that needs data mode wakes the port. -/
def State.wakeFor (s : State) (p : PortId) (j : WakeJob) : State :=
  (s.modLink p fun l => { l with wakeJob := j }).stillWake p .command

/-! ## Ends that this port decides (R95, R120, R121) -/

/-- R95. An end that must wait for the next data mode; of two that wait the higher-ranking one stays. -/
def Line.await (l : Line) (code : LState) (r : Rung) (after : After) : Line :=
  match l.waitEnd with
  | some (c, _, _) => if c.code < code.code then { l with waitEnd := some (code, r, after) } else l
  | none => { l with waitEnd := some (code, r, after) }

/-- R95, R121. An end that this port itself decides, at rung r for CLOSE_RUNG: it begins, or takes the place
of a lower-ranking one in its countdown. A lower-ranking one waits for the next data mode, as does any once
the row group with CLOSE_CNT = 0 has been sent (a port on its way into Still wakes for it, R172); two
retrain decisions of one tick make one closing. Log 16 (DEDUCED). -/
def State.closeWish (s : State) (p : PortId) (code : LState) (r : Rung) (after : After) (own : Bool) :
    State :=
  let l := (s.port p).line
  if l.closing.code < code.code && !l.term then
    let t := s.closeLink p code after own
    if code = .closeRung then t.modLine p fun l => { l with rungReq := r } else t
  else if l.closing = code then s.closeLink p code after own
  else if code.code < l.closing.code && l.closeAt = s.now && !l.term then s
  else
    let t := s.modLine p fun l => l.await code r after
    if l.closing = .closeStill then t.stillWake p .command else t

/-- R120. The head's decision on a retrain cause: CLOSE_RETRAIN where it has an option, CLOSE_DOWN
otherwise and on a pair-spared link. -/
def State.retrainDecide (s : State) (p : PortId) : State :=
  if (s.port p).link.spared then s.closeWish p .closeDown 0 .listening true
  else
    let r := s.retrainKind p
    match r.1 with
    | some _ => r.2.closeWish p .closeRetrain 0 .none false
    | none => r.2.closeWish p .closeDown 0 .listening true

/-- R120, R128, R172. A retrain cause at this end of a CH link that is UP. -/
def State.retrainAsk (s : State) (p : PortId) : State :=
  let q := s.port p
  if q.link.role = .tail then
    let t := s.modLine p fun l => { l with rungReq := q.link.rung }
    if q.line.closing = .closeStill then t.stillWake p .command else t
  else s.retrainDecide p

/-- R120, R154, R156. The partner's CLOSE_DOWN is accepted: EV_LINK_DOWN with cause PEER_CLOSE, and
this end closes in the same way. Log 16 (DEDUCED). -/
def State.peerClose (s : State) (p : PortId) : State :=
  let q := s.port p
  ((s.critEvent p .peerClose).hostSet p q.host.mode .fault).closeLink p .closeDown .listening false

/-- R156, R157, R175, R318. A link-down criterion is met; a CMD_RETRAIN of the port is done with it.
An end that is closing for a disable or for DORMANT goes there at once. Log 15 (DEDUCED).
Log 16 (DEDUCED). -/
def State.critDown (s : State) (p : PortId) (c : Down) : State :=
  let q := s.port p
  let t :=
    if q.dorm.noticeWait || q.link.after = .dormant then (s.critEvent p c).toDormant p
    else if q.link.after = .disabled then (s.critEvent p c).disableDone p
    else s.downRecover p c
  t.finishOp .retrain (.port p) .ok

/-! ## Standard rungs (R158, R319) -/

/-- R319. A standard-rung link stops without a criterion. Log 19 (DEDUCED). -/
def State.standardStop (s : State) (p : PortId) : State :=
  (s.linkDown p .localDown 0 .none .none).toListening p

/-- R158. A clause fast retrain begins. -/
def State.clauseRetrain (s : State) (p : PortId) : State :=
  let q := s.port p
  let t := if q.link.state = .still then
      s.raise .still (.port p) [(16, 1, 0), (17, 1, q.link.rung.toNat), (18, 1, q.still.lastWake.code)]
    else s
  (t.sampleFlush p).startTraining p .standard .none q.link.rung s.now false true

/-! ## Dormant entry (R175) -/

/-- R175. Entry to DORMANT from UP. -/
def State.dormantUp (s : State) (p : PortId) : State :=
  let q := s.port p
  if !isCh q.link.rung then s.toDormant p
  else
    let s1 := if q.link.spared then s else
      (s.fpSaveWell p).modDorm p fun d => { d with saved := true }
    if q.spring.sstate = .partnered then
      (s1.modDorm p fun d => { d with noticeWait := true }).springDue p { typ := .dormNotice }
    else s1.closeWish p .closeDown 0 .dormant false

/-- R122, R123, R318. A training is abandoned by this end's own will, with cause LOCAL_ABORT. -/
def State.localAbort (s : State) (p : PortId) (after : After) (down : Bool) : State :=
  let q := s.port p
  let tell (s : State) : State :=
    if down && q.train.fromData then s.linkDown p .localDown 0 .none .none else s
  if q.train.abortLeft ≠ 0 then
    (if q.link.after = .warm then tell s else s).modLink p fun l => { l with after := after }
  else
    let s1 := s.noteFail p .localAbort
    let s2 := if q.train.kind = .warm then s1.fpUnconf p else s1
    (tell s2).trainQuit p .localAbort true after

/-- R175. The notice is acknowledged, or its acknowledgement is no longer awaited: the port closes, from
wherever it has come to in the meantime. -/
def State.noticeOver (s : State) (p : PortId) : State :=
  let q := s.port p
  if !q.dorm.noticeWait then s
  else
    let t := s.modDorm p fun d => { d with noticeWait := false }
    match q.ls with
    | .up => t.closeWish p .closeDown 0 .dormant false
    | .still => t.wakeFor p .close
    | .training => t.localAbort p .dormant false
    | _ => t

/-- R175. A port's own entry to DORMANT, by its state. On a standard rung a STILL port leaves STILL as its
line stops (R174). -/
def State.dormantEnter (s : State) (p : PortId) : State :=
  let q := s.port p
  match q.link.state with
  | .up => if q.dorm.noticeWait || q.link.after = .dormant then s else s.dormantUp p
  | .still =>
    if isCh q.link.rung then s.wakeFor p .dormant
    else (s.raise .still (.port p)
      [(16, 1, 0), (17, 1, q.link.rung.toNat), (18, 1, WakeBy.command.code)]).toDormant p
  | .training => s.localAbort p .dormant false
  | .listening => s.toDormant p
  | .disabled => s.toDormant p
  | _ => s

/-! ## The wake from DORMANT (R118, R178, R565) -/

/-- R178. Warm training from TIMING after WAKE_GO. -/
def State.wakeTrain (s : State) (p : PortId) (rung : Rung) (role : Role) : State :=
  let cap := (s.port p).spring.pcap.getD []
  ((s.leaveDormant p 1).startTraining p .warm .timing rung s.now (role == .tail) false).modLink p
    fun l => { l with role := role, timing := role == .head, partnerSpare := bit (byteAt cap 4) 0,
                      partnerId := BitVec.ofNat 64 (leAt cap 8 8) }

/-- R178, R179. The head's answer to WAKE_READY. -/
def State.wakeReadyAct (s : State) (p : PortId) (digest : Bytes) : State :=
  let q := s.port p
  let (ok, t) := s.fpEval p (s.fpDormant p (rungMask (candidatesNow q)))
  let f := q.fp.getD []
  let t1 := (t.springUndue p .wakeReq).modPort p fun q => { q with
    spring := { q.spring with wakeReq := false }, dorm := { q.dorm with heldReady := none } }
  if ok && !q.dorm.evicted && (fpDigest f).take 8 == digest.take 8 then
    (t1.springDue p { typ := .wakeGo, payload := [byteAt f 1] }).wakeTrain p (fpRung f) .head
  else ((t1.springDue p { typ := .wakeCold }).leaveDormant p 2).toListening p

/-- R118, R178. WAKE_GO at the tail, or the head's frame that stands for it (R222). -/
def State.wakeGoTake (s : State) (p : PortId) (rung : Rung) : State :=
  let q := s.port p
  if q.link.state != .dormant || !q.dorm.waking || q.spring.srole != .tail || !isCh rung then s
  else
    let (ok, t) := s.fpEval p (s.fpDormant p (BitVec.ofNat 16 (2 ^ rung.toNat)))
    let u := t.wakeTrain p rung .tail
    if ok then u
    else (u.modTrain p fun x => { x with phase := .handshake }).trainFail p .fpReject true

/-! ## Loopbacks (R274, R275) -/

/-- R242, R274. A loopback ends, wherever the port then goes. -/
def State.loopDrop (s : State) (p : PortId) : State :=
  s.modPort p fun q => { q with loop := none, grant := none }

/-- R274, R275. The loop is closed and the port is in TEST. A link in data mode stays in it; any other
line activity stops. Log 48 (DEDUCED). -/
def State.loopEnter (s : State) (p : PortId) (side kind : Byte) (rung : Rung) : State :=
  let prior := (s.port p).link.state
  let s1 := if prior = .up then s.modPort p fun q => { q with
        slots := {}, line := { q.line with health := .notUp } }
    else s.portRest p
  let s2 := if side = 1 && prior != .up then s1.hostSet p (hostMode (s1.port p).cfg rung) .test
    else if kind = 2 && side = 0 then s1.modHost p fun h => { h with egress := .test }
    else s1
  s2.modPort p fun q => { q with
    link := { q.link with state := .test },
    loop := some { side := side, kind := kind, rung := rung, prior := prior } }

/-- R275. The loopback is switched off: UP where the line is still in data mode, DISABLED where the
port came from it, otherwise a fresh entry to LISTENING. -/
def State.loopLeave (s : State) (p : PortId) : State :=
  match (s.port p).loop with
  | none => s
  | some l =>
    match l.prior with
    | .up => s.modPort p fun q => { q with
        loop := none, link := { q.link with state := .up },
        host := { q.host with egress := .stream } }
    | .disabled => (s.loopDrop p).toDisabled p
    | _ => (s.loopDrop p).toListening p

/-! ## A disable (R318) -/

/-- R318. A disable of a port that is UP. Log 19 (DEDUCED). -/
def State.disableUp (s : State) (p : PortId) : State :=
  let q := s.port p
  if isCh q.link.rung then
    let t := s.modDorm p fun d => { d with noticeWait := false }
    if q.line.closing = .closeDown then t.modLink p fun l => { l with after := .disabled }
    else t.closeWish p .closeDown 0 .disabled true
  else (s.linkDown p .localDown 0 .none .none).disableDone p

/-- R318. A disable, by the port's state. In TEST the diagnostic or the loopback ends first. -/
def State.disable (s : State) (p : PortId) : State :=
  let q := s.port p
  match q.link.state with
  | .disabled => s.disableDone p
  | .listening => s.disableDone p
  | .fault => s.disableDone p
  | .training => s.localAbort p .disabled true
  | .up => s.disableUp p
  | .still =>
    if isCh q.link.rung then s.wakeFor p .disable
    else (s.linkDown p .localDown 0 .none .none).disableDone p
  | .dormant => (s.leaveDormant p 3).disableDone p
  | .test =>
    if q.ls = .up then (s.loopLeave p).disableUp p
    else ((s.diagAbort p).loopDrop p).disableDone p

end Sys2Proof.Machine
end

