-- ==== Sys2Proof/Machine/RingOps.lean ====
section
/-! DEFINITION.
The rings at work (R286–R312, R342): doorbells, enables and disables, fetching and starting
commands, completions, and the routing of events. -/

namespace Sys2Proof.Machine

/-! ## Availability -/

/-- R307. The rings are served in the device's mode. -/
def State.ringsServed (s : State) : Bool :=
  s.sluice.hubOn && match s.hub.mode with
    | .calibrate | .active | .quiet | .test => true
    | _ => false

/-- R307. Commands are started in the device's mode. -/
def State.startsNow (s : State) : Bool :=
  s.sluice.hubOn && match s.hub.mode with
    | .active | .quiet | .test => true
    | _ => false

/-! ## Events (R301, R302, R305, R312, R342) -/

/-- R312. The event ring of a class, none for discard. -/
def State.routeOf (s : State) (cls : Nat) : Option RingId :=
  let v := fld s.hub.evroute (3 * (cls - 1)) 3
  if h : v < 4 then some (evRing ⟨v, h⟩) else none

/-- R301. An event entry. -/
def eventBytesOf (e : Event) (lost phase : Bool) : Bytes :=
  leBytes 2 e.code.code ++ [BitVec.ofNat 8 e.code.cls, BitVec.ofNat 8 (b2n phase + 2 * b2n lost)] ++
    leBytes 2 e.src.code ++ zeros 2 ++ leBytes 8 e.tick.toNat ++ leBytes 16 e.data.toNat

/-- R288, R301. An event is written to its ring. -/
def State.writeEvent (s : State) (r : RingId) (e : Event) : State :=
  s.produce r (eventBytesOf e (s.ring r).lostBefore)

/-- R302, R305. An event routed to a ring is written, waits in the overflow store, or is dropped. -/
def State.eventToRing (s : State) (r : RingId) (e : Event) : State :=
  let g := s.ring r
  if g.state != .run then s.ringDrop r
  else if g.store.isEmpty && g.free != 0 && s.dmaOk false then s.writeEvent r e
  else if g.store.length < 512 then s.modRing r fun g => { g with store := g.store ++ [e] }
  else s.ringDrop r

/-- R302, R305. Events of a ring's overflow store are written while there is room. -/
def State.storeDrain : Nat → RingId → State → State
  | 0, _, s => s
  | n + 1, r, s =>
    let g := s.ring r
    match g.store with
    | [] => s
    | e :: es =>
      if g.state = .run && g.free != 0 && s.dmaOk false then
        State.storeDrain n r ((s.modRing r fun g => { g with store := es }).writeEvent r e)
      else s

/-- R309. The ring that takes the EV_RING_ERROR of a failed event ring: the first enabled one upward
from it. -/
def State.errorRoute (s : State) (r : Nat) : Option RingId :=
  ((List.range 3).map fun i => ringOf (32 + (r - 32 + i + 1) % 4)).find? fun q =>
    (s.ring q).state == .run

/-- R342. An event is held, at most 64, the oldest dropped. Log 65 (DEDUCED). -/
def State.holdEvent (s : State) (e : Event) : State :=
  if s.held.length < 64 then { s with held := s.held ++ [e] }
  else { s with held := s.held.drop 1 ++ [e], heldLost := true }

/-- R342. An event waits for an event ring that can be reached. Log 65 (DEDUCED). -/
def State.mustHold (s : State) (e : Event) : Bool :=
  !s.ringsServed || !s.hub.evSeen || (e.code == .reflost && !s.pins.link) ||
    (e.code == .bootFallback && match s.routeOf 3 with
      | some r => (s.ring r).state != .run
      | none => false)

/-- R302, R305, R309, R312. An event that is due is routed. Log 14 (DEDUCED). -/
def State.routeEvent (s : State) (e : Event) : State :=
  if s.mustHold e then s.holdEvent e
  else
    let rid := e.data.toNat % 256
    if e.code = .ringError ∧ 32 ≤ rid ∧ rid < 36 then
      match s.errorRoute rid with
      | some r => s.eventToRing r e
      | none => s
    else
      match s.routeOf e.code.cls with
      | some r => s.eventToRing r e
      | none => s

/-- R342. A held event is routed, or stays held. -/
def State.releaseEvent (t : State) (e : Event) : State :=
  match t.routeOf e.code.cls with
  | none => t
  | some r =>
    if (t.ring r).state = .idle then { t with held := t.held ++ [e] }
    else
      let t1 := if t.heldLost && (t.ring r).state == .run then
          { t.modRing r (fun g => { g with lostBefore := true }) with heldLost := false }
        else t
      t1.eventToRing r e

/-- R342. Held events are routed by the routing now in force; those for a ring not yet enabled stay
held. Log 65 (DEDUCED). -/
def State.releaseHeld (s : State) : State :=
  if !s.ringsServed then s else
  forAll s.held (fun e t => t.releaseEvent e) { s with held := [] }

/-! ## Enables and disables (R309, R310) -/

/-- R297. The commands of a ring that are fetched and not yet completed. -/
def State.ringCmds (s : State) (c : Nat) : List CmdRec := s.cmds.filter fun r => r.hdr.ring.val == c

/-- R305. The size by which a pair is checked, as its exponent. -/
def Ring.pairLog (g : Ring) : Nat :=
  if g.state = .run || g.state = .draining then g.logSize else fld g.cfg 1 4

/-- R305, R310. An enable with exponent n fails with BAD_SIZE. -/
def State.badSize (s : State) (r : RingId) (n : Nat) : Bool :=
  decide (n < 4) || decide (12 < n) ||
    (if isCmdRing r then decide ((s.ring (ringOf (r.val + 16))).pairLog < n)
     else if isCplRing r then decide (n < (s.ring (ringOf (r.val - 16))).pairLog) else false)

/-- R287, R288, R310, R311. What EN going from 0 to 1 samples and resets, whether or not the enable
succeeds. -/
def Ring.enable (g : Ring) (cfg : Word) : Ring :=
  { g with
    cfg := cfg, base := BitVec.ofNat 64 (g.baseHi.toNat * 2 ^ 32 + fld g.baseLo 12 20 * 4096),
    logSize := fld cfg 1 4, head := 0, tail := 0, phase := true, state := .run, err := .none,
    overflow := false, lost := 0, lostBefore := false, store := [], unsent := 0 }

/-- R287, R288, R310. EN goes from 0 to 1. -/
def State.ringOn (s : State) (r : RingId) (cfg : Word) : State :=
  let s1 := s.modRing r fun g => g.enable cfg
  if s.badSize r (fld cfg 1 4) then s1.ringError r .badSize
  else if isEvRing r then State.releaseHeld { s1 with hub := { s1.hub with evSeen := true } }
  else if r = telRing then { s1 with tel := { s1.tel with dropAt := none } }
  else s1

/-- R305. The entries taken from a Spring transmit queue that is disabled lose their place in it. -/
def State.orphanTx (s : State) (r : RingId) : State :=
  if isSprTx r then
    let b : BedId := Fin.ofNat 8 (r.val - 40)
    forAll (portsOf b) (fun p t => t.modSpring p fun g => { g with
        users := g.users.map fun u => { u with orphan := true } })
      { s with heldWb := s.heldWb.map fun w => if w.bed = b then { w with orphan := true } else w }
  else s

/-- R305, R309, R310. EN goes from 1 to 0; a ring in ERROR reads IDLE then. Log 30 (DEDUCED). -/
def State.ringOff (s : State) (r : RingId) (cfg : Word) : State :=
  let n := (s.ring r).store.length
  (s.orphanTx r).modRing r fun g => { g with
    cfg := cfg, store := [], lost := sat (g.lost + n), overflow := g.overflow || n != 0,
    state := if isCmdRing r && !(s.ringCmds r.val).isEmpty then .draining else .idle }

/-- R310. A write of CFG; of a reserved RID too, which no engine uses. Log 30 (DEDUCED). -/
def State.ringCfg (s : State) (r : RingId) (v : Word) : State :=
  let cfg := v &&& 0x0FFFFFFF
  let old := bit (s.ring r).cfg 0
  if bit cfg 0 && !old then s.ringOn r cfg
  else if !bit cfg 0 && old then s.ringOff r cfg
  else s.modRing r fun g => { g with cfg := cfg }

/-! ## Doorbells (R290, R291, R307, R445) -/

/-- R291. A doorbell acts on a running ring. Log 30 (DEDUCED). -/
def State.bellAct (s : State) (r : RingId) (v : Word) : State :=
  let g := s.ring r
  let i := fld v 0 16
  if g.state != .run then s
  else if g.size ≤ i then s.ringError r .indexRange
  else if hostProduced r then
    if (i + g.size - g.tail) % g.size ≤ g.free then s.modRing r fun g => { g with tail := i }
    else s.ringError r .tailOverrun
  else if devProduced r then
    if (i + g.size - g.head) % g.size ≤ g.used then
      State.sampleDrain 512 (State.storeDrain 512 r (s.modRing r fun g => { g with head := i }))
    else s.ringError r .headOverrun
  else s

/-- R290, R307, R371, R445. A doorbell write of PF0 arrives. -/
def State.bellWrite (s : State) (r : RingId) (v : Word) : State :=
  if s.early 11 then s.accessFault 11 2 (r.val * 0x1000)
  else
    let s1 := s.modRing r fun g => { g with bell := v }
    if s.hub.mode = .dormant || s.sluice.entry || !s.sluice.hubOn then
      (s1.modRing r fun g => { g with latched := some v }).latchWake .doorbell
    else inNextTick (fun t => t.bellAct r v) s1

/-- R307, R442. A ring's latched doorbell acts. -/
def State.bellFlush (s : State) (r : RingId) : State :=
  match (s.ring r).latched with
  | some v => (s.modRing r fun g => { g with latched := none }).bellAct r v
  | none => s

/-- R307, R442. The latched doorbells act. -/
def State.bellsFlush (s : State) : State := forAll allRings (fun r t => t.bellFlush r) s

/-! ## Commands (R292–R300, R313, R314) -/

/-- R313. The kinds of target that an opcode accepts. -/
def opAccepts (o : Op) (e : Elem) : Bool :=
  match o with
  | .portConfig | .portEnable | .portDisable | .retrain | .laneConfig | .loopback | .diagRun
  | .fpSave | .fpLoad | .counterAccess | .springConfig =>
    (match e with | .port _ => true | _ => false)
  | .reset => true
  | .calRun | .bistRun | .sampleConfig => (match e with | .bed _ => true | .device => true | _ => false)
  | .repairFuse => (match e with | .bed _ => true | _ => false)
  | .powerState => (match e with | .lane _ => false | _ => true)
  | .calStore | .telConfig | .regBatch | .fwStage | .fwActivate | .attest | .debugUnlock
  | .estateSync => e == .device

/-- R294. The ports of a set, ascending. -/
def portSet (w : BitVec 128) : List PortId := allPorts.filter fun p => w.getLsbD p.val

/-- R294, R314. The targets that a header names for an opcode, none for a bad header. -/
def hdrTargets (o : Op) (h : CmdHdr) : Option (List Elem) :=
  if h.portset then
    if opAccepts o (.port 0) && h.ports != 0 then some ((portSet h.ports).map .port) else none
  else
    match Elem.ofCode h.target with
    | some e => if opAccepts o e then some [e] else none
    | none => none

/-- R293. The header of a fetched entry on a ring. -/
def hdrOf (ring : Fin 16) (e : Bytes) : CmdHdr :=
  { ring := ring, cid := BitVec.ofNat 16 (leAt e 4 2), portset := bit (byteAt e 2) 0,
    fence := bit (byteAt e 2) 1, target := BitVec.ofNat 16 (leAt e 6 2),
    ports := BitVec.ofNat 128 (leAt e 16 16), detail := BitVec.ofNat 64 (leAt e 8 8) }

/-- R293, R294, R314. The record of a fetched entry. -/
def recOf (ring : Fin 16) (e : Bytes) : CmdRec :=
  let h := hdrOf ring e
  let raw := BitVec.ofNat 16 (leAt e 0 2)
  let bad := decide (4 ≤ (byteAt e 2).toNat) || byteAt e 3 != 0
  match Op.ofCode raw.toNat with
  | none => { hdr := h, op := .portConfig, raw := raw, badForm := some .badParam }
  | some o =>
    { hdr := h, op := o, raw := raw,
      badForm := if bad || (hdrTargets o h).isNone then some .badParam else none }

/-- R292, R305, R445. A command of the ring can be fetched: an entry waits, and a completion slot
can be reserved for it. -/
def State.canFetch (s : State) (c : Fin 16) : Bool :=
  let g := s.ring (cmdRing c)
  let k := s.ring (cplRing c)
  s.ringsServed && !s.sluice.entry && s.dmaOk false && g.state == .run && g.used != 0 &&
    k.state == .run && decide ((s.ringCmds c.val).length < k.free)

/-- R298. A command has completed. -/
def CmdRec.completed (r : CmdRec) : Bool := r.doneTick.isSome

/-- R296, R297. The record of the ring that starts next, where nothing holds it back. -/
def State.nextStart (s : State) (c : Fin 16) : Option CmdRec :=
  let rs := s.ringCmds c.val
  match rs.find? fun r => !r.started with
  | none => none
  | some r =>
    let earlier := rs.filter fun q => q.started
    if 8 ≤ (earlier.filter fun q => !q.completed).length then none
    else if r.hdr.fence && earlier.any fun q => !q.completed then none
    else some r

/-- The first record that satisfies q, changed by f. -/
def modFirst (q : CmdRec → Bool) (f : CmdRec → CmdRec) : List CmdRec → List CmdRec
  | [] => []
  | r :: rs => if q r then f r :: rs else r :: modFirst q f rs

/-- R299. The status of a completion. -/
def CmdRec.outcome (r : CmdRec) : ST :=
  match r.badForm with
  | some st => st
  | none =>
    let sts := r.targets.map fun t => t.status.getD .ok
    if sts.all (· == .ok) then .ok
    else if sts.any (· == .ok) then .partialOk
    else sts.headD .ok

/-- R299. The detail buffer. -/
def CmdRec.detailBytes (r : CmdRec) : Bytes :=
  let code (t : CmdTgt) : Byte := BitVec.ofNat 8 (t.status.getD .ok).code
  if r.hdr.portset then
    allPorts.map fun p =>
      match r.targets.find? fun t => t.elem == .port p with
      | some t => code t
      | none => 255
  else
    (match r.targets with | t :: _ => code t | [] => 255) :: List.replicate 127 255

/-- R298. SUCCESS. -/
def CmdRec.success (r : CmdRec) : BitVec 128 :=
  if r.hdr.portset then
    BitVec.ofNat 128 ((r.targets.filter fun t => t.status == some .ok).foldl (fun a t =>
      match t.elem with | .port p => a + 2 ^ p.val | _ => a) 0)
  else if r.badForm.isNone && r.targets.all (fun t => t.status == some .ok) then 1 else 0

/-- R299. A detail buffer goes with the completion. -/
def CmdRec.hasDetail (r : CmdRec) : Bool := r.hdr.detail != 0 && r.badForm.isNone

/-- R298. A completion entry. -/
def CmdRec.entry (r : CmdRec) (head : Nat) (phase : Bool) : Bytes :=
  leBytes 2 r.hdr.cid.toNat ++ [BitVec.ofNat 8 r.outcome.code,
    BitVec.ofNat 8 (b2n phase + 2 * b2n r.hasDetail)] ++ leBytes 2 head ++ leBytes 2 r.raw.toNat ++
    leBytes 8 (r.doneTick.getD 0).toNat ++ leBytes 16 r.success.toNat

/-- R289, R299, R300, R305. The completion of a record is written, or dropped where its ring is not
running. -/
def State.completeRec (s : State) (r : CmdRec) : State :=
  let k := cplRing r.hdr.ring
  let head := (s.ring (cmdRing r.hdr.ring)).head
  let t := { s with cmds := s.cmds.erase r }
  if (s.ring k).state = .run then
    (if r.hasDetail then t.hostWrite r.hdr.detail.toNat r.detailBytes else t).produce k (r.entry head)
  else t.ringDrop k

/-- R300. The first completion that satisfies q and is due is written, where DMA is possible.
Log 10 (DESIGN CHOICE). -/
def State.completeWhere (s : State) (q : CmdRec → Bool) : State :=
  if s.dmaOk false then
    match s.cmds.find? fun r => q r && r.completed with
    | some r => s.completeRec r
    | none => s
  else s

/-- R300. The completion of the command of key k is written. Log 13 (DEDUCED). -/
def State.completeKey (s : State) (k : CmdKey) : State := s.completeWhere fun r => r.is k

/-! ## The frame of every command of R313 -/

/-- The record of a header's command that has not acted yet. -/
def CmdRec.waits (r : CmdRec) (h : CmdHdr) (o : Op) : Bool :=
  r.hdr.ring == h.ring && r.hdr.cid == h.cid && r.op == o && !r.acted

/-- A command's record, made where no fetched one waits. -/
def State.ensureRec (s : State) (h : CmdHdr) (o : Op) : State :=
  if s.cmds.any fun r => r.waits h o then s
  else { s with cmds := s.cmds ++ [{ hdr := h, op := o }] }

/-- R314. A record that fails in its form: no target is acted on. -/
def CmdRec.fail (r : CmdRec) (tick : Tick) : CmdRec :=
  { r with started := true, acted := true, badForm := some .badParam, targets := [],
           doneTick := some tick }

/-- R315. A record that acts on its targets, as the nth to act. -/
def CmdRec.act (r : CmdRec) (es : List Elem) (n : Nat) : CmdRec :=
  { r with started := true, acted := true, serial := n, targets := es.map fun e => { elem := e } }

/-- The key of a header's command that acts as the nth. -/
def CmdHdr.key (h : CmdHdr) (n : Nat) : CmdKey := { ring := h.ring, cid := h.cid, serial := n }

end Sys2Proof.Machine
end

