-- ==== Sys2Proof/Machine/Flags.lean ====
section
/-! DEFINITION.
The status words: what each status register reads as, from the state it reports. -/

namespace Sys2Proof.Machine

/-- A word with bit lo + i set for each element i of a list that satisfies f. -/
def maskOf {α : Type} (lo : Nat) (xs : List α) (f : α → Bool) : Nat :=
  (xs.zipIdx).foldl (fun a x => if f x.1 then a + 2 ^ (lo + x.2) else a) 0

/-! ## The hub block (R351, R355–R359, R466, R479, R536, R553) -/

/-- R351, R358. HUB.MODE. Log 50 (DEDUCED). -/
def State.modeWord (s : State) : Word :=
  packW [(0, s.hub.mode.code), (3, b2n s.hub.changing), (4, b2n (s.clk.div != s.clk.divUse)),
    (0, maskOf 8 allBeds s.bedOn), (0, maskOf 16 allBeds fun b => s.pins.scanStop || (s.bed b).underTest)]

/-- R358. HUB.BOOTSTAT. Log 37 (DEDUCED). -/
def State.bootstat (s : State) : Word :=
  let b := s.boot
  packW [(0, b.reason.code), (8, b2n b.slot), (9, min 3 b.fails), (11, b2n b.seedbed),
    (12, b2n b.calBlank), (13, b2n b.tornCal), (14, b2n b.tornFp)]

/-- R356. HUB.ESTATE. -/
def State.estate (s : State) : Word :=
  packW [(0, s.pins.estId.toNat), (6, b2n s.clk.follow.isSome)]

/-- R356. HUB.FWVER. -/
def State.fwver (s : State) : Word :=
  let run := s.hub.mode != .boot && s.hub.mode != .seedbed
  packW [(0, if run then s.boot.version.toNat else 0), (16, b2n (run && s.boot.slot)), (17, fusedSvn s.sec.svn)]

/-- R359. HUB.AFAULT. -/
def State.afault (s : State) : Word :=
  let h := s.hub
  packW [(0, h.afKind.toNat), (3, h.afMaster.toNat), (7, b2n h.afValid), 
    (8, min 255 h.afCount), (16, b2n h.afBadSize)]

/-- R466. HUB.CALREC. -/
def State.calrec (s : State) : Word :=
  packW [(0, b2n s.cal.valid), (1, b2n s.cal.slot), (2, b2n s.cal.other)]

/-- R479. HUB.BISTSTAT. -/
def State.hubBiststat (s : State) : Word :=
  packW [(0, s.boot.hubLogic.code), (2, s.boot.hubMemory.code), (4, min 255 s.boot.hubRepairs)]

/-- R536. HUB.GPIO. -/
def State.gpio (s : State) : Word :=
  packW [(0, s.pins.gpioDir.toNat), (8, s.pins.gpioOut.toNat), (16, s.pins.gpioIn.toNat),
    (24, s.pins.gpioPull.toNat)]

/-- R553. A temperature word. -/
def tempWord (t : BitVec 12) (valid held : Bool) (trips : Nat) : Word :=
  packW [(0, t.toNat), (12, b2n valid), (13, b2n (decide (420 ≤ t.toInt))), (14, b2n held),
    (16, min 255 trips)]

/-- R553. HUB.TEMP[n]. -/
def State.tempReg (s : State) (n : Nat) : Word :=
  if h : n < 8 then
    let d := s.bed ⟨n, h⟩
    tempWord d.temp d.tempValid d.tempHeld d.trips
  else tempWord s.hub.temp s.hub.tempValid false s.hub.trips

/-! ## Clocks (R273, R281, R361, R412, R413) -/

/-- R361. CLK.STAT. -/
def State.clkStat (s : State) : Word :=
  packW [(0, b2n s.clk.lock), (1, b2n s.clk.reflost), (2, b2n s.clk.armed), (3, b2n s.clk.coast),
    (0, maskOf 4 allBeds fun b => (s.bed b).pow.lineLock),
    (0, allBeds.foldl (fun a b => a +
      (b2n ((s.bed b).pow.laneLock.getD 0 false) +
       2 * b2n ((s.bed b).pow.laneLock.getD 1 false)) * 2 ^ (12 + 2 * b.val)) 0)]

/-- R8, R405, R412. ESYNC_IN is high: for the 32 tk of a leader's pulse from its rising edge.
Log 36 (DEDUCED). -/
def State.esyncHigh (s : State) : Bool :=
  match s.clk.esyncAt with
  | some t => decide (s.now < t + 32)
  | none => false

/-- R405. ESYNC_OUT is high: the pulse of LEAD, or ESYNC_IN forwarded. -/
def State.esyncOut (s : State) : Bool := s.clk.leadPulse || s.esyncHigh

/-- R388, R389, R394. A clock derived from the main loop in kHz, in the order of CLK.DIV's fields (DSP, fabric,
management, tick): the VCO's nominal frequency, or its floor while the loop is not locked, by the divider
applied. -/
def Clk.derived (c : Clk) (i : Nat) : Nat :=
  (if c.lock then 12500000 else 9000000) / fld c.divUse (8 * i) 8

/-- R412. CLK.ESYNC. -/
def State.esync (s : State) : Word :=
  packW [(0, s.clk.comp.toNat), (8, b2n s.clk.synced), (9, b2n s.esyncHigh)]

/-- R273, R281. CLK.RCLK[i], its status bits from the source port: with SQUELCH_EN a host source needs a port
that is UP or STILL as well. -/
def State.rclkWord (s : State) (i : Nat) : Word :=
  let c := s.clk.rclk.getD i 0
  let p : PortId := Fin.ofNat 128 (fld c 0 7)
  let q := s.port p
  let freq := fld c 8 3
  let on := decide (1 ≤ freq) && decide (freq ≤ 4) && s.bedOn (bedOf p)
  let runs := q.link.state == .up || q.link.state == .still
  let line := !bit c 7
  let src := if line then runs else s.ingressUp p && (runs || !bit c 11)
  packW [(0, fld c 0 12), (12, b2n (on && src)),
    (13, b2n (on && line && q.link.state == .still && q.still.quiet)),
    (14, b2n (on && line && q.link.timing))]

/-- R413. BEDCLK.STAT. -/
def State.bedclkStat (s : State) (b : BedId) : Word :=
  let w := (s.bed b).pow
  packW [(0, (BitVec.ofInt 16 w.steerNow).toNat), (16, b2n w.lineLock),
    (17, b2n (w.laneLock.getD 0 false)), (18, b2n (w.laneLock.getD 1 false)),
    (19, (w.laneFam.getD 0 0).toNat), (21, (w.laneFam.getD 1 0).toNat),
    (23, b2n (w.steerNow != (s.clk.steer.getD b.val 0).toInt))]

/-! ## The Sluice (R448, R451) -/

/-- R448. SLUICE.BEDCTL. -/
def State.bedctl (s : State) : Word := packW [(0, maskOf 0 allBeds fun b => (s.bed b).pow.hold)]

/-- R451. SLUICE.STAT.SEQ. -/
def State.sluiceSeq (s : State) : SluiceSeq :=
  let q := s.sluice
  if q.reqs.any SReq.gating then .gating
  else if !q.reqs.isEmpty then .asking
  else if q.hubRising && q.hubOn then .restoring
  else if q.hubRising || q.hubFalling ||
      allBeds.any (fun b => (s.bed b).pow.rising || (s.bed b).pow.falling) then .switching
  else .idle

/-- R451. SLUICE.STAT. -/
def State.sluiceStat (s : State) : Word :=
  let q := s.sluice
  packW [(0, s.sluiceSeq.code), (3, b2n (!q.latched.isEmpty)), (4, q.lastWake.code),
    (8, q.lastBlock.toNat), (16, q.lastReason.toNat), (18, b2n q.hubOn), (19, 255)]

/-! ## Mailboxes (R385) -/

/-- R385. MBX[c].STAT. -/
def Chan.statWord (c : Chan) (now : Nat) : Word :=
  packW [(0, b2n c.notice), (1, b2n c.taken), (2, b2n c.done), (3, c.result.toNat),
    (11, b2n c.aborted), (12, b2n c.withdrawn), (13, c.reject.code), (16, (c.owner now).toNat)]

/-! ## Rings (R311) -/

/-- R287, R290. The device's index of a ring: its tail where it produces, else its head. -/
def Ring.devIdx (g : Ring) (r : RingId) : Nat := if hostProduced r then g.head else g.tail

/-- R290. What a dword of a doorbell page of PF0's BAR4 reads as: the value last written, the device's own
index at offset 4, and 0 elsewhere. Pages 62 and 63 hold MSI-X. -/
def State.bellRead (s : State) (off : Nat) : Word :=
  let r : RingId := Fin.ofNat 64 (off / 0x1000)
  if off % 0x1000 = 0 then (s.ring r).bell
  else if off % 0x1000 = 4 then BitVec.ofNat 32 ((s.ring r).devIdx r) else 0

/-- R284, R306. What a dword of an MSI-X table reads as. Log 62 (PRESUMED). -/
def MsixTab.word (t : MsixTab) (off : Nat) : Word :=
  let e := t.vecs.getD (off / 16 % 64) {}
  match off % 16 / 4 with
  | 0 => e.addr.setWidth 32
  | 1 => (e.addr >>> 32).setWidth 32
  | 2 => e.data
  | _ => BitVec.ofNat 32 (b2n e.mask)

/-- R284. What an offset of BAR4 of PF0 or of PF1 reads as: doorbell pages with PF0's table in page 62 and
its pending bits in page 63; PF1's table at 0 and its pending bits at 0x1000. -/
def State.bar4Read (s : State) (pf1 : Bool) (off : Nat) : Word :=
  let base := if pf1 then 0 else 0x3E000
  let t := s.msixTab pf1
  if off < base then s.bellRead off
  else
    let o := off - base
    if o < 0x400 then t.word o
    else if o = 0x1000 then t.pend.setWidth 32
    else if o = 0x1004 then (t.pend >>> 32).setWidth 32 else 0

/-- R284. The size of a BAR in bytes, 0 for one that is not implemented. -/
def barSize (pf1 : Bool) (bar : Nat) : Nat :=
  match pf1, bar with
  | false, 0 => 64 * 2 ^ 20
  | false, 4 => 256 * 2 ^ 10
  | true, 2 => 2 ^ 20
  | true, 4 => 8 * 2 ^ 10
  | _, _ => 0

/-- R283. The dwords of configuration space that identify a function: vendor and device, class code with the
stepping as its revision, and the subsystem of the signed image. -/
def State.cfgId (s : State) (off : Nat) : Option Word :=
  match off with
  | 0x00 => some 0x81281D5A
  | 0x08 => some (0x02800000 ||| Config.stepping.setWidth 32)
  | 0x2C => some s.boot.subsys
  | _ => none

/-- R311. RING[r].STAT. -/
def State.ringStat (s : State) (r : RingId) : Word :=
  let g := s.ring r
  packW [(0, g.state.code), (2, g.err.code), (5, b2n g.phase), (6, b2n g.overflow),
    (7, g.devIdx r)]

/-! ## Flash, security and telemetry (R430, R502–R504, R523) -/

/-- R430. FLASH.STAT. -/
def State.flashStat (s : State) : Word :=
  let f := s.flash
  packW [(0, b2n f.busy.isSome), (1, b2n f.done), (2, f.err.toNat), (5, b2n f.sfdp),
    (6, f.density.toNat)]

/-- R523. SEC.STAT. -/
def State.secStat (s : State) : Word :=
  let c := s.sec
  packW [(0, b2n c.key), (1, b2n (allZero seed)), (2, b2n c.devcert), (3, c.unlocked.toNat),
    (5, b2n c.blocked)]

/-- R523. SEC.SLOTSTAT. -/
def State.slotstat (s : State) : Word := packW [(0, s.sec.slotA.code), (3, s.sec.slotB.code)]

/-- R502. TEL.STAT. -/
def State.telStat (s : State) : Word :=
  packW [(0, b2n s.tel.cfg.en), (1, b2n (s.tel.cfg.en && s.tel.prevTick.isNone)),
    (2, b2n (!s.tel.writing.isEmpty)), (3, s.tel.seq % 2 ^ 29)]

/-- R503. TEL.GRANT[j]. -/
def State.telGrant (s : State) (j : Nat) : Word :=
  BitVec.ofNat 32 (maskOf 0 (List.range 32) fun i => (s.port (Fin.ofNat 128 (32 * j + i))).granted)

/-- R504. TEL.SAMPLE[n]. -/
def State.telSample (s : State) (b : BedId) : Word :=
  packW [(0, (s.bed b).k.toNat), (5, (s.bed b).store.length)]

/-! ## A bed (R365, R465, R477, R478) -/

/-- R365. BED.STAT. -/
def Bed.statWord (d : Bed) : Word :=
  packW [(0, b2n d.pow.tender), (1, b2n (d.legacy != d.legacyUse)), (2, b2n (d.calPend != 0)),
    (3, b2n d.legacyUse)]

/-- R465. BED.CALSTAT. -/
def Bed.calstat (d : Bed) : Word :=
  packW [(0, d.calRun.toNat), (4, d.calPass.toNat), (8, d.calPend.toNat), (12, d.calFail.toNat)]

/-- R478. BED.FUSESTAT. -/
def Bed.fusestat (d : Bed) : Word :=
  packW [(0, d.fuses.length), (7, b2n d.fuseErr), (8, d.fuseBad)]

/-- R477. BED.BISTSTAT. -/
def Bed.biststat (d : Bed) : Word :=
  packW [(0, d.bistRes.toNat), (10, min 255 d.repairs), (18, min 255 d.softMap.length),
    (26, b2n d.bist.isSome), (27, b2n d.fromStart)]

/-! ## A port (R64, R65, R98, R99, R133, R160, R161, R182, R231, R255, R279, R357) -/

/-- R351. A field of the port window waits for its apply point. -/
def Port.pend (q : Port) : Bool :=
  fld q.cfg.trainctl 2 5 != q.cfg.minMargin.toNat || fld q.cfg.decctl 0 2 != q.cfg.profile.toNat

/-- R357. PORT.STATE. -/
def Port.stateWord (q : Port) (p : PortId) : Word :=
  packW [(0, q.link.state.code), (3, b2n q.pend), (4, p.val)]

/-- The port is UP or STILL. -/
def Port.linked (q : Port) : Bool := q.link.state == .up || q.link.state == .still

/-- R64. PORT.LINKSTAT. -/
def Port.linkstat (q : Port) : Word :=
  let l := q.link
  packW [(0, if q.linked then l.rung.toNat else 0), (4, b2n l.timing),
    (5, b2n (q.spring.sstate == .partnered)), (6, b2n l.spared), (7, l.sparedPair.val),
    (9, l.rxmap.toNat), (17, l.polinv.toNat), (21, l.skew.toNat)]

/-- R65. PORT.DSHIFT. -/
def Port.dshift (q : Port) : Word := packW [(0, q.link.removed.toNat)]

/-- R98, R99. The port is at a CH rung; a loopback that began in UP leaves it there (R275). -/
def Port.atCh (q : Port) : Bool :=
  ((q.linked || q.ls == .up) && isCh q.link.rung) || (q.link.state == .training && isCh q.train.rung)

/-- R98. PORT.FRAMESTAT. -/
def Port.framestat (q : Port) : Word :=
  if !q.atCh then 0 else
  let o := q.line.oam.getD 0
  packW [(0, maskOf 0 q.line.locks Option.isSome), (4, b2n q.line.oamValid), (5, fld o 43 1),
    (6, fld o 44 1), (7, fld o 8 4), (11, fld o 0 8)]

/-- R99. PORT.OAMRX. -/
def Port.oamrx (q : Port) : Word :=
  if !q.atCh then 0 else packW [(0, fld (q.line.oam.getD 0) 23 20)]

/-- R133. PORT.TRAINSTAT; the Spring handshake is the phase HANDSHAKE (R102). -/
def Port.trainstat (q : Port) : Word :=
  let t := q.train
  packW [(0, if q.inHandshake then Phase.handshake.code else t.phase.code), (4, t.kind.code), (7, t.lastCause.code), (11, b2n t.timingLock),
    (12, t.fails), (20, t.entryMargin.toNat)]

/-- R160. PORT.QUAL. -/
def Port.qual (q : Port) : Word :=
  let l := q.line
  packW [(0, l.health.code), (2, b2n l.deep), (3, b2n l.degUnc), (4, b2n l.degMargin),
    (5, b2n l.remoteDeg), (6, l.lastDown.toNat), (10, l.minNow.toNat)]

/-- R161. PORT.PAIRSNR. -/
def Port.pairsnr (q : Port) : Word := if q.linked then BitVec.ofNat 32 (leNat q.line.snr) else 0

/-- R182. PORT.STILLSTAT. -/
def Port.stillstat (q : Port) : Word :=
  packW [(0, b2n q.still.quiet), (1, b2n q.still.lpi),
    (2, b2n (fld (q.line.oam.getD 0) 12 4 == 1)), (3, b2n q.still.missed), (4, b2n q.fp.isSome),
    (5, b2n (q.link.state == .dormant && q.spring.sstate == .partnered)),
    (6, q.still.lastWake.code)]

/-- R231. PORT.SPRINGSTAT. -/
def State.springstat (s : State) (p : PortId) : Word :=
  let q := s.port p
  let g := q.spring
  packW [(0, g.sstate.code), (2, g.srole.code), (4, b2n (tx4 q)), (5, b2n (remoteHold q)),
    (6, g.rssi.toNat), (14, (s.foffNow p).toNat), (22, g.lastLoss.code)]

/-- R255. PORT.FPSTAT. -/
def State.fpstat (s : State) (p : PortId) : Word :=
  let q := s.port p
  let f := q.fp.getD []
  packW [(0, b2n q.fp.isSome), (1, b2n (fpConfirmed f)), (2, b2n (fpSource f)),
    (3, (fpRung f).toNat), (7, b2n q.mapChanged), (8, q.lastReject.toNat),
    (12, b2n (s.fpFlash p).isSome)]

/-- R279. PORT.HOSTSTAT. -/
def State.hoststat (s : State) (p : PortId) : Word :=
  let h := (s.port p).host
  let ls := portLanes p (s.port p).cfg h.mode
  packW [(0, h.mode.toNat), (4, b2n (s.ingressUp p)), (0, maskOf 5 ls fun l => (s.lane l).locked),
    (9, h.skew.toNat), (17, h.lastCause.toNat)]

/-- R280. LANE.CTL. -/
def Lane.ctlWord (l : Lane) : Word := packW [(0, l.inv.toNat), (2, l.pll.val)]

end Sys2Proof.Machine
end

