-- ==== Sys2Proof/Machine/Regs.lean ====
section
/-! DEFINITION.
What every register of BAR0 reads as, and what a write of each does (R8–R13, R351, R353–R368): the
one place that CMD_REG_BATCH, the restore of R352 and every register access go through. -/

namespace Sys2Proof.Machine

/-! ## Writes of a port's control registers -/

/-- R252, R253, R179. A port's fingerprint slot is emptied; in DORMANT it counts as evicted. -/
def State.fpEmpty (s : State) (p : PortId) : State :=
  s.modPort p fun q => { q.fpClear with
    fpClearAt := some s.now,
    dorm := { q.dorm with evicted := q.dorm.evicted || q.link.state == .dormant } }

/-- R63, R208, R431. SPRING_EN reaches the bed's island. -/
def State.springEnable (s : State) (p : PortId) (en : Bool) : State :=
  if en = (s.port p).cfg.islandEn then s
  else
    let t := s.modCfg p fun c => { c with islandEn := en }
    if en then t.springOn p else t.springLose p .disabled

/-- R62, R63. A write of PORT.LINKCTL. -/
def State.linkctlWrite (s : State) (p : PortId) (v : Word) : State :=
  (s.modCfg p fun c => { c with linkctl := v &&& 0x3FFFFFFF }).springEnable p (lcSpring v)

/-- R132. A write of PORT.TRAINCTL. -/
def State.trainctlWrite (s : State) (p : PortId) (v : Word) : State :=
  s.modCfg p fun c => { c with trainctl := v &&& 0x1FFF }

/-- R159. A write of PORT.DECCTL. -/
def State.decctlWrite (s : State) (p : PortId) (v : Word) : State :=
  s.modCfg p fun c => { c with decctl := v &&& 0x1FFFFFF }

/-- R164, R181. A write of PORT.STILLCTL; the Still condition needs STILL_EN. -/
def State.stillctlWrite (s : State) (p : PortId) (v : Word) : State :=
  (s.modCfg p fun c => { c with stillctl := v &&& 0xFFF }).modStill p fun l =>
    { l with cond := l.cond && scStill v }

/-- R254. A write of PORT.FPCTL, with its CLEAR. -/
def State.fpctlWrite (s : State) (p : PortId) (v : Word) : State :=
  let t := s.modCfg p fun c => { c with fpctl := v &&& 0x1FFFF }
  if bit v 17 then t.fpEmpty p else t

/-- R230, R431. A write of PORT.SPRINGCTL, which reaches the island. -/
def State.springctlWrite (s : State) (p : PortId) (v : Word) : State :=
  (s.modCfg p fun c => { c with springctl := v &&& 0x1FFFFF, islandCtl := v &&& 0x1FFFFF }).springKick p

/-- R51, R65. A write of PORT.DSHIFT. -/
def State.dshiftWrite (s : State) (p : PortId) (v : Word) : State :=
  if bit v 16 then s.clearRemoved p else s

/-! ## Lanes (R269, R280) -/

/-- R269. A side tap reduced in magnitude by n at most; answers what is left of n. -/
def tapCut (tap : Int) (n : Nat) : Int × Nat :=
  let m := tap.natAbs
  let k := min m n
  ((if tap < 0 then -((m - k : Nat) : Int) else ((m - k : Nat) : Int)), n - k)

/-- R269. The taps that a setting applies with. -/
def txeqApplied (v : Word) : Word :=
  let sgn (lo : Nat) : Int := (BitVec.ofNat 6 (fld v lo 6)).toInt
  let m2 := sgn 0
  let m1 := sgn 6
  let c0 := fld v 12 6
  let p1 := sgn 18
  let side := m2.natAbs + m1.natAbs + p1.natAbs
  let c0' := if side + c0 ≤ 63 then c0 else 63 - side
  let exc := side + c0' - 63
  let (m2', o1) := tapCut m2 exc
  let (p1', o2) := tapCut p1 o1
  let (m1', _) := tapCut m1 o2
  let w (x : Int) : Nat := (BitVec.ofInt 6 x).toNat
  packW [(0, w m2'), (6, w m1'), (12, c0'), (18, w p1')]

/-- R269, R280. A write of LANE.TXEQ. -/
def State.txeqWrite (s : State) (l : LaneId) (v : Word) : State :=
  s.modLane l fun x => { x with txeq := txeqApplied v }

/-! ## Beds and clocks -/

/-- R368, R478. A write of BED.FUSE: GO blows FUSEDATA into the row. -/
def State.fuseWrite (s : State) (b : BedId) (v : Word) : State :=
  s.modBed b fun d =>
    let row : Byte := BitVec.ofNat 8 (fld v 0 8)
    { d with fuseRow := row,
             fuseBusy := if bit v 8 && d.fuseBusy.isNone && decide (row.toNat ≤ 63) then
                 some (row, d.fuseData, false) else d.fuseBusy }

/-- R364. An offset held at ±20,000. -/
def steerClamp (v : Word) : BitVec 16 :=
  let x := (BitVec.ofNat 16 (fld v 0 16)).toInt
  BitVec.ofInt 16 (if x < -20000 then -20000 else if 20000 < x then 20000 else x)

/-! ## Flash access registers (R430) -/

/-- R430. Whether a range lies in the image slots. -/
def inSlots (a n : Nat) : Bool := decide (imageBase false ≤ a) && decide (a + n ≤ calBase false)

/-- R430. The refusal of a GO: 0 for none. -/
def State.flashRefuse (s : State) (m : MasterId) (op len : Nat) : Nat :=
  let a := s.flash.addr.toNat
  if s.flash.busy.isSome then 5
  else if (m == 11 || m == 13) && s.hub.mode != .seedbed then 1
  else if op = 3 then 3
  else if op != 2 && (len == 0 || decide (256 < len)) then 3
  else if op = 1 && decide (256 < a % 256 + len) then 3
  else if op = 2 && a % 0x10000 != 0 then 3
  else if s.hub.mode = .seedbed && op != 0 && !inSlots a (if op = 2 then 0x10000 else len) then 2
  else 0

/-- R430. A write of FLASH.CTL. -/
def State.flashCtl (s : State) (m : MasterId) (v : Word) : State :=
  let f := { s.flash with ctl := BitVec.ofNat 11 (fld v 0 11) }
  if bit v 11 then
    let op := fld v 0 2
    let len := fld v 2 9
    let e := s.flashRefuse m op len
    { s with flash :=
        if e = 0 then { f with done := false, err := 0,
                               busy := some { op := BitVec.ofNat 2 op, addr := s.flash.addr.toNat,
                                              len := len } }
        else { f with done := false, err := BitVec.ofNat 3 e } }
  else { s with flash := f }

/-! ## Mailbox registers (R371–R385) -/

/-- R375, R377, R385. A write of a channel register at offset o of its window. -/
def State.chanWrite (s : State) (m : MasterId) (c : ChanId) (o : Nat) (v : Word) : State :=
  let q := s.chan c
  let isS := q.bound && q.sender == m
  let isR := q.bound && q.receiver == m
  if o = 0 then
    if v = 0 && m = q.lock && !q.outstanding then s.modChan c fun q => q.unlock s.now else s
  else if o = 4 then
    if isS && !q.outstanding then s.modChan c fun q => { q with ptrLo := v } else s
  else if o = 8 then
    if isS && !q.outstanding then s.modChan c fun q => { q with ptrHi := v } else s
  else if o = 0xC then
    if isS && !q.outstanding then s.modChan c fun q => { q with metaw := v } else s
  else if o = 0x10 then
    let t := if isS then s.bellSet c v else s
    if isR then t.modChan c fun q => q.bellClear s.now v else t
  else if o = 0x14 then (if isR then s.maskSet c v else s)
  else if o = 0x18 then
    let s1 := if bit v 0 then s.post m c else s
    let s2 := if bit v 1 then s1.chanTake isR c else s1
    if bit v 2 then s2.chanDone isR c (BitVec.ofNat 8 (fld v 3 8)) else s2
  else s

/-- R376, R384, R385. A write of a register of the MBX block. -/
def State.mbxWrite (s : State) (m : MasterId) (a : Nat) (v : Word) : State :=
  if a < 0x4040 then
    if m = 1 && !s.hub.bindLocked then
      s.modChan (Fin.ofNat 16 ((a - 0x4000) / 4)) fun q => { q with bind := v &&& 0x1FF }
    else s
  else if a = 0x4040 then
    if m = 1 && bit v 0 then { s with hub := { s.hub with bindLocked := true } } else s
  else if 0x4400 ≤ a ∧ a < 0x4600 then
    s.chanWrite m (Fin.ofNat 16 ((a - 0x4400) / 32)) ((a - 0x4400) % 32) v
  else if 0x4600 ≤ a ∧ a < 0x4640 then
    s.modChan (Fin.ofNat 16 ((a - 0x4600) / 4)) fun q => { q with irq := BitVec.ofNat 7 (fld v 0 7) }
  else if 0x6000 ≤ a ∧ a < 0x8000 then
    { s with mbxMem := memWriteBytes 0 s.mbxMem (a - 0x6000) (leBytes 4 v.toNat) }
  else s

/-! ## One write of one register -/

/-- A write of the hub's, the clocks' and the Sluice's registers. -/
def State.hubWrite (s : State) (a : Nat) (v : Word) : State :=
  if a = 0x30 then
    (if bit v 17 then { s with hub := { s.hub with
      afKind := 0, afMaster := 0, afValid := false, afCount := 0, afBadSize := false, afAddr := 0,
      afAt := none, afClearAt := s.now } } else s)
  else if a = 0x50 then
    { s with pins := { s.pins with gpioDir := BitVec.ofNat 8 (fld v 0 8),
                                   gpioOut := BitVec.ofNat 8 (fld v 8 8),
                                   gpioPull := BitVec.ofNat 8 (fld v 24 8) } }
  else if 0x100 ≤ a ∧ a < 0x200 then
    { s with hub := { s.hub with retain := upd s.hub.retain ((a - 0x100) / 4) (v &&& 0x83FFFFFF) } }
  else if a = 0x1004 then { s with clk := { s.clk with clkreqHold := bit v 0 } }
  else if a = 0x1010 then { s with clk := { s.clk with div := v } }
  else if a = 0x1014 then { s with clk := { s.clk with comp := BitVec.ofNat 8 (fld v 0 8) } }
  else if 0x1020 ≤ a ∧ a < 0x1040 then
    { s with clk := { s.clk with steer := upd s.clk.steer ((a - 0x1020) / 4) (steerClamp v) } }
  else if 0x1040 ≤ a ∧ a < 0x1050 then
    { s with clk := { s.clk with rclk := upd s.clk.rclk ((a - 0x1040) / 4) (v &&& 0xFFF) } }
  else if a = 0x2000 then
    { s with sluice := { s.sluice with ctl := BitVec.ofNat 11 (fld v 0 11) } }
  else if a = 0x2008 then
    { s with sluice := { s.sluice with wakeen := BitVec.ofNat 13 (fld v 0 13) } }
  else if a = 0x2010 then
    { s with sluice := { s.sluice with
      waketime := BitVec.ofNat 64 (fld s.sluice.waketime 32 32 * 2 ^ 32 + v.toNat) } }
  else if a = 0x2014 then
    { s with sluice := { s.sluice with
      waketime := BitVec.ofNat 64 (v.toNat * 2 ^ 32 + fld s.sluice.waketime 0 32) } }
  else s

/-- R310, R312. A write of the ring block. -/
def State.ringWrite (s : State) (a : Nat) (v : Word) : State :=
  if a = 0x20800 then { s with hub := { s.hub with evroute := v &&& 0x3FFFFFFF } }
  else if a < 0x20800 then
    let r : RingId := Fin.ofNat 64 ((a - 0x20000) / 32)
    let o := (a - 0x20000) % 32
    if o = 0 then s.modRing r fun g => { g with baseLo := v &&& 0xFFFFF000 }
    else if o = 4 then s.modRing r fun g => { g with baseHi := v }
    else if o = 8 then s.ringCfg r v
    else s
  else s

/-- R430. A write of the flash block. -/
def State.flashRegWrite (s : State) (m : MasterId) (a : Nat) (v : Word) : State :=
  if a = 0x40000 then { s with flash := { s.flash with addr := BitVec.ofNat 26 (fld v 0 26) } }
  else if a = 0x40004 then s.flashCtl m v
  else if 0x40100 ≤ a ∧ a < 0x40200 then
    { s with flash := { s.flash with data := upd s.flash.data ((a - 0x40100) / 4) v } }
  else s

/-- R366, R368. A write of a bed's own registers. -/
def State.bedWrite (s : State) (b : BedId) (o : Nat) (v : Word) : State :=
  if o = 0x10 then s.modBed b fun d => { d with legacy := bit v 0 }
  else if o = 0x20 then s.fuseWrite b v
  else if o = 0x24 then s.modBed b fun d => { d with fuseData := v }
  else s

/-- R62, R65, R132, R159, R181, R230, R254, R367. A write of a port's window. -/
def State.portWrite (s : State) (p : PortId) (o : Nat) (v : Word) : State :=
  if o = 0x100 then s.linkctlWrite p v
  else if o = 0x108 then s.dshiftWrite p v
  else if o = 0x114 then s.trainctlWrite p v
  else if o = 0x120 then s.decctlWrite p v
  else if o = 0x12C then s.stillctlWrite p v
  else if o = 0x134 then s.springctlWrite p v
  else if o = 0x13C then s.fpctlWrite p v
  else if 0x40 ≤ o ∧ o < 0x50 ∧ o % 4 = 0 then
    s.modCfg p fun c => { c with trim := upd c.trim ((o - 0x40) / 4) (v &&& 0xFFFF) }
  else s

/-- R280. A write of a lane's window. -/
def State.laneWrite (s : State) (l : LaneId) (o : Nat) (v : Word) : State :=
  if o = 0 then s.modLane l fun x => { x with inv := BitVec.ofNat 2 (fld v 0 2) }
  else if o = 4 then s.txeqWrite l v
  else s

/-- The port of a bed-relative offset in the port windows. -/
def portAt (b : BedId) (o : Nat) : PortId := portOf b (Fin.ofNat 16 ((o - 0x100000) / 0x10000))

/-- The lane of a bed-relative offset in the lane windows. -/
def laneAt (b : BedId) (o : Nat) : LaneId := laneOf b (Fin.ofNat 32 ((o - 0x200000) / 0x10000))

/-- R8, R345. Master m writes v to the register at offset a. An offset with no register, a reserved
bit and a read-only bit take nothing. -/
def State.regWrite (s : State) (m : MasterId) (a : Nat) (v : Word) : State :=
  match blockOf a with
  | none => s
  | some k =>
    let o := (a - 0x1000000) % 0x400000
    match k with
    | .hub => s.hubWrite a v
    | .clk => s.hubWrite a v
    | .sluice => s.hubWrite a v
    | .mbx => s.mbxWrite m a v
    | .tel => s
    | .ring => s.ringWrite a v
    | .sec => s
    | .flash => s.flashRegWrite m a v
    | .bed b => s.bedWrite b o v
    | .bedclk _ => s
    | .xbar _ => s
    | .tender _ => s
    | .port b => s.portWrite (portAt b o) (o % 0x10000) v
    | .lane b => s.laneWrite (laneAt b o) (o % 0x10000) v

/-! ## One read of one register -/

/-- A dword of a string of bytes. -/
def dwordAt (bs : Bytes) (i : Nat) : Word := BitVec.ofNat 32 (leAt bs i 4)

/-- What the hub's, the clocks' and the Sluice's registers read as. -/
def State.hubRead (s : State) (a : Nat) : Word :=
  if a = 0x00 then 0x81281D5A
  else if a = 0x04 then packW [(0, Config.stepping.toNat), (8, b2n Config.grade)]
  else if a = 0x08 then BitVec.ofNat 32 (fld Config.serial 0 32)
  else if a = 0x0C then BitVec.ofNat 32 (fld Config.serial 32 24)
  else if a = 0x10 then s.estate
  else if a = 0x14 then s.fwver
  else if a = 0x20 then s.modeWord
  else if a = 0x24 then s.bootstat
  else if a = 0x30 then s.afault
  else if a = 0x34 then s.hub.afAddr
  else if a = 0x40 then s.calrec
  else if a = 0x44 then s.cal.seq
  else if a = 0x48 then s.hubBiststat
  else if a = 0x50 then s.gpio
  else if 0x60 ≤ a ∧ a < 0x84 then s.tempReg ((a - 0x60) / 4)
  else if 0x100 ≤ a ∧ a < 0x200 then s.hub.retain.getD ((a - 0x100) / 4) 0
  else if a = 0x1000 then s.clkStat
  else if a = 0x1004 then packW [(0, b2n s.clk.clkreqHold)]
  else if a = 0x1008 then BitVec.ofNat 32 (fld s.clk.tick 0 32)
  else if a = 0x100C then BitVec.ofNat 32 (fld s.clk.tick 32 32)
  else if a = 0x1010 then s.clk.div
  else if a = 0x1014 then s.esync
  else if 0x1020 ≤ a ∧ a < 0x1040 then (s.clk.steer.getD ((a - 0x1020) / 4) 0).setWidth 32
  else if 0x1040 ≤ a ∧ a < 0x1050 then s.rclkWord ((a - 0x1040) / 4)
  else if a = 0x2000 then s.sluice.ctl.setWidth 32
  else if a = 0x2004 then s.bedctl
  else if a = 0x2008 then s.sluice.wakeen.setWidth 32
  else if a = 0x2010 then BitVec.ofNat 32 (fld s.sluice.waketime 0 32)
  else if a = 0x2014 then BitVec.ofNat 32 (fld s.sluice.waketime 32 32)
  else if a = 0x2018 then s.sluiceStat
  else 0

/-- R376, R384, R385. What the MBX block reads as. Log 25 (DEDUCED). -/
def State.mbxRead (s : State) (a : Nat) : Word :=
  if a < 0x4040 then (s.chan (Fin.ofNat 16 ((a - 0x4000) / 4))).bind
  else if a = 0x4040 then packW [(0, b2n s.hub.bindLocked)]
  else if 0x4400 ≤ a ∧ a < 0x4600 then
    let q := s.chan (Fin.ofNat 16 ((a - 0x4400) / 32))
    let o := (a - 0x4400) % 32
    if o = 0 then (q.owner s.now).setWidth 32
    else if o = 4 then q.ptrLo
    else if o = 8 then q.ptrHi
    else if o = 0xC then q.metaw
    else if o = 0x10 then q.bell
    else if o = 0x14 then q.mask
    else if o = 0x1C then q.statWord s.now
    else 0
  else if 0x4600 ≤ a ∧ a < 0x4640 then
    (s.chan (Fin.ofNat 16 ((a - 0x4600) / 4))).irq.setWidth 32
  else if 0x6000 ≤ a ∧ a < 0x8000 then dwordAt (memReadBytes 0 s.mbxMem (a - 0x6000) 4) 0
  else 0

/-- R310–R312. What the ring block reads as. -/
def State.ringRead (s : State) (a : Nat) : Word :=
  if a = 0x20800 then s.hub.evroute
  else if a < 0x20800 then
    let r : RingId := Fin.ofNat 64 ((a - 0x20000) / 32)
    let o := (a - 0x20000) % 32
    if o = 0 then (s.ring r).baseLo
    else if o = 4 then (s.ring r).baseHi
    else if o = 8 then (s.ring r).cfg
    else if o = 0xC then s.ringStat r
    else if o = 0x10 then BitVec.ofNat 32 (s.ring r).lost
    else 0
  else 0

/-- R502–R504, R523, R524, R430. What the TEL, SEC and FLASH blocks read as. -/
def State.mainRead (s : State) (a : Nat) : Word :=
  if a = 0x10000 then s.telStat
  else if a = 0x10004 then BitVec.ofNat 32 s.tel.cfg.periodMs
  else if 0x10010 ≤ a ∧ a < 0x10020 then
    BitVec.ofNat 32 (fld s.tel.cfg.ports (32 * ((a - 0x10010) / 4)) 32)
  else if 0x10020 ≤ a ∧ a < 0x10030 then s.telGrant ((a - 0x10020) / 4)
  else if 0x10040 ≤ a ∧ a < 0x10060 then s.telSample (Fin.ofNat 8 ((a - 0x10040) / 4))
  else if a = 0x30000 then s.secStat
  else if a = 0x30004 then s.slotstat
  else if a = 0x30008 then BitVec.ofNat 32 s.boot.startNo
  else if 0x38000 ≤ a ∧ a < 0x40000 then dwordAt s.sec.chainBytes (a - 0x38000)
  else if a = 0x40000 then s.flash.addr.setWidth 32
  else if a = 0x40004 then s.flash.ctl.setWidth 32
  else if a = 0x40008 then s.flashStat
  else if 0x40100 ≤ a ∧ a < 0x40200 then s.flash.data.getD ((a - 0x40100) / 4) 0
  else 0

/-- R365, R366, R368, R465, R477, R478. What a bed's own registers read as. -/
def Bed.read (d : Bed) (o : Nat) : Word :=
  if o = 0 then d.statWord
  else if o = 0x10 then packW [(0, b2n d.legacy)]
  else if o = 0x20 then packW [(0, d.fuseRow.toNat), (9, b2n d.fuseBusy.isSome)]
  else if o = 0x24 then d.fuseData
  else if o = 0x28 then d.fusestat
  else if o = 0x30 then d.calstat
  else if o = 0x40 then d.biststat
  else 0

/-- R357, R62–R65, R98, R99, R132–R134, R159–R161, R181, R182, R230, R231, R254, R255, R276–R279,
R367, R464. What a port's window reads as. -/
def State.portRead (s : State) (p : PortId) (o : Nat) : Word :=
  let q := s.port p
  if o = 0 then q.stateWord p
  else if 0x40 ≤ o ∧ o < 0x50 then q.cfg.trim.getD ((o - 0x40) / 4) 0
  else if o = 0x100 then q.cfg.linkctl
  else if o = 0x104 then q.linkstat
  else if o = 0x108 then q.dshift
  else if o = 0x10C then q.framestat
  else if o = 0x110 then q.oamrx
  else if o = 0x114 then q.cfg.trainctl
  else if o = 0x118 then q.trainstat
  else if o = 0x11C then BitVec.ofNat 32 q.train.lastUs
  else if o = 0x120 then q.cfg.decctl
  else if o = 0x124 then q.qual
  else if o = 0x128 then q.pairsnr
  else if o = 0x12C then q.cfg.stillctl
  else if o = 0x130 then q.stillstat
  else if o = 0x134 then q.cfg.springctl
  else if o = 0x138 then s.springstat p
  else if o = 0x13C then q.cfg.fpctl
  else if o = 0x140 then s.fpstat p
  else if o = 0x144 then q.cfg.hostmap0
  else if o = 0x148 then q.cfg.hostmap1
  else if o = 0x14C then q.cfg.lanemap
  else if o = 0x150 then s.hoststat p
  else if 0x200 ≤ o ∧ o < 0x400 then
    dwordAt (s.bed (bedOf p)).calBlk (0x200 * (p.val % 16) + (o - 0x200))
  else if 0x400 ≤ o ∧ o < 0x420 then
    dwordAt (s.bed (bedOf p)).calBlk (0x2800 + 0x20 * (p.val % 16) + (o - 0x400))
  else 0

/-- R280, R464. What a lane's window reads as. -/
def State.laneRead (s : State) (l : LaneId) (o : Nat) : Word :=
  let x := s.lane l
  if o = 0 then x.ctlWord
  else if o = 4 then x.txeq
  else if 0x100 ≤ o ∧ o < 0x140 then
    dwordAt (s.bed (bedOfLane l)).calBlk (0x2000 + 0x40 * (l.val % 32) + (o - 0x100))
  else 0

/-- R8. What the register at offset a reads as; 0 where there is none. -/
def State.regRead (s : State) (a : Nat) : Word :=
  match blockOf a with
  | none => 0
  | some k =>
    let o := (a - 0x1000000) % 0x400000
    match k with
    | .hub => s.hubRead a
    | .clk => s.hubRead a
    | .sluice => s.hubRead a
    | .mbx => s.mbxRead a
    | .tel => s.mainRead a
    | .ring => s.ringRead a
    | .sec => s.mainRead a
    | .flash => s.mainRead a
    | .bed b => (s.bed b).read o
    | .bedclk b => if o = 0x1000 then s.bedclkStat b else 0
    | .xbar _ => 0
    | .tender _ => 0
    | .port b => s.portRead (portAt b o) (o % 0x10000)
    | .lane b => s.laneRead (laneAt b o) (o % 0x10000)

end Sys2Proof.Machine
end

