-- ==== Sys2Proof/Machine/CmdOps.lean ====
section
/-! DEFINITION.
The frame of every command of R313: its record, its form, its targets, and the checks of R26 and R316
that come before a target's own action. -/

namespace Sys2Proof.Machine

/-- The first record that waits for a header's command. -/
def State.waitingRec (s : State) (h : CmdHdr) (o : Op) : Option CmdRec :=
  s.cmds.find? fun r => r.waits h o

/-- R26. The bed whose main domain an element needs. -/
def elemBed : Elem → Option BedId
  | .port p => some (bedOf p)
  | .bed b => some b
  | .lane l => some (bedOfLane l)
  | .device => none

/-- R26, R316, R436. The status that a target takes before its command's action, where it takes one; a bed
whose Tender has agreed to lose power takes no new work. Log 11 (DEDUCED). Log 45 (DEDUCED). -/
def State.preStatus (s : State) (power busy : Bool) (e : Elem) : Option ST :=
  match elemBed e with
  | none => none
  | some b =>
    if power && (!s.bedOn b || s.tenderReady b) then some .notPowered
    else if busy && s.bedTest b && (match e with | .port _ => true | _ => false) then some .busy
    else none

/-- R315. The action of a command on each target in turn: f takes the key, the target's place and the
target. -/
def State.actAll (s : State) (k : CmdKey) (power busy : Bool)
    (f : CmdKey → Nat → Elem → State → State) (es : List Elem) : State :=
  forAll es.zipIdx (fun x t =>
    match t.preStatus power busy x.1 with
    | some st => t.finish k x.1 st
    | none => f k x.2 x.1 t) s

/-- R292–R297, R307, R314, R315. A command of opcode o runs: ok says that its parameters have the form
that R314 asks for; power and busy say which of R26 and R316 its targets meet. Log 11 (DEDUCED). -/
def State.runCmd (s : State) (h : CmdHdr) (o : Op) (ok power busy : Bool)
    (f : CmdKey → Nat → Elem → State → State) : State :=
  if !s.startsNow then s else
  let s1 := s.ensureRec h o
  let formed := ok && match s1.waitingRec h o with
    | some r => r.badForm.isNone
    | none => false
  match (if formed then hdrTargets o h else none) with
  | none => { s1 with cmds := modFirst (fun r => r.waits h o) (fun r => r.fail s.clk.tick) s1.cmds }
  | some es =>
    State.actAll
      { s1 with cmds := modFirst (fun r => r.waits h o) (fun r => r.act es s.acts) s1.cmds,
                acts := s.acts + 1 }
      (CmdHdr.key h s.acts) power busy f es

/-- The port of an element, for a command that takes ports only. -/
def onPort (e : Elem) (f : PortId → State → State) (s : State) : State :=
  match e with
  | .port p => f p s
  | _ => s

/-- R408, R409. An action whose effect, and whose target's status, fall in the tick after it.
Log 9 (DEDUCED). -/
def State.doneNext (s : State) (k : CmdKey) (e : Elem) (f : State → State) : State :=
  inNextTick (fun t => (f t).finish k e .ok) s

/-! ## Register writes (R8–R14, R315) -/

/-- The W1 bits of the registers outside the MBX block (R65, R254, R359, R368, R430). -/
def w1Bits (a : Nat) : Word :=
  match blockOf a with
  | some .hub => if a = 0x30 then 0x20000 else 0
  | some .flash => if a = 0x40004 then 0x800 else 0
  | some (.bed _) => if a % 0x1000 = 0x20 then 0x100 else 0
  | some (.port _) => if a % 0x10000 = 0x108 then 0x10000 else if a % 0x10000 = 0x13C then 0x20000 else 0
  | _ => 0

/-- R14. The write of a higher master identity that this tick has brought to a register, the last of the
highest. -/
def State.standing (s : State) (m : MasterId) (a : Nat) : Option Word :=
  let ws := s.hub.writes.filter fun w => w.1 == s.now && w.2.1 == a && decide (m.toNat < w.2.2.1.toNat)
  (ws.foldl (fun (b : Option (MasterId × Word)) w =>
    match b with
    | some x => if x.1.toNat ≤ w.2.2.1.toNat then some (w.2.2.1, w.2.2.2) else b
    | none => some (w.2.2.1, w.2.2.2)) none).map Prod.snd

/-- R14. What a write stores: the bits of a higher identity's write of the same tick stand, whichever came
first, and its own W1 bits act. -/
def State.stored (s : State) (m : MasterId) (a : Nat) (v : Word) : Word :=
  match s.standing m a with
  | some u => (v &&& w1Bits a) ||| (u &&& ~~~w1Bits a)
  | none => v

/-- R14. The writes of this tick. -/
def State.noteWrite (s : State) (m : MasterId) (a : Nat) (v : Word) : State :=
  { s with hub := { s.hub with
    writes := s.hub.writes.filter (fun w => w.1 == s.now) ++ [(s.now, a, m, v)] } }

/-- R11, R14, R408. A write of a register outside the MBX block takes effect, by f, not before the tick after
it. -/
def State.writeIn (s : State) (m : MasterId) (a : Nat) (v : Word) (f : Word → State → State) : State :=
  inNextTick (f (s.stored m a v)) (s.noteWrite m a v)

/-- R14, R374, R375, R408. When a register's write takes effect: the MBX block acts in the tick of the
write, every other field not before the tick after it. -/
def State.regWriteAt (s : State) (m : MasterId) (a : Nat) (v : Word) : State :=
  match blockOf a with
  | some .mbx => s.regWrite m a v
  | _ => s.writeIn m a v fun w t => t.regWrite m a w

/-- R14, R315. A command's write of a register of a port's window carries Gardener's identity. -/
def State.cmdWrite (s : State) (p : PortId) (o : Nat) (v : Word) : State := s.regWriteAt 2 (portBase p + o) v

/-- The write, where b asks for it. -/
def State.cmdWriteIf (s : State) (b : Bool) (p : PortId) (o : Nat) (v : Word) : State :=
  if b then s.cmdWrite p o v else s

end Sys2Proof.Machine
end

