-- ==== Sys2Proof/Machine/HostPcs.lean ====
section
/-! DEFINITION.
The blocks between the host lanes and the line (R70, R142, R267): 64b/66b blocks, their transcoding into
257-bit blocks and back, rate matching, and the alignment markers of the host modes. The bits that
Clauses 49, 81, 82 and 91 give them are the clauses' own. Log 71 (PRESUMED). -/

namespace Sys2Proof.Machine

/-! ## 64b/66b blocks -/

/-- The payload of a block. -/
def blkPay (b : Blk66) : BitVec 64 := b.extractLsb' 2 64

/-- The block is a data block: sync header 0, 1 in the order of transmission. -/
def blkIsData (b : Blk66) : Bool := !bit b 0 && bit b 1

/-- The block is a control block: sync header 1, 0 in the order of transmission. -/
def blkIsCtl (b : Blk66) : Bool := bit b 0 && !bit b 1

/-- The block type field of a control block. -/
def blkType (b : Blk66) : Byte := b.extractLsb' 2 8

/-- A control block of a payload. -/
def ctlBlk (v : BitVec 64) : Blk66 := (v.setWidth 66 <<< 2) ||| 1

/-- A data block of a payload. -/
def dataBlk (v : BitVec 64) : Blk66 := (v.setWidth 66 <<< 2) ||| 2

/-- Eight control characters of seven bits after block type 0x1E. -/
def ctlChars (c : Nat) : BitVec 64 :=
  BitVec.ofNat 64 (0x1E + ((List.range 8).map fun i => c * 2 ^ (8 + 7 * i)).foldl (· + ·) 0)

/-- R70. An idle control block. Log 71 (PRESUMED). -/
def idleBlk : Blk66 := ctlBlk (ctlChars 0)

/-- R142. The error control block: sync header 0b10, block type 0x1E, eight /E/. Log 71 (PRESUMED). -/
def errorBlk : Blk66 := ctlBlk (ctlChars 0x1E)

/-- R70. The local-fault ordered set: block type 0x4B, the fault's code in the third data byte.
Log 71 (PRESUMED). -/
def localFaultBlk : Blk66 := ctlBlk 0x0100004B

/-- R166. Low-power idle: eight /LI/. Log 71 (PRESUMED). -/
def lpiBlk : Blk66 := ctlBlk (ctlChars 6)

/-- R485. The block holds frame data: data, a start, or a terminate. Log 71 (PRESUMED). -/
def blkFrame (b : Blk66) : Bool :=
  blkIsData b || (blkIsCtl b &&
    [0x78, 0x33, 0x66, 0x87, 0x99, 0xAA, 0xB4, 0xCC, 0xD2, 0xE1, 0xFF].contains (blkType b).toNat)

/-- R485. An error control block: block type 0x1E with an /E/ among its characters. -/
def blkErr (b : Blk66) : Bool :=
  blkIsCtl b && blkType b == 0x1E && (List.range 8).any fun i => fld b (10 + 7 * i) 7 == 0x1E

/-- R70. A place after this block lies between packets. -/
def blkGap (b : Blk66) : Bool :=
  blkIsCtl b && !([0x78, 0x33, 0x66].contains (blkType b).toNat)

/-! ## Transcoding (R70) -/

/-- R70. Bits 4 to 7 of a block type from its bits 0 to 3; none where no type has them.
Log 71 (PRESUMED). -/
def typeHigh (low : Nat) : Option Nat :=
  match low with
  | 0xE => some 0x1 | 0xD => some 0x2 | 0x3 => some 0x3 | 0xB => some 0x4 | 0x5 => some 0x5
  | 0x6 => some 0x6 | 0x8 => some 0x7 | 0x7 => some 0x8 | 0x9 => some 0x9 | 0xA => some 0xA
  | 0x4 => some 0xB | 0xC => some 0xC | 0x2 => some 0xD | 0x1 => some 0xE | 0xF => some 0xF
  | _ => none

/-- Bits 0 to 4 of a transcoded block combined with its bits 8 to 12. -/
def xcodeMask (x : BitVec 257) : BitVec 257 := x ^^^ ((x >>> 8) &&& 0x1F)

/-- R70. Four blocks as one of 257 bits: bit 0 and the payloads for four data blocks; otherwise each
block's kind, and the payloads without bits 4 to 7 of the first block type. Log 71 (PRESUMED). -/
def transcode (bs : List Blk66) : BitVec 257 :=
  let pays := (List.range 4).map fun j => bs.getD j idleBlk
  let bits := pays.flatMap fun b => bitsOf (blkPay b) 0 64
  let kinds := pays.map blkIsData
  xcodeMask (BitVec.ofNat 257
    (match kinds.findIdx? (· == false) with
     | none => 1 + 2 * natOfBits bits
     | some c => 2 * natOfBits (kinds ++ bits.take (64 * c + 4) ++ bits.drop (64 * c + 8))))

/-- R70. The four blocks of a transcoded block; one that no encoder forms gives error blocks.
Log 71 (PRESUMED). -/
def untranscode (v : BitVec 257) : List Blk66 :=
  let x := xcodeMask v
  let kinds := (List.range 4).map fun j => bit x (1 + j)
  if bit x 0 then (List.range 4).map fun j => dataBlk (x.extractLsb' (1 + 64 * j) 64)
  else
    match kinds.findIdx? (· == false) with
    | none => List.replicate 4 errorBlk
    | some c =>
      let bits := bitsOf x 5 252
      match typeHigh (natOfBits ((bits.drop (64 * c)).take 4)) with
      | none => List.replicate 4 errorBlk
      | some h =>
        let all := bits.take (64 * c + 4) ++ ((List.range 4).map fun i => h.testBit i) ++
          bits.drop (64 * c + 4)
        (List.range 4).map fun j =>
          let w := BitVec.ofNat 64 (natOfBits ((all.drop (64 * j)).take 64))
          if kinds.getD j false then dataBlk w else ctlBlk w

/-! ## Rate matching (R70) -/

/-- R70. At most k idle blocks fewer. -/
def dropIdles : Nat → List Blk66 → List Blk66
  | _, [] => []
  | 0, bs => bs
  | k + 1, b :: bs => if b = idleBlk then dropIdles k bs else b :: dropIdles (k + 1) bs

/-- R70. k idle blocks more at the first place between packets; none where there is no such place. -/
def addIdles (k : Nat) : List Blk66 → Option (List Blk66)
  | [] => none
  | b :: bs =>
    if blkGap b then some (b :: (List.replicate k idleBlk ++ bs))
    else (addIdles k bs).map (b :: ·)

/-- R70. n blocks for a row group from the host side's queue, and what is left: idle blocks between
packets are deleted where more than n wait, and inserted where fewer do. A queue that runs dry inside a
packet is filled up with error blocks. Log 72 (DESIGN CHOICE). -/
def rateMatch (n : Nat) (q : List Blk66) : List Blk66 × List Blk66 :=
  if n ≤ q.length then
    let t := dropIdles (q.length - n) q
    (t.take n, t.drop n)
  else
    let k := n - q.length
    match q with
    | [] => (List.replicate n idleBlk, [])
    | _ => ((addIdles k q).getD (q ++ List.replicate k errorBlk), [])

/-! ## Alignment markers (R70, R267) -/

/-- R70, R268. The blocks of an ingress stream, its alignment markers removed; a block of an uncorrectable
codeword is replaced by an error control block. -/
def stripMarkers (bs : List HostBlk) : List Blk66 :=
  bs.filterMap fun b => match b with | .blk x => some x | .lost => some errorBlk | _ => none

/-- R482. What an item of the ingress stream adds to lane counters: the logical lane, the counter, and by how
much. Log 72 (DESIGN CHOICE). -/
def laneCounts : HostBlk → List (Nat × Nat × Nat)
  | .codeword l (some n) => if n = 0 then [] else [(l.val, 0, 1), (l.val, 1, n)]
  | .codeword l none => [(l.val, 2, 1)]
  | .codeErr l => [(l.val, 4, 1)]
  | _ => []

/-- R267. The markers of a host mode: how many stand together, and how many blocks lie between two such
groups; none in a mode without markers. Log 71 (PRESUMED). -/
def amPeriod (m : HostMode) : Option (Nat × Nat) :=
  match m.toNat with
  | 10 => some (4, 4 * 16383)
  | 11 => some (4, 4 * 20479)
  | 12 => some (20, 20 * 16383)
  | _ => none

/-- R70, R267. Blocks on their way to the egress lanes, with the mode's markers put back among them. n is
the number of blocks since the last marker; d is how many idle blocks have still to be deleted for the
markers' room. -/
def addMarkers (m : HostMode) : Nat → Nat → List Blk66 → List HostBlk × Nat × Nat
  | n, d, [] => ([], n, d)
  | n, d, b :: bs =>
    if d ≠ 0 ∧ b = idleBlk then addMarkers m n (d - 1) bs
    else
      match amPeriod m with
      | none =>
        let r := addMarkers m 0 d bs
        (.blk b :: r.1, r.2)
      | some (g, per) =>
        if per ≤ n then
          let r := addMarkers m 1 (d + g) bs
          (List.replicate g .marker ++ .blk b :: r.1, r.2)
        else
          let r := addMarkers m (n + 1) d bs
          (.blk b :: r.1, r.2)

/-! ## What goes toward the ASIC (R257, R261, R262, R265) -/

/-- The signal on a lane, or in a sub-port of a shared one: nothing, the local-fault ordered set on every
lane, idle with link status 0 in the control word, the stream, low-power idle, or what a test puts there. -/
inductive LaneSig
  | off
  | localFault
  | idleLink0
  | stream
  | lpi
  | test
  deriving DecidableEq, Repr

/-- R257, R262. The modes whose control word carries link status, rate and duplex. -/
def modeCtlWord (m : HostMode) : Bool := [1, 4, 5, 6, 7].contains m.toNat

/-- R262. The fault indication of a mode. -/
def faultSig (m : HostMode) : LaneSig :=
  if m = 2 ∨ m = 3 then .off else if modeCtlWord m then .idleLink0 else .localFault

/-- R261, R262. What a port sends toward the ASIC. -/
def HostSide.sig (h : HostSide) : LaneSig :=
  match h.egress with
  | .idle => .off
  | .fault => if h.mode = 0 then .off else faultSig h.mode
  | .stream => .stream
  | .lpi => .lpi
  | .test => .test

/-- R265. What sub-port k of a shared lane carries: that of the member at that position, and idle with link
status 0 for an absent one. -/
def State.subSig (s : State) (l : LaneId) (k : Nat) : LaneSig :=
  match (portsOf (bedOfLane l)).find? fun p =>
      let q := s.port p
      decide (2 ≤ modePorts q.host.mode) && mapSub q.cfg.lanemap == k &&
        (portLanes p q.cfg q.host.mode).contains l with
  | some p => (s.port p).host.sig
  | none => .idleLink0

/-- The rate of a rung in Mb/s (R31). -/
def rungMbps (r : Rung) : Nat :=
  match r.toNat with
  | 1 => 100 | 2 => 1000 | 3 => 2500 | 4 => 5000 | 5 => 10000 | 6 => 25000 | 7 => 40000 | 8 => 50000
  | 9 => 100000 | _ => 0

/-- R257. The control word toward the ASIC: link status, rate in Mb/s, full duplex; none in a mode that has
none. -/
def Port.ctlWord (q : Port) : Option (Bool × Nat × Bool) :=
  if modeCtlWord q.host.mode then
    some (if q.link.state == .up || q.link.state == .still then (true, rungMbps q.link.rung, true) else (false, 0, true))
  else none

end Sys2Proof.Machine
end

