-- ==== Sys2Proof/Machine/LineData.lean ====
section
/-! DEFINITION.
The CH line in data mode (R53–R56, R69–R99, R135–R157, R166, R171): comma locks, row groups sent and
received, sections, SNR and health, and the end of a planned close. -/

namespace Sys2Proof.Machine

/-! ## Comma locks and single-pair conditions (R53, R88, R89, R155) -/

/-- A port's receiver is on a CH line and counts row groups. -/
def Port.lineOn (q : Port) : Bool :=
  match q.ls with
  | .up => isCh q.link.rung
  | .still => isCh q.link.rung
  | .training => isCh q.train.rung && q.train.kind != .standard
  | _ => false

/-- R53. The pair's SNR is at least 9 dB below the median of the active pairs. -/
def Port.snrLow (q : Port) (i : Pair) : Bool :=
  let vals := (q.pairs.map fun j => (q.line.snr.getD j.val 0).toNat).mergeSort (· ≤ ·)
  -- twice the median, in 0.25 dB units
  let med2 := if vals.length = 4 then vals.getD 1 0 + vals.getD 2 0 else 2 * vals.getD 1 0
  !q.line.snrHist.isEmpty && decide (2 * (q.line.snr.getD i.val 0).toNat + 72 ≤ med2)

/-- R53, R155. The active pairs that meet a condition of R53. -/
def Port.badPairs (q : Port) : List Pair :=
  q.pairs.filter fun i => (q.line.locks.getD i.val none).isNone || q.snrLow i

/-- R155. A suspension begins or ends with the conditions of the pairs. -/
def State.suspCheck (s : State) (p : PortId) : State :=
  let q := s.port p
  if q.ls != .up || !isCh q.link.rung then s
  else
    match q.badPairs with
    | [i] =>
      if q.line.susp = 0 && q.line.suspCool = 0 then
        s.modLine p fun l => { l with susp := 64, suspPair := some i }
      else s
    | bad =>
      let t := if bad.isEmpty then s.modLine p fun l => { l with suspPair := none } else s
      if q.line.susp ≠ 0 then
        t.modLine p fun l => { l with susp := 0, suspCool := 4096, uncWin := [], oamGap := 0 }
      else t

/-- R64, R88. LINKSTAT takes the identity and polarity of a lock. -/
def Link.lockMap (l : Link) (pair ident : Pair) (inv : Bool) : Link :=
  { l with rxmap := setFld l.rxmap (2 * pair.val) 2 ident.val,
           polinv := setFld l.polinv pair.val 1 (b2n inv) }

/-- A received 2D value, in units of 1/256 of a coordinate unit. -/
abbrev RxPt := Int × Int

/-- R88. The comma that a received value decides to, with its polarity: a candidate has both coordinates,
reduced by R85, of one sign and of 16 or more, and is decided as the nearest of the eight points; of two
equally near the first stands. -/
def commaDecide (v : RxPt) : Option (Pair × Bool) :=
  let x := precWrap v.1
  let y := precWrap v.2
  if (0 < x ↔ 0 < y) ∧ 4096 ≤ x.natAbs ∧ 4096 ≤ y.natAbs then
    let inv := decide (x < 0)
    let far (i : Pair) : Nat :=
      ((x.natAbs : Int) - 256 * (comma i).1).natAbs ^ 2 +
        ((y.natAbs : Int) - 256 * (comma i).2).natAbs ^ 2
    some (allPairs.foldl (fun a i => if far i < far a then i else a) 0, inv)
  else none

/-- R88. Comma lock from what a slot position has brought in consecutive row groups: eight candidates of
one identity and polarity. -/
def commaLock (vs : List RxPt) : Option (Pair × Bool) :=
  match (vs.map commaDecide).head? with
  | some (some k) =>
    if vs.length = 8 && vs.all fun v => commaDecide v == some k then some k else none
  | _ => none

/-- R55, R89, R154, R155. A link that is UP has lost row-group framing: it follows into three-pair training
where one pair had met a condition of R53 before and sparing is possible, and goes down otherwise.
Log 15 (DEDUCED). -/
def State.framingLost (s : State) (p : PortId) : State :=
  let q := s.port p
  match q.line.suspPair with
  | some i => if sparePossible q then s.sparePair p i else s.critDown p .framingLost
  | none => s.critDown p .framingLost

/-- R56, R157. The port has spared a pair in this tick. -/
def State.sparedNow (s : State) (p : PortId) : Bool :=
  let q := s.port p
  q.link.state == .training && q.train.kind == .threePair && q.train.origin == s.now

/-- R157. The sparing of this tick gives way to FRAMING_LOST: its event is not raised, and the link is the
four-pair one that it was. -/
def State.spareUndo (s : State) (p : PortId) : State :=
  (s.unraise fun e => !(e.code == .pairSpared && e.src == .port p)).modPort p fun q => { q with
    link := { q.link with state := .up, spared := false },
    line := { q.line with spareReq := none },
    spring := { q.spring with spareRep := none, due := q.spring.due.filter fun f => f.typ != .spare } }

/-- R89, R154. What follows a lost comma lock: in data mode the last one is row-group framing lost. In
the tick in which a pair failed, FRAMING_LOST takes the sparing's place (R157). -/
def State.lockGone (s : State) (p : PortId) : State :=
  let q := s.port p
  let bare := q.pairs.all fun i => (q.line.locks.getD i.val none).isNone
  if q.ls = .up && bare then s.framingLost p
  else if bare && s.sparedNow p then (s.spareUndo p).critDown p .framingLost
  else s.suspCheck p

/-- R88, R89. A local pair acquires comma lock; two pairs with one identity both lose it. -/
def State.lockGain (s : State) (p : PortId) (pair ident : Pair) (inv : Bool) : State :=
  let q := s.port p
  if !q.lineOn || !q.pairs.contains pair || (q.line.locks.getD pair.val none).isSome then s
  else
    match allPairs.find? fun j => match q.line.locks.getD j.val none with
      | some k => k.ident == ident
      | none => false with
    | some j =>
      ((s.modLine p fun l => { l with locks := upd l.locks j.val none }).count p 0x22 1).lockGone p
    | none =>
      (s.modPort p fun q => { q with
        line := { q.line with locks := upd q.line.locks pair.val (some ⟨ident, inv⟩) },
        link := q.link.lockMap pair ident inv }).suspCheck p

/-- COMMA_LOCK_ACQUIRE (R88): what a slot position of the local pair has brought in the two dimensions.
Values that give no lock leave the port as it is. -/
def execCommaLockAcquire (p : PortId) (pair : Pair) (xs ys : List Int) (s : State) :
    Host.Outcome State Fault Refusal :=
  onLive s fun s =>
    match commaLock (xs.zip ys) with
    | some (i, inv) => s.lockGain p pair i inv
    | none => s

/-- R89. Four consecutive values at the comma slot fail to decide to the lock. -/
def lockFails (k : Lock) (vs : List RxPt) : Bool :=
  vs.length == 4 && vs.all fun v => commaDecide v != some (k.ident, k.inverted)

/-- R89, R154. A local pair loses comma lock. Log 15 (DEDUCED). -/
def State.lockLoss (s : State) (p : PortId) (pair : Pair) (vs : List RxPt) : State :=
  let q := s.port p
  match q.line.locks.getD pair.val none with
  | none => s
  | some k =>
    if !q.lineOn || q.still.quiet || !lockFails k vs then s
    else
      ((s.modLine p fun l => { l with locks := upd l.locks pair.val none }).count p 0x22 1).lockGone p

/-- COMMA_LOCK_LOSS (R89, R154): what the pair's comma slot has brought in the last four row groups.
Log 15 (DEDUCED). -/
def execCommaLockLoss (p : PortId) (o : CommaObs) (s : State) : Host.Outcome State Fault Refusal :=
  onLive s fun s => s.lockLoss p o.pair o.vals

/-! ## Pair failure (R53–R56, R124, R125) -/

/-- R54. Failed pairs take the link down. -/
def State.pairDown (s : State) (p : PortId) (pairs : List Pair) : State :=
  ((s.linkDown p .pairFault (pairMask pairs) .none .none).finishOp .retrain (.port p) .ok).toListening p

/-- R54, R55. Pairs of a link in data mode have failed: exactly one, where R54 allows it, is spared. -/
def State.pairFailed (s : State) (p : PortId) (pairs : List Pair) : State :=
  match pairs with
  | [] => s
  | [i] => if sparePossible (s.port p) then s.sparePair p i else s.pairDown p [i]
  | _ => s.pairDown p pairs

/-- R124. Training goes on at CH-50T on three pairs, from TIMING, its kind and origin unchanged. The new
layout's comma slots are to be acquired anew, and a tail is silent until it has (R117). -/
def State.trainSpare (s : State) (p : PortId) (pair : Pair) : State :=
  let q := s.port p
  let echo := q.train.phase == .echoHead || q.train.phase == .echoTail
  let t := s.raise .pairSpared (.port p)
    [(16, 1, pair.val), (17, 1, 1), (18, 1, q.train.rung.toNat)]
  let t1 := t.modPort p fun q => { q.fpUnconfirm with
    link := { q.link with spared := true, sparedPair := pair },
    line := { q.line with locks := [none, none, none, none] },
    train := { q.train with
      rung := 8, phase := .timing, ready := false, tifInPhase := false, sw := none, cbAck := 0,
      rxCoef := [], report := none,
      silent := q.link.role == Role.tail },
    adapt := q.adapt.dropPair pair }
  let t2 := t1.hostSet p (hostMode q.cfg 8) .fault
  if echo && q.link.role == .head then
    let pay : Bytes := [1, 0, BitVec.ofNat 8 (1 + 2 * pair.val)]
    (t2.modSpring p fun g => { g with step := some (pay, none) }).springDue p
      { typ := .trainStep, payload := pay }
  else t2

/-- R124, R125. A pair fails in training. A failed pair of a fast retrain takes the three-pair path of
R55, or the link-down of R54. -/
def State.pairFailTrain (s : State) (p : PortId) (pair : Pair) : State :=
  let q := s.port p
  match q.train.kind with
  | .fast => (s.noteFail p .pairFault).pairFailed p [pair]
  | .none => (s.noteFail p .pairFault).pairFailed p [pair]
  | .threePair => s.trainFailPairs p [pair]
  | .standard => s
  | _ =>
    if q.link.role = .tail then
      match q.train.report with
      | some i => if i = pair then s else s.trainFailPairs p [i, pair]
      | none =>
        if q.link.spared then s.trainFailPairs p [pair]
        else s.modTrain p fun t => { t with report := some pair }
    else if sparePossible q then s.trainSpare p pair
    else s.trainFailPairs p [pair]

/-- PAIR_FAILURE (R53, R54, R124, R157): the pairs that meet R53 in this tick. R53 is evaluated in data
mode, in UP or STILL, and in training; a link that went down in this tick keeps its cause. -/
def execPairFailure (p : PortId) (pairs : List Pair) (s : State) : Host.Outcome State Fault Refusal :=
  onLive s fun s =>
    let q := s.port p
    let bad := pairs.filter q.pairs.contains
    if bad.isEmpty || q.link.downAt = some s.now then s
    else
      match q.ls with
      | .up => if isCh q.link.rung && !q.still.quiet then s.pairFailed p bad else s
      | .still => if isCh q.link.rung && q.rx.run == .on then s.pairFailed p bad else s
      | .training =>
        if q.train.abortLeft ≠ 0 then s
        else match bad with
          | [i] => s.pairFailTrain p i
          | _ => if q.train.kind = .standard then s
            else if q.train.kind = .fast || q.train.kind = .none then
              (s.noteFail p .pairFault).pairFailed p bad
            else s.trainFailPairs p bad
      | _ => s

/-! ## Forming a row group (R69, R91, R93, R116, R171) -/

/-- R91. MARGIN: the last margins of the pairs in use. -/
def Port.oamMargins (q : Port) : Nat :=
  let ms := match q.line.snrHist with
    | v :: _ => marginsOf q.link.rung q.line.deep v
    | [] => q.train.margins
  (q.pairs.map fun i => (ms.getD i.val 0).toNat * 2 ^ (5 * i.val)).foldl (· + ·) 0

/-- R91. The OAM field of the next row group. -/
def Port.oamField (q : Port) : BitVec 198 :=
  let l := q.line
  let fault := q.pairs.any fun i => (l.locks.getD i.val none).isNone
  let (mt, mm) := l.msg.getD (0, 0)
  oamSeal (BitVec.ofNat 182
    (l.seq.toNat + 2 ^ 8 * l.closing.code + 2 ^ 12 * b2n (q.still.cond && q.link.state == .up) +
     2 ^ 16 * l.rungReq.toNat +
     (match l.spareReq with | some i => 2 ^ 20 + 2 ^ 21 * i.val | none => 0) +
     2 ^ 23 * q.oamMargins + 2 ^ 43 * b2n fault + 2 ^ 44 * b2n l.uncSeen + 2 ^ 45 * mt.toNat +
     2 ^ 49 * b2n l.msgTog + 2 ^ 50 * b2n l.msgAck +
     2 ^ 51 * (if l.closing = .data then 0 else l.closeCnt.getD 0) + 2 ^ 54 * mm.toNat))

/-- R96. The next message takes the slot once the last one is acknowledged or dropped. -/
def Line.nextMsg (l : Line) : Line :=
  match l.msg with
  | some _ => l
  | none =>
    match l.msgs with
    | [] => l
    | m :: ms => { l with msg := some m, msgs := ms, msgTog := !l.msgTog }

/-- R70. The 64b/66b blocks of a row group. -/
def groupBlks : Nat := 264

/-- R274. The port is in a loopback that returns the partner's stream to the line. -/
def Port.loopsLine (q : Port) : Bool :=
  match q.loop with
  | some l => l.prior == .up && (l.side == 0) != (l.kind == 2)
  | none => false

/-- R274. The port is in a loopback that returns the ASIC's stream to the ASIC. -/
def Port.loopsHost (q : Port) : Bool :=
  match q.loop with
  | some l => (l.side == 0) == (l.kind == 2)
  | none => false

/-- R274. What the ASIC's stream is on its return: the lanes' own data in a host retransmit loopback, the
decoded blocks with the mode's markers otherwise. -/
def HostSide.back (h : HostSide) (side : Byte) (bs : List HostBlk) : HostSide :=
  if side = 0 then { h with out := bs }
  else
    let r := addMarkers h.mode h.amCount h.amDebt (stripMarkers bs)
    { h with out := r.1, amCount := r.2.1, amDebt := r.2.2 }

/-- R278, R482. A count of the port's own lane numbering goes to the bed's lane of its map.
Log 72 (DESIGN CHOICE). -/
def State.countMapped (s : State) (p : PortId) (x : Nat × Nat × Nat) : State :=
  match mapLane (s.port p).cfg.lanemap x.1 with
  | some l => s.countLane (laneOf (bedOf p) l) x.2.1 x.2.2
  | none => s

/-- R274, R482. What the ingress lanes have brought: the lanes' counters, and the return of the stream in a
loopback toward the ASIC. -/
def State.ingressTake (s : State) (p : PortId) (bs : List HostBlk) : State :=
  let t := forAll (bs.flatMap laneCounts) (fun x u => u.countMapped p x) s
  match (s.port p).loop with
  | some l => if (s.port p).loopsHost then t.modHost p fun h => h.back l.side bs else t
  | none => t

/-- R70, R116, R271, R274. The 64b/66b blocks that the next row group carries, and what the host side's
queue keeps: local fault while the host ingress is not up and in a host retransmit loopback, idle while
the port is TRAINING, otherwise the host side's stream, matched in rate, or what a loopback returns to the
line. Log 72 (DESIGN CHOICE). -/
def State.lineBlocks (s : State) (p : PortId) (bs : List HostBlk) : List Blk66 × List Blk66 :=
  let q := s.port p
  let own := if q.loop.isSome then !q.loopsHost else s.ingressUp p
  if !own then (List.replicate groupBlks localFaultBlk, [])
  else if q.link.state = .training then (List.replicate groupBlks idleBlk, [])
  else rateMatch groupBlks (q.host.txq ++ if q.loopsLine then [] else stripMarkers bs)

/-- The blocks four by four. -/
def fours : Nat → List Blk66 → List (List Blk66)
  | 0, _ => []
  | n + 1, bs => bs.take 4 :: fours n (bs.drop 4)

/-- R69–R78, R85. A row group of 264 blocks goes to the line. Log 66 (DESIGN CHOICE). -/
def Port.sendGroup (q : Port) (ps : List Pair) (oam : BitVec 198) (bs : List Blk66) : Port :=
  let l := q.line
  let gs := fours 66 bs
  let (bits, st) := scramble (q.link.role != Role.tail) l.txScr (groupStream oam (gs.map transcode))
  let (syms, e1, e2) := codedRows ps 8 0 bits l.enc1 l.enc2
  let (pts, prec) := precode q.train.held syms l.prec
  { q with
    line := { l with txScr := st, enc1 := e1, enc2 := e2, txPts := pts, prec := prec,
                     seq := l.seq + 1, uncSeen := false },
    slots := { q.slots with
      tx := if q.slots.span = 0 then q.slots.tx
        else q.slots.tx ++ gs.map fun g => (g.any blkFrame, g.any blkErr) } }

/-- R274. A loopback for which the port woke takes effect. -/
def State.wakeLoop (s : State) (p : PortId) : State :=
  match (s.port p).link.wakeJob with
  | .loopback side kind rung =>
    ((s.modLink p fun l => { l with wakeJob := .none }).loopEnter p side kind
      (BitVec.ofNat 4 rung.toNat)).finishOp .loopback (.port p) .ok
  | _ => s

/-- R116, R171. The port is UP again, or for the first time, once both directions carry data. -/
def State.dataUp (s : State) (p : PortId) : State :=
  let q := s.port p
  if !(q.line.txData && q.line.rxData) then s
  else
    match q.link.state with
    | .training => s.toUp p
    | .still =>
      let t := (s.raise .still (.port p)
        [(16, 1, 0), (17, 1, q.link.rung.toNat), (18, 1, q.still.lastWake.code)]).modPort p fun q =>
        { q with
          link := { q.link with state := .up },
          still := { lpi := q.still.lpi, missed := q.still.missed, lastWake := q.still.lastWake } }
      (t.suspCheck p).wakeLoop p
    | _ => s

/-- R120, R172. What a command asked of a STILL port is done at its first data row group. -/
def State.wakeJobDo (s : State) (p : PortId) : State :=
  let q := s.port p
  let t := s.modLink p fun l => { l with wakeJob := .none }
  match q.link.wakeJob with
  | .none => s
  | .retrain =>
    if q.link.spared then t.closeWish p .closeDown 0 .listening true else t.retrainAsk p
  | .disable => t.closeWish p .closeDown 0 .disabled true
  | .dormant => t.dormantUp p
  | .close => t.closeWish p .closeDown 0 .dormant false
  | .loopback _ _ _ => s

/-- R77. The countdown after a row group: the termination rows follow CLOSE_CNT = 0. -/
def Line.closeStep (l : Line) : Line :=
  if l.closing = .data then l
  else
    match l.closeCnt with
    | some (n + 1) => { l with closeCnt := some n }
    | _ => { l with closeCnt := none, term := true }

/-- R55, R93. A row group that carries the spare request: in the layout of data mode, on four pairs,
without host data. Log 68 (DEDUCED). -/
def State.spareGroup (s : State) (p : PortId) : State :=
  let s1 := s.modLine p Line.nextMsg
  let oam := (s1.port p).oamField
  s1.modPort p fun q => q.sendGroup allPairs oam (List.replicate groupBlks localFaultBlk)

/-- R95. An end that has waited for this data mode begins with its first row group. -/
def State.waitedEnd (s : State) (p : PortId) : State :=
  match (s.port p).line.waitEnd with
  | none => s
  | some (code, r, after) =>
    let t := s.modLine p fun l => { l with waitEnd := none }
    match code with
    | .closeRetrain => t.retrainAsk p
    | .closeRung => t.closeWish p .closeRung r .none false
    | .closeDown => t.closeWish p .closeDown 0 after (after != .dormant)
    | _ => t

/-- R164, R182. What the host side has received: LOCAL_LPI holds while it is LPI alone, and another block
ends the Still condition. -/
def Still.hostSees (l : Still) (bs : List Blk66) : Still :=
  if bs.isEmpty then l
  else
    let only := bs.all fun b => b == lpiBlk
    { l with lpi := only, cond := l.cond && only }

/-- R91–R93, R95, R116, R120, R171. A row group is formed and sent, with all that its first one brings.
Log 16 (DEDUCED). Log 19 (DEDUCED). Log 66 (DESIGN CHOICE). -/
def State.formGroup (s : State) (p : PortId) (blocks : List HostBlk) : State :=
  let s := (s.ingressTake p blocks).modStill p fun l => l.hostSees (stripMarkers blocks)
  if (s.port p).ls = .training ∧ (s.port p).line.spareReq.isSome then s.spareGroup p else
  if !(s.port p).sendsData then s else
  let s0 := s.wakeJobDo p
  let s1 := if (s.port p).line.txData then s0 else s0.waitedEnd p
  let s2 := s1.modLine p Line.nextMsg
  let oam := (s2.port p).oamField
  let q := s2.port p
  let bs := s2.lineBlocks p blocks
  let s3 := s2.modPort p fun q => { q.sendGroup q.pairs oam bs.1 with host := { q.host with txq := bs.2 } }
  let s4 := if q.line.downDue then s3.linkDown p .localDown 0 .none .none else s3
  let s5 := if q.line.closing != .data || q.line.rungReq != 0 then s4.finishOp .retrain (.port p) .ok
    else s4
  (s5.modLine p fun l => { l.closeStep with downDue := false, txData := true }).dataUp p

/-- OAM_FIELD_FORM (R91, R93): the next row group is formed, with the blocks and markers that the host
lanes have brought since the last one. -/
def execOamFieldForm (p : PortId) (blocks : List HostBlk) (s : State) :
    Host.Outcome State Fault Refusal :=
  onLive s fun s => s.formGroup p blocks

/-! ## Receiving an OAM field (R94–R97, R120, R165, R166, R176) -/

/-- R108, R116, R137. The port's receiver takes data row groups: those of its link, or what the partner
still sends after this end's planned end. -/
def Port.takesData (q : Port) : Bool := q.rx.run == .on || q.rx.run == .drain

/-- R155. One row group passes. A suspension that has run its 64 row groups with the condition still met and
no failure declared ends as one does whose condition ends: both criteria restart from zero counts, and a new
one may begin after 4,096 row groups. Log 76 (DESIGN CHOICE). -/
def Line.suspTick (l : Line) : Line :=
  if l.susp = 1 then { l with susp := 0, suspCool := 4096, uncWin := [], oamGap := 0 }
  else { l with susp := l.susp - 1, suspCool := l.suspCool - 1 }

/-- R97, R250. A message of the partner is accepted. -/
def State.msgTake (s : State) (p : PortId) (typ : Nat) (msg : Nat) : State :=
  if typ = 1 then
    s.modPort p fun q => { q with
      fp := q.fp.map fun f => fpSetConfirmed ((fpConfirmBits f).toNat == msg) f }
  else s

/-- R96. The message slot of a valid field, and the acknowledgement it carries. -/
def State.oamMsg (s : State) (p : PortId) (o : BitVec 198) : State :=
  let l := (s.port p).line
  let typ := fld o 45 4
  let tog := bit o 49
  let s1 := if typ != 0 && tog != l.msgAck then
      (s.modLine p fun l => { l with msgAck := tog }).msgTake p typ (fld o 54 128)
    else s
  if l.msg.isSome && bit o 50 == l.msgTog then s1.modLine p fun l => { l with msg := none } else s1

/-- R166. Both ends have finished: the port is STILL. -/
def State.stillEnter (s : State) (p : PortId) : State :=
  let q := s.port p
  if q.link.state = .up && q.still.ended && q.line.pClosed then
    ((s.modPort p fun q => { q with
      link := { q.link with state := .still },
      still := { q.still with left := false },
      line := { q.line with closing := .data, pClosing := .data, pClosed := false, txData := false,
                            rxData := false, done := false } }).raise .still (.port p)
      [(16, 1, 1), (17, 1, q.link.rung.toNat)]).count p 0x29 1
  else s

/-- R95, R137. A countdown field that shows cnt says how many of the partner's data sections are still to
come: those of its row group that wait for release, and those of the row groups after it. -/
def Rx.countdown (x : Rx) (cnt : Nat) : Rx :=
  { x with left := some (8 - x.row + 8 * cnt) }

/-- R120, R176. The partner's CLOSE_DOWN. Log 16 (DEDUCED). -/
def State.closeDownTake (s : State) (p : PortId) : State :=
  let q := s.port p
  if q.line.closing = .closeDown then s
  else if q.dorm.noticeRx && bit q.cfg.stillctl 10 then
    let t := if q.link.spared then s else
      (s.fpSaveWell p).modDorm p fun d => { d with saved := true }
    t.closeLink p .closeDown .dormant false
  else s.peerClose p

/-- R95, R120, R165. A closing code of a valid field. Log 17 (DEDUCED). -/
def State.closeTake (s : State) (p : PortId) (o : BitVec 198) : State :=
  let q := s.port p
  let code := LState.ofCode (fld o 8 4)
  if code = .data then s
  else
    let s1 := s.modPort p fun q => { q with
      line := { q.line with
        pClosing := if q.line.pClosing.code < code.code then code else q.line.pClosing,
        pClosed := q.line.pClosed || fld o 51 2 == 0 },
      rx := q.rx.countdown (fld o 51 2) }
    let s2 := match code with
      | .closeDown => s1.closeDownTake p
      | .closeRung =>
        if q.link.role == Role.tail && q.line.closing.code < code.code then
          (s1.closeLink p .closeRung .none false).modLine p fun l =>
            { l with rungReq := BitVec.ofNat 4 (fld o 16 4) }
        else s1
      | _ => if q.link.role = Role.tail then s1.closeLink p code .none false else s1
    s2.stillEnter p

/-- R52, R120, R121. The tail's RUNG_REQ at a head in data mode: another CH rung of the candidate set
sampled at the entry to LISTENING outranks a retrain that has begun, and the rung in use asks for one.
Log 17 (DEDUCED). -/
def State.rungTake (s : State) (p : PortId) (r : Rung) : State :=
  let q := s.port p
  if r = 0 || q.link.role != Role.head then s
  else if r = q.link.rung || q.link.spared then
    if q.line.closing.code < LState.closeRetrain.code then s.retrainDecide p else s
  else if isCh r && (candidates q).getLsbD (rungBit r) &&
      decide (q.line.closing.code < LState.closeRung.code) then
    let (ok, t) := s.fpEval p { s.fpRetrain p with rungOk := BitVec.ofNat 16 (2 ^ r.toNat) }
    if ok then t.closeWish p .closeRung r .none false else t
  else s

/-- R165. The head's decision to enter Still. -/
def State.stillDecide (s : State) (p : PortId) : State :=
  let q := s.port p
  if q.link.state = .up && isCh q.link.rung && q.link.role == Role.head && q.still.cond &&
      q.line.closing = .data && !q.still.quiet && fld (q.line.oam.getD 0) 12 4 == 1 then
    s.closeLink p .closeStill .none false
  else s

/-- R55, R56. The partner's spare request, its pair named as the head's. -/
def State.spareTake (s : State) (p : PortId) (named : Pair) : State :=
  let q := s.port p
  let own := if q.link.role = .tail then q.ownPair named else named
  if (q.ls = .up || q.ls = .still) && isCh q.link.rung && !q.link.spared then s.pairFailed p [own] else s

/-- R94, R172. The requests of a valid field on a link that is UP, or on its way there. -/
def State.oamAct (s : State) (p : PortId) (o : BitVec 198) : State :=
  if (s.port p).train.abortLeft ≠ 0 then s
  else if bit o 20 then s.spareTake p (Fin.ofNat 4 (fld o 21 2))
  else
    let s1 := s.closeTake p o
    if (s1.port p).ls = .up then
      (s1.rungTake p (BitVec.ofNat 4 (fld o 16 4))).stillDecide p
    else s1

/-- R94. A valid field that does not carry the SEQ that its row group should counts one sequence error. -/
def Rx.seqBad (x : Rx) (o : BitVec 198) : Bool :=
  match x.seqNext with
  | some n => fld o 0 8 != n.toNat
  | none => false

/-- R94. A field whose CRC passes. In what the partner still sends after this end's planned end only the
countdown counts (R95). -/
def State.oamValidTake (s : State) (p : PortId) (o : BitVec 198) : State :=
  let q := s.port p
  let s1 := if q.rx.seqBad o then s.count p 0x21 1 else s
  let s2 := s1.modPort p fun q => { q with
    rx := { q.rx with seqNext := some (BitVec.ofNat 8 (fld o 0 8 + 1)) },
    line := { q.line with oam := some o, oamValid := true, oamGap := 0 } }
  if q.rx.run = .drain then
    if LState.ofCode (fld o 8 4) = .data then s2
    else s2.modPort p fun q => { q with rx := q.rx.countdown (fld o 51 2) }
  else
    let s3 := s2.modPort p fun q => { q with
      line := { q.line with
        rxData := q.line.rxData || LState.ofCode (fld o 8 4) == .data,
        epRemote := q.line.epRemote || bit o 43 || bit o 44 },
      still := { q.still with heard := q.still.heard || q.link.state == .still } }
    let s4 := (s3.oamMsg p o).dataUp p
    s4.oamAct p o

/-- R94, R154. A field whose CRC fails: the 32nd missing one is OAM_LOST. -/
def State.oamBad (s : State) (p : PortId) : State :=
  let t := (s.modPort p fun q => { q with
    rx := { q.rx with seqNext := q.rx.seqNext.map (· + 1) },
    line := { q.line with oamValid := false, oamGap := q.line.oamGap + 1 } }).count p 0x20 1
  let q := t.port p
  if q.ls = .up && decide (32 ≤ q.line.oamGap) && q.line.susp = 0 then t.critDown p .oamLost
  else t

/-- R136, R171, R172. A STILL port whose receiver has not yet taken up the partner's data mode again. -/
def Port.resumes (q : Port) : Bool :=
  q.link.state == .still && isCh q.link.rung && (q.rx.run != .on || q.rx.left.isSome)

/-- OAM_FIELD_RECEIVE (R94): a STILL port's first one is that of a data row group (R172).
Log 6 (DESIGN CHOICE). -/
def execOamFieldReceive (p : PortId) (oam : BitVec 198) (s : State) :
    Host.Outcome State Fault Refusal :=
  onLive s fun s =>
    let s := if (s.port p).resumes && oamOk oam then
        s.modPort p fun q => { q with rx := q.rx.start true } else s
    if !(s.port p).takesData then s
    else
      let t := s.modLine p fun l => { l.suspTick with epGroups := l.epGroups + 1 }
      if oamOk oam then t.oamValidTake p oam else t.oamBad p

/-- OAM_LOST (R154): no valid field in 32 consecutive row groups. -/
def execOamLost (p : PortId) (s : State) : Host.Outcome State Fault Refusal :=
  onLive s fun s =>
    let q := s.port p
    if q.ls = .up && isCh q.link.rung && !q.still.quiet && q.line.susp = 0 then
      s.critDown p .oamLost
    else s.recause p .oamLost

/-- MSG_TIMEOUT (R96): the message is dropped unacknowledged. Log 7 (DESIGN CHOICE). -/
def execMsgTimeout (p : PortId) (s : State) : Host.Outcome State Fault Refusal :=
  onLive s fun s =>
    if (s.port p).line.msg.isSome then
      (s.modLine p fun l => { l with msg := none }).count p 0x23 1
    else s

/-- HEALTH_EXT_TIMER (R97). -/
def execHealthExtTimer (p : PortId) (s : State) : Host.Outcome State Fault Refusal :=
  onLive s fun s =>
    let q := s.port p
    if q.ls = .up && isCh q.link.rung then
      s.modLine p fun l => { l with
        msgs := l.msgs ++ [(2, BitVec.ofNat 128 (min l.hxUnc 0xFFFF +
          2 ^ 16 * min l.hxCorr 0xFFFFFFFF))],
        hxUnc := 0, hxCorr := 0 }
    else s

/-! ## Sections (R135–R143, R154) -/

/-- R135. The iteration limit of a section. -/
def iterLimit (deep : Bool) : Nat := if deep then 36 else 18

/-- R139. A section's iteration count: the pass that satisfied its checks, else the limit. -/
def iterCount (deep : Bool) (pass : Option Nat) : Nat :=
  match pass with
  | some n => max 1 (min n (iterLimit deep))
  | none => iterLimit deep

/-- R143. The bin of an iteration count. -/
def iterBin (n : Nat) : Nat :=
  if n ≤ 2 then 0 else if n ≤ 4 then 1 else if n ≤ 6 then 2 else if n ≤ 9 then 3
  else if n ≤ 12 then 4 else if n ≤ 18 then 5 else if n ≤ 27 then 6 else 7

/-- R78, R137. A section k after the one being released, of which left are still to come with it: the
information bits of a termination section are known to be zero. -/
def termKnown (left : Option Nat) (k : Nat) (c : BitVec 1300) : BitVec 1300 :=
  match left with
  | some n => if n ≤ k then (c >>> 1105) <<< 1105 else c
  | none => c

/-- R138, R141. A check that involves the section is not satisfied: those of the two sections after it count
as far as they have been received. Log 70 (DEDUCED). -/
def sectionUnc (x : Rx) (o : SecObs) : Bool :=
  let left := if x.run = .flush then none else x.left
  let n1 := termKnown left 1 o.next1
  let n2 := termKnown left 2 o.next2
  !rippleOk o.decided x.dec1 x.dec2 || (decide (1 ≤ o.ahead) && !rippleOk n1 o.decided x.dec1) ||
    (decide (2 ≤ o.ahead) && !rippleOk n2 n1 o.decided)

/-- R143. The counts of a released section. -/
def State.sectionCount (s : State) (p : PortId) (unc flushed : Bool) (bits iters marked : Nat) :
    State :=
  let s1 := ((s.count p 0x10 1).count p 0x11 bits).count p (0x16 + iterBin iters) 1
  let s2 := if unc then s1.count p 0x13 1 else if bits ≠ 0 then s1.count p 0x12 1 else s1
  let s3 := if marked ≠ 0 then s2.count p 0x14 marked else s2
  if flushed then s3.count p 0x15 1 else s3

/-- R154. DOWN_UNC of the last 128 released sections are uncorrectable. -/
def Port.uncBurst (q : Port) : Bool :=
  let n := dcDownUnc q.cfg.decctl
  q.ls == .up && q.line.susp == 0 && n != 0 &&
    decide (n ≤ (q.line.uncWin.filter id).length)

/-- R71, R72. The stream bits of a released row: its uncoded bits and its section's information bits,
descrambled in the partner's direction. Log 70 (DEDUCED). -/
def rowStream (q : Port) (o : SecObs) : List Bool × BitVec 58 :=
  scramble (q.link.role == Role.tail) q.rx.scr (bitsOf o.uncoded 0 1040 ++ bitsOf o.decided 0 1105)

/-- R69, R142. The 257-bit blocks that end in a list of stream bits, each with its errored mark: the first
keeps the mark of the row in which it began. -/
def cutBlocks : Nat → List Bool → Bool → Bool → List (BitVec 257 × Bool) × List Bool
  | 0, bits, _, _ => ([], bits)
  | n + 1, bits, m, unc =>
    if bits.length < 257 then ([], bits)
    else
      let r := cutBlocks n (bits.drop 257) unc unc
      ((BitVec.ofNat 257 (natOfBits (bits.take 257)), m || unc) :: r.1, r.2)

/-- R69, R142. What a released row brings: the blocks that end in it with their marks, and the bits and
mark of the block that goes on. The OAM field takes the first 198 bits of row 0. -/
def Rx.blocks (x : Rx) (bits : List Bool) (unc : Bool) : List (BitVec 257 × Bool) × List Bool :=
  cutBlocks 9 (x.part ++ (if x.row = 0 then bits.drop 198 else bits)) x.partMark unc

/-- R70, R142. The 64b/66b blocks of a received block: error control blocks where it is marked. -/
def hostBlks (mark : Bool) (b : BitVec 257 × Bool) : List Blk66 :=
  if mark && b.2 then List.replicate 4 errorBlk else untranscode b.1

/-- R166, R171. LPI toward the ASIC ends with the first section of a data mode. -/
def HostSide.wake (h : HostSide) (live : Bool) : HostSide :=
  if h.egress = .lpi && live then { h with egress := .stream } else h

/-- R1, R70, R267. Blocks of the line reach the host side, which sends them with its mode's alignment
markers while its signal is the stream. Rate matching toward the host lanes is one for one but for the
markers' room. Log 72 (DESIGN CHOICE). -/
def HostSide.give (h : HostSide) (bs : List Blk66) : HostSide :=
  if h.egress = .stream then
    let r := addMarkers h.mode h.amCount h.amDebt bs
    { h with out := r.1, amCount := r.2.1, amDebt := r.2.2 }
  else if h.egress = .test then h
  else { h with out := [] }

/-- R274. The blocks of the line on their way back to it. -/
def HostSide.turn (h : HostSide) (loops : Bool) (bs : List Blk66) : HostSide :=
  if loops then { h with txq := h.txq ++ bs } else h

/-- R135–R138. The receiver after a released section: in a flush the last section received ends it. -/
def Rx.release (x : Rx) (o : SecObs) (unc : Bool) (scr : BitVec 58) (part : List Bool) (iters : Nat) : Rx :=
  let left := if x.run = .flush then some o.ahead else x.left.map (· - 1)
  { x with
    run := if left = some 0 then .off else x.run, scr := scr, dec1 := o.decided, dec2 := x.dec1,
    row := (x.row + 1) % 8, released := x.released + 1, left := left, lastUnc := unc,
    part := part, partMark := unc && !part.isEmpty, iters := (iters :: x.iters).take 16 }

/-- R91, R97, R152, R154. What a section of data mode adds to the line's counts. -/
def Line.sectionAdd (l : Line) (unc : Bool) (bits : Nat) : Line :=
  { l with
    uncWin := (unc :: l.uncWin).take 128, uncSeen := l.uncSeen || unc, epUnc := l.epUnc + b2n unc,
    hxUnc := l.hxUnc + b2n unc, hxCorr := l.hxCorr + bits }

/-- R71, R135, R140–R143, R154, R171. A section is released. Log 66 (DESIGN CHOICE). Log 70 (DEDUCED). -/
def State.sectionOut (s : State) (p : PortId) (o : SecObs) : State :=
  let q := s.port p
  let flushed := q.rx.run == .flush
  let unc := sectionUnc q.rx o
  let bits := popcountBits (o.decided ^^^ o.hard)
  let iters := iterCount q.line.deep o.pass
  let row := rowStream q o
  let got := q.rx.blocks row.1 unc
  let mark := dcErrMark q.cfg.decctl
  let marked := if mark then (got.1.filter fun b => b.2).length else 0
  let s1 := s.sectionCount p unc flushed bits iters marked
  let live := q.rx.run == .on && q.rx.left.isNone
  let s2 := s1.modPort p fun q => { q with
    rx := q.rx.release o unc row.2 got.2 iters,
    line := if q.rx.run = .on then q.line.sectionAdd unc bits else q.line,
    host := ((q.host.wake live).give (got.1.flatMap (hostBlks mark))).turn q.loopsLine
      (got.1.flatMap (hostBlks mark)),
    slots := { q.slots with
      rx := if q.slots.span = 0 || q.rx.run != .on then q.slots.rx
        else q.slots.rx ++ got.1.map fun b => ((untranscode b.1).any blkFrame, mark && b.2) } }
  let s3 := if (s2.port p).rx.run = .off && q.rx.run = .on then
      (s2.modLine p fun l => { l with pClosed := true }).stillEnter p else s2
  if (s3.port p).uncBurst && q.rx.run == .on then s3.critDown p .uncBurst else s3
where
  /-- Set bits of a section. -/
  popcountBits (x : BitVec 1300) : Nat := (bitsOf x 0 1300).foldl (fun a b => a + b2n b) 0

/-- R135–R138. The decoder releases this section now: in data mode it has received the W − 1 sections after
it, or, at a planned end, what is left of the data sections and both termination sections; in a flush the
window holds no more than W sections. Log 70 (DEDUCED). -/
def Port.releases (q : Port) (o : SecObs) : Bool :=
  let w := decWindow q.line.deep
  match q.rx.run with
  | .off => false
  | .flush => decide (o.ahead < w)
  | _ => match q.rx.left with
    | none => o.ahead + 1 == w
    | some n => n != 0 && (o.ahead == n + 1 || o.ahead + 1 == w)

/-- SECTION_RELEASE (R135–R138): during data mode, or after it. -/
def execSectionRelease (p : PortId) (o : SecObs) (s : State) : Host.Outcome State Fault Refusal :=
  onLive s fun s =>
    if s.bedOn (bedOf p) && (s.port p).releases o then s.sectionOut p o else s

/-! ## SNR and margin (R128, R149, R150, R161) -/

/-- R128. The margin of an active pair has fallen by REFRESH_DROP over the last 4,096 row groups: the mean
of its last four updates, in 0.25 dB units. -/
def Port.marginFell (q : Port) : Bool :=
  let h := q.line.snrHist
  let drop := tcDrop q.cfg.trainctl
  drop != 0 && h.length == 4 && q.pairs.any fun i =>
    decide ((h.map fun v => (v.getD i.val 0).toNat).foldl (· + ·) 0 + 8 * drop ≤
      4 * (q.train.entrySnr.getD i.val 0).toNat)

/-- R128. At most one retrain request a second. -/
def State.marginAsk (s : State) (p : PortId) : State :=
  let q := s.port p
  let soon := match q.line.reqAt with
    | some t => decide (s.now - t < Config.tk1s)
    | none => false
  if q.link.state = .up && isCh q.link.rung && q.line.closing = .data && q.marginFell && !soon then
    (s.modLine p fun l => { l with reqAt := some s.now }).retrainAsk p
  else s

/-- SNR_UPDATE (R149, R150, R127): the errors of each local pair over the last 1,024 row groups, or a clause's
equivalent span; the receiver's elements have adapted over them. Log 6 (DESIGN CHOICE). -/
def execSnrUpdate (p : PortId) (errs : List ErrSum) (s : State) : Host.Outcome State Fault Refusal :=
  onLive s fun s =>
    let q := s.port p
    if !(q.linked || q.ls == .up) || q.still.quiet then s
    else
      let ch := isCh q.link.rung
      let vals := allPairs.map fun i =>
        if q.pairs.contains i then snrOf ch (errs.getD i.val ⟨1, 0⟩) else 0
      let ms := marginsOf q.link.rung q.line.deep vals
      let t := s.modLine p fun l => { l with
        snr := vals, snrHist := (vals :: l.snrHist).take 4,
        minNow := minMargin (activeMargins q.pairs ms), epSnrs := vals :: l.epSnrs }
      (((if ch then t.adaptOn p true else t).suspCheck p)).marginAsk p

/-! ## Health (R152, R153, R160) -/

/-- R152. The lowest per-pair SNR of the epoch as a sum over its updates, in 0.25 dB units, and their
number. Log 18 (DEDUCED). -/
def Port.epochSnr (q : Port) : Nat × Nat :=
  let n := q.line.epSnrs.length
  let sums := q.pairs.map fun i =>
    (q.line.epSnrs.map fun v => (v.getD i.val 0).toNat).foldl (· + ·) 0
  (sums.foldl min (255 * n), n)

/-- R153, R344. EV_LINK_DEGRADED. -/
def State.degradeEvent (s : State) (p : PortId) (flag cause margin unc : Nat) : State :=
  s.raise .linkDegraded (.port p)
    [(16, 1, flag), (17, 1, cause), (18, 1, margin), (20, 4, sat unc)]

/-- DEGRADE_EPOCH_END (R152, R153, R481): on a standard rung with what its clause has counted in the epoch.
The mean margin of an epoch without an SNR update is a free value (log 18). -/
def execDegradeEpochEnd (o : EpochObs) (s : State) : Host.Outcome State Fault Refusal :=
  onLive s fun s =>
    let p := o.port
    let q := s.port p
    if !q.linked then s
    else
      let l := q.line
      let ch := isCh q.link.rung
      let (sum, n) := q.epochSnr
      let thr := snrThreshold q.link.rung l.deep
      let count := if ch then l.epUnc else o.errs
      let unc := decide (1 ≤ dcDegUnc q.cfg.decctl) && decide (dcDegUnc q.cfg.decctl ≤ count)
      let span := n != 0 && (!ch || decide (1024 ≤ l.epGroups))
      let mar := span && decide (sum < (thr + 2 * dcDegMargin q.cfg.decctl) * n)
      let bad := unc || mar
      let margin := if n = 0 then (s.freeAt 0).toNat else min 31 ((sum / n - thr) / 2)
      let s1 := if ch then s else (s.count p 0x10 o.frames).count p 0x13 o.errs
      let t := (if n = 0 then s1.takeFree else s1).modLine p fun l => { l with
        remoteDeg := l.epRemote, epRemote := false, epUnc := 0, epSnrs := [], epGroups := 0,
        degUnc := if bad then unc else l.degUnc, degMargin := if bad then mar else l.degMargin,
        clean := if bad then 0 else l.clean + 1 }
      match l.health with
      | .notUp => t
      | .good =>
        if bad then
          (t.modLine p fun l => { l with health := .degraded }).degradeEvent p 1
            (b2n unc + 2 * b2n mar) margin count
        else t
      | .degraded =>
        if !bad && decide (dcClear q.cfg.decctl ≤ l.clean + 1) then
          (t.modLine p fun l => { l with health := .good }).degradeEvent p 0 0 margin count
        else t

/-! ## The end of termination (R77, R120, R166) -/

/-- R166. This end is quiet. -/
def State.quietBegin (s : State) (p : PortId) : State :=
  (s.modPort p fun q => { q with
    line := { q.line with term := false },
    still := { q.still with ended := true, quiet := true, qrg := 0, missRun := 0, noComma := 0,
                            wake := if q.still.wakeDue then some 18 else none, wakeDue := false,
                            heard := false },
    host := { q.host with egress := .lpi } }).stillEnter p

/-- A STILL port leaves STILL with its own closing. -/
def State.stillLeft (s : State) (p : PortId) : State :=
  let q := s.port p
  if q.link.state = .still && !q.still.left then
    (s.modStill p fun l => { l with left := true }).raise .still (.port p)
      [(16, 1, 0), (17, 1, q.link.rung.toNat), (18, 1, q.still.lastWake.code)]
  else s

/-- R120. Training after CLOSE_RETRAIN, by the head's state at the end of its termination. -/
def State.afterRetrain (s : State) (p : PortId) : State :=
  let q := s.port p
  if q.link.role = .tail then
    s.startTraining p .none .timing q.link.rung s.now false true
  else
    let r := s.retrainKind p
    match r.1 with
    | some k => r.2.startTraining p k .timing q.link.rung s.now false true
    | none => (r.2.linkDown p .localDown 0 .none .none).toListening p

/-- R52, R120. Warm training at the rung of CLOSE_RUNG. -/
def State.afterRung (s : State) (p : PortId) : State :=
  let q := s.port p
  let r := q.line.rungReq
  if q.link.role = .tail then s.startTraining p .none .timing r s.now false true
  else
    let (ok, t) := s.fpEval p { s.fpRetrain p with rungOk := BitVec.ofNat 16 (2 ^ r.toNat) }
    if ok then t.startTraining p .warm .timing r s.now false true
    else (t.linkDown p .localDown 0 .none .none).toListening p

/-- R95, R175, R318. A disable or an entry to DORMANT that arose after the countdown's last row group, once
the end that was under way has run: the port is taken from where it then stands. Log 77 (DEDUCED). -/
def State.lateEnd (s : State) (p : PortId) : State :=
  match (s.port p).line.waitEnd with
  | some (.closeDown, _, after) =>
    let t := s.modLine p fun l => { l with waitEnd := none }
    match after with
    | .disabled => t.disable p
    | .dormant => t.dormantEnter p
    | _ => s
  | _ => s

/-- TERMINATION_END (R77, R78, R120, R166): the last termination row has been sent. -/
def execTerminationEnd (p : PortId) (s : State) : Host.Outcome State Fault Refusal :=
  onLive s fun s =>
    let q := s.port p
    if !q.line.term then s
    else
      let (pts, prec) := precode q.train.held (termRows q.pairs q.line.enc1 q.line.enc2) q.line.prec
      let s1 := s.modLine p fun l => { l with txPts := pts, prec := prec, term := false, done := true }
      let s2 := match q.line.closing with
        | .data => s1
        | .closeStill => s1.quietBegin p
        | .closeRetrain => ((s1.stillLeft p).sampleFlush p).afterRetrain p
        | .closeRung => ((s1.stillLeft p).sampleFlush p).afterRung p
        | .closeDown => (s1.stillLeft p).afterTrain p
      s2.lateEnd p

end Sys2Proof.Machine
end

