-- ==== Sys2Proof/Machine/Training.lean ====
section
/-! DEFINITION.
Training at a CH rung (R100–R126): row groups with their training info frames, what an accepted frame
brings, READY and the countdowns, the silent handoffs, and the ways a training fails. The wake and
refresh row groups of Still (R167, R169) are formed here too. -/

namespace Sys2Proof.Machine

/-! ## Training info frames (R105, R106) -/

/-- R114. The CB_ACK bits that a spared pair stands for: 1 without an exchange. -/
def Port.cbIdle (q : Port) : Nat :=
  if q.link.spared then 3 * 4 ^ (q.partnerPair q.link.sparedPair).val else 0

/-- R114. The CB_ACK bits that the partner sends as 1 for this end's spared pair. -/
def Port.cbNotSent (q : Port) : Nat :=
  if q.link.spared then 3 * 4 ^ q.link.sparedPair.val else 0

/-- R114. CB_ACK as this end sends it: blocks of its own transmitting pairs received, those of a
pair that is not active as 1. -/
def Port.cbAckOut (q : Port) : Byte := q.train.cbAck ||| BitVec.ofNat 8 q.cbNotSent

/-- R114. The partner's last accepted CB_ACK. -/
def Port.cbAckIn (q : Port) : Byte := BitVec.ofNat 8 (fld (q.train.partner.getD 0) 36 8)

/-- R114. The next block in cyclic order that the partner's CB_ACK does not show. -/
def Port.cbPick (q : Port) : Option Nat :=
  if q.train.phase != .precoder then none
  else ((List.range 8).map fun i => (q.train.cbNext + i) % 8).find? fun b =>
    !bit q.cbAckIn b && !bit (BitVec.ofNat 8 q.cbIdle) b

/-- R114. COEF of a block. Log 46 (DEDUCED). -/
def cbCoef (coef : List (BitVec 16)) (b : Nat) : Nat :=
  ((List.range 24).map fun j => (coef.getD (24 * b + j) 0).toNat * 2 ^ (16 * j)).foldl (· + ·) 0

/-- R105. The lock bits of the local pairs. -/
def Port.lockBits (q : Port) : Nat :=
  (allPairs.map fun i => b2n (q.line.locks.getD i.val none).isSome * 2 ^ i.val).foldl (· + ·) 0

/-- R105. SPARED and SPARED_PAIR from bit 84. -/
def Port.tifSpared (q : Port) : Nat :=
  if q.link.spared then 2 ^ 84 + 2 ^ 85 * (q.headPair q.link.sparedPair).val
  else match q.train.report with
    | some i => if q.link.role = .tail then 2 ^ 84 + 2 ^ 85 * (q.headPair i).val else 0
    | none => 0

/-- R105. MARGIN from bit 64: 0 before RAMP. -/
def Port.tifMargin (q : Port) : Nat :=
  if q.train.phase = .ramp then
    2 ^ 64 * (q.pairs.map fun i => (q.train.margins.getD i.val 0).toNat * 2 ^ (5 * i.val)).foldl (· + ·) 0
  else 0

/-- R105. The training info frame of the next training row group. -/
def Port.trainTif (q : Port) : BitVec 512 :=
  let t := q.train
  let abort := t.abortLeft != 0
  let cb := match q.cbPick with
    | some b => 2 ^ 44 * b + 2 ^ 47 + 2 ^ 88 * cbCoef t.ownCoef b
    | none => 0
  tifSeal (BitVec.ofNat 480
    (t.kind.code + 2 ^ 4 * t.phase.code + 2 ^ 8 * t.rung.toNat +
     2 ^ 12 * b2n (q.link.role == .tail) + 2 ^ 13 * b2n t.ready + 2 ^ 14 * b2n abort +
     2 ^ 16 * (if abort then t.abortCause.code else 0) + 2 ^ 20 * t.tseq.toNat +
     2 ^ 28 * q.lockBits + 2 ^ 36 * q.cbAckOut.toNat + 2 ^ 48 * t.sw.getD 0xFF +
     2 ^ 56 * t.skew.toNat + q.tifMargin + q.tifSpared + cb))

/-- R167, R169. The training info frame of a refresh or wake row group. -/
def Port.stillTif (q : Port) : BitVec 512 :=
  tifSeal (BitVec.ofNat 480
    (2 ^ 4 * Phase.data.code + 2 ^ 8 * q.link.rung.toNat + 2 ^ 12 * b2n (q.link.role == .tail) +
     2 ^ 13 + 2 ^ 20 * (q.still.qrg % 256) + 2 ^ 28 * q.lockBits + 2 ^ 48 * q.still.wake.getD 0xFF +
     2 ^ 56 * q.train.skew.toNat + 2 ^ 64 * q.oamMargins + q.tifSpared))

/-! ## Training row groups (R103, R104, R107, R108) -/

/-- R104, R107. The symbols of a training row group, and the generator after it. -/
def Port.trainSyms (q : Port) (tif : BitVec 512) (ph : Phase) (tseq : Byte) :
    List Sym × BitVec 58 :=
  let head := q.link.role != Role.tail
  let g := if tseq = 0 then BitVec.allOnes 58 else q.train.gen
  let (rows, g1) := trainRows head q.pairs ph 7 1 g
  (tifRow head q.pairs tif ++ rows, g1)

/-- R113. The precoder of the training signal: off before PAM4, but in a fast retrain, and at a tail that
awaits the head's kind, the one held from data mode. Log 75 (DEDUCED). -/
def Port.trainTaps (q : Port) : List (BitVec 16) :=
  let before := decide (q.train.phase.code < Phase.pam4.code)
  if before && q.train.kind != .fast && q.train.kind != .none then [] else q.train.held

/-- R104. A row group goes by in silence: TSEQ and the generator run on. Log 46 (DEDUCED). -/
def Port.silentGroup (q : Port) : Port :=
  let (_, g) := q.trainSyms 0 q.train.phase q.train.tseq
  { q with
    train := { q.train with tseq := q.train.tseq + 1, gen := g },
    line := { q.line with txPts := [] } }

/-- R103, R113. A training row group goes to the line. Log 46 (DEDUCED). -/
def Port.sendTraining (q : Port) : Port :=
  let (syms, g) := q.trainSyms q.trainTif q.train.phase q.train.tseq
  let (pts, prec) := precode q.trainTaps syms q.line.prec
  { q with
    train := { q.train with
      tseq := q.train.tseq + 1, gen := g, sent := true,
      cbNext := match q.cbPick with | some b => (b + 1) % 8 | none => q.train.cbNext },
    line := { q.line with txPts := pts, prec := prec } }

/-- R102. The phase that follows one of the countdowns of R108. -/
def phaseAfter : Phase → Phase
  | .precoder => .pam4
  | .pam4 => .ramp
  | _ => .data

/-- R221. This end's SPARE is no longer repeated, and one that is due does not start. -/
def State.spareEnd (s : State) (p : PortId) : State :=
  (s.springUndue p .spare).modSpring p fun g => { g with spareRep := none }

/-- R108, R113, R116. The signal changes: the new coefficients take effect at PAM4. At the change into data
mode the scrambler, the encoder and SEQ stand where the training's start left them, at their starting
values; the receiver follows the partner's own change. -/
def State.phaseChange (s : State) (p : PortId) : State :=
  let t := s.modTrain p fun t =>
    { t with
      phase := t.swTo, ready := false, tifInPhase := false, sw := none, swTo := .none,
      held := if t.swTo = .pam4 then t.rxCoef else t.held }
  let q := t.port p
  if q.train.phase = .data && q.train.kind = .threePair then t.spareEnd p else t

/-- R108. After a row group: its countdown moves on, and the one after SW_CNT = 0 changes the
signal. -/
def State.swStep (s : State) (p : PortId) : State :=
  match (s.port p).train.sw with
  | none => s
  | some 0 => s.phaseChange p
  | some (n + 1) => s.modTrain p fun t => { t with sw := some n }

/-- R122. After an ABORT row group: the end is silent after the eighth. Log 47 (DEDUCED). -/
def State.abortStep (s : State) (p : PortId) : State :=
  let t := s.modTrain p fun t => { t with abortLeft := t.abortLeft - 1 }
  if (t.port p).train.abortLeft = 0 then t.afterTrain p else t

/-- R112. Every active pair holds comma lock. -/
def Port.allLocked (q : Port) : Bool :=
  q.pairs.all fun i => (q.line.locks.getD i.val none).isSome

/-- R103, R108, R109. A row group of a training. A silent tail in TIMING transmits once it has locked
to the head's signal (R109 step 4, R117). Log 46 (DEDUCED). -/
def State.trainForm (s : State) (p : PortId) : State :=
  let q := s.port p
  let t := q.train
  if t.abortLeft ≠ 0 then (s.modPort p Port.sendTraining).abortStep p
  else if t.silent then
    if t.phase = .timing && q.link.role = Role.tail && q.allLocked then
      (s.modPort p fun q => { q with
        train := { q.train with silent := false, timingLock := true } }).modPort p Port.sendTraining
    else if t.sent then s.modPort p Port.silentGroup
    else s
  else (s.modPort p Port.sendTraining).swStep p

/-- R55, R103, R122. The next row group of training, where one is due: the first one after data mode ends
the spare request, and an end that abandons in DATA sends its ABORT frames too. Log 46 (DEDUCED).
Log 47 (DEDUCED). Log 68 (DEDUCED). -/
def State.trainGroup (s : State) (p : PortId) : State :=
  let t := (s.port p).train
  if t.kind = .standard || t.waitPll || t.phase = .none || t.phase = .handshake ||
      (t.phase = .data && t.abortLeft == 0) then s
  else (s.modPort p Port.spareStop).trainForm p

/-- R104. Bits that a training row group of PAM-2 draws. -/
def groupDraws (n : Nat) : Nat := 7 * rowSlots n * n * 2

/-- R104, R167. The generator at the start of a row group of a TSEQ. -/
def Port.genAt (q : Port) (tseq : Nat) : BitVec 58 :=
  genSkip (dirDelays (q.link.role != Role.tail)) (groupDraws q.pairs.length * (tseq % 256))
    (BitVec.allOnes 58)

/-- R167, R169. A refresh or wake row group goes to the line through the held precoder. -/
def Port.sendStill (q : Port) : Port :=
  let (syms, g) := q.trainSyms q.stillTif .timing (BitVec.ofNat 8 q.still.qrg)
  let (pts, prec) := precode q.train.held syms q.line.prec
  { q with
    train := { q.train with gen := g },
    still := { q.still with qrg := q.still.qrg + 1 },
    line := { q.line with txPts := pts, prec := prec } }

/-- R166. A quiet row group goes by. -/
def Port.quietGroup (q : Port) : Port :=
  let (_, g) := q.trainSyms 0 .timing (BitVec.ofNat 8 q.still.qrg)
  { q with
    train := { q.train with gen := g },
    still := { q.still with qrg := q.still.qrg + 1 },
    line := { q.line with txPts := [] } }

/-- R95, R171. The transmit side of a line that resumes data mode: zero encoder memory, and no CLOSE_STILL;
a close that has come up meanwhile begins with the first row group. -/
def Line.resume (l : Line) : Line :=
  let done := l.closing == .closeStill || l.closing == .data
  { l with
    closing := if done then .data else l.closing, closeCnt := if done then none else l.closeCnt,
    enc1 := 0, enc2 := 0, txData := false, done := false }

/-- R171. The wake's last row group has been sent: data mode resumes with the next one. -/
def Port.resumeData (q : Port) : Port :=
  { q with
    still := { q.still with quiet := false, wake := none, ended := false, refresh := 0 },
    line := q.line.resume }

/-- R166–R169. A quiet, refresh or wake row group. Log 47 (DEDUCED). -/
def State.stillGroup (s : State) (p : PortId) : State :=
  let q := s.port p
  match q.still.wake with
  | some n =>
    let t := s.modPort p fun q => { q.sendStill with slots := { q.slots with txWake := true } }
    if n = 0 then t.modPort p Port.resumeData
    else t.modStill p fun l => { l with wake := some (n - 1) }
  | none =>
    if q.still.refresh ≠ 0 then
      (s.modPort p Port.sendStill).modStill p fun l => { l with refresh := l.refresh - 1 }
    else s.modPort p Port.quietGroup

/-- TRAINING_ROW_GROUP_FORM (R103). -/
def execTrainingRowGroupForm (p : PortId) (s : State) : Host.Outcome State Fault Refusal :=
  onLive s fun s =>
    let q := s.port p
    if q.link.state = .training then s.trainGroup p
    else if q.still.quiet then s.stillGroup p
    else s

/-! ## READY and the head's lead (R108, R112–R115) -/

/-- The partner's last accepted frame shows READY in this end's phase. -/
def Port.peerReady (q : Port) : Bool :=
  match q.train.partner with
  | some f => bit f 13 && fld f 4 4 == q.train.phase.code
  | none => false

/-- R108. The head leads once both ends are READY. -/
def State.headLead (s : State) (p : PortId) : State :=
  let q := s.port p
  let t := q.train
  if q.link.role != Role.head || !t.ready || !q.peerReady || t.sw.isSome || t.abortLeft != 0 then s
  else if t.phase = .timing then
    s.modTrain p fun t => { t with phase := .precoder, ready := false, tifInPhase := false }
  else if t.phase = .precoder || t.phase = .pam4 || t.phase = .ramp then
    s.modTrain p fun t => { t with sw := some 7, swTo := (phaseAfter t.phase) }
  else s

/-- R252. Check 3 passes for the slot and this link, so the comparison is made; and whether the map of
the trained cable differs. -/
def Port.mapDiffers (q : Port) (p : PortId) : Option Bool :=
  match q.fp with
  | none => none
  | some f =>
    if q.fpOfLink p f then
      some (fpRxmap f != q.link.rxmap || fpPolinv f != q.link.polinv)
    else none

/-- R252, R255. The comparison in the tick in which an end becomes READY in TIMING.
Log 50 (DEDUCED). -/
def State.mapCheck (s : State) (p : PortId) : State :=
  let q := s.port p
  let kind := q.train.kind
  if !q.link.spared && (kind == .cold || kind == .warm || kind == .fast) then
    match q.mapDiffers p with
    | none => s
    | some true => s.modPort p fun q => { q.fpUnconfirm with mapChanged := true }
    | some false => s.modPort p fun q => { q with mapChanged := false }
  else s

/-- R61. The largest pair skew of an arrival. -/
def largestSkew (delay : Bytes) : Byte := delay.foldl (fun a d => if a.toNat < d.toNat then d else a) 0

/-- R112. READY in TIMING, or SKEW. Log 46 (DEDUCED). -/
def State.readyTiming (s : State) (p : PortId) (o : ReadyObs) : State :=
  let s1 := s.modPort p fun q => { q with
    train := { q.train with skew := largestSkew o.delay },
    link := { q.link with skew := largestSkew o.delay },
    adapt := { q.adapt with delay := o.delay } }
  let q := s1.port p
  if 100 < (largestSkew o.delay).toNat then s1.trainFail p .skew true
  else if q.train.tifInPhase && q.allLocked && !q.train.silent then
    ((s1.modTrain p fun t => { t with ready := true, timingLock := true, ownCoef := o.coef }).mapCheck p).headLead p
  else s1

/-- R115, R149. The SNR of each local pair over the partner's known symbols, 0 for one not in use. -/
def Port.rampSnr (q : Port) (o : ReadyObs) : List Byte :=
  allPairs.map fun i => if q.pairs.contains i then snrOf true (o.errs.getD i.val ⟨1, 0⟩) else 0

/-- R115. Margins that meet the RAMP condition. -/
def Port.rampMeets (q : Port) (ms : List (BitVec 5)) : Bool :=
  decide (q.cfg.minMargin.toNat ≤ (minMargin (activeMargins q.pairs ms)).toNat)

/-- R145. The profile that RAMP settles, true for DEEP: AUTO takes SHORT where it meets the condition. -/
def Port.rampDeep (q : Port) (snr : List Byte) : Bool :=
  q.cfg.profile == 1 || (q.cfg.profile == 2 && !q.rampMeets (marginsOf q.train.rung false snr))

/-- R115, R145, R150. READY in RAMP. -/
def State.readyRamp (s : State) (p : PortId) (o : ReadyObs) : State :=
  let q := s.port p
  let snr := q.rampSnr o
  let deep := q.rampDeep snr
  let ms := marginsOf q.train.rung deep snr
  (s.modPort p fun q => { q with
    train := { q.train with margins := ms, snr := snr, ready := q.rampMeets ms },
    line := { q.line with deep := deep } }).headLead p

/-- PHASE_READY (R108, R112, R114, R115, R127): an end meets the exit condition of its phase, in which its
receiver has adapted. -/
def execPhaseReady (p : PortId) (o : ReadyObs) (s : State) : Host.Outcome State Fault Refusal :=
  onLive s fun s =>
    let q := s.port p
    if q.link.state != .training || q.train.kind = .standard || q.train.abortLeft ≠ 0 ||
        q.train.ready || q.train.waitPll then s
    else
      let s := s.adaptOn p false
      match q.train.phase with
      | .timing => s.readyTiming p o
      | .precoder =>
        if q.cbAckOut = 0xFF && q.cbAckIn = 0xFF then
          (s.modTrain p fun t => { t with ready := true }).headLead p
        else s
      | .pam4 =>
        if q.allLocked then (s.modTrain p fun t => { t with ready := true }).headLead p else s
      | .ramp => s.readyRamp p o
      | _ => s

/-! ## An accepted frame (R107, R108, R118, R120–R124) -/

/-- R117, R118. A training that becomes a warm one: the fingerprint seeds it, where the tail has one that is
usable; otherwise the tail aborts. -/
def State.warmSeed (s : State) (p : PortId) : State :=
  let (ok, t) := s.fpEval p { s.fpRetrain p with
    rungOk := BitVec.ofNat 16 (2 ^ (s.port p).train.rung.toNat) }
  if ok then t.modPort p fun q => q.adaptStart .warm else t.trainFail p .fpReject true

/-- R118, R120, R123. A tail adopts the head's KIND; a first KIND = WARM needs a usable fingerprint. A tail
whose fast retrain the head has given up for a warm training begins that one. Log 47 (DEDUCED). -/
def State.adoptKind (s : State) (p : PortId) (k : TKind) : State :=
  let q := s.port p
  if q.train.kind = .fast && k = .warm then
    ((s.noteFail p .peerAbort).startTraining p .warm .timing q.train.rung s.now false true).warmSeed p
  else
    let t := s.modTrain p fun t => { t with kind := k, await := false }
    if k = .warm then t.warmSeed p else t

/-- R55, R124. A tail follows the head's SPARED. -/
def State.tailSpare (s : State) (p : PortId) (named : Pair) (three : Bool) : State :=
  let q := s.port p
  let own := q.ownPair named
  if three then s.sparePair p own
  else
    match q.train.report with
    | some i => if i = own then s.trainSpare p own else s.trainFail p .pairFault true
    | none => s.trainSpare p own

/-- R114. A block of coefficients is stored. -/
def Train.cbTake (t : Train) (f : BitVec 512) : Train :=
  if bit f 47 then
    let b := fld f 44 3
    let base := t.rxCoef ++ List.replicate (192 - t.rxCoef.length) 0
    let blk : List (BitVec 16) := (List.range 24).map fun j => BitVec.ofNat 16 (fld f (88 + 16 * j) 16)
    { t with
      rxCoef := base.take (24 * b) ++ blk ++ base.drop (24 * b + 24),
      cbAck := t.cbAck ||| BitVec.ofNat 8 (2 ^ b) }
  else t

/-- R108. A tail follows the head's change into PRECODER and its countdowns. -/
def Train.follow (t : Train) (f : BitVec 512) : Train :=
  let ph := fld f 4 4
  let t1 := if t.phase = .timing && ph == Phase.precoder.code then
      { t with phase := .precoder, ready := false, tifInPhase := true }
    else t
  if fld f 48 8 != 0xFF && t1.sw.isNone && ph == t1.phase.code &&
      (t1.phase == .precoder || t1.phase == .pam4 || t1.phase == .ramp) then
    { t1 with sw := some 7, swTo := (phaseAfter t1.phase) }
  else t1

/-- R108, R116. What a countdown frame says of the partner's next signal: its row group and its phase. The
receiver starts anew for the partner's data mode. -/
def Port.expects (q : Port) (f : BitVec 512) : Port :=
  let ph := Phase.ofCode (fld f 4 4)
  let cnt := fld f 48 8
  if cnt = 0xFF || !(ph == .precoder || ph == .pam4 || ph == .ramp) then q
  else
    let next := phaseAfter ph
    let known := match q.train.peerNext with | some (_, n) => n == .data | none => false
    { q with
      train := { q.train with peerNext := some (BitVec.ofNat 8 (fld f 20 8 + cnt + 1), next) },
      rx := if next = .data && !known then q.rx.start false else q.rx }

/-- R107. What an accepted frame brings when it moves the attempt on. -/
def State.tifGoOn (s : State) (p : PortId) (f : BitVec 512) : State :=
  let q := s.port p
  let t := s.modTrain p fun t =>
    let t1 := { t with partner := some f, tifInPhase := true }
    (if q.link.role = Role.tail && !bit f 12 then t1.follow f else t1).cbTake f
  (t.modPort p fun q => q.expects f).headLead p

/-- R124. The tail's report of a failed pair, at the head. -/
def State.headReport (s : State) (p : PortId) (f : BitVec 512) : State :=
  let q := s.port p
  let i : Pair := Fin.ofNat 4 (fld f 85 2)
  if q.link.spared then s.tifGoOn p f
  else if (q.train.kind == .cold || q.train.kind == .warm) then s.pairFailTrain p i
  else if q.train.kind == .fast && fld f 0 4 == TKind.threePair.code then s.pairFailTrain p i
  else s.tifGoOn p f

/-- R120, R121. The partner's ABORT frame: a tail that awaits the head's KIND takes the one it carries. -/
def State.tifAbort (s : State) (p : PortId) (k : TKind) : State :=
  let t := if (s.port p).train.await && k != .none then
      s.modTrain p fun t => { t with kind := k, await := false } else s
  t.trainFail p .peerAbort false

/-- R107, R121, R221. A frame accepted in training. -/
def State.tifTrain (s : State) (p : PortId) (f : BitVec 512) : State :=
  let q := s.port p
  let k := TKind.ofCode (fld f 0 4)
  let s1 := if k = .threePair then s.spareEnd p else s
  if bit f 14 then s1.tifAbort p k
  else if q.link.role = Role.tail && !bit f 12 then
    if bit f 84 && !q.link.spared then
      s1.tailSpare p (Fin.ofNat 4 (fld f 85 2)) (k == .threePair)
    else
      let s2 := if k != .none && k != .standard && k != q.train.kind then s1.adoptKind p k else s1
      if (s2.port p).link.state = .training && (s2.port p).train.abortLeft = 0 then s2.tifGoOn p f
      else s2
  else if q.link.role = Role.head && bit f 12 && bit f 84 then s1.headReport p f
  else s1.tifGoOn p f

/-- R168, R169, R171, R172. A frame accepted in STILL: a countdown is the partner's wake, after which its
data mode resumes. -/
def State.tifStill (s : State) (p : PortId) (f : BitVec 512) : State :=
  if fld f 48 8 = 0xFF then s
  else
    let t := s.modPort p fun q => { q with
      slots := { q.slots with rxWake := true },
      rx := if q.resumes then q.rx.start true else q.rx }
    (t.stillWake p .partner).modStill p fun l => { l with heard := true }

/-- R222. A head TIF at a DORMANT tail ends the repetition of WAKE_READY, and one with KIND = WARM stands for
WAKE_GO. -/
def State.headTif (s : State) (p : PortId) (f : BitVec 512) : State :=
  let t := (s.springUndue p .wakeReady).modSpring p fun g => { g with wakeReady := false }
  if TKind.ofCode (fld f 0 4) == .warm then t.wakeGoTake p (BitVec.ofNat 4 (fld f 8 4)) else t

/-- TIF_ACCEPT (R107): a frame whose CRC fails is not accepted. -/
def execTifAccept (p : PortId) (tif : BitVec 512) (s : State) : Host.Outcome State Fault Refusal :=
  onLive s fun s =>
    let q := s.port p
    if !tifOk tif then s
    else if q.link.state = .training then
      if q.train.kind = .standard || q.train.waitPll then s
      else if q.train.abortLeft ≠ 0 then (if bit tif 14 then s.peerAbortNow p else s)
      else s.tifTrain p tif
    else if q.still.quiet || (q.link.state = .still && isCh q.link.rung) then s.tifStill p tif
    else if q.link.state = .dormant && !bit tif 12 then s.headTif p tif
    else if q.link.state = .listening && bit tif 14 then s.peerAbortNow p
    else s

/-! ## The silent handoffs (R109–R111) -/

/-- ECHO_CONVERGED (R109, R110, R127): the end's cancellers have converged; it stops at a row-group boundary
and hands off over Spring. -/
def execEchoConverged (p : PortId) (s : State) : Host.Outcome State Fault Refusal :=
  onLive s fun s =>
    let q := s.port p
    let head := q.link.role == Role.head
    let mine := if head then Phase.echoHead else Phase.echoTail
    if q.link.state != .training || q.train.phase != mine || q.train.silent then s
    else
      let bad := if q.link.spared then some q.link.sparedPair else q.train.report
      let sp := match bad with | some i => 1 + 2 * (q.headPair i).val | none => 0
      let pay : Bytes := [if head then 1 else 2, 0, BitVec.ofNat 8 sp]
      let t := (s.adaptOn p false).modPort p fun q => { q with
        train := { q.train with
          phase := if head then .echoTail else .timing, silent := true, tifInPhase := false },
        line := { q.line with txPts := [] },
        spring := { q.spring with step := some (pay, none) } }
      t.springDue p { typ := .trainStep, payload := pay }

/-- PARTNER_SIGNAL_DETECT (R110, R220): the handoff message is no longer repeated. -/
def execPartnerSignalDetect (p : PortId) (s : State) : Host.Outcome State Fault Refusal :=
  onLive s fun s =>
    match (s.port p).spring.step with
    | some (_, none) => (s.springUndue p .trainStep).modSpring p fun g => { g with step := none }
    | _ => s

/-! ## Limits (R101, R115, R120, R122) -/

/-- R101, R115. The cause of a missed deadline: MARGIN where RAMP's condition was not met. -/
def Port.deadlineCause (q : Port) : TCause :=
  if q.train.phase = .ramp && !q.train.ready &&
      decide ((minMargin (activeMargins q.pairs q.train.margins)).toNat < q.cfg.minMargin.toNat) then
    .margin
  else .timeout

/-- R101, R109, R117. The handshake has not been completed by its deadline: the attempt is abandoned over
Spring, fails, and the port enters LISTENING anew; no rung has been chosen that could count it.
Log 47 (DEDUCED). -/
def State.handshakeFail (s : State) (p : PortId) : State :=
  let t := (s.noteFail p .timeout).linkDown p .trainFail 0 .timeout .none
  (if (t.port p).spring.sstate = .partnered then t.springAbort p .timeout else t).toListening p

/-- TRAINING_DEADLINE_EXPIRY (R101): a step has passed its deadline. An end that has begun its first data row
group has met the last one. Log 7 (DESIGN CHOICE). -/
def execTrainingDeadlineExpiry (p : PortId) (s : State) : Host.Outcome State Fault Refusal :=
  onLive s fun s =>
    let q := s.port p
    if q.inHandshake then s.handshakeFail p
    else if q.link.state != .training || q.train.kind = .standard || q.train.kind = .none ||
        q.train.abortLeft ≠ 0 || q.line.txData then s
    else s.trainFail p q.deadlineCause true

/-- TIF_LOSS_TIMEOUT (R122): 1 ms without a frame, after one was accepted. -/
def execTifLossTimeout (p : PortId) (s : State) : Host.Outcome State Fault Refusal :=
  onLive s fun s =>
    let q := s.port p
    if q.link.state = .training && q.train.kind != .standard && q.train.partner.isSome &&
        q.train.abortLeft == 0 && decide (Phase.timing.code ≤ q.train.phase.code) then
      s.trainFail p .lockLost true
    else s

/-- TAIL_NO_HEAD_TIF (R120, R123, R156): 40 ms without a head frame. After a CLOSE_RETRAIN the attempt fails
under R123; after a link-down, whose event has been raised, the tail only returns to LISTENING.
Log 47 (DEDUCED). Log 63 (DEDUCED). -/
def execTailNoHeadTif (p : PortId) (s : State) : Host.Outcome State Fault Refusal :=
  onLive s fun s =>
    let q := s.port p
    if q.link.state = .training && q.train.await && q.train.abortLeft = 0 then
      if q.link.downAt = some q.train.origin then (s.noteFail p .timeout).toListening p
      else s.trainFail p .timeout false
    else s

end Sys2Proof.Machine
end

