-- ==== Sys2Proof/Machine/StillFam.lean ====
section
/-! DEFINITION.
Still on the CH rungs and low-power idle on the standard rungs, as the host side and the line drive
them (R163–R174). -/

namespace Sys2Proof.Machine

/-! ## The Still condition (R164, R165) -/

/-- STILL_CONDITION_MET (R164): the host side has received only LPI for ENTRY_DELAY. -/
def execStillConditionMet (p : PortId) (s : State) : Host.Outcome State Fault Refusal :=
  onLive s fun s =>
    let q := s.port p
    if q.host.mode = 0 then s
    else
      let ok := q.link.state == .up && isCh q.link.rung && scStill q.cfg.stillctl
      (s.modStill p fun l => { l with lpi := true, cond := ok }).stillDecide p

/-! ## Low-power idle of the standard rungs (R173, R174) -/

/-- R173, R182. What a direction's LPI means to the host side: LPI received on the line goes to the ASIC, and
the line's own comes from it. -/
def Port.hostLpi (q : Port) (rx enter : Bool) : Port :=
  if !rx then { q with still := { q.still with lpi := enter } }
  else if enter && q.host.egress = .stream then { q with host := { q.host with egress := .lpi } }
  else if !enter && q.host.egress = .lpi then { q with host := { q.host with egress := .stream } }
  else q

/-- R173, R174. A direction of a standard-rung line enters or leaves LPI; the port is STILL exactly while
both are in it. -/
def State.lineLpi (s : State) (p : PortId) (rx enter : Bool) : State :=
  let q := s.port p
  let was := q.still.txLpi && q.still.rxLpi
  let w : WakeBy := if rx then .partner else .host
  let t := (s.modPort p fun q => q.hostLpi rx enter).modPort p fun q => { q with
    still := { q.still with
      txLpi := if rx then q.still.txLpi else enter, rxLpi := if rx then enter else q.still.rxLpi,
      wakeAt := if rx then q.still.wakeAt else if enter then none
        else if q.still.txLpi then some s.now else q.still.wakeAt,
      lastWake := if was && !enter then w else q.still.lastWake },
    slots := { q.slots with
      txWake := q.slots.txWake || (!rx && !enter && q.still.txLpi),
      rxWake := q.slots.rxWake || (rx && !enter && q.still.rxLpi) } }
  let now := (t.port p).still.txLpi && (t.port p).still.rxLpi
  if now && !was then
    ((t.modLink p fun l => { l with state := .still }).raise .still (.port p)
      [(16, 1, 1), (17, 1, q.link.rung.toNat)]).count p 0x29 1
  else if was && !now then
    (t.modLink p fun l => { l with state := .up }).raise .still (.port p)
      [(16, 1, 0), (17, 1, q.link.rung.toNat), (18, 1, w.code)]
  else t

/-- LINE_LPI_CHANGE (R173, R174): only on a standard rung for which EEE is agreed. -/
def execLineLpiChange (p : PortId) (rx enter : Bool) (s : State) :
    Host.Outcome State Fault Refusal :=
  onLive s fun s =>
    let q := s.port p
    if q.linked && !isCh q.link.rung && q.link.eee then s.lineLpi p rx enter else s

/-! ## The end of LPI at the host side (R164, R169, R170, R172, R174) -/

/-- R170, R174. A frame whose first block comes now is discarded: the port is quiet, or on its way into or
out of it without its first data row group; on a standard rung its transmit direction is in LPI, or has left
it for less than Tw_sys_tx. -/
def Port.wakeDiscards (q : Port) (now : Nat) : Bool :=
  if isCh q.link.rung then
    q.linked && (q.line.closing == .closeStill || q.still.quiet ||
      (q.link.state == .still && !q.line.txData))
  else q.linked && (q.still.txLpi || match q.still.wakeAt with
    | some t => decide (now < t + Config.twSysTx q.link.rung)
    | none => false)

/-- R164, R169, R172, R174. A block other than LPI at the host side. -/
def State.nonLpi (s : State) (p : PortId) (frame : Bool) : State :=
  let q := s.port p
  let s1 := s.modStill p fun l => { l with lpi := false, cond := false }
  let s2 := if frame && q.wakeDiscards s.now then s1.count p 0x24 1 else s1
  if !q.linked then s2
  else if isCh q.link.rung then s2.stillWake p .host
  else if q.still.txLpi then s2.lineLpi p false false
  else s2

/-- HOST_NON_LPI_BLOCK (R164, R169, R170): frame says that the block starts a frame. -/
def execHostNonLpiBlock (p : PortId) (frame : Bool) (s : State) :
    Host.Outcome State Fault Refusal :=
  onLive s fun s => s.nonLpi p frame

/-! ## Refresh (R167, R168) -/

/-- R167. Quiet row groups of a refresh cycle. -/
def refreshCycle (r : Rung) : Nat := if r = 9 then 1184 else 592

/-- R167. The number, not below n, of the quiet row group with which a refresh begins. -/
def refreshStart (r : Rung) (n : Nat) : Nat :=
  let c := refreshCycle r
  n + (c + (c - 8) - n % c) % c

/-- REFRESH_DUE (R167): the last 8 quiet row groups of a cycle begin. A wake takes their place. -/
def execRefreshDue (p : PortId) (s : State) : Host.Outcome State Fault Refusal :=
  onLive s fun s =>
    let q := s.port p
    if q.still.quiet && q.still.wake.isNone then
      let n := refreshStart q.link.rung q.still.qrg
      s.modPort p fun q => { q with
        still := { q.still with refresh := 8, qrg := n },
        train := { q.train with gen := q.genAt n } }
    else s

/-- R168, R172. The link goes down with STILL_LOST and recovers, or what a command asked of the port
is done at once. Log 63 (DEDUCED). -/
def State.stillLost (s : State) (p : PortId) : State :=
  let job := (s.port p).link.wakeJob
  let t := ((s.linkDown p .stillLost 0 .none .none).sampleFlush p).modLink p fun l =>
    { l with wakeJob := .none }
  let t1 := match job with
    | .disable => t.disableDone p
    | .dormant => t.toDormant p
    | .loopback _ _ _ => (t.recover p s.now).finishOp .loopback (.port p) .refused
    | _ => t.recover p s.now
  t1.finishOp .retrain (.port p) .ok

/-- R172. The pairs that have carried no comma in two consecutive refreshes while others did are
without lock when data mode resumes. -/
def Port.refreshPairs (q : Port) (commas : BitVec 4) : Port :=
  let bad (i : Pair) : Bool := !bit commas i.val && commas != 0
  let none2 (i : Pair) : Bool := bad i && bit q.still.noComma i.val
  let drop (x : Pair × Option Lock) : Option Lock :=
    if none2 x.1 && q.pairs.contains x.1 then none else x.2
  { q with
    still := { q.still with noComma := pairMask (q.pairs.filter bad) },
    line := { q.line with locks := (allPairs.zip q.line.locks).map drop } }

/-- PARTNER_REFRESH_WINDOW_END (R168, R172): commas are the pairs that decided a comma. -/
def execPartnerRefreshWindowEnd (p : PortId) (tifSeen : Bool) (commas : BitVec 4) (s : State) :
    Host.Outcome State Fault Refusal :=
  onLive s fun s =>
    let q := s.port p
    if !q.still.quiet then s
    else if !tifSeen && (q.pairs.all fun i => !bit commas i.val) then
      let t := (s.modStill p fun l => { l with missed := true, missRun := l.missRun + 1 }).count p 0x25 1
      if 2 ≤ (t.port p).still.missRun then t.stillLost p else t
    else
      (s.modStill p fun l => { l with missed := false, missRun := 0 }).modPort p fun q =>
        q.refreshPairs commas

/-- STILL_WAKE_TIMEOUT (R172): 64 row groups without a sign of the partner since this end's wake
began. Log 7 (DESIGN CHOICE). -/
def execStillWakeTimeout (p : PortId) (s : State) : Host.Outcome State Fault Refusal :=
  onLive s fun s =>
    let q := s.port p
    let waking := (q.still.quiet && q.still.wake.isSome) ||
      (q.link.state == .still && isCh q.link.rung && !q.still.quiet)
    if waking && !q.still.heard then s.stillLost p else s

end Sys2Proof.Machine
end

