-- ==== Sys2Proof/Machine/HostLane.lean ====
section
/-! DEFINITION.
The host lanes' locks and lane PLLs (R261, R266, R271, R272, R390). -/

namespace Sys2Proof.Machine

/-- R261, R271. The ports of a lane's bed whose mode in use has the lane, ascending. -/
def State.lanePorts (s : State) (l : LaneId) : List PortId :=
  (portsOf (bedOfLane l)).filter fun p =>
    (portLanes p (s.port p).cfg (s.port p).host.mode).contains l

/-- R272. The link went down in this tick. -/
def State.downNow (s : State) (p : PortId) : Bool := (s.port p).link.downAt == some s.now

/-- R271, R272. The ports that a loss of the lane concerns: with those whose mode has it, those whose link went
down in this tick in a mode that had it. -/
def State.laneLosers (s : State) (l : LaneId) : List PortId :=
  (portsOf (bedOfLane l)).filter fun p =>
    let q := s.port p
    (portLanes p q.cfg q.host.mode).contains l ||
      (s.downNow p && (portLanes p q.cfg q.host.downMode).contains l)

/-- R271, R272. What a lost ingress lane is to one port: an event while UP or STILL, or in the tick of a
link-down, and a wake. -/
def State.laneLostPort (s : State) (p : PortId) (l : LaneId) (cause : BitVec 3) : State :=
  let s1 := s.modHost p fun h => { h with lastCause := cause }
  let q := s1.port p
  if q.linked then
    let s2 := (s1.modHost p fun h => { h with lost := true }).laneEvent p 1 (l.val % 32)
    if q.link.state = .still || q.line.closing = .closeStill || q.still.quiet then s2.nonLpi p false
    else s2.modStill p fun k => { k with lpi := false, cond := false }
  else if s.downNow p then s1.laneEvent p 1 (l.val % 32)
  else s1

/-- R271, R482. An ingress lane loses lock: each port of a shared lane for itself, in ascending order. -/
def State.laneLost (s : State) (l : LaneId) (cause : BitVec 3) : State :=
  let x := s.lane l
  let s1 := s.modLane l fun x => { x with locked := false, adapting := true }
  if x.locked then forAll (s.laneLosers l) (fun p t => t.laneLostPort p l cause) (s1.countLane l 3 1) else s1

/-- INGRESS_LOCK_LOST (R271). -/
def execIngressLockLost (l : LaneId) (cause : BitVec 3) (s : State) :
    Host.Outcome State Fault Refusal :=
  onLive s fun s => s.laneLost l cause

/-- R266. The skew of a multi-lane mode exceeds 40 ns. -/
def skewTooWide (m : HostMode) (skew : Byte) : Bool := decide (2 ≤ modeLanes m) && decide (80 < skew.toNat)

/-- R271. The host ingress of a port is up again. -/
def State.laneGainedPort (s : State) (p : PortId) (l : LaneId) : State :=
  let q := s.port p
  if q.host.lost && s.ingressUp p then
    let t := s.modHost p fun h => { h with lost := false }
    if q.linked then t.laneEvent p 0 (l.val % 32) else t
  else s

/-- INGRESS_LOCK_GAINED (R266, R271): skew is the port's measured skew, in 0.5 ns units. -/
def execIngressLockGained (l : LaneId) (skew : Byte) (s : State) :
    Host.Outcome State Fault Refusal :=
  onLive s fun s =>
    let ps := s.lanePorts l
    let x := s.lane l
    if ps.isEmpty || x.idle || x.inReset || x.locked then s
    else
      let s1 := forAll ps (fun p t => t.modHost p fun h => { h with
        skew := skew, lastCause := if skewTooWide h.mode skew then 2 else h.lastCause }) s
      if ps.any fun p => skewTooWide (s.port p).host.mode skew then s1
      else
        forAll ps (fun p t => t.laneGainedPort p l)
          (s1.modLane l fun x => { x with locked := true, adapting := false })

/-- HOST_MODE_READY (R261): the new mode's first valid symbol is on the balls. -/
def execHostModeReady (p : PortId) (s : State) : Host.Outcome State Fault Refusal :=
  onLive s fun s => s.modHost p fun h => { h with changing := false }

/-! ## Lane PLLs (R272, R390) -/

/-- R259. The lanes of a bed that take a lane PLL. Log 59 (DEDUCED). -/
def State.pllLanes (s : State) (b : BedId) (pll : Fin 2) : List LaneId :=
  (lanesOf b).filter fun l => !(s.lanePorts l).isEmpty && (s.lane l).pll == pll

/-- LANE_PLL_LOCK_LOST (R272): every lane on it is lost with cause PLL, its egress idle.
Log 59 (DEDUCED). -/
def execLanePllLockLost (b : BedId) (pll : Fin 2) (s : State) : Host.Outcome State Fault Refusal :=
  onLive s fun s =>
    if !(s.bed b).pow.laneLock.getD pll.val false then s
    else
      let s1 := s.modPow b fun w => { w with laneLock := upd w.laneLock pll.val false }
      forAll (s1.pllLanes b pll) (fun l t =>
        (t.laneLost l 5).modLane l fun x => { x with idle := true }) s1

/-- LANE_PLL_LOCK (R390): a PLL that serves a family locks, and its lanes' egress runs.
Log 59 (DEDUCED). -/
def execLanePllLock (b : BedId) (pll : Fin 2) (s : State) : Host.Outcome State Fault Refusal :=
  onLive s fun s =>
    let w := (s.bed b).pow
    if !w.on || w.laneFam.getD pll.val 0 = 0 || w.inReset then s
    else
      let s1 := s.modPow b fun w => { w with laneLock := upd w.laneLock pll.val true }
      forAll (s1.pllLanes b pll) (fun l t => t.modLane l fun x => { x with idle := false }) s1

end Sys2Proof.Machine
end

