-- ==== Sys2Proof/Machine/LaneCmd.lean ====
section
/-! DEFINITION.
CMD_LANE_CONFIG (R259, R260, R263–R265, R269, R321) and CMD_LOOPBACK (R274, R275, R322). -/

namespace Sys2Proof.Machine

/-! ## The checks of CMD_LANE_CONFIG (R321) -/

/-- R32, R256. The host modes that a rung may be bound to. -/
def modesOf (r : Rung) : List HostMode :=
  match r.toNat with
  | 1 => [1, 4, 5, 6, 7]
  | 2 => [1, 2, 4, 5, 6, 7]
  | 3 => [3, 5, 6, 7]
  | 4 => [5, 7]
  | 5 => [5, 8]
  | 6 => [9]
  | 7 => [10]
  | 8 => [11]
  | 9 => [12]
  | _ => []

/-- R264. No lane is named by two logical lanes of the map. -/
def mapDistinct (w : Word) : Bool :=
  let ls := (List.range 4).filterMap (mapLane w)
  decide ls.Nodup

/-- R260, R321. HOSTMAP0 with rung 8 on the lower lane where rung 9 is bound to 100GAUI-2. -/
def pairedMap0 (c : LaneCfg) : Word :=
  if fld c.hostmap1 0 4 = 12 then setFld c.hostmap0 28 4 11 else c.hostmap0

/-- R321. The form of an entry. Log 48 (DEDUCED). -/
def laneCfgForm (c : LaneCfg) : Bool :=
  fld c.flags 1 7 == 0 && c.pad == 0 && fld c.hostmap1 6 26 == 0 &&
    (bit c.flags 0 || (fld c.lanemap 26 6 == 0 && mapDistinct c.lanemap)) &&
    !(fld c.hostmap1 0 4 == 12 && fld c.hostmap0 28 4 != 0 && fld c.hostmap0 28 4 != 11)

/-- R260, R264. The configuration that an entry asks for. -/
def laneCfgNew (c : PortCfg) (e : LaneCfg) : PortCfg :=
  { c with hostmap0 := pairedMap0 e, hostmap1 := e.hostmap1,
           lanemap := if bit e.flags 0 then c.lanemap else e.lanemap }

/-- R260. Every rung's mode is one of its own and has its lanes. -/
def laneModesOk (c : PortCfg) : Bool :=
  rungsDown.all fun r =>
    let m := hostMode c r
    m == 0 || ((modesOf r).contains m && lanesOk c.lanemap m)

/-- R264, R265. The shared-lane group of a port in a mode. -/
def groupOf (p : PortId) (m : HostMode) : Nat := p.val / modePorts m

/-- R265. Two ports share their L0 in a multi-port mode. -/
def sharesLane (p o : PortId) (cp co : PortCfg) : Bool :=
  rungsDown.any fun r =>
    let m := hostMode cp r
    decide (2 ≤ modePorts m) && groupOf p m == groupOf o m &&
      (rungsDown.any fun r' => hostMode co r' == m) && mapLane cp.lanemap 0 == mapLane co.lanemap 0

/-- R264. A map without the lanes that another port takes; a shared L0 stays. Log 48 (DEDUCED). -/
def mapWithout (w : Word) (taken : List (Fin 32)) (keep0 : Bool) : Word :=
  (List.range 4).foldl (fun a i =>
    match mapLane w i with
    | some l => if taken.contains l && !(keep0 && i == 0) then setFld a (6 * i) 6 0 else a
    | none => a) w

/-- R259. The bed would need a third lane clock family. -/
def State.famsOver (s : State) (b : BedId) : Bool := decide (2 < (s.bedFams b).length)

/-- R264. The port's map gives up lanes; a LISTENING port that loses one enters LISTENING afresh. -/
def State.giveLanes (s : State) (o : PortId) (taken : List (Fin 32)) (keep0 : Bool) : State :=
  let c := (s.port o).cfg
  let w := mapWithout c.lanemap taken keep0
  if w = c.lanemap then s
  else
    let old := portLanes o c (s.port o).host.mode
    let t := (s.modCfg o fun c => { c with lanemap := w }).lanesIdle old
    if t.pst o = .listening then t.toListening o else t

/-- R269. LANE.TXEQ of every lane that the map names takes the defaults of the port's mode: of the modes that
a port binds to its rungs, which R269 does not choose among, that of its highest configured rung.
Log 48 (DEDUCED). -/
def State.loadTxeq (s : State) (p : PortId) : State :=
  let c := (s.port p).cfg
  let m := restMode c (BitVec.allOnes 9 &&& BitVec.ofNat 9 ((rungsDown.filter (rungHosted c)).foldl
    (fun a r => a + 2 ^ rungBit r) 0))
  let ls := (List.range 4).filterMap (mapLane c.lanemap)
  forAll ls (fun l t => t.txeqWrite (laneOf (bedOf p) l) (Config.txeqDefault m (bit c.hostmap1 4))) s

/-- R264. A target that is LISTENING and gives up a lane of its own map enters LISTENING afresh.
Log 48 (DEDUCED). -/
def State.laneRelist (s : State) (p : PortId) (old : Word) : State :=
  let kept := (List.range 4).filterMap (mapLane (s.port p).cfg.lanemap)
  let gone := ((List.range 4).filterMap (mapLane old)).any fun l => !kept.contains l
  if gone && s.pst p == .listening then s.toListening p else s

/-- R263–R265, R269. A target's new map and modes take effect. -/
def State.laneApply (s : State) (p : PortId) (c : PortCfg) : State :=
  let map := (s.port p).cfg.lanemap
  let old := portLanes p (s.port p).cfg (s.port p).host.mode
  let s1 := (s.modCfg p fun _ => c).lanesIdle old
  let taken := (List.range 4).filterMap (mapLane c.lanemap)
  let s2 := forAll ((portsOf (bedOf p)).filter fun o => o != p)
    (fun o t => t.giveLanes o taken (sharesLane p o c (t.port o).cfg)) s1
  ((s2.loadTxeq p).famAssign (bedOf p)).laneRelist p map

/-- R321. One target of CMD_LANE_CONFIG: the first check that fails gives its status.
Log 48 (DEDUCED). -/
def State.laneConfig (s : State) (k : CmdKey) (p : PortId) (e : Option LaneCfg) : State :=
  let q := s.port p
  match e with
  | none => s.finish k (.port p) .badParam
  | some e =>
    if !laneCfgForm e then s.finish k (.port p) .badParam
    else if q.link.state = .training || q.linked || q.link.state = .test then
      s.finish k (.port p) .busy
    else
      let c := laneCfgNew q.cfg e
      if !laneModesOk c then s.finish k (.port p) .badParam
      else if (s.modCfg p fun _ => c).famsOver (bedOf p) then s.finish k (.port p) .refused
      else s.doneNext k (.port p) fun t => t.laneApply p c

/-- CMD_LANE_CONFIG (R321). -/
def execCmdLaneConfig (h : CmdHdr) (cfgs : List LaneCfg) (s : State) :
    Host.Outcome State Fault Refusal :=
  onLive s fun s => s.runCmd h .laneConfig true true true
    fun k i e s => onPort e (fun p s => s.laneConfig k p cfgs[i]?) s

/-! ## CMD_LOOPBACK -/

/-- R274. The loopback may be entered from the port's state. -/
def loopAllowed (side kind : Byte) (st : PState) : Bool :=
  if side = 0 then
    if kind = 2 then st != .disabled && st != .dormant else st == .up || st == .still
  else if kind = 2 then st == .up || st == .still
  else st == .disabled || st == .listening

/-- R274, R275, R322. A target enters a loopback. A STILL port wakes first. -/
def State.loopOn (s : State) (k : CmdKey) (p : PortId) (side kind rung : Byte) : State :=
  let q := s.port p
  let e := Elem.port p
  let r : Rung := BitVec.ofNat 4 rung.toNat
  if q.link.state = .test then s.finish k e .busy
  else if !loopAllowed side kind q.link.state then s.finish k e .refused
  else if side = 1 && !rungHosted q.cfg r then s.finish k e .badParam
  else if q.link.state = .still && isCh q.link.rung then
    inNextTick (fun t => t.wakeFor p (.loopback side kind rung)) s
  else s.doneNext k e fun t =>
    let t1 := if q.link.state = .still then t.lineLpi p false false else t
    t1.loopEnter p side kind r

/-- R275, R322. A target leaves a loopback. -/
def State.loopOff (s : State) (k : CmdKey) (p : PortId) (side kind : Byte) : State :=
  match (s.port p).loop with
  | some l =>
    if l.side = side && l.kind = kind then s.doneNext k (.port p) fun t => t.loopLeave p
    else s.finish k (.port p) .ok
  | none => s.finish k (.port p) .ok

/-- R322. The parameters are in range. -/
def loopParamOk (side kind rung on : Byte) : Bool :=
  decide (side.toNat ≤ 1) && decide (kind.toNat ≤ 2) && decide (on.toNat ≤ 1) &&
    (if side = 0 then rung == 0 else decide (2 ≤ rung.toNat) && decide (rung.toNat ≤ 9))

/-- CMD_LOOPBACK (R322). -/
def execCmdLoopback (h : CmdHdr) (side kind rung on : Byte) (s : State) :
    Host.Outcome State Fault Refusal :=
  onLive s fun s => s.runCmd h .loopback (loopParamOk side kind rung on) true true
    fun k _ e s => onPort e (fun p s =>
      if on = 1 then s.loopOn k p side kind rung else s.loopOff k p side kind) s

end Sys2Proof.Machine
end

