-- ==== Sys2Proof/Machine/Clause.lean ====
section
/-! DEFINITION.
Negotiation by Clause 28 and the standard rungs' training, fast retrain and failure, as the clauses
report them (R37, R40, R43–R51, R130, R158, R173). -/

namespace Sys2Proof.Machine

/-! ## The Spring wait window (R40, R42, R43) -/

/-- R42. An AUTO port past its window with no partner listens and sends nothing. -/
def Spring.pastWindow (g : Spring) (sel : RoleSel) : Spring :=
  let alone := g.srole == Role.none || g.srole == Role.head
  if sel = .auto && (g.sstate == .listen || g.sstate == .joining) && alone then
    { g with sstate := .listen, srole := .none, interval := none, waitTail := false,
             capRep := false, due := [], cur := none, body := [] }
  else g

/-- R40, R43, R44. The window has ended: Clause 28 starts unless a handshake holds it off.
Log 21 (DEDUCED). -/
def State.windowOver (s : State) (p : PortId) : State :=
  let t := s.modPort p fun q => { q with
    link := { q.link with window := false }, spring := q.spring.pastWindow q.link.sRole }
  let l := (t.port p).link
  if l.c28 || l.c28Held then t else t.c28Start p

/-- SPRING_WAIT_EXPIRY (R40): one extension where a header was decided and no handshake is
complete. -/
def execSpringWaitExpiry (p : PortId) (s : State) : Host.Outcome State Fault Refusal :=
  onLive s fun s =>
    let l := (s.port p).link
    if l.state != .listening || !l.window then s
    else if l.hdrSeen && !l.extended then s.modLink p fun l => { l with extended := true }
    else s.windowOver p

/-! ## Cable change (R51, R252) -/

/-- CABLE_CHANGE_EPISODE (R51): 2 s of LISTENING without line energy or a Spring frame. -/
def execCableChangeEpisode (p : PortId) (s : State) : Host.Outcome State Fault Refusal :=
  onLive s fun s =>
    if s.pst p = .listening then (s.clearRemoved p).fpEmpty p else s

/-! ## Clause 28 (R37, R45, R48, R173) -/

/-- R173. EEE is agreed for a rung. -/
def eeeAgreed (q : Port) (o : C28Obs) (r : Rung) : Bool :=
  q.link.sEee && o.eee.getLsbD (rungBit r) && modeLpi (hostMode q.cfg r)

/-- R130. The rungs whose clause has a fast retrain. -/
def rungFast (r : Rung) : Bool := decide (3 ≤ r.toNat) && decide (r.toNat ≤ 7)

/-- R37. The clause's resolution: a manual configuration is what it says. -/
def timingOf (sel : RoleSel) (master : Bool) : Bool :=
  match sel with
  | .head => true
  | .tail => false
  | .auto => master

/-- CLAUSE28_COMPLETE (R37, R48, R130, R173): the highest common standard rung is trained. -/
def execClause28Complete (p : PortId) (o : C28Obs) (s : State) : Host.Outcome State Fault Refusal :=
  onLive s fun s =>
    let q := s.port p
    let r := highest (stdRungs (candidates q) &&& o.partner)
    if q.link.state != .listening || !q.link.c28 || q.link.c28Held || r = 0 then s
    else
      (s.startTraining p .standard .none r s.now false false).modLink p fun l => { l with
        role := .none, timing := timingOf q.link.sRole o.master, c28Fast := o.fastRt && rungFast r,
        eee := eeeAgreed q o r }

/-- CLAUSE28_MS_FAULT (R45): ROLE_CONFLICT, and a restart at which ROLE is sampled.
Log 49 (DEDUCED). -/
def execClause28MsFault (p : PortId) (s : State) : Host.Outcome State Fault Refusal :=
  onLive s fun s =>
    let q := s.port p
    if q.link.state != .listening || !q.link.c28 || q.link.c28Held then s
    else
      let t := s.linkDown p .roleConflict 0 .none .none
      if lcRole q.cfg.linkctl = q.link.sRole then t.c28Start p else t.toListening p

/-! ## Training and failure under the clause (R130, R158) -/

/-- R158. The clause's link status becomes FAIL. -/
def State.clauseFail (s : State) (p : PortId) : State :=
  let q := s.port p
  let t := if q.link.state = .training then s.noteFail p .clause else s
  t.critDown p .clauseLink

/-- R60, R61, R149, R150. What the clause's training has found. -/
def Port.clauseFound (q : Port) (o : ClauseObs) : Port :=
  let snr := allPairs.map fun i => if q.pairs.contains i then snrOf false (o.errs.getD i.val ⟨1, 0⟩) else 0
  { q with
    link := { q.link with rxmap := o.rxmap, polinv := o.polinv, skew := o.skew },
    train := { q.train with timingLock := true, skew := o.skew, snr := snr,
                            margins := marginsOf q.train.rung false snr } }

/-- CLAUSE_TRAINING_RESULT (R61, R130, R158): a training that measures more than 50 ns of skew fails. -/
def execClauseTrainingResult (p : PortId) (o : ClauseObs) (s : State) :
    Host.Outcome State Fault Refusal :=
  onLive s fun s =>
    let q := s.port p
    if q.link.state != .training || q.train.kind != .standard || q.train.waitPll then s
    else if o.ok then
      let t := s.modPort p fun q => q.clauseFound o
      if 100 < o.skew.toNat then t.trainFail p .skew false else t.toUp p
    else if q.train.fromData then s.clauseFail p
    else s.trainFail p .clause false

/-- CLAUSE_LINK_FAIL (R158). -/
def execClauseLinkFail (p : PortId) (s : State) : Host.Outcome State Fault Refusal :=
  onLive s fun s =>
    let q := s.port p
    let up := (q.linked || q.ls == .up) && !isCh q.link.rung
    let re := q.link.state == .training && q.train.kind == .standard && q.train.fromData
    if up || re then s.clauseFail p else s

/-- CLAUSE_FAST_RETRAIN_TRIGGER (R158): an agreed fast retrain begins. -/
def execClauseFastRetrainTrigger (p : PortId) (s : State) : Host.Outcome State Fault Refusal :=
  onLive s fun s =>
    let q := s.port p
    if (q.linked || q.ls == .up) && !isCh q.link.rung && q.link.c28Fast then s.clauseRetrain p else s

end Sys2Proof.Machine
end

