-- ==== Sys2Proof/Machine/SpringLink.lean ====
section
/-! DEFINITION.
The Spring channel as frames and timers drive it (R40–R44, R183–R228): detection, the header, the
acceptance of a frame, the handshake, sequenced frames, repetitions, and the ways a session is
lost. -/

namespace Sys2Proof.Machine

/-! ## A frame in reception (R201–R205) -/

/-- R204, R205, R214. The frame in reception is not accepted. -/
def State.rxFail (s : State) (p : PortId) (i : Nat) : State :=
  (s.modSpring p fun g => { g with rxBusy := false, rxHdr := none, good := 0 }).count p i 1

/-- R201. SYNC_WORD_DETECT: the qualifier is open and at least 28 of the last 32 decisions agree with
the word of the receive direction. -/
def execSyncWordDetect (p : PortId) (bits : Word) (rssi foff : Byte) (s : State) :
    Host.Outcome State Fault Refusal :=
  onLive s fun s =>
    let q := s.port p
    let g := q.spring
    let word := syncWord (g.srole != Role.head)
    if !s.springRuns p || g.sstate == .off || g.rxBusy ||
        decide (rssi.toNat < spThresh q.cfg.islandCtl) || !syncDetects word bits then s
    else
      let auto := g.interval.isSome && g.srole == Role.none
      let heard := g.srole == Role.head && g.waitTail
      (s.modSpring p fun g => { g with
        rxBusy := true, rxHdr := none, rxRssi := rssi, rxFoff := foff, rxTick := s.clk.tick,
        srole := if auto then .tail else g.srole,
        interval := if auto then none else g.interval,
        waitTail := if heard then false else g.waitTail,
        capRep := if heard then true else g.capRep }).count p 0x32 1

/-- R204, R231, R483. The frame in reception is accepted. -/
def State.rxTake (s : State) (p : PortId) : State :=
  let t := s.modPort p fun q =>
    let g := q.spring
    { q with
      spring := { g with
        rxBusy := false, rxHdr := none, rssi := g.rxRssi, foff := s.foffNow p,
        good := if spS4Rssi q.cfg.islandCtl ≤ g.rxRssi.toNat then min 8 (g.good + 1) else 0 },
      link := { q.link with
        heardAt := if q.link.state == .listening && q.link.heardAt.isNone then some s.now
          else q.link.heardAt } }
  (t.count p 0x31 1).countBed (bedOf p) 1 1

/-- R226. The accepted USER frame of the port's session that waits longest for its receive entry. -/
def State.userWaits (s : State) (p : PortId) : Option UserRx :=
  (s.bed (bedOf p)).rxq.find? fun u =>
    u.port == p && u.sess == (s.port p).spring.sess && !u.acked

/-- R212, R213. ACK_SEQ takes a value, and an acknowledgement is due. -/
def State.ackTo (s : State) (p : PortId) (n : BitVec 4) : State :=
  s.modSpring p fun g => { g with ackSeq := n, ackValid := true, ackDue := true }

/-- R212, R226. A sequenced frame of the expected SEQ is accepted. Its acknowledgement is due at once, unless
an earlier USER frame has still to be written. -/
def State.seqTake (s : State) (p : PortId) : State :=
  let n := (s.port p).spring.rxSeq
  let t := s.modSpring p fun g => { g with rxSeq := n + 1 }
  if (s.userWaits p).isSome then t else t.ackTo p n

/-- R226. A USER frame has been written: everything before the next that waits is acknowledged. -/
def State.ackWritten (s : State) (p : PortId) : State :=
  match s.userWaits p with
  | some u => s.ackTo p (u.seq - 1)
  | none => s.ackTo p ((s.port p).spring.rxSeq - 1)

/-- R210. The least payload of a type. -/
def minLen : FType → Nat
  | .keepalive => 0 | .cap => 24 | .select => 10 | .trainStep => 3 | .diag => 1 | .dormNotice => 0
  | .wakeReq => 0 | .wakeReady => 8 | .wakeGo => 1 | .wakeCold => 0 | .spare => 1 | .user => 1

/-- R204, R210, R212. The payload decision of a frame of a type: f acts on an accepted frame, a
sequenced one only in PARTNERED and in order. A USER frame is acknowledged by f (R226). The rules name no
frame of a sequenced type with SEQD = 0: a USER frame is then accepted and not delivered, any other acts.
Log 22 (DEDUCED). -/
def State.rxFrame (s : State) (p : PortId) (t : FType) (payload : Bytes) (f : State → State) :
    State :=
  let g := (s.port p).spring
  match g.rxHdr with
  | none => s
  | some h =>
    if !s.springRuns p || fld h 0 4 != t.code ||
        (minLen t != 0 && fld h 5 9 != payload.length) then s
    else if payload.length < minLen t then s.rxFail p 0x34
    else
      let s1 := s.rxTake p
      if !h.getLsbD 14 then (if t == .user then s1 else f s1).springKick p
      else if g.sstate != .partnered then s1
      else if fld h 15 4 == g.rxSeq.toNat then
        (f (if t == .user then s1 else s1.seqTake p)).springKick p
      else (s1.modSpring p fun g => { g with ackDue := true }).springKick p

/-- An accepted message that acts only in PARTNERED. -/
def State.rxPartnered (s : State) (p : PortId) (t : FType) (payload : Bytes)
    (f : State → State) : State :=
  s.rxFrame p t payload fun s =>
    if (s.port p).spring.sstate = .partnered then f s else s

/-- SPRING_PAYLOAD_FAILURE (R204, R214). -/
def execSpringPayloadFailure (p : PortId) (s : State) : Host.Outcome State Fault Refusal :=
  onLive s fun s => if (s.port p).spring.rxHdr.isSome then s.rxFail p 0x34 else s

/-- SPRING_FRAME_ABORT (R205): a header or a payload failure, by the part it was aborted in. -/
def execSpringFrameAbort (p : PortId) (s : State) : Host.Outcome State Fault Refusal :=
  onLive s fun s =>
    let g := (s.port p).spring
    if !g.rxBusy then s else s.rxFail p (if g.rxHdr.isSome then 0x34 else 0x33)

/-! ## The header (R198, R199, R204, R207, R212, R218) -/

/-- R224. The entries of a port that break the form complete where no earlier entry of the port is
left. Log 31 (DEDUCED). -/
def State.usersBad (s : State) (p : PortId) : State :=
  let us := (s.port p).spring.users
  (forAll (us.takeWhile fun u => u.bad) (fun u t => t.completeTx (bedOf p) u .badParam 0) s).modSpring
    p fun g => { g with users := us.dropWhile fun u => u.bad }

/-- R175, R212, R224. An outstanding frame is acknowledged. Log 23 (DEDUCED). -/
def State.ackOne (p : PortId) (f : TxFrame) (s : State) : State :=
  match f.typ with
  | .user =>
    match (s.port p).spring.users.find? fun u => !u.bad && some u.num == f.slot with
    | some u =>
      ((s.completeTx (bedOf p) u .ok 0).modSpring p fun g => { g with
        users := g.users.filter fun v => v.bad || v.num != u.num }).usersBad p
    | none => s
  | .dormNotice => s.noticeOver p
  | _ => s

/-- R212. A header's acknowledgement; one that names no outstanding frame is ignored. -/
def State.springAck (s : State) (p : PortId) (h : BitVec 72) : State :=
  let g := (s.port p).spring
  if !h.getLsbD 19 then s
  else
    match g.out.findIdx? fun f => f.seq.toNat == fld h 20 4 with
    | none => s
    | some i =>
      let gone := g.out.take (i + 1)
      let t := s.modSpring p fun g => { g with
        out := g.out.drop (i + 1), expiries := 0,
        due := g.due.filter fun f => !(f.again && gone.any fun x => x.seq == f.seq) }
      forAll gone (State.ackOne p) t

/-- R43, R100, R109, R117. Training at the rung that the handshake names. -/
def State.hsTrain (s : State) (p : PortId) (rung : Rung) (warm : Bool) : State :=
  let q := s.port p
  let cap := q.spring.pcap.getD []
  let role := q.spring.srole
  let origin := q.link.heardAt.getD s.now
  let t := if warm then s.startTraining p .warm .timing rung origin (role == Role.tail) false
    else s.startTraining p .cold .echoHead rung origin (role == Role.tail) false
  t.modLink p fun l => { l with
    role := role, timing := role == Role.head, partnerSpare := bit (byteAt cap 4) 0,
    partnerId := BitVec.ofNat 64 (leAt cap 8 8) }

/-- R43, R44. NO_CH: Clause 28 starts at once. -/
def State.hsNoCh (s : State) (p : PortId) : State :=
  let q := s.port p
  if q.link.state != .listening then s
  else
    let id := (q.spring.pcap).map fun c => BitVec.ofNat 64 (leAt c 8 8)
    let t := s.modLink p fun l => { l with noCh := id, window := false, c28Held := false }
    if q.link.c28 then t else t.c28Start p

/-- R43, R218. Step 9 at the head: HS_DONE is decided. -/
def State.hsHead (s : State) (p : PortId) : State :=
  let q := s.port p
  let g := q.spring
  match g.sel with
  | none => s
  | some sel =>
    if g.srole != Role.head || g.sstate != .partnered || g.hsDone then s
    else
      let t := (s.springUndue p .select).modSpring p fun g => { g with hsDone := true }
      let o := (byteAt sel 0).toNat
      if q.link.state != .listening || o = 15 then t
      else if q.link.held then t
      else if o = 8 || o = 9 then t.hsTrain p (BitVec.ofNat 4 o) (byteAt sel 1 == 2)
      else t.hsNoCh p

/-- R210, R227. A frame of a reserved TYPE: acknowledged where it is sequenced, and discarded.
Log 22 (DEDUCED). -/
def State.rxReserved (s : State) (p : PortId) (h : BitVec 72) : State :=
  let t := s.rxTake p
  let g := (t.port p).spring
  if g.sstate != .partnered then t
  else
    let t1 := if g.unknown then t
      else (t.modSpring p fun g => { g with unknown := true }).springEvent p 4 0 0
    if !h.getLsbD 14 then t1
    else if fld h 15 4 == g.rxSeq.toNat then t1.seqTake p
    else t1.modSpring p fun g => { g with ackDue := true }

/-- R210. A frame whose TYPE has no message: KEEPALIVE, or a reserved one. -/
def noMessage (h : BitVec 72) : Bool := fld h 0 4 == 0 || decide (12 ≤ fld h 0 4)

/-- R209, R210. An accepted frame without message; the rules name no KEEPALIVE with SEQD = 1, which is taken
and not acknowledged. Log 22 (DEDUCED). -/
def State.rxQuiet (s : State) (p : PortId) (h : BitVec 72) : State :=
  if fld h 0 4 = 0 then s.rxTake p else s.rxReserved p h

/-- R204. What a valid header does besides its fields: a frame without payload and without message is
accepted, and one too short for its type fails. Log 22 (DEDUCED). -/
def State.rxByHeader (s : State) (p : PortId) (h : BitVec 72) : State :=
  let ty := fld h 0 4
  let len := fld h 5 9
  if noMessage h then (if len = 0 then s.rxQuiet p h else s)
  else
    let short := (ty = 1 && len < 24) || (ty = 2 && len < 10) || (ty = 3 && len < 3) ||
      ((ty = 4 || ty = 8 || ty = 10 || ty = 11) && len < 1) || (ty = 7 && len < 8)
    if short && len = 0 then s.rxFail p 0x34 else s

/-- SPRING_HEADER (R198, R199, R204): the fields of a valid header act in its tick. -/
def execSpringHeader (p : PortId) (hdr : BitVec 72) (s : State) : Host.Outcome State Fault Refusal :=
  onLive s fun s =>
    let g := (s.port p).spring
    if !s.springRuns p || !g.rxBusy || g.rxHdr.isSome then s
    else if !headerOk hdr then s.rxFail p 0x33
    else
      let s1 := s.modPort p fun q => { q with
        spring := { q.spring with rxHdr := some hdr, lastHdr := some hdr },
        link := { q.link with
          hdrSeen := q.link.hdrSeen || (q.link.state == .listening && q.link.window) } }
      let s2 := if g.sstate = .partnered then s1.springAck p hdr else s1
      let s3 := s2.rxByHeader p hdr
      let s4 := if hdr.getLsbD 26 then s3.hsHead p else s3
      s4.springKick p

/-! ## The handshake (R41–R44, R206, R216–R219) -/

/-- R47, R217, R218. The head's selection, from the capability frame that it has accepted. -/
def State.springSelect (s : State) (p : PortId) : State :=
  let q := s.port p
  let cap := q.spring.pcap.getD []
  let id := slice cap 8 8
  let go (t : State) (outcome kind : Byte) : State :=
    let pay := [outcome, kind] ++ id
    (t.modSpring p fun g => { g with sel := some pay }).springDue p { typ := .select, payload := pay }
  if q.link.state != .listening || q.link.held then go s 15 0
  else
    let both := candidates q &&& BitVec.ofNat 9 (leAt cap 2 2) &&& 0x180
    if both = 0 then go s 0 0
    else
      let (ok, t) := s.fpEval p (s.fpHandshake p .head cap (rungMask both))
      if ok then go t (byteAt (q.fp.getD []) 1) 2
      else go t ((highest both).setWidth 8) 1

/-- R44. A running Clause 28 is abandoned for a partner with which NO_CH has not been reached in this
episode. -/
def State.c28Abandon (s : State) (p : PortId) (id : BitVec 64) : State :=
  let l := (s.port p).link
  if l.state = .listening && l.c28 && l.noCh != some id then
    s.modLink p fun l => { l with c28 := false, c28Held := true }
  else s

/-- R219. A capability frame accepted while PARTNERED ends the session before a new one. -/
def State.springRestart (s : State) (p : PortId) : State :=
  let g := (s.port p).spring
  if g.sstate != .partnered then s
  else
    let t := (s.springEndSession p .restart).modSpring p fun g => { g with
      sstate := if g.srole == Role.head then .joining else .listen }
    (t.springLostPort p).diagLost p

/-- R44. Clause 28 has completed in this very tick, and the capability frame is from a partner with which
NO_CH has not been reached. -/
def State.c28Just (s : State) (p : PortId) (id : BitVec 64) : Bool :=
  let q := s.port p
  q.link.state == .training && q.train.kind == .standard && !q.train.fromData &&
    q.train.origin == s.now && q.link.noCh != some id

/-- R44. The Clause 28 result of this tick is discarded, and the port is LISTENING as before it. -/
def State.c28Undo (s : State) (p : PortId) (id : BitVec 64) : State :=
  if s.c28Just p id then
    let t := s.modPort p fun q => { q with
      train := { q.train.stop with kind := .none },
      link := { q.link with state := .listening, timing := false, c28Fast := false, eee := false,
                            c28Held := true } }
    let m := restMode (s.port p).cfg (candidates (s.port p))
    t.hostSet p m (if m = 0 then .idle else .fault)
  else s

/-- R44, R206, R207, R218. An accepted capability frame. Log 24 (DEDUCED). -/
def State.capTake (s0 : State) (p : PortId) (cap : Bytes) : State :=
  let s := s0.c28Undo p (BitVec.ofNat 64 (leAt cap 8 8))
  let q := s.port p
  if q.link.state = .training && q.train.kind = .standard then s
  else
    let s1 := (s.springRestart p).c28Abandon p (BitVec.ofNat 64 (leAt cap 8 8))
    let s2 := s1.modSpring p fun g => { g with
      pcap := some cap, capId := BitVec.ofNat 64 (leAt cap 8 8), interval := none, waitTail := false, capRep := false,
      srole := if g.srole == Role.none then .tail else g.srole }
    if (s2.port p).spring.srole = Role.head then
      ((s2.springUndue p .cap).springPartner p).springSelect p
    else
      (s2.modSpring p fun g => { g with sstate := .joining }).springDue p { typ := .cap }

/-- CAP (R216): VERSION 0 is not accepted. -/
def execCap (p : PortId) (payload : Bytes) (s : State) : Host.Outcome State Fault Refusal :=
  onLive s fun s => s.rxFrame p .cap payload fun s =>
    if (s.port p).spring.sstate = .off || byteAt payload 0 = 0 then s
    else s.capTake p (payload.take 24)

/-- R117, R118. A warm selection at the tail. -/
def State.selectWarm (s : State) (p : PortId) (rung : Rung) : State :=
  let q := s.port p
  let cap := q.spring.pcap.getD []
  let (ok, t) := s.fpEval p (s.fpHandshake p .tail cap (BitVec.ofNat 16 (2 ^ rung.toNat)))
  let u := t.hsTrain p rung true
  if ok then u
  else (u.modTrain p fun x => { x with phase := .handshake }).trainFail p .fpReject true

/-- R43, R217, R218, R220. The tail follows a SELECT that it has not acted on before. A rung with a KIND that
is neither COLD nor WARM, which the rules do not name, is taken as COLD. Log 24 (DEDUCED). -/
def State.selectAct (s : State) (p : PortId) (pay : Bytes) : State :=
  let o := (byteAt pay 0).toNat
  if o = 8 || o = 9 then
    if (s.port p).link.state != .listening || (s.port p).link.held then s.springAbort p .localAbort
    else if byteAt pay 1 = 2 then s.selectWarm p (BitVec.ofNat 4 o)
    else s.hsTrain p (BitVec.ofNat 4 o) false
  else if o = 15 then s
  else s.hsNoCh p

/-- R207, R213, R217, R220. An accepted SELECT. Log 24 (DEDUCED). -/
def State.selectTake (s : State) (p : PortId) (pay : Bytes) : State :=
  let g := (s.port p).spring
  if g.srole != Role.tail || g.sstate == .off || leAt pay 2 8 != (phyId p).toNat then s
  else
    let s1 := if g.sstate = .partnered then s else s.springPartner p
    let again := g.sstate == .partnered && g.hsDone && g.sel == some pay
    let s2 := s1.modSpring p fun g => { g with hsDone := true, sel := some pay, ackDue := true }
    if again then s2 else s2.selectAct p pay

/-- SELECT (R217). Log 24 (DEDUCED). -/
def execSelect (p : PortId) (payload : Bytes) (s : State) : Host.Outcome State Fault Refusal :=
  onLive s fun s => s.rxFrame p .select payload fun s => s.selectTake p (payload.take 10)

/-- ROLE_INTERVAL_EXPIRY (R41): nothing was heard, so the head role is taken. -/
def execRoleIntervalExpiry (p : PortId) (s : State) : Host.Outcome State Fault Refusal :=
  onLive s fun s =>
    let g := (s.port p).spring
    if s.springRuns p && g.interval.isSome && g.sstate == .listen && g.srole == Role.none then
      s.springHead p false
    else s

/-- TAIL_SYNC_WAIT_EXPIRY (R41, R564): no tail was heard; a new interval is drawn. -/
def execTailSyncWaitExpiry (p : PortId) (s : State) : Host.Outcome State Fault Refusal :=
  onLive s fun s =>
    let g := (s.port p).spring
    if s.springRuns p && g.waitTail && g.srole == Role.head && g.sstate == .joining then
      (s.modSpring p fun g => { g with sstate := .listen, srole := .none }).springDraw p
    else s

/-- CAP_REPEAT_TIMER (R42, R206). -/
def execCapRepeatTimer (p : PortId) (s : State) : Host.Outcome State Fault Refusal :=
  onLive s fun s =>
    if s.springRuns p && (s.port p).spring.capRep then s.springDue p { typ := .cap } else s

/-- SELECT_REPEAT_TIMER (R208, R218): the eleventh SELECT does not start. -/
def execSelectRepeatTimer (p : PortId) (s : State) : Host.Outcome State Fault Refusal :=
  onLive s fun s =>
    let g := (s.port p).spring
    if !s.springRuns p || g.sstate != .partnered || g.srole != Role.head || g.hsDone then s
    else
      match g.sel with
      | none => s
      | some pay =>
        if 10 ≤ g.selCount then s.springLose p .retry
        else s.springDue p { typ := .select, payload := pay }

/-- JOINING_TIMEOUT (R44, R206). -/
def execJoiningTimeout (p : PortId) (s : State) : Host.Outcome State Fault Refusal :=
  onLive s fun s =>
    let g := (s.port p).spring
    if g.sstate == .joining && g.srole == Role.tail then
      (s.modSpring p fun g => { g with sstate := .listen, due := [], cur := none,
                                       body := [] }).springLostPort p
    else s

/-! ## Transmission and repetition (R209, R211, R212, R220–R222) -/

/-- SPRING_TX_FRAME_END (R191, R211): what is due follows. An AUTO head that seeks its tail waits for
the tail's sync word. -/
def execSpringTxFrameEnd (p : PortId) (s : State) : Host.Outcome State Fault Refusal :=
  onLive s fun s =>
    match (s.port p).spring.cur with
    | none => s
    | some c =>
      (s.modSpring p fun g => { g with
        cur := none, body := [], cut := false,
        waitTail := g.waitTail ||
          (c.typ == .cap && g.srole == Role.head && g.sstate == .joining && !g.capRep) }).springKick p

/-- SPRING_RETRY_EXPIRY (R208, R212): the eighth in a row ends the session, otherwise every outstanding
frame is resent from the oldest. Log 7 (DESIGN CHOICE). -/
def execSpringRetryExpiry (p : PortId) (s : State) : Host.Outcome State Fault Refusal :=
  onLive s fun s =>
    let g := (s.port p).spring
    match g.out with
    | [] => s
    | f :: _ =>
      let sending := (match g.cur with | some c => c.typ.sequenced && c.seq == f.seq | none => false) ||
        g.due.any fun x => x.again && x.seq == f.seq
      if !s.springRuns p || g.sstate != .partnered || sending then s
      else if 7 ≤ g.expiries then s.springLose p .retry
      else
        (s.modSpring p fun g => { g with
          expiries := g.expiries + 1,
          due := (g.out.map fun x => { x with again := true }) ++
            g.due.filter fun x => !x.again }).springKick p

/-- KEEPALIVE_TIMER (R209): no frame was started for 20 ms. -/
def execKeepaliveTimer (p : PortId) (s : State) : Host.Outcome State Fault Refusal :=
  onLive s fun s =>
    let g := (s.port p).spring
    if s.springRuns p && g.sstate == .partnered && g.cur.isNone then s.springDue p { typ := .keepalive }
    else s

/-- TRAIN_STEP_REPEAT (R110, R220). -/
def execTrainStepRepeat (p : PortId) (s : State) : Host.Outcome State Fault Refusal :=
  onLive s fun s =>
    match (s.port p).spring.step with
    | none => s
    | some (_, some 0) => s.modSpring p fun g => { g with step := none }
    | some (pay, left) =>
      let t := s.modSpring p fun g => { g with
        step := match left with
          | none => some (pay, none)
          | some n => if n ≤ 1 then none else some (pay, some (n - 1)) }
      if (t.port p).spring.sstate = .partnered then t.springDue p { typ := .trainStep, payload := pay }
      else t

/-- SPARE_REPEAT (R221). -/
def execSpareRepeat (p : PortId) (s : State) : Host.Outcome State Fault Refusal :=
  onLive s fun s =>
    match (s.port p).spring.spareRep with
    | some b =>
      if (s.port p).spring.sstate = .partnered then s.springDue p { typ := .spare, payload := [b] }
      else s
    | none => s

/-- WAKE_REQ_REPEAT (R222). -/
def execWakeReqRepeat (p : PortId) (s : State) : Host.Outcome State Fault Refusal :=
  onLive s fun s =>
    let g := (s.port p).spring
    if g.wakeReq && g.sstate == .partnered then s.springDue p { typ := .wakeReq } else s

/-- WAKE_READY_REPEAT (R222). -/
def execWakeReadyRepeat (p : PortId) (s : State) : Host.Outcome State Fault Refusal :=
  onLive s fun s =>
    let g := (s.port p).spring
    if g.wakeReady && g.sstate == .partnered then
      s.springDue p { typ := .wakeReady, payload := readyPayload (s.port p) }
    else s

/-! ## The loss of a session (R208) -/

/-- SPRING_CARRIER_LOSS (R208, R228): the frame in reception is lost with it. -/
def execSpringCarrierLoss (p : PortId) (s : State) : Host.Outcome State Fault Refusal :=
  onLive s fun s =>
    if (s.port p).spring.sstate = .partnered then
      (s.modSpring p fun g => { g with rxBusy := false, rxHdr := none }).springLose p .carrier
    else s

/-- SPRING_SILENCE (R208). -/
def execSpringSilence (p : PortId) (s : State) : Host.Outcome State Fault Refusal :=
  onLive s fun s =>
    if (s.port p).spring.sstate = .partnered then s.springLose p .silence else s

/-! ## Messages of a link (R55, R110, R124, R176, R220, R221) -/

/-- R109, R110. A silent handoff: the partner has stopped, and this end transmits. -/
def Train.handoff (t : Train) (step : Nat) (tail : Bool) : Train :=
  if step = 1 && tail && t.phase == .echoHead then
    { t with phase := .echoTail, silent := false, tifInPhase := false }
  else if step = 2 && !tail && t.phase == .echoTail then
    { t with phase := .timing, silent := false, tifInPhase := false }
  else t

/-- R110, R121, R123, R124, R220. An accepted training-step message. -/
def State.stepTake (s : State) (p : PortId) (pay : Bytes) : State :=
  let q := s.port p
  let step := (byteAt pay 0).toNat
  let named : Pair := Fin.ofNat 4 (fld (byteAt pay 2) 1 2)
  let spared := bit (byteAt pay 2) 0
  let tail := q.link.role == Role.tail
  if q.link.state != .training || q.train.kind = .standard || q.train.abortLeft != 0 then
    if step = 3 then s.peerAbortNow p else s
  else if step = 3 then s.trainFail p .peerAbort false
  else if spared && !q.link.spared then
    if tail then s.tailSpare p named false else s.pairFailTrain p named
  else s.modTrain p fun t => t.handoff step tail

/-- TRAIN_STEP (R220). -/
def execTrainStep (p : PortId) (payload : Bytes) (s : State) : Host.Outcome State Fault Refusal :=
  onLive s fun s => s.rxPartnered p .trainStep payload fun s => s.stepTake p payload

/-- SPARE (R55, R221): it ends this end's own repetition, and counts as the partner's request. -/
def execSpare (p : PortId) (payload : Bytes) (s : State) : Host.Outcome State Fault Refusal :=
  onLive s fun s => s.rxPartnered p .spare payload fun s =>
    let t := (s.springUndue p .spare).modSpring p fun g => { g with spareRep := none }
    t.spareTake p (Fin.ofNat 4 (fld (byteAt payload 0) 0 2))

/-- DORM_NOTICE (R176, R222). -/
def execDormNotice (p : PortId) (s : State) : Host.Outcome State Fault Refusal :=
  onLive s fun s => s.rxPartnered p .dormNotice [] fun s =>
    s.modPort p fun q => { q with
      dorm := { q.dorm with noticeRx := q.dorm.noticeRx || q.ls == .up || q.link.state == .still } }

/-- DORMANT_NOTICE_ACK_TIMEOUT (R175). -/
def execDormantNoticeAckTimeout (p : PortId) (s : State) : Host.Outcome State Fault Refusal :=
  onLive s fun s => s.noticeOver p

/-! ## USER frames (R215, R224–R226, R304, R443) -/

/-- R215, R226, R227. A USER frame is discarded unacknowledged. The rules count it "as under R215" also where
the receive queue is not in RUN; the model raises RX_FULL there too. Log 22 (DEDUCED). -/
def State.userRefuse (s : State) (p : PortId) : State :=
  let t := s.count p 0x37 1
  let due := match (s.port p).spring.fullAt with
    | some x => decide (x + Config.tkPerMs ≤ s.now)
    | none => true
  if due then (t.modSpring p fun g => { g with fullAt := some s.now }).springEvent p 3 0 0 else t

/-- R443. A wake source is latched. -/
def State.latchUser (s : State) : State := s.latchWake .springUser

/-- R215, R225, R226, R443. A USER frame that is in order. Log 22 (DEDUCED). -/
def State.userTake (s : State) (p : PortId) (u : UserRx) : State :=
  let d := s.bed (bedOf p)
  let g := s.ring (sprRxRing (bedOf p))
  if !spUser (s.port p).cfg.islandCtl then (s.seqTake p).count p 0x37 1
  else if s.hub.mode = .dormant then
    if bit s.sluice.wakeen 3 && d.heldUser.isNone then
      ((s.seqTake p).modBed (bedOf p) fun d => { d with heldUser := some { u with acked := true } })
        |>.latchUser
    else s.userRefuse p
  else if g.state != .run || decide (g.free ≤ d.rxq.length) then s.userRefuse p
  else
    (s.modBed (bedOf p) fun d => { d with rxq := d.rxq ++ [{ u with
      seq := (s.port p).spring.rxSeq, sess := (s.port p).spring.sess }] }).modSpring p fun g =>
        { g with rxSeq := g.rxSeq + 1 }

/-- USER (R225): the frame in order goes on; any other is discarded with its acknowledgement
repeated. It is also the payload decision of a frame that has a payload and no message of its own (R204,
R210). Log 22 (DEDUCED). -/
def execUser (p : PortId) (payload : Bytes) (s : State) : Host.Outcome State Fault Refusal :=
  onLive s fun s =>
    let g := (s.port p).spring
    let h := g.rxHdr.getD 0
    if g.rxHdr.isSome && noMessage h then
      if s.springRuns p && fld h 5 9 == payload.length then (s.rxQuiet p h).springKick p else s
    else
      s.rxFrame p .user payload fun t =>
        if (t.port p).spring.sstate = .partnered then
          t.userTake p { port := p, payload := payload, mode4 := h.getLsbD 4, tick := g.rxTick,
                         rssi := g.rxRssi, foff := s.foffNow p }
        else t

end Sys2Proof.Machine
end

