-- ==== Sys2Proof/Machine/PowerOps.lean ====
section
/-! DEFINITION.
The Sluice (R431–R446): the blocks' answers, the requests to switch domains off, what a domain loses
and gets back, and the wakes of ports and of the device. -/

namespace Sys2Proof.Machine

/-! ## The blocks (R437, R443) -/

/-- R437. The code of a block of a bed. -/
def tenderBlk (b : BedId) : Byte := BitVec.ofNat 8 (0x10 + b.val)
def fuseBlk (b : BedId) : Byte := BitVec.ofNat 8 (0x30 + b.val)

/-- R437. The blocks that a domain's handshake asks. -/
def domBlocks : Dom → List Byte
  | .hub => [1, 2, 3, 4, 5, 6]
  | .bed b => [tenderBlk b, fuseBlk b]

/-- R437. The code of a domain's bus, and of its supply. -/
def busBlk : Dom → Byte
  | .hub => 7
  | .bed b => BitVec.ofNat 8 (0x18 + b.val)
def supplyBlk : Dom → Byte
  | .hub => 0x28
  | .bed b => BitVec.ofNat 8 (0x20 + b.val)

/-- R443. A port wake is in progress. -/
def State.waking (s : State) (p : PortId) : Bool :=
  let d := (s.port p).dorm
  (d.waking || d.latched) && decide (d.latchAt < s.now)

/-- R377. A notice to a master is taken and not done. -/
def State.noticeTaken (s : State) (m : MasterId) : Bool :=
  allChans.any fun c => (s.chan c).taken && (s.chan c).receiver == m

/-- R296. A record is in progress. -/
def CmdRec.busy (r : CmdRec) : Bool := r.started && r.doneTick.isNone

/-- R437. The record is the request's own. -/
def SReq.own (q : SReq) (r : CmdRec) : Bool :=
  match q.key with
  | some k => r.is k
  | none => false

/-- R437. What Wicket, Gardener, the ring engine and the telemetry DMA answer. -/
def State.hubAnswer (s : State) (q : SReq) (blk : Nat) : Answer :=
  let sec (o : Op) : Bool := o == .fwStage || o == .fwActivate || o == .attest || o == .debugUnlock
  if blk = 1 then
    if s.cmds.any fun r => r.busy && sec r.op then .refuse
    else if s.noticeTaken 1 then .delay else .ack
  else if blk = 2 then
    if s.cmds.any fun r => r.busy && !q.own r then .refuse
    else if !s.due.isEmpty || s.noticeTaken 2 then .delay else .ack
  else if blk = 3 then
    if s.cmds.any fun r => r.completed || q.own r then .delay else .ack
  else if blk = 4 then (if s.tel.writing.isEmpty then .ack else .delay)
  else .ack

/-- R437. What a bed's Tender and its fuse controller answer. -/
def State.bedAnswer (s : State) (b : BedId) (fuse : Bool) : Answer :=
  if fuse then (if (s.bed b).fuseBusy.isSome then .delay else .ack)
  else if (portsOf b).any fun p =>
      !(s.port p).atRest || (s.port p).diag.isSome || s.waking p then
    .refuse
  else if s.noticeTaken (tenderId b) then .delay else .ack

/-- R437. What a block answers. -/
def State.blkAnswer (s : State) (q : SReq) (blk : Byte) : Answer :=
  let n := blk.toNat
  if n < 0x10 then s.hubAnswer q n
  else if n < 0x18 then s.bedAnswer (Fin.ofNat 8 (n - 0x10)) false
  else s.bedAnswer (Fin.ofNat 8 (n - 0x30)) true

/-! ## Wakes (R177–R179, R442, R443, R445) -/

/-- R177, R442. The Sluice has a request for the bed's power-off. -/
def State.bedLeaving (s : State) (b : BedId) : Bool :=
  s.sluice.reqs.any fun r => r.doms.contains (.bed b)

/-- R25, R440, R445. A bed is needed: switched on, or on again as soon as it is off. -/
def State.needBed (s : State) (b : BedId) : State :=
  let w := (s.bed b).pow
  if w.falling || (w.on && s.bedLeaving b) then s.modPow b fun w => { w with wanted := true }
  else if w.on || w.rising || s.bedRails then s
  else s.modPow b fun w => { w with rising := true }

/-- R177. The device is out of DORMANT and the port's bed is powered. -/
def State.canWake (s : State) (p : PortId) : Bool :=
  s.hub.mode != .dormant && !s.sluice.entry && s.sluice.hubOn && s.bedOn (bedOf p) &&
    !s.bedLeaving (bedOf p)

/-- R178. A latched port wake goes on where it can: a WAKE_READY that was held is answered. -/
def State.wakeGoOn (p : PortId) (s : State) : State :=
  let q := s.port p
  if q.link.state != .dormant || !q.dorm.latched || !s.canWake p then s
  else
    match q.dorm.heldReady with
    | some d => s.wakeReadyAct p d
    | none => s.wakeStart p

/-- R177, R442, R443, R445. A wake cause of a DORMANT port: it goes on at once where the device and
the bed are powered, and is latched otherwise. -/
def State.wakeCause (s : State) (p : PortId) (held : Option Bytes) : State :=
  let d := (s.port p).dorm
  if d.waking || d.latched then
    s.modDorm p fun d => { d with heldReady := if d.heldReady.isSome then d.heldReady else held }
  else
    let t := s.modDorm p fun d => { d with latched := true, latchAt := s.now, heldReady := held }
    if t.hub.mode = .dormant || t.sluice.entry then t.latchWake .spring
    else if t.canWake p then State.wakeGoOn p t
    else t.needBed (bedOf p)

/-- R442. The latched sources include an enabled one: the first of them. -/
def Sluice.enabled (q : Sluice) : Option WakeSrc :=
  q.latched.find? fun w => match w with
    | .doorbell => bit q.wakeen 0
    | .mailbox => bit q.wakeen 1
    | .spring => bit q.wakeen 2
    | .springUser => bit q.wakeen 3
    | .timer => bit q.wakeen 4
    | .gpio => q.gpioEdges.toNat &&& fld q.wakeen 5 8 != 0
    | .none => false

/-! ## What a domain loses and gets back (R351, R352, R400, R439–R441) -/

/-- R352. A RETAIN entry names a register of a domain. -/
def inDom (d : Dom) (a : Nat) : Bool :=
  match blockOf a with
  | some (.tel) | some (.ring) | some (.sec) | some (.flash) => d == .hub
  | some (.bed b) | some (.bedclk b) | some (.xbar b) | some (.tender b) | some (.port b)
  | some (.lane b) => d == .bed b
  | _ => false

/-- R352. The save of a domain's retained registers, in ascending entry order. -/
def State.retainSave (s : State) (d : Dom) : State :=
  let es := s.hub.retain.filterMap fun w =>
    let a := fld w 0 26
    if bit w 31 && inDom d a then some (BitVec.ofNat 26 a, s.regRead a) else none
  let old := s.hub.saved.filter fun e => !inDom d e.1.toNat
  { s with hub := { s.hub with saved := old ++ es } }

/-- R352. The restore of a domain's retained registers in ascending entry order, each as one write. -/
def State.retainRestore (s : State) (d : Dom) : State :=
  let es := s.hub.retain.filterMap fun w =>
    let a := fld w 0 26
    if bit w 31 && inDom d a then s.hub.saved.find? fun e => e.1.toNat == a else none
  let t := { s with hub := { s.hub with saved := s.hub.saved.filter fun e => !inDom d e.1.toNat } }
  forAll es (fun e u => u.regWrite 2 e.1.toNat e.2) t

/-- R51, R351. What a port loses with its bed's main domain: what its status registers held there but
DSHIFT.REMOVED, which only R51 clears. Log 44 (DEDUCED). -/
def Port.powerLoss (q : Port) : Port :=
  { q with train := {}, line := {}, rx := {}, adapt := {}, host := {},
           link := { q.link with rxmap := 0, polinv := 0, skew := 0, spared := false, sparedPair := 0 } }

/-- R438, R439, R441. A bed's gate closes: what its status registers and its lanes held is lost.
Log 44 (DEDUCED). -/
def State.bedGate (s : State) (b : BedId) : State :=
  let s1 := (s.capStageBed b).retainSave (.bed b)
  let s2 := forAll (lanesOf b) (fun l t => t.modLane l fun x =>
    { x with locked := false, adapting := true }) s1
  let s3 := forAll (portsOf b) (fun p t => t.modPort p Port.powerLoss) s2
  s3.modBed b fun d => { d with
    pow := { d.pow with on := false, falling := true, tender := false, lineLock := false,
                        laneLock := [false, false], steerNow := 0 },
    calRun := 0, calPass := 0, calPend := 0, calFail := 0, calBlk := s.calForce b, bistRes := 0,
    repairs := 0, fromStart := false, fuseErr := false, fuseRow := 0, fuseData := 0 }

/-- R352, R431. A port's registers at its bed's power-up: reset values, then the fixed set and the
island's copies. Log 39 (DEDUCED). -/
def PortCfg.powerUp (c : PortCfg) (p : PortId) : PortCfg :=
  let r : PortCfg := { lanemap := laneMapReset p }
  let a := c.applied
  { r with
    linkctl := setFld (a.linkctl.getD r.linkctl) 15 1 (b2n c.islandEn),
    trainctl := a.trainctl.getD r.trainctl, decctl := a.decctl.getD r.decctl,
    stillctl := a.stillctl.getD r.stillctl, fpctl := a.fpctl.getD r.fpctl,
    springctl := c.islandCtl, hostmap0 := c.hostmap0, hostmap1 := c.hostmap1, lanemap := c.lanemap,
    islandEn := c.islandEn, islandCtl := c.islandCtl, applied := a }

/-- R352, R400. What a port's registers hold once its bed has come on: in a start the Well's SPRING_EN
counts, and after a device reset nothing of the Well. Log 39 (DEDUCED). -/
def State.portUp (s : State) (c : PortCfg) (p : PortId) : PortCfg :=
  if s.hub.mode != .boot then c.powerUp p
  else if s.boot.fresh then { ({ c with applied := {} }).powerUp p with applied := c.applied }
  else ({ c with islandEn := match c.applied.linkctl with
    | some w => bit w 15
    | none => c.islandEn }).powerUp p

/-- R390, R413, R440. A bed's supplies are good: released, restored, its PLLs locked and its Tender
running. Log 39 (DEDUCED). -/
def State.bedUp (s : State) (b : BedId) : State :=
  let s1 := s.modBed b fun d => { d with
    pow := { d.pow with on := true, rising := false, falling := false, tender := true,
                        lineLock := !s.clk.reflost, laneFam := [0, 0], laneLock := [false, false],
                        wanted := false },
    legacy := false, legacyUse := false }
  let s2 := forAll (portsOf b) (fun p t => t.modCfg p fun c => t.portUp c p) s1
  (s2.famAssign b).retainRestore (.bed b)

/-- R439, R352. The hub main domain's gate closes. Log 44 (DEDUCED). -/
def State.hubGate (s : State) : State :=
  let t := s.retainSave .hub
  { t with
    sluice := { t.sluice with hubFalling := true },
    flash := { t.flash with addr := 0, ctl := 0, done := false, err := 0,
                            data := List.replicate 64 0 } }

/-! ## Requests (R27, R334, R436–R439, R445, R446) -/

/-- R433. Every bed's main domain is on. -/
def State.allOn (s : State) : Bool := allBeds.all fun b => s.bedOn b || s.bedRails

/-- R433, R434, R446. A change to ACTIVE has come to its end. -/
def State.activeDone (s : State) : State :=
  if s.hub.changing && s.hub.target = .active && s.allOn then
    let h := s.hub
    let m : DevMode := if h.mode = DevMode.test then .test else .active
    let t : State := { s with hub := { h with mode := m, base := .active, changing := false } }
    t.finishWhere (fun r => r.op == .powerState && r.arg == 4 && r.doneTick.isNone) .device .ok
  else s

/-- R442. A post held for a sleeping receiver is notified. -/
def State.postFlush (s : State) (c : ChanId) : State :=
  if (s.chan c).heldPost then
    (s.modChan c fun q => { q with heldPost := false }).notify (s.chan c).receiver c false
  else s

/-- R443. A USER frame held in the island goes on to the bed's receive entries. -/
def State.userFlush (s : State) (b : BedId) : State :=
  match (s.bed b).heldUser with
  | some u => s.modBed b fun d => { d with heldUser := none, rxq := d.rxq ++ [u] }
  | none => s

/-- R443. A latched port wake goes on. -/
def State.wakeFlush (s : State) (p : PortId) : State :=
  if s.pst p = .dormant && (s.port p).dorm.latched then State.wakeGoOn p (s.needBed (bedOf p)) else s

/-- R442, R445. What was latched acts in a device that is awake. -/
def State.latchedAct (s : State) : State :=
  let s1 := { s with sluice := { s.sluice with latched := [], gpioEdges := 0 } }
  let s2 := forAll allChans (fun c t => t.postFlush c) s1.bellsFlush
  forAll allPorts (fun p t => t.wakeFlush p) (forAll allBeds (fun b t => t.userFlush b) s2)

/-- R438. A domain's gate has closed: the accesses held at its bridge complete as accesses to an off block. -/
def State.heldDrop (s : State) (d : Dom) : State :=
  let mine (x : MasterId × Nat × Option Word) : Bool := (blockOf x.2.1).bind blockDom == some d
  let t := { s with sluice := { s.sluice with heldAcc := s.sluice.heldAcc.filter fun x => !mine x } }
  forAll (s.sluice.heldAcc.filter mine)
    (fun x u => u.accessFault x.1 (if x.2.2.isSome then 2 else 1) x.2.1) t

/-- R438. A held access is served. -/
def State.heldOne (s : State) (x : MasterId × Nat × Option Word) : State :=
  match x.2.2 with
  | some v => s.writeTo x.1 x.2.1 fun w => w.regWriteAt x.1 x.2.1 v
  | none => s

/-- R438. The gates have reopened: the accesses held at their bridges are served, a read to its master. -/
def State.heldServe (s : State) : State :=
  let go := s.sluice.heldAcc.filter fun x => !s.holding x.2.1
  let t := { s with sluice := { s.sluice with heldAcc := s.sluice.heldAcc.filter fun x => s.holding x.2.1 } }
  forAll go (fun x u => u.heldOne x) t

/-- R334, R436, R438, R446. A request is abandoned; one that fails after its decision leaves the device in
QUIET. -/
def State.reqFail (s : State) (q : SReq) (blk : Byte) (reason : Nat) : State :=
  let s1 := s.raise .powerRefused q.elem
    [(16, 1, q.req.toNat), (17, 1, blk.toNat), (18, 1, reason), (20, 2, cidOf q.key)]
  let s2 := ({ s1 with sluice := { s1.sluice with
    lastBlock := blk, lastReason := BitVec.ofNat 2 reason,
    reqs := s1.sluice.reqs.filter fun r => r != q } } : State).heldServe
  let s3 := match q.key with
    | some k => s2.finish k q.elem .refused
    | none => s2
  if q.elem = .device then
    let late := s3.hub.mode == DevMode.dormant
    let t : State := { s3 with
      sluice := { s3.sluice with entry := false },
      hub := { s3.hub with changing := false, mode := if late then .quiet else s3.hub.mode,
                           base := if late then .quiet else s3.hub.base } }
    t.latchedAct
  else
    forAll allPorts (fun p t => State.wakeGoOn p t) s3

/-- R446. The decision of a DORMANT request: every block but the ring engine has answered ACK. -/
def State.decideReq (s : State) (q : SReq) : State :=
  if q.elem = .device && s.sluice.entry && s.hub.mode != .dormant &&
      (q.asked ++ q.delayed).all (· == 3) then
    let t := { s with hub := { s.hub with mode := .dormant } }
    match q.key with
    | some k => t.finish k .device .ok
    | none => t
  else s

/-- R436. A block answers one request. -/
def State.blockAnswer (s : State) (q : SReq) (blk : Byte) : State :=
  if !s.sluice.reqs.contains q then s
  else
    match s.blkAnswer q blk with
    | .refuse => s.reqFail q blk 1
    | a =>
      let q1 := { q with asked := q.asked.erase blk,
                         delayed := if a = .delay then q.delayed ++ [blk] else q.delayed }
      State.decideReq { s with sluice := { s.sluice with
        reqs := s.sluice.reqs.map fun r => if r = q then q1 else r } } q1

/-- R436. A block answers the requests that have asked it. -/
def State.blockAnswers (s : State) (blk : Byte) : State :=
  forAll (s.sluice.reqs.filter fun q => q.asked.contains blk) (fun q t => t.blockAnswer q blk) s

/-- R436, R445. A request to switch a bed off on the Sluice's own account. -/
def bedReq (b : BedId) : SReq :=
  { doms := [.bed b], asked := domBlocks (.bed b), delayed := [], key := none, req := 0,
    elem := .bed b }

/-- R27, R439, R443, R445. A device DORMANT request: R27, then the Port wake block, then every other
block of the domains to be switched off. Log 45 (DEDUCED). -/
def State.dormantReq (s : State) (k : CmdKey) : State :=
  let idle := allPorts.all fun p => (s.port p).atRest
  if !idle || s.sluice.entry || s.hub.mode == .test then s.finish k .device .refused
  else
    let on := allBeds.filter fun b => s.bedOn b && !s.bedLeaving b
    let doms := on.map Dom.bed ++ [.hub]
    let q : SReq := { doms := doms, asked := doms.flatMap domBlocks, delayed := [], key := some k,
                      req := 6, elem := .device }
    let t := { s with
      sluice := { s.sluice with entry := true, reqs := s.sluice.reqs ++ [q], latched := [],
                                gpioEdges := 0 },
      hub := { s.hub with changing := true, target := .dormant } }
    if allPorts.any fun p => s.waking p then t.reqFail q 0x0F 1 else t

/-- R29, R325. A device run whose precondition no longer holds when every bed is on is refused. -/
def State.calRunCheck (s : State) : State :=
  if s.hub.changing && s.hub.target = .calibrate && !allBeds.all s.bedDisabled then
    ({ s with hub := { s.hub with changing := false } } : State).finishOp .calRun .device .refused
  else s

/-- R325, R433. A device run of calibration starts once every bed is on. -/
def State.calRunGo (s0 : State) : State :=
  let s := if allBeds.all fun b => s0.bedOn b || s0.bedRails then s0.calRunCheck else s0
  let t := s.calModeGo
  if t.hub.mode = .calibrate && s.hub.mode != .calibrate then
    match t.waiter .calRun .device with
    | some k =>
      let g := match t.cmds.find? fun r => r.is k with
        | some r => BitVec.ofNat 4 r.arg.toNat
        | none => 0
      forAll (allBeds.filter t.bedOn) (fun b u => u.calBegin b (some k) g true) t
    | none => t
  else s

/-! ## Power-up (R440, R445) -/

/-- R325, R333, R440. What waited for a bed's main domain goes on. -/
def State.bedReady (s : State) (b : BedId) : State :=
  let t := s.finishWhere
    (fun r => r.op == .powerState && r.arg == 1 && r.doneTick.isNone) (.bed b) .ok
  ((forAll (portsOf b) (fun p u => State.wakeGoOn p u) t).activeDone).calRunGo

end Sys2Proof.Machine
end

