-- ==== Sys2Proof/Machine/BootOps.lean ====
section
/-! DEFINITION.
A start (R414–R429): its failure, the ends of its stages, image selection, the fingerprints it loads,
and the entries to SEEDBED and ACTIVE. -/

namespace Sys2Proof.Machine

/-! ## Hot reset (R308, R402, R414) -/

/-- R414, R424. A start that a hot reset begins. -/
def State.restartAs (s : State) (mode : DevMode) : State :=
  State.startBegin { s with boot := { s.boot with lastMode := mode.code } } false

/-- R435. A start finds a bed's main domain off until its stage 7. Log 50 (DEDUCED). -/
def State.bedCut (s : State) (b : BedId) : State :=
  if s.bedOn b then s.bedGate b else s.modPow b fun w => { w with rising := false, wanted := false }

/-- R402. The cores restart, which in BOOT and CALIBRATE, with mode the mode at the reset, begins a
start (R414). -/
def State.coresRestart (s : State) (mode : DevMode) : State :=
  if mode = .seedbed then (s.resetMasters [1, 11, 12, 13]).bindAll
  else
    let s1 := s.resetMasters [1, 2, 3, 4, 5, 6, 7, 8, 9, 10, 11, 12, 13]
    let s2 := forAll allBeds (fun b t => t.runDrop b .abortedReset) s1
    if mode = .boot && s2.boot.failed && s2.boot.waitRef then s2
    else if mode = .boot || mode = .calibrate then
      (forAll allBeds (fun b t => t.bedCut b) s2).restartAs mode
    else s2.bindAll

/-- R308, R402. A hot reset, or the loss of the PCIe link. -/
def State.hotReset (s : State) : State :=
  let t := (s.flrPf0.flrPf1).coresRestart s.hub.mode
  { t with pins := { t.pins with flr0 := false, flr1 := false } }

/-! ## Failure (R421–R423) -/

/-- R414, R422. A start is in progress and has not failed. -/
def State.starting (s : State) : Bool := s.boot.stage != 0 && !s.boot.failed

/-- R423. The reasons of a lost reference. -/
def refReason (r : Reason) : Bool := r == .refclkAbsent || r == .refclkLost

/-- R417, R421–R423. The start fails: the count in the Well, the FAILED record, which waits for the
lock where the reference is lost, and the end of configuration retries. -/
def State.startFail (s : State) (r : Reason) : State :=
  if !s.starting then s else
  let b := s.boot
  let s1 := { s with
    boot := { b with count := min 3 (b.count + 1), lastReason := r, failed := true,
                     waitRef := refReason r },
    pins := { s.pins with cfgReady := s.pins.training || s.pins.link } }
  if refReason r then s1 else s1.log .failed r.code 0 b.stage

/-- R421, R422. The 10 s expire in stage 9: the start fails, and its record is held until the tick is over. -/
def State.startLate (s : State) : State :=
  if s.starting && s.boot.stage = 9 then
    let b := s.boot
    { s with boot := { b with
      count := min 3 (b.count + 1), lastReason := .startTimeout, failed := true,
      late := some (s.now, b.count, b.lastReason),
      held := b.held ++ [(.failed, Reason.startTimeout.code, 0, 9, s.clk.tick)] } }
  else s.startFail .startTimeout

/-- R421. An entry to ACTIVE is due in the tick in which the 10 s expired: the start has not failed. -/
def State.lateUndo (s : State) : State :=
  match s.boot.late with
  | some (t, c, r) =>
    if t = s.now ∧ s.boot.failed = true then
      { s with boot := { s.boot with count := c, lastReason := r, failed := false, late := none,
                                     held := s.boot.held.dropLast } }
    else s
  | none => s

/-- R423, R424. The loop has locked: the FAILED record of a lost reference is written, and the restart
may follow. -/
def State.refBack (s : State) : State :=
  if s.boot.failed && s.boot.waitRef then
    let t := { s with boot := { s.boot with waitRef := false } }
    t.log .failed s.boot.lastReason.code 0 s.boot.stage
  else s

/-! ## Stages (R416) -/

/-- The start is in stage n. -/
def State.stageTo (s : State) (n : Nat) : State := { s with boot := { s.boot with stage := n } }

/-- R389, R416, R417. Stage 1 ends: the endpoint begins to train. -/
def State.stage1End (s : State) : State :=
  if s.starting && s.boot.stage = 1 then
    { s.stageTo 2 with pins := { s.pins with training := !s.pins.link } }
  else s

/-- R418, R424. Stage 2: flash is found and is usable, the START record is written, and then what was
held. -/
def State.flashFound (s : State) : State :=
  let s1 := { s with boot := { s.boot with flashOk := true, startNo := s.logHighest + 1 } }
  let s2 := (s1.log .start 0 s.boot.lastMode 0).logFlush
  if s2.bootctlBest.isNone then
    ({ s2 with boot := { s2.boot with tornCtl := true } }).log .tornBootctl 0 0 0
  else s2

/-- R418. Stage 2 by what discovery found. -/
def State.stage2End (s : State) (o : StageObs) : State :=
  let s1 := { s with flash := { s.flash with
    sfdp := o.sfdp, density := if o.sfdp then o.density else 0 } }
  if !o.sfdp then s1.startFail .flashAbsent
  else if !o.supported then s1.startFail .flashUnsupported
  else if !o.layoutOk then s1.startFail .layoutInvalid
  else s1.flashFound.stageTo 3

/-- R509, R524. Stage 3. -/
def State.stage3End (s : State) : State :=
  let s1 := { s with sec := { s.sec with chainBytes := s.flashBytes chainBase 0x8000 } }
  if s1.chainOk then s1.stageTo 4 else s1.startFail .certInvalid

/-- R428. SEEDBED. -/
def State.enterSeedbed (s : State) : State :=
  let s1 := s.log .seedbed s.boot.lastReason.code 0 0
  let s2 := { s1 with
    boot := { s1.boot with stage := 0, seedbed := true, fails := 3, slot := s1.boot.tried },
    hub := { s1.hub with mode := .seedbed, changing := false },
    pins := { s1.pins with cfgReady := s1.pins.training || s1.pins.link } }
  s2.bindAll

/-- R428, R474, R506, R509. Stage 4: the hub's self-test has passed; the identity key is derived. A
start that follows three failed ones stops in SEEDBED. -/
def State.stage4End (s : State) : State :=
  if s.boot.hubLogic = .pass ∧ s.boot.hubMemory = .pass then
    let key := !allZero seed && !s.sec.blocked
    let s1 := { s with sec := { s.sec with key := key, devcert := key && s.devcertOk } }
    if 3 ≤ s.boot.count then s1.enterSeedbed else s1.stageTo 5
  else s

/-- R283, R356, R371, R417, R419. A verified slot is taken, the bind table written, and Gardener
released. -/
def State.slotTake (s : State) (slotB : Bool) : State :=
  let h := s.imageHead slotB
  let s1 := { s with
    boot := { s.boot with
      slot := slotB, version := imgVersion h, imageSvn := imgSvn h, advance := imgAdvance h,
      subsys := imgSubsys h, fallback := slotB != s.preferredB },
    pins := { s.pins with cfgReady := s.pins.training || s.pins.link } }
  (s1.bindAll).stageTo 6

/-- R419, R426. Stage 5: the slot to try first, then the other. -/
def State.stage5End (s : State) : State :=
  let first := if s.boot.count = 1 then !s.preferredB else s.preferredB
  let (r1, s1) := ({ s with boot := { s.boot with tried := first } }).verify first 0
  if r1 = .verified then s1.slotTake first
  else
    let (r2, s2) := ({ s1 with boot := { s1.boot with tried := !first } }).verify (!first) 0
    if r2 = .verified then
      let why : Reason := if r1 = .rollback then .rollback else .imageInvalid
      ({ s2 with boot := { s2.boot with
        reason := if s2.boot.fails = 0 then why else s2.boot.reason } }).slotTake (!first)
    else s2.startFail .noImage

/-- R416, R435. Stage 6: Gardener has reported; every bed is powered. -/
def State.stage6End (s : State) : State :=
  if s.boot.ready.contains 2 then forAll allBeds (fun b t => t.needBed b) (s.stageTo 7) else s

/-- R416, R474. Stage 7: every bed is on, its memory has passed, and its Tender has reported. -/
def State.stage7End (s : State) : State :=
  if allBeds.all fun b => s.bedOn b && (s.bed b).bist.isNone && s.boot.ready.contains (tenderId b) then
    s.stageTo 8
  else s

/-- R429. The calibration that a start requires. -/
def State.startCal (s : State) : State :=
  forAll allBeds (fun b t => t.calBegin b none 0xF true)
    { s with hub := { s.hub with mode := .calibrate, base := .calibrate } }

/-- R429, R459. Stage 8. Log 37 (DEDUCED). -/
def State.stage8End (s : State) : State :=
  if s.boot.calNeeded then s
  else
    let t := s.calSelect
    if t.boot.calNeeded then t.startCal else t.stageTo 9

/-! ## Stage 9 (R249, R416, R422, R425, R513) -/

/-- R424, R425. A torn flash copy of a port's fingerprint is logged. -/
def State.fpTornCheck (s : State) (p : PortId) (k : Nat) : State :=
  if fpTorn (s.fpCopy p k) then
    let u := s.log .tornFp 0 0 (2 * p.val + k)
    { u with boot := { u.boot with tornFp := true } }
  else s

/-- R249. The fingerprints of a port at a start: torn copies logged, an empty slot loaded, a full one
marked LOADED. -/
def State.fpStart (s : State) (p : PortId) : State :=
  let s1 := (s.fpTornCheck p 0).fpTornCheck p 1
  match (s1.port p).fp with
  | some f => s1.modPort p fun q => { q with fp := some (fpSetLoaded f) }
  | none =>
    match s1.fpFlash p with
    | some c => s1.modPort p fun q => { q with fp := some (fpSetLoaded c.2) }
    | none => s1

/-- R425, R344. EV_BOOT_FALLBACK. Log 29 (DEDUCED). -/
def State.fallbackEvent (s : State) : State :=
  let b := s.boot
  if b.fails != 0 || b.fallback || b.tornCal || b.tornFp || b.tornCtl then
    s.raise .bootFallback .device
      [(16, 1, b.reason.code), (17, 1, b2n b.slot), (18, 1, b.fails),
       (19, 1, b2n b.tornCal + 2 * b2n b.tornFp)]
  else s

/-- R513. The conditions under which the fused security version advances. -/
def State.mayBlow (s : State) : Bool :=
  s.boot.slot == s.preferredB && s.boot.fails == 0 && s.boot.advance &&
    decide (fusedSvn s.sec.svn < s.boot.imageSvn.toNat)

/-- R416, R419, R422. The start has succeeded: ACTIVE, and the count is 0. -/
def State.enterActive (s : State) : State :=
  { s with
    hub := { s.hub with mode := .active, base := .active, changing := false, target := .active },
    boot := { s.boot with stage := 0, count := 0, bgDue := true, blowing := s.mayBlow } }

/-- R416, R422. ACTIVE: the count returns to 0. -/
def State.stage9End (s : State) : State :=
  let s1 := (forAll allPorts (fun p t => t.fpStart p) s).enterActive
  let s2 := (s1.log .active 0 0 0).fallbackEvent
  forAll allPorts (fun p t => t.springResume p) s2.releaseHeld

end Sys2Proof.Machine
end

