-- ==== Sys2Proof/Machine/Boot.lean ====
section
/-! DEFINITION.
The supplies and PERST# (R399, R400, R541, R542), the PCIe link and its functions (R285, R308, R396,
R402), the start's commands (R414–R428), and Wicket's service of channel 0 (R428): the meanings of
their commands. -/

namespace Sys2Proof.Machine

/-! ## Supplies and PERST# -/

/-- POWER_ON (R399, R541): everything at its reset value, PERST# asserted. Log 32 (DEDUCED). -/
def execPowerOn (s : State) : Host.Outcome State Fault Refusal :=
  answer s
    (if s.pins.powered then s
     else
      let t := s.powerWipe
      { t with pins := { t.pins with powered := true, perst := true, lost := [] } })

/-- POWER_REMOVAL (R399, R400). -/
def execPowerRemoval (s : State) : Host.Outcome State Fault Refusal := answer s s.powerWipe

/-- PERST_ASSERT (R399, R400, R403). -/
def execPerstAssert (s : State) : Host.Outcome State Fault Refusal :=
  answer s
    (if !s.pins.powered then s
     else
      let t := s.perstWipe
      { t with pins := { t.pins with perst := true } })

/-- R414, R520. The start that follows PERST#; an unlock that PERST# has ended is reported.
Log 57 (DEDUCED). -/
def State.perstStart (s : State) : State :=
  let t := { s with pins := { s.pins with startDue := false } }.startBegin false
  if t.sec.wellUnlock then
    ({ t with sec := { t.sec with wellUnlock := false } }).security 2 0 0
  else t

/-- PERST_RELEASE (R414, R415, R531, R541): the straps are latched, and the start begins once every
rail is good. -/
def execPerstRelease (straps : BitVec 6) (s : State) : Host.Outcome State Fault Refusal :=
  answer s
    (if !s.pins.powered || !s.pins.perst then s
     else
      let t : State := { s with pins := { s.pins with perst := false, estId := straps } }
      if s.pins.lost.isEmpty then t.perstStart
      else { t with pins := { t.pins with startDue := true } })

/-- R542. A rail of the beds' main domains is lost: every bed that is on is reset behind a forced gate,
and powers up again once the rail returns. Log 32 (DEDUCED). -/
def State.bedRailLost (s : State) (b : BedId) : State :=
  if s.bedOn b then
    ((s.capStageBed b).bedReset b 2 0).modPow b fun w => { w with
      on := false, rising := false, falling := false, wanted := true, forced := true }
  else s

/-- RAIL_POWER_GOOD_LOST (R542): of rails lost in one tick the highest row of the table acts.
Log 32 (DEDUCED). -/
def execRailPowerGoodLost (rails : List Rail) (s : State) : Host.Outcome State Fault Refusal :=
  answer s
    (if !s.pins.powered then s
     else
      let all := s.pins.lost ++ rails.filter fun r => !s.pins.lost.contains r
      let t : State := { s with pins := { s.pins with lost := all } }
      if rails.any fun r => r == .aon || r == .io then
        let u := s.powerWipe
        { u with pins := { u.pins with powered := true, perst := true, lost := all } }
      else if rails.contains .core then
        let u := t.perstWipe
        { u with pins := { u.pins with startDue := !s.pins.perst } }
      else if (rails.any fun r => r == .afe || r == .ld || r == .serl || r == .serh) && s.live then
        forAll allBeds (fun b u => u.bedRailLost b) t
      else t)

/-- RAIL_POWER_GOOD_REGAINED (R541, R542): what the loss held back goes on. Log 32 (DEDUCED). -/
def execRailPowerGoodRegained (rails : List Rail) (s : State) : Host.Outcome State Fault Refusal :=
  answer s
    (if !s.pins.powered then s
     else
      let t : State := { s with pins := { s.pins with
        lost := s.pins.lost.filter fun r => !rails.contains r } }
      if t.pins.startDue && t.pins.lost.isEmpty then t.perstStart
      else if !t.live then t
      else
        let t1 := if t.bedRails then t
          else forAll allBeds (fun b u => if (u.bed b).pow.wanted then u.needBed b else u) t
        if s.pins.lost.contains .spr && !t.pins.lost.contains .spr then
          forAll allPorts (fun p u => u.springKick p) t1
        else t1)

/-! ## The PCIe link and its functions -/

/-- HOT_RESET (R308, R402, R414). -/
def execHotReset (s : State) : Host.Outcome State Fault Refusal :=
  onLive s fun s => if s.pins.link then s.hotReset else s

/-- PCIE_LINK_DOWN (R308, R370): as a hot reset. -/
def execPcieLinkDown (s : State) : Host.Outcome State Fault Refusal :=
  onLive s fun s =>
    if !s.pins.link then s
    else
      let t := s.hotReset
      { t with pins := { t.pins with link := false, training := !t.clk.reflost } }

/-- PCIE_LINK_UP (R396, R417): an endpoint that trains reaches L0. -/
def execPcieLinkUp (s : State) : Host.Outcome State Fault Refusal :=
  onLive s fun s =>
    if s.pins.training && !s.clk.reflost then
      { s with pins := { s.pins with link := true, training := false } }
    else s

/-- FLR_PF0 (R308). -/
def execFlrPf0 (s : State) : Host.Outcome State Fault Refusal :=
  onLive s fun s => if s.pins.link then s.flrPf0 else s

/-- FLR_PF1 (R308, R331, R500). -/
def execFlrPf1 (s : State) : Host.Outcome State Fault Refusal :=
  onLive s fun s => if s.pins.link then s.flrPf1 else s

/-- FLR_COMPLETE (R308). -/
def execFlrComplete (pf1 : Bool) (s : State) : Host.Outcome State Fault Refusal :=
  onLive s fun s =>
    if pf1 then { s with pins := { s.pins with flr1 := false } }
    else { s with pins := { s.pins with flr0 := false } }

/-- D3HOT_ENTRY (R285). -/
def execD3hotEntry (pf1 : Bool) (s : State) : Host.Outcome State Fault Refusal :=
  onLive s fun s =>
    if !s.pins.link then s
    else if pf1 then { s with pins := { s.pins with d3pf1 := true } }
    else { s with pins := { s.pins with d3pf0 := true } }

/-- D3HOT_EXIT (R285): the entries that waited are written, and the messages sent. -/
def execD3hotExit (pf1 : Bool) (s : State) : Host.Outcome State Fault Refusal :=
  onLive s fun s =>
    let t : State :=
      if pf1 then { s with pins := { s.pins with d3pf1 := false } }
      else { s with pins := { s.pins with d3pf0 := false } }
    let t1 := forAll (t.msixHeld.filter fun m => m.1 == pf1) (fun m u => u.message m.1 m.2)
      { t with msixHeld := t.msixHeld.filter fun m => m.1 != pf1 }
    if pf1 then State.sampleDrain 512 t1
    else
      let t2 := forAll allRings (fun r u => if isEvRing r then State.storeDrain 512 r u else u) t1
      t2.flushWb

/-! ## The start (R416–R423) -/

/-- START_STAGE_END (R416): a stage whose work is done ends. Stage 1 ends with the loop's lock.
Log 37 (DEDUCED). -/
def execStartStageEnd (o : StageObs) (s : State) : Host.Outcome State Fault Refusal :=
  onLive s fun s0 =>
    let s := s0.lateUndo
    if !s.starting then s
    else
      let n := s.boot.stage
      if n = 2 then s.stage2End o
      else if n = 3 then s.stage3End
      else if n = 4 then s.stage4End
      else if n = 5 then s.stage5End
      else if n = 6 then s.stage6End
      else if n = 7 then s.stage7End
      else if n = 8 then s.stage8End
      else if n = 9 then s.stage9End
      else s

/-- CORE_READY_REPORT (R416): Gardener in stage 6; a Tender in stage 7, after its bed's self-test.
Log 37 (DEDUCED). -/
def execCoreReadyReport (m : MasterId) (s : State) : Host.Outcome State Fault Refusal :=
  onLive s fun s =>
    let gardener := s.boot.stage == 6 && m == 2
    let tender := s.boot.stage == 7 && allBeds.any fun b =>
      m == tenderId b && s.bedOn b && (s.bed b).bist.isNone && (s.bed b).memPass
    if s.starting && (gardener || tender) && !s.boot.ready.contains m then
      { s with boot := { s.boot with ready := s.boot.ready ++ [m] } }
    else s

/-- START_STAGE_TIMEOUT (R416): the limits of stages 2 to 7. -/
def execStartStageTimeout (s : State) : Host.Outcome State Fault Refusal :=
  onLive s fun s =>
    let n := s.boot.stage
    if 2 ≤ n ∧ n ≤ 5 then s.startFail .stageTimeout
    else if n = 6 ∨ n = 7 then s.startFail .coreNoReady
    else s

/-- START_TIMEOUT (R421): an entry to ACTIVE in its tick counts as success, whichever comes first. Log 7 (DESIGN CHOICE). -/
def execStartTimeout (s : State) : Host.Outcome State Fault Refusal :=
  onLive s fun s => s.startLate

/-- FW_FATAL (R416, R427): once firmware runs in the start. Log 37 (DEDUCED). -/
def execFwFatal (s : State) : Host.Outcome State Fault Refusal :=
  onLive s fun s => if 6 ≤ s.boot.stage then s.startFail .fwFatal else s

/-- FAILED_START_RESTART (R422, R423): by device reset, once the reference is there. -/
def execFailedStartRestart (s : State) : Host.Outcome State Fault Refusal :=
  onLive s fun s => if s.boot.failed && !s.boot.waitRef then s.logFlush.deviceReset false else s

/-- SLOT_BACKGROUND_VERIFY (R511): the slot that is not running, whose failure is reported once a
start. -/
def execSlotBackgroundVerify (s : State) : Host.Outcome State Fault Refusal :=
  onLive s fun s =>
    if !s.boot.bgDue || !s.sluice.hubOn then s
    else
      let other := !s.boot.slot
      let t : State := { s with boot := { s.boot with bgDue := false } }
      let known := if other then s.sec.slotB else s.sec.slotA
      if known = .unknown then (t.verify other 0).2 else t.slotResult other (t.verifySlot other)

/-- SVN_FUSE_BLOW (R512, R513): the next bit, and after the last one EV_SECURITY. Log 38 (DEDUCED). -/
def execSvnFuseBlow (s : State) : Host.Outcome State Fault Refusal :=
  onLive s fun s =>
    let v := fusedSvn s.sec.svn
    if !s.boot.blowing then s
    else if s.boot.imageSvn.toNat ≤ v || 64 ≤ v then
      { s with boot := { s.boot with blowing := false } }
    else
      let t : State := { s with sec := { s.sec with svn := s.sec.svn ||| BitVec.ofNat 64 (2 ^ v) } }
      if s.boot.imageSvn.toNat = v + 1 then
        ({ t with boot := { t.boot with blowing := false } }).security 5 1 0
      else t

/-! ## Wicket's service of channel 0 (R377, R428) -/

/-- R428. A request waits on channel 0 and Wicket is there to serve it. -/
def State.wicketServes (s : State) : Bool :=
  (s.chan 0).outstanding && s.hub.bindLocked && s.sluice.hubOn && s.hub.mode != .dormant

/-- R428. The buffer of a request of a code is well formed. -/
def State.requestOk (s : State) (code : Byte) (buf : Bytes) : Bool :=
  decide (64 ≤ fld (s.chan 0).metaw 0 16) && decide (64 ≤ buf.length) && byteAt buf 0 == code &&
    decide ((byteAt buf 1).toNat < 2) && allZero (buf.drop 2)

/-- R376. The receiver writes into the notice's buffer. -/
def State.noticeWrite (s : State) (c : ChanId) (bs : Bytes) : State :=
  let q := s.chan c
  if bit q.ptrHi 31 then
    { s with mbxMem := memWriteBytes 0 s.mbxMem (fld q.ptrLo 0 13) bs }
  else s.hostWrite (fld q.ptrHi 0 31 * 2 ^ 32 + q.ptrLo.toNat) bs

/-- R428. A request is served: a malformed buffer, then a request outside its modes, end it at once. -/
def State.serve (s : State) (code : Byte) (seedbed : Bool) (buf : Bytes) (f : State → State) : State :=
  if !s.wicketServes then s
  else if !s.requestOk code buf then s.noticeDone 0 (BitVec.ofNat 8 ST.badParam.code)
  else if seedbed && s.hub.mode != .seedbed then s.noticeDone 0 (BitVec.ofNat 8 ST.refused.code)
  else f s

/-- SEEDBED_STATUS (R428): HUB.BOOTSTAT, HUB.FWVER, the count and the slots' results, a dword each.
Log 37 (DEDUCED). -/
def execSeedbedStatus (buf : Bytes) (s : State) : Host.Outcome State Fault Refusal :=
  onLive s fun s => s.serve 1 false buf fun s =>
    (s.noticeWrite 0 (leBytes 4 s.bootstat.toNat ++ leBytes 4 s.fwver.toNat ++
      leBytes 4 s.boot.count ++ leBytes 4 s.slotstat.toNat)).noticeDone 0 0

/-- SEEDBED_VERIFY (R428, R511). Log 38 (DEDUCED). -/
def execSeedbedVerify (buf : Bytes) (s : State) : Host.Outcome State Fault Refusal :=
  onLive s fun s => s.serve 2 false buf fun s =>
    let (r, t) := s.verify (bit (byteAt buf 1) 0) 0
    t.noticeDone 0 (if r = .verified then 0 else BitVec.ofNat 8 ST.authFail.code)

/-- SET_PREFERRED (R420, R428). Log 38 (DEDUCED). -/
def execSetPreferred (buf : Bytes) (s : State) : Host.Outcome State Fault Refusal :=
  onLive s fun s => s.serve 3 true buf fun s =>
    let slotB := bit (byteAt buf 1) 0
    let (r, t) := s.verify slotB 0
    if r = .verified then (t.bootctlWrite slotB).noticeDone 0 0
    else t.noticeDone 0 (BitVec.ofNat 8 ST.refused.code)

/-- RETRY (R428): the count is 0, the notice done, and a start begins by device reset. -/
def execRetry (buf : Bytes) (s : State) : Host.Outcome State Fault Refusal :=
  onLive s fun s => s.serve 4 true buf fun s =>
    (State.noticeDone { s with boot := { s.boot with count := 0 } } 0 0).deviceReset true

end Sys2Proof.Machine
end

