-- ==== Sys2Proof/Machine/RegAccess.lean ====
section
/-! DEFINITION.
Register accesses from outside (R8–R13, R345–R350), the fuses (R368, R473), the flash access
registers (R430) and CMD_REG_BATCH (R335): the meanings of their commands. -/

namespace Sys2Proof.Machine

/-! ## Writes -/

/-- R345. A write of a shape that is dropped sets HUB.AFAULT.BADSIZE. Log 67 (DEDUCED). -/
def State.badSizeWrite (s : State) (m : MasterId) : State :=
  if m = 0 ∨ m = 12 ∨ m = 14 ∨ m = 15 then s
  else { s with hub := { s.hub with afBadSize := s.hub.afBadSize || decide (s.hub.afClearAt ≤ s.now) } }

/-- R284, R306. A write of a dword of the MSI-X table of PF0 or PF1; no other master reaches one. -/
def State.msixStore (s : State) (m : MasterId) (off : Nat) (v : Word) : State :=
  if m = 11 then s.msixWrite false off v else if m = 12 then s.msixWrite true off v else s

/-- REGISTER_WRITE (R8, R284, R345): a write that is not a whole dword is dropped; one of an MSI-X table gives
its offset in the table. Log 62 (PRESUMED). Log 67 (DEDUCED). -/
def execRegisterWrite (m : MasterId) (addr : BitVec 26) (v : Word) (form : WriteForm) (s : State) :
    Host.Outcome State Fault Refusal :=
  onLive s fun s =>
    let a := addr.toNat / 4 * 4
    match form with
    | .whole => s.writeAt m a v fun s => s.regWriteAt m a v
    | .msix => s.msixStore m a v
    | _ => s.badSizeWrite m

/-- R349. A forced gate stands on the block of an offset. -/
def State.gateForced (s : State) (addr : Nat) : Bool :=
  match blockOf addr with
  | some k => (match blockBed k with | some b => (s.bed b).pow.forced | none => false)
  | none => false

/-- R348. The block of an offset is off for a master's access. -/
def State.blockOff (s : State) (m : MasterId) (kind : BitVec 3) (addr : Nat) : Bool :=
  match blockOf addr with
  | none => false
  | some k =>
    let isle := islandReg addr && (match k with | .port _ => true | _ => false) &&
      s.hub.mode != .boot && s.hub.mode != .seedbed
    !s.answersAt m k addr && !(kind == 1 && isle)

/-- OFF_BLOCK_ACCESS (R348–R350, R438): kinds 1 and 2 on a block that is off, 3 and 4 at a forced gate. A
read that comes while the gate of its block is closing is held. -/
def execOffBlockAccess (m : MasterId) (kind : BitVec 3) (addr : BitVec 26) (s : State) :
    Host.Outcome State Fault Refusal :=
  onLive s fun s =>
    let a := addr.toNat / 4 * 4
    if m = 0 ∨ m = 12 ∨ m = 14 ∨ m = 15 then s
    else if kind = 1 ∧ s.holding a = true then s.holdAcc m a none
    else if ((kind = 1 ∨ kind = 2) ∧ s.blockOff m kind a = true) ∨
        ((kind = 3 ∨ kind = 4) ∧ s.gateForced a = true) then s.accessFault m kind a
    else s

/-- AFAULT_CLEAR (R347, R350, R359). -/
def execAfaultClear (m : MasterId) (s : State) : Host.Outcome State Fault Refusal :=
  onLive s fun s => s.writeTo m 0x30 fun s => inNextTick (fun t => t.hubWrite 0x30 0x20000) s

/-- DSHIFT_CLEAR (R51, R65). -/
def execDshiftClear (m : MasterId) (p : PortId) (s : State) : Host.Outcome State Fault Refusal :=
  onLive s fun s => s.writeAt m (portBase p + 0x108) 0x10000 fun s =>
    inNextTick (fun t => t.dshiftWrite p 0x10000) s

/-- R254. A write of PORT.FPCTL that changes no field and sets CLEAR. -/
def State.fpClearWord (s : State) (p : PortId) : Word := (s.port p).cfg.fpctl ||| 0x20000

/-- FP_CLEAR (R252–R254). -/
def execFpClear (m : MasterId) (p : PortId) (s : State) : Host.Outcome State Fault Refusal :=
  onLive s fun s => s.writeAt m (portBase p + 0x13C) (s.fpClearWord p) fun s => inNextTick (fun t => t.fpEmpty p) s

/-- LANE_TXEQ_WRITE (R269, R280). -/
def execLaneTxeqWrite (m : MasterId) (l : LaneId) (v : Word) (s : State) :
    Host.Outcome State Fault Refusal :=
  onLive s fun s => s.writeAt m (laneBase l + 4) v fun s =>
    s.writeIn m (laneBase l + 4) v fun w t => t.txeqWrite l w

/-! ## Fuses (R328, R368, R473) -/

/-- FUSE_GO (R368, R478): a write of BED.FUSE with GO. -/
def execFuseGo (m : MasterId) (b : BedId) (v : Word) (s : State) :
    Host.Outcome State Fault Refusal :=
  onLive s fun s => s.writeAt m (bedBase b + 0x20) (v ||| 0x100) fun s =>
    s.writeIn m (bedBase b + 0x20) (v ||| 0x100) fun w t => t.fuseWrite b w

/-- R473, R478. The first fuse row of a bed that is not used. Log 41 (DESIGN CHOICE). -/
def Bed.freeRow (d : Bed) : Option (BitVec 8) :=
  ((List.range 64).find? fun i => !(d.fuses.any fun f => f.1.toNat == i)).map (BitVec.ofNat 8)

/-- R473. CMD_REPAIR_FUSE goes on with its next row, or is done; with no row left it ends. -/
def State.repairNext (s : State) (b : BedId) : State :=
  let d := s.bed b
  match d.repair with
  | none => s
  | some (k, []) => (s.modBed b fun d => { d with repair := none }).finish k (.bed b) .ok
  | some (k, w :: ws) =>
    if d.fuseBusy.isSome then s
    else match d.freeRow with
      | none => (s.modBed b fun d => { d with repair := none }).finish k (.bed b) .refused
      | some row => s.modBed b fun d => { d with
          repair := some (k, ws), fuseRow := row, fuseData := w, fuseBusy := some (row, w, true) }

/-- R368. A row's fuses after a blow: blown bits stay blown. Log 41 (DESIGN CHOICE). -/
def blowRow (fs : List (BitVec 8 × Word)) (row : BitVec 8) (w : Word) : List (BitVec 8 × Word) :=
  if fs.any fun f => f.1 == row then fs.map fun f => if f.1 = row then (row, f.2 ||| w) else f
  else fs ++ [(row, w)]

/-- FUSE_BLOW_DONE (R368, R473, R478). A row that does not read back as written holds a value that
the manual leaves open. Log 41 (DESIGN CHOICE). -/
def execFuseBlowDone (b : BedId) (readBackOk : Bool) (s : State) :
    Host.Outcome State Fault Refusal :=
  onLive s fun s =>
    match (s.bed b).fuseBusy with
    | none => s
    | some (row, w, own) =>
      let v := if readBackOk then w else BitVec.ofNat 32 (leNat (s.freeBytes 0 4))
      let s1 := if readBackOk then s else s.takeFree
      let s2 := s1.modBed b fun d => { d with
        fuses := blowRow d.fuses row v, fuseBusy := none, fuseErr := !readBackOk }
      match (s2.bed b).repair with
      | none => s2
      | some (k, _) =>
        if own && !readBackOk then
          (s2.modBed b fun d => { d with repair := none }).finish k (.bed b) .refused
        else s2.repairNext b

/-! ## Flash access registers (R430) -/

/-- R430. A write of FLASH.CTL with GO and an OP. -/
def State.flashGo (s : State) (m : MasterId) (op : Nat) (ctl : Word) : State :=
  s.writeAt m 0x40004 (setFld ctl 0 2 op ||| 0x800) fun s =>
    s.writeIn m 0x40004 (setFld ctl 0 2 op ||| 0x800) fun w t => t.flashCtl m w

/-- FLASH_READ (R430). -/
def execFlashRead (m : MasterId) (ctl : Word) (s : State) : Host.Outcome State Fault Refusal :=
  onLive s fun s => s.flashGo m 0 ctl

/-- FLASH_PROGRAM (R430). -/
def execFlashProgram (m : MasterId) (ctl : Word) (s : State) : Host.Outcome State Fault Refusal :=
  onLive s fun s => s.flashGo m 1 ctl

/-- FLASH_ERASE (R430). -/
def execFlashErase (m : MasterId) (ctl : Word) (s : State) : Host.Outcome State Fault Refusal :=
  onLive s fun s => s.flashGo m 2 ctl

/-- R418. The flash ends here; a part without a known density has 64 MiB. -/
def State.flashEnd (s : State) : Nat := if s.flash.density = 0 then 0x4000000 else 2 ^ s.flash.density.toNat

/-- R430. What the operation in progress did: flash reports failure, or it is done. What a read beyond
the part's end gives, and what a failed operation leaves, is open. -/
def State.flashDo (s : State) (o : FlashOp) (bad : Bool) : State :=
  if o.op = 2 then
    if bad then (s.flashWrite o.addr (s.freeBytes 0 0x10000)).takeFree else s.flashErase o.addr 0x10000
  else if o.op = 1 then
    if bad then (s.flashWrite o.addr (s.freeBytes 0 o.len)).takeFree
    else s.flashProgram o.addr ((s.flash.data.flatMap fun w => leBytes 4 w.toNat).take o.len)
  else
    let got (i : Nat) : Byte :=
      if bad || decide (s.flashEnd ≤ o.addr + i) then s.freeAt i else s.flashByte (o.addr + i)
    let old := s.flash.data.flatMap fun w => leBytes 4 w.toNat
    let bs := splice old 0 ((List.range o.len).map got)
    let t := if bad || decide (s.flashEnd < o.addr + o.len) then s.takeFree else s
    { t with flash := { t.flash with
      data := (List.range 64).map fun i => BitVec.ofNat 32 (leAt bs (4 * i) 4) } }

/-- FLASH_OP_DONE (R430). -/
def execFlashOpDone (deviceError : Bool) (s : State) : Host.Outcome State Fault Refusal :=
  onLive s fun s =>
    match s.flash.busy with
    | none => s
    | some o =>
      let t := s.flashDo o deviceError
      { t with flash := { t.flash with
        busy := none, done := true, err := if deviceError then 4 else 0 } }

/-! ## CMD_REG_BATCH (R335) -/

/-- R335. An entry has the form that validation asks for. -/
def entryFormed (e : RegEntry) : Bool :=
  e.offset.toNat % 4 == 0 && decide (e.offset.toNat < 0x4000000) && e.pad == 0

/-- R335, R348. The status of an entry: its block answers or not. -/
def State.entryStatus (s : State) (a : Nat) : ST :=
  match blockOf a with
  | none => .ok
  | some k => if s.answersAt 2 k a then .ok else .notPowered

/-- R373. A read of a LOCK register takes a free lock. -/
def State.readEffect (s : State) (m : MasterId) (a : Nat) : State :=
  if 0x4400 ≤ a ∧ a < 0x4600 ∧ (a - 0x4400) % 32 = 0 then
    s.lockRead [m] (Fin.ofNat 16 ((a - 0x4400) / 32))
  else s

/-- R315, R335. One entry is applied by Gardener: a read and a write of one register in one tick.
Log 40 (DEDUCED). -/
def State.applyEntry (s : State) (e : RegEntry) : State :=
  let a := e.offset.toNat
  s.writeTo 2 a fun s =>
    let t := s.readEffect 2 a
    t.regWriteAt 2 a ((t.regRead a &&& ~~~e.mask) ||| (e.value &&& e.mask))

/-- R335. The entries from place i on, one per tick, each with its STATUS byte, and then the target's
status; the accumulator says whether an entry was dropped. Log 40 (DEDUCED). -/
def State.applyBatch (k : CmdKey) (buf : Nat) : Nat → Bool → List RegEntry → State → State
  | _, dropped, [], s => s.finish k .device (if dropped then .notPowered else .ok)
  | i, dropped, e :: es, s =>
    let st := s.entryStatus e.offset.toNat
    let u := (s.applyEntry e).hostWrite (buf + 16 * i + 12) [BitVec.ofNat 8 st.code]
    inNextTick (State.applyBatch k buf (i + 1) (dropped || st != .ok) es) u

/-- CMD_REG_BATCH (R335). Log 40 (DEDUCED). -/
def execCmdRegBatch (h : CmdHdr) (buf : BitVec 64) (entries : List RegEntry) (s : State) :
    Host.Outcome State Fault Refusal :=
  onLive s fun s =>
    s.runCmd h .regBatch
      (decide (1 ≤ entries.length) && decide (entries.length ≤ 4096) && entries.all entryFormed)
      false false fun k _ _ t => State.applyBatch k buf.toNat 0 false entries t

end Sys2Proof.Machine
end

