-- ==== Sys2Proof/Machine/CalBist.lean ====
section
/-! DEFINITION.
Calibration, self-test and repair (R325–R328, R452–R475): the meanings of their commands. -/

namespace Sys2Proof.Machine

/-! ## Calibration (R325, R326, R456, R460, R463) -/

/-- R325. GROUPS, where 0 selects all four. -/
def groupsOf (g : Byte) : BitVec 4 := if g = 0 then 0xF else g.setWidth 4

/-- R325, R463. A device run waits for its beds. -/
def State.calWaits (s : State) : Bool := s.hub.changing && s.hub.target == DevMode.calibrate

/-- R463. A run is on some bed, or waits for its beds. Log 43 (DEDUCED). -/
def State.calGoing (s : State) : Bool :=
  s.calWaits || allBeds.any fun b => (s.bed b).cal.isSome

/-- R325, R463. The target of a bed. -/
def State.calRunBed (s : State) (k : CmdKey) (b : BedId) (g : BitVec 4) : State :=
  if s.bedTest b || s.calWaits || s.calWhole then s.finish k (.bed b) .busy
  else if !s.bedDisabled b then s.finish k (.bed b) .refused
  else inNextTick (fun t => ((t.calBegin b (some k) g false).bedIsolate b).testMode) s

/-- R325, R433. The device target: CALIBRATE once every bed's main domain is on. Log 43 (DEDUCED). -/
def State.calRunDevice (s : State) (k : CmdKey) (g : BitVec 4) : State :=
  if s.hub.changing || s.calGoing || allBeds.any s.bedTest then s.finish k .device .busy
  else if !(allBeds.all s.bedDisabled) then s.finish k .device .refused
  else
    let mark (r : CmdRec) : CmdRec := if r.is k then { r with arg := g.setWidth 8 } else r
    let t := { s with cmds := s.cmds.map mark,
                      hub := { s.hub with changing := true, target := .calibrate } }
    inNextTick State.calRunGo (forAll allBeds (fun b u => u.needBed b) t)

/-- CMD_CAL_RUN (R325). -/
def execCmdCalRun (h : CmdHdr) (groups : Byte) (s : State) : Host.Outcome State Fault Refusal :=
  onLive s fun s =>
    s.runCmd h .calRun (decide (groups.toNat < 16)) true true fun k _ e s =>
      match e with
      | .bed b => s.calRunBed k b (groupsOf groups)
      | _ => s.calRunDevice k (groupsOf groups)

/-- R429. The calibration of a start ends on its last bed: the results are stored, or the start
fails. -/
def State.startCalEnd (s : State) : State :=
  if allBeds.any fun b => (s.bed b).cal.isSome then s
  else if allBeds.all fun b => (s.bed b).calFail == 0 then s.calStoreBegin none
  else s.startFail .calFail

/-- CAL_RUN_END (R325, R429, R433, R456): pass holds the groups whose criteria are met, block the
corrections that the run has found. -/
def execCalRunEnd (b : BedId) (pass : BitVec 4) (block : Bytes) (s : State) :
    Host.Outcome State Fault Refusal :=
  onLive s fun s =>
    match (s.bed b).cal with
    | none => s
    | some r =>
      let s1 := ((s.calResult b r pass block).bedRelease b).modeAfterTest
      if r.key.isNone then s1.startCalEnd else (s1.calModeEnd).calTarget b r

/-- CMD_CAL_STORE (R326, R460, R463). Log 42 (DEDUCED). -/
def execCmdCalStore (h : CmdHdr) (s : State) : Host.Outcome State Fault Refusal :=
  onLive s fun s =>
    s.runCmd h .calStore true false false fun k _ e s =>
      if s.calGoing || s.cal.store.isSome then s.finish k e .busy
      else if (allBeds.all fun b => (s.bed b).calPend == 0) ||
          allBeds.any (fun b => (s.bed b).calFail != 0) then s.finish k e .refused
      else s.calStoreBegin (some k)

/-- CAL_STORE_COMPLETE (R416, R460): DIGEST is written. Log 42 (DEDUCED). -/
def execCalStoreComplete (s : State) : Host.Outcome State Fault Refusal :=
  onLive s fun s =>
    match s.cal.store with
    | none => s
    | some c =>
      match s.calDigestWrite c with
      | (false, t) => t
      | (true, t) =>
        match c.key with
        | some k => t.finish k .device .ok
        | none => if t.starting then t.stageTo 9 else t

/-! ## Self-test (R327, R467–R474) -/

/-- R327, R470. A run of the kinds on a list of beds. -/
def State.bistGo (s : State) (k : CmdKey) (kinds : Byte) (bs : List BedId) : State :=
  forAll bs (fun b t => t.bistBegin b (some k) (kindsOf kinds)) s.testMode

/-- R26, R327, R475. What stops a run on a list of beds. Log 43 (DEDUCED). -/
def State.bistBar (s : State) (bs : List BedId) : Option ST :=
  if !(bs.all s.bedOn) then some .notPowered
  else if bs.any s.bedTest || s.calWaits then some .busy
  else if bs.all s.bedDisabled then none else some .refused

/-- CMD_BIST_RUN (R327). Log 43 (DEDUCED). -/
def execCmdBistRun (h : CmdHdr) (kinds : Byte) (s : State) : Host.Outcome State Fault Refusal :=
  onLive s fun s =>
    s.runCmd h .bistRun (kinds != 0 && decide (kinds.toNat < 32)) true true fun k _ e s =>
      let bs := match e with | .bed b => [b] | _ => allBeds
      match s.bistBar bs with
      | some st => s.finish k e st
      | none => inNextTick (fun t => t.bistGo k kinds bs) s

/-- R474, R479. A kind of the hub stops in stage 4: LOGIC, then MEMORY. -/
def State.hubKindStop (s : State) (o : BistObs) : State :=
  let judge (v : Verdict) (t : State) : State :=
    match v with
    | .fail => t.startFail .hubBistFail
    | .aborted => t.startFail .stageTimeout
    | _ => t
  if !s.starting || s.boot.stage != 4 then s
  else if s.boot.hubLogic = .notRun then
    let v := verdictOf .logic true o
    judge v { s with boot := { s.boot with hubLogic := v } }
  else if s.boot.hubMemory = .notRun then
    let v := verdictOf .memory true o
    let n := if v = .aborted then s.boot.hubRepairs else min 255 o.alloc.length
    judge v { s with boot := { s.boot with hubMemory := v, hubRepairs := n } }
  else s

/-- R470, R474. A kind of a bed's run stops; in a start a verdict other than PASS fails it. -/
def State.bedKindStop (s : State) (b : BedId) (o : BistObs) : State :=
  match (s.bed b).bist with
  | none => s
  | some r =>
    match r.left with
    | [] => s
    | k :: rest =>
      let v := verdictOf k false o
      let t := s.kindStop b r k rest v (if k = .memory then o.alloc else [])
      if r.key.isSome then t
      else match v with
        | .fail => t.startFail .bedBistFail
        | .aborted => t.startFail .stageTimeout
        | _ => t

/-- BIST_KIND_STOP (R468, R474): the first kind left of the bed's run, or of the hub's own.
Log 6 (DESIGN CHOICE). -/
def execBistKindStop (bed : Option BedId) (o : BistObs) (s : State) :
    Host.Outcome State Fault Refusal :=
  onLive s fun s =>
    match bed with
    | none => s.hubKindStop o
    | some b => s.bedKindStop b o

/-- BIST_REINIT_END (R470). -/
def execBistReinitEnd (b : BedId) (s : State) : Host.Outcome State Fault Refusal :=
  onLive s fun s =>
    match (s.bed b).bist with
    | none => s
    | some r => if r.reinit then s.bistReturn b r else s

/-- BIST_REINIT_TIMEOUT (R470): Gardener resets the bed. -/
def execBistReinitTimeout (b : BedId) (s : State) : Host.Outcome State Fault Refusal :=
  onLive s fun s =>
    match (s.bed b).bist with
    | none => s
    | some r => if r.reinit then s.bedReset b 2 0 else s

/-! ## Repair (R328, R473, R475) -/

/-- R473. The entries of a bed's soft-repair map that no fuse already holds; a rejected row
is used for nothing. Log 69 (DESIGN CHOICE). -/
def Bed.toBlow (d : Bed) : List Word := d.softMap.filter fun w => !(d.fuses.any fun f =>
  f.2 == w && !fuseRejected f.2)

/-- R328, R475. The target of CMD_REPAIR_FUSE. -/
def State.repairBed (s : State) (k : CmdKey) (b : BedId) : State :=
  let d := s.bed b
  let memory := match d.bist with
    | some r => r.left.head? == some BKind.memory
    | none => false
  if memory || d.repair.isSome then s.finish k (.bed b) .busy
  else if !d.memPass || d.softMap.isEmpty || decide (64 - d.fuses.length < d.toBlow.length) ||
      !s.bedDisabled b then s.finish k (.bed b) .refused
  else
    let ws := d.toBlow
    inNextTick (fun t => (t.modBed b fun d => { d with repair := some (k, ws) }).repairNext b) s

/-- CMD_REPAIR_FUSE (R328). -/
def execCmdRepairFuse (h : CmdHdr) (confirm : Word) (s : State) :
    Host.Outcome State Fault Refusal :=
  onLive s fun s =>
    s.runCmd h .repairFuse (confirm == 0x46555345) true false fun k _ e s =>
      match e with
      | .bed b => s.repairBed k b
      | _ => s

end Sys2Proof.Machine
end

