-- ==== Sys2Proof/Machine/Clock.lean ====
section
/-! DEFINITION.
The clocks (R386–R398), the Tender watchdog (R399), the temperature sensors (R552) and the estate's
tick (R340, R405–R407): the meanings of their commands. -/

namespace Sys2Proof.Machine

/-! ## The main loop (R389, R394–R398, R423) -/

/-- LOOP_FIRST_LOCK (R389): the tick counter starts at 0 and the clock monitor is armed. -/
def execLoopFirstLock (s : State) : Host.Outcome State Fault Refusal :=
  onLive s fun s =>
    if s.clk.lock || s.clk.armed then s
    else
      (State.stage1End { s with clk := { s.clk with lock := true, armed := true } }).refBack

/-- LOOP_LOCK_TIMEOUT (R389): 200 µs without a lock fail the start; the loop keeps trying.
Log 7 (DESIGN CHOICE). -/
def execLoopLockTimeout (s : State) : Host.Outcome State Fault Refusal :=
  onLive s fun s => if !s.clk.lock && s.boot.stage = 1 then s.startFail .refclkAbsent else s

/-- R398. An event of the port's link that the trip's tick holds. -/
def State.heldEv (s : State) (p : PortId) (c : Ev) : Bool :=
  s.due.any fun e => e.time == s.now && e.src == .port p && e.code == c

/-- R344, R398. EV_LINK_DOWN with cause CLOCK in place of the cause it was raised with. -/
def clockCause (e : Event) : Event :=
  let n := Down.clock.code + fld e.data 8 8 * 2 ^ 8 + fld e.data 32 32 * 2 ^ 32
  { e with data := BitVec.ofNat 128 n }

/-- R395, R398. A link that is or was in this tick UP or STILL goes down with cause CLOCK.
Log 35 (DEDUCED). -/
def State.tripLink (s : State) (p : PortId) : State :=
  let q := s.port p
  let s1 := s.unraise fun e => e.src != .port p || decide (e.code.cls ≤ 4) || decide (8 ≤ e.code.cls)
  let told := q.line.closing == .closeDown && !q.line.downDue
  let s2 :=
    if s.heldEv p .linkDown then
      { s1 with due := s1.due.map fun e =>
          if e.time == s.now && e.src == .port p && e.code == .linkDown then clockCause e else e }
    else if told || q.link.after = .dormant then s1
    else s1.linkDown p .clock 0 .none .none
  let s3 := s2.modLink p fun l => { l with downs := l.downs.filter fun d => decide (d.2 ≠ s.now) }
  let s4 := match q.link.after with
    | .disabled => s3.disableDone p
    | .dormant => s3.toDormant p
    | _ => if q.dorm.noticeWait then s3.toDormant p else s3.toListening p
  s4.finishOp .retrain (.port p) .ok

/-- R395. A port at the trip, by its state. Log 35 (DEDUCED). -/
def State.tripPort (s : State) (p : PortId) : State :=
  let t := s.diagAbort p
  let q := t.port p
  if q.ls = .up || q.link.state = .still || t.heldEv p .linkDown || t.heldEv p .pairSpared then
    t.tripLink p
  else match q.link.state with
    | .training =>
      (match q.link.after with
       | .disabled => t.disableDone p
       | .dormant => t.toDormant p
       | _ => t.toListening p)
    | .listening => t.modLink p fun l => { l with
        held := true, c28 := false, c28Held := false, window := false }
    | .test =>
      (match q.loop, q.grant with
       | some l, _ => (t.loopDrop p).testReturn p (if l.prior = .disabled then .disabled else .listening)
       | none, some _ => t.grantEnd p
       | none, none => t.testReturn p .disabled)
    | _ => t

/-- R208, R395. A channel at the trip: muted, out of PARTNERED, and nothing received any more. -/
def State.tripSpring (s : State) (p : PortId) : State :=
  if (s.port p).spring.sstate = .off then s
  else (s.springLose p .clock).modSpring p fun g => { g with
    cur := none, body := [], rxBusy := false, rxHdr := none }

/-- R390, R395. A bed at the trip: its runs end, its blocks are gated by force and its PLLs
unlocked. -/
def State.tripBed (s : State) (b : BedId) : State :=
  let t := (s.runDrop b .abortedReset).modPow b fun w => { w with
    lineLock := false, laneLock := [false, false], forced := w.on }
  forAll (lanesOf b) (fun l u => u.modLane l fun x =>
    { x with locked := false, idle := true, adapting := true }) t

/-- CLOCK_MONITOR_TRIP (R394, R395, R397, R398). Log 35 (DEDUCED). -/
def execClockMonitorTrip (s : State) : Host.Outcome State Fault Refusal :=
  onLive s fun s =>
    if !s.clk.armed || s.clk.coast then s
    else
      let s1 : State := { s with clk := { s.clk with
        lock := false, coast := true, reflost := true, reacq := false, synced := false,
        tripTick := s.clk.tick, coastTicks := 0 } }
      let s2 := (s1.raise .reflost .device [(16, 1, 1)]).log .reflost 0 0 0
      let s3 := forAll allBeds (fun b t => t.tripBed b) s2
      let s4 := forAll allPorts (fun p t => t.tripPort p) s3
      let s5 := forAll allPorts (fun p t => t.tripSpring p) s4
      s5.startFail .refclkLost

/-- REFCLK_EDGES_RESUMED (R396): 1,000 good edges begin reacquisition. -/
def execRefclkEdgesResumed (s : State) : Host.Outcome State Fault Refusal :=
  onLive s fun s => { s with clk := { s.clk with reacq := s.clk.coast } }

/-- REACQUIRE_EDGE_MISSING (R396): back to the floor, with no new event. -/
def execReacquireEdgeMissing (s : State) : Host.Outcome State Fault Refusal :=
  onLive s fun s => { s with clk := { s.clk with reacq := false } }

/-- R344, R396. COAST_US: coast ticks at the nominal floor, 112.5 a microsecond. -/
def coastUs (n : Nat) : Nat := sat (n * 2 / 225)

/-- R396. Bed n restarts after coast. Log 20 (DEDUCED). -/
def State.relockBed (s : State) (b : BedId) : State :=
  s.modPow b fun w => { w with forced := w.forced && w.inReset, lineLock := w.on && !w.inReset }

/-- R393, R396, R552. A port held in LISTENING: line activity is possible again. Log 64 (DEDUCED). -/
def State.lineRelease (s : State) (p : PortId) : State :=
  let l := (s.port p).link
  if l.state = .listening && l.held && !s.lineHeld p then
    let t := s.modLink p fun l => { l with held := false }
    if l.window || l.c28Held then t else t.c28Start p
  else s

/-- LOOP_RELOCK (R396, R423): the episode ends, and the line-side restart follows. -/
def execLoopRelock (s : State) : Host.Outcome State Fault Refusal :=
  onLive s fun s =>
    if !s.clk.coast || !s.clk.reacq then s
    else
      let s1 : State := { s with
        clk := { s.clk with lock := true, coast := false, reflost := false, reacq := false },
        pins := { s.pins with training := s.pins.training || !s.pins.link } }
      let s2 := s1.raise .reflost .device
        [(16, 1, 0), (20, 4, coastUs s.clk.coastTicks), (24, 8, s.clk.tripTick.toNat)]
      let s3 := forAll allBeds (fun b t => t.relockBed b) s2
      let s4 := forAll allPorts (fun p t =>
        if t.pst p = .listening && (t.port p).link.held then t.toListening p
        else t.springResume p) s3
      (s4.stage1End).refBack

/-! ## Bed PLLs (R390–R393) -/

/-- R393. A port of a bed whose line PLL loses lock; what it goes on to waits for the relock.
Log 35 (DEDUCED). -/
def State.pllLostPort (s : State) (p : PortId) : State :=
  let q := s.port p
  let t :=
    if q.ls = .up || q.link.state = .still then s.critDown p .framingLost
    else match q.link.state with
      | .training =>
        if q.train.abortLeft ≠ 0 then s.afterTrain p
        else (s.modTrain p fun x => { x with silent := true }).trainFail p .lockLost true
      | .listening => s.modLink p fun l => { l with held := true, c28 := false }
      | _ => s
  if t.pst p = .training then t.modTrain p fun x => { x with waitPll := true } else t

/-- LINE_PLL_LOCK_LOST (R393). -/
def execLinePllLockLost (b : BedId) (s : State) : Host.Outcome State Fault Refusal :=
  onLive s fun s =>
    let w := (s.bed b).pow
    if !w.on || !w.lineLock then s
    else
      let t := s.modPow b fun w => { w with lineLock := false, pllReset := false }
      forAll (portsOf b) (fun p u => u.pllLostPort p) t

/-- LINE_PLL_RELOCK (R390, R393): the PLL locks, and the bed's ports go on. -/
def execLinePllRelock (b : BedId) (s : State) : Host.Outcome State Fault Refusal :=
  onLive s fun s =>
    let w := (s.bed b).pow
    if !w.on || w.lineLock || s.clk.reflost then s
    else
      let t := s.modPow b fun w => { w with lineLock := true, pllReset := false }
      forAll (portsOf b) (fun p u =>
        (u.modTrain p fun x => { x with waitPll := false }).lineRelease p) t

/-- LINE_PLL_RELOCK_TIMEOUT (R393): Gardener resets the bed, once for a loss. -/
def execLinePllRelockTimeout (b : BedId) (s : State) : Host.Outcome State Fault Refusal :=
  onLive s fun s =>
    let w := (s.bed b).pow
    if !w.on || w.lineLock || w.pllReset || w.inReset || s.clk.reflost then s
    else (s.bedReset b 2 0).modPow b fun w => { w with pllReset := true }

/-- LINE_PLL_POST_RESET_TIMEOUT (R30, R393). -/
def execLinePllPostResetTimeout (b : BedId) (s : State) : Host.Outcome State Fault Refusal :=
  onLive s fun s =>
    let w := (s.bed b).pow
    if !w.on || w.lineLock || !w.pllReset then s
    else
      forAll (portsOf b) (fun p t =>
        let st := if (t.port p).inReset then (t.port p).resume else t.pst p
        if st = .disabled || st = .dormant || st = .test || st = .fault then t
        else (t.toFault p .linePll).modPort p fun q => { q with resume := .fault }) s

/-- STEER_STEP (R392): one step of 0.001 ppm toward the target. -/
def execSteerStep (b : BedId) (s : State) : Host.Outcome State Fault Refusal :=
  onLive s fun s =>
    let target := (s.clk.steer.getD b.val 0).toInt
    let w := (s.bed b).pow
    if !w.on || !w.lineLock then s
    else s.modPow b fun w => { w with steerNow :=
      if w.steerNow < target then w.steerNow + 1
      else if target < w.steerNow then w.steerNow - 1 else w.steerNow }

/-! ## The Tender watchdog (R399, R402, R403) -/

/-- TENDER_WATCHDOG_EXPIRY (R399): the core is reset, or at the second firing within 1 s its bed.
Log 35 (DEDUCED). -/
def execTenderWatchdogExpiry (b : BedId) (s : State) : Host.Outcome State Fault Refusal :=
  onLive s fun s =>
    let w := (s.bed b).pow
    if !w.on || !w.tender || w.inReset then s
    else
      let again := match w.wdogAt with
        | some t => decide (s.now - t < Config.tk1s)
        | none => false
      if again then (s.bedReset b 2 0).modPow b fun w => { w with wdogAt := none }
      else
        ((s.modPow b fun w => { w with wdogAt := some s.now }).resetEvent (.bed b) 3 0).tenderReset b

/-! ## Temperature (R30, R552) -/

/-- R552. 120 °C and 100 °C in units of 0.25 °C. -/
def tempHot (t : BitVec 12) : Bool := decide (480 ≤ t.toInt)
def tempCool (t : BitVec 12) : Bool := decide (t.toInt ≤ 400)

/-- R30, R552. The third trip within 60 s: the ports go to FAULT in the tick of the bed's reset.
Log 34 (DEDUCED). -/
def State.thermalFault (s : State) (b : BedId) : State :=
  let ps := (portsOf b).filter fun p =>
    match (if (s.port p).inReset then (s.port p).resume else s.pst p) with
    | .disabled => false
    | .dormant => false
    | .test => false
    | .fault => false
    | _ => true
  let s1 := forAll ps (fun p t => t.toFault p .thermal) s
  let evs := s1.due.filter fun e => e.time == s.now && e.code == .linkDown &&
    fld e.data 0 8 == Down.portFault.code && (match e.src with | .port p => ps.contains p | _ => false)
  let s2 := s1.bedReset b 2 0
  let s3 := forAll ps (fun p t => t.modPort p fun q => { q with
    resume := .fault, link := { q.link with state := .fault, freason := .thermal } }) s2
  { s3 with due := evs.foldl (fun l e => insertEv e l) s3.due }

/-- R552. A bed trips. Log 34 (DEDUCED). -/
def State.bedTrip (s : State) (b : BedId) : State :=
  let old := (s.bed b).tripAt.filter fun t => decide (s.now - t < Config.tk60s)
  let t := s.modBed b fun d => { d with
    trips := min 255 (d.trips + 1), tripAt := old ++ [s.now], tempHeld := true }
  if !t.bedOn b then t
  else if 2 ≤ old.length then t.thermalFault b
  else t.bedReset b 2 0

/-- R552. A bed's sensor is sampled. Log 34 (DEDUCED). -/
def State.bedSample (s : State) (b : BedId) (v : BitVec 12) : State :=
  let d := s.bed b
  let t := s.modBed b fun d => { d with
    temp := v, tempValid := true, hotRun := tempHot v,
    tempHeld := d.tempHeld && !tempCool v }
  if tempHot v && d.hotRun && !d.tempHeld then t.bedTrip b
  else if d.tempHeld && tempCool v then forAll (portsOf b) (fun p u => u.lineRelease p) t
  else t

/-- TEMP_SAMPLE (R552): beds 0 to 7, then the hub, whose trip is a device reset.
Log 6 (DESIGN CHOICE). Log 34 (DEDUCED). -/
def execTempSample (temps : List (BitVec 12)) (s : State) : Host.Outcome State Fault Refusal :=
  onLive s fun s =>
    let hv := temps.getD 8 0
    let hub (s : State) (trips : Nat) : State := { s with hub := { s.hub with
      temp := hv, tempValid := true, hotRun := tempHot hv, trips := trips } }
    if tempHot hv && s.hub.hotRun then
      let t := forAll allBeds (fun b u => u.modBed b fun d => { d with
        temp := temps.getD b.val 0, hotRun := tempHot (temps.getD b.val 0) }) s
      (State.deviceReset { t with hub := { t.hub with
        temp := hv, hotRun := false, trips := min 255 (t.hub.trips + 1) } } false)
    else forAll allBeds (fun b t => t.bedSample b (temps.getD b.val 0)) (hub s s.hub.trips)

/-! ## The estate (R340, R405–R407) -/

/-- R406. The tick counter is loaded. -/
def State.tickLoad (s : State) (v : BitVec 64) : State :=
  { s with clk := { s.clk with tick := v, synced := true } }

/-- ESYNC_EDGE (R405, R406): an edge, which an armed FOLLOW takes; the input is high.
Log 36 (DEDUCED). -/
def execEsyncEdge (s : State) : Host.Outcome State Fault Refusal :=
  onLive s fun s =>
    let t : State := { s with clk := { s.clk with esyncAt := some s.now } }
    match s.clk.follow with
    | none => t
    | some (k, v) =>
      if s.clk.followAt < s.now then
        (State.tickLoad { t with clk := { t.clk with follow := none } } (v + s.clk.comp.setWidth 64)).finish k
          .device .ok
      else t

/-- ESYNC_FOLLOW_TIMEOUT (R340). -/
def execEsyncFollowTimeout (s : State) : Host.Outcome State Fault Refusal :=
  onLive s fun s =>
    match s.clk.follow with
    | none => s
    | some (k, _) =>
      State.finish { s with clk := { s.clk with follow := none } } k .device .timeout

/-- ESTATE_SYNC_FOLLOW (R340, R406): arms from the tick after its start. Log 36 (DEDUCED). -/
def execEstateSyncFollow (h : CmdHdr) (timeoutMs : Word) (value : BitVec 64) (s : State) :
    Host.Outcome State Fault Refusal :=
  onLive s fun s =>
    s.runCmd h .estateSync (decide (1 ≤ timeoutMs.toNat) && decide (timeoutMs.toNat ≤ 10000))
      false false fun k _ e t =>
        if t.clk.follow.isSome then t.finish k e .busy
        else { t with clk := { t.clk with follow := some (k, value), followAt := t.now } }

/-- ESTATE_SYNC_LEAD (R340, R405, R406): the edge leaves, and the counter takes VALUE in its tick.
Log 36 (DEDUCED). -/
def execEstateSyncLead (h : CmdHdr) (timeoutMs : Word) (value : BitVec 64) (s : State) :
    Host.Outcome State Fault Refusal :=
  onLive s fun s =>
    s.runCmd h .estateSync (timeoutMs == 0) false false fun k _ e t =>
      if t.clk.follow.isSome then t.finish k e .busy
      else t.doneNext k e fun u =>
        { u.tickLoad value with clk := { (u.tickLoad value).clk with leadPulse := true } }

/-- ESYNC_LEAD_PULSE_END (R405): ESYNC_OUT forwards ESYNC_IN again. -/
def execEsyncLeadPulseEnd (s : State) : Host.Outcome State Fault Refusal :=
  onLive s fun s => { s with clk := { s.clk with leadPulse := false } }

end Sys2Proof.Machine
end

