-- ==== Sys2Proof/Machine/DiagFam.lean ====
section
/-! DEFINITION.
CMD_DIAG_RUN, the ends of its tests, and the DIAG frames by which two ends keep a line quiet and
send a sweep (R232–R245, R323). -/

namespace Sys2Proof.Machine

/-! ## CMD_DIAG_RUN (R232–R234, R323) -/

/-- R232. NVP as it is used. -/
def nvpUse (n : BitVec 16) : BitVec 16 :=
  if 500 ≤ n.toNat ∧ n.toNat ≤ 900 then n else 700

/-- R232, R233, R243. A port takes its place in a run: PASSIVE begins at once in the states that have
it. -/
def State.diagStart (s : State) (k : CmdKey) (p : PortId) (tests : Byte) (nvp : BitVec 16)
    (addr : Nat) : State :=
  let q := s.port p
  let want := allTests.filter fun t => bit tests t.bit
  let d : Diag := { key := k, addr := addr, tests := tests, nvp := nvpUse nvp, left := want,
                    prior := q.link.state, pstate := q.link.state, deskew := q.link.skew, rung := if q.linked then q.link.rung else 0,
                    partner := q.spring.capId, start := s.clk.tick,
                    pairs := [{}, {}, {}, {}] }
  let d1 : Diag := match want with
    | .passive :: rest =>
      if !q.linked then { (d.record .passive tsWrongState) with left := rest }
      else if q.link.rung = 1 then { (d.record .passive tsUnsupported) with left := rest }
      else { d with begun := true }
    | _ => d
  s.modPort p fun q => { q with diag := some d1 }

/-- R234. CMD_DIAG_RUN on a port. -/
def State.diagPort (s : State) (k : CmdKey) (idx : Nat) (p : PortId) (tests : Byte)
    (nvp : BitVec 16) (buf : BitVec 64) : State :=
  let q := s.port p
  if q.diag.isSome || q.link.state == .test then s.finish k (.port p) .busy
  else inNextTick (fun t => t.diagStart k p tests nvp (buf.toNat + 512 * idx)) s

/-- CMD_DIAG_RUN (R323): the first port of each bed takes its turn once PASSIVE is over. -/
def execCmdDiagRun (h : CmdHdr) (tests : Byte) (nvp : BitVec 16) (buf : BitVec 64) (s : State) :
    Host.Outcome State Fault Refusal :=
  onLive s fun s =>
    let ok := tests != 0 && fld tests 5 3 == 0
    let t := s.runCmd h .diagRun ok true true fun k i e s => onPort e (fun p s =>
      s.diagPort k i p tests nvp buf) s
    inNextTick (fun u => u.diagGo (CmdHdr.key h s.acts)) t

/-- R235–R241. A test's measurements, in a run that has begun it. -/
def Diag.measure (d : Diag) (t : DTest) (outcome : Byte) (o : DiagObs) : Diag :=
  let d1 := if o.energySeen then { d with flags := d.flags ||| 0x10 } else d
  if outcome = tsOk then { (d1.fill t o) with category := o.category } else d1

/-- DIAG_TEST_END (R233, R237, R245): OK, INTERFERED or TIMEOUT. -/
def execDiagTestEnd (p : PortId) (outcome : Byte) (o : DiagObs) (s : State) :
    Host.Outcome State Fault Refusal :=
  onLive s fun s =>
    match (s.port p).diag with
    | none => s
    | some d =>
      match d.left with
      | [] => s
      | t :: _ =>
        let able := outcome == tsOk || outcome == tsInterfered || outcome == tsTimeout
        if !d.begun || d.waitAck || d.sweep || !able then s
        else (s.modPort p fun q => { q with diag := some (d.measure t outcome o) }).diagDone p outcome

/-! ## The requester's frames and limits (R236, R241) -/

/-- R236. Granted or not, the active tests run. -/
def State.quietOver (s : State) (p : PortId) (granted : Bool) : State :=
  match (s.port p).diag with
  | some d =>
    if d.waitAck then
      ((s.modPort p fun q => { q with diag := some { d with
        waitAck := false, flags := if granted then d.flags ||| 3 else d.flags } }).diagBegin p).diagGo d.key
    else s
  | none => s

/-- QUIET_ACK (R236, R240). -/
def execQuietAck (p : PortId) (payload : Bytes) (s : State) : Host.Outcome State Fault Refusal :=
  onLive s fun s => s.rxPartnered p .diag payload fun s =>
    if byteAt payload 0 = 2 then s.quietOver p (payload.length == 2 && byteAt payload 1 == 0) else s

/-- QUIET_ACK_WAIT_EXPIRY (R236). -/
def execQuietAckWaitExpiry (p : PortId) (s : State) : Host.Outcome State Fault Refusal :=
  onLive s fun s => s.quietOver p false

/-- R241. IL is in progress; acked says that the sweep has been granted. -/
def Port.ilRuns (q : Port) (acked : Bool) : Bool :=
  match q.diag with
  | some d => d.begun && d.sweep == !acked && (match d.left with | .il :: _ => true | _ => false)
  | none => false

/-- SWEEP_ACK (R240, R241). -/
def execSweepAck (p : PortId) (payload : Bytes) (s : State) : Host.Outcome State Fault Refusal :=
  onLive s fun s => s.rxPartnered p .diag payload fun s =>
    if byteAt payload 0 != 4 || !(s.port p).ilRuns false then s
    else if payload.length = 2 && byteAt payload 1 = 0 then
      s.modPort p fun q => { q with diag := q.diag.map fun d => { d with sweep := false } }
    else s.diagDone p tsRefused

/-- SWEEP_ACK_TIMEOUT (R241). -/
def execSweepAckTimeout (p : PortId) (s : State) : Host.Outcome State Fault Refusal :=
  onLive s fun s => if (s.port p).ilRuns false then s.diagDone p tsRefused else s

/-- SWEEP_RECEIVE_TIMEOUT (R241). -/
def execSweepReceiveTimeout (p : PortId) (s : State) : Host.Outcome State Fault Refusal :=
  onLive s fun s => if (s.port p).ilRuns true then s.diagDone p tsTimeout else s

/-- SWEEP_DONE (R241): acknowledged; the requester computes IL from what it has measured. -/
def execSweepDone (p : PortId) (s : State) : Host.Outcome State Fault Refusal :=
  onLive s fun s => s.rxPartnered p .diag [5] fun s => s

/-! ## The granting end (R240–R242) -/

/-- R241, R242. The port can grant. -/
def Port.canGrant (q : Port) : Bool := q.link.state == .disabled || q.link.state == .listening

/-- R241, R242. A grant: the port holds TEST. -/
def State.grantGo (s : State) (p : PortId) (highz : Bool) (sweep : Option Nat) : State :=
  let prior := s.pst p
  (s.enterTest p).modPort p fun q => { q with
    grant := some { highz := highz, sweepMs := sweep, sending := false, prior := prior } }

/-- QUIET_REQ (R240, R242): a malformed request is refused as unsupported. -/
def execQuietReq (p : PortId) (payload : Bytes) (s : State) : Host.Outcome State Fault Refusal :=
  onLive s fun s => s.rxPartnered p .diag payload fun s =>
    let ms := (byteAt payload 1).toNat
    if byteAt payload 0 != 1 then s
    else if payload.length < 3 || ms = 0 || 250 < ms || fld (byteAt payload 2) 1 7 != 0 then
      s.springDiag p [2, 2]
    else if !(s.port p).canGrant then s.springDiag p [2, 1]
    else (s.grantGo p (bit (byteAt payload 2) 0) none).springDiag p [2, 0]

/-- SWEEP_REQ (R240, R241). -/
def execSweepReq (p : PortId) (payload : Bytes) (s : State) : Host.Outcome State Fault Refusal :=
  onLive s fun s => s.rxPartnered p .diag payload fun s =>
    let ms := (byteAt payload 1).toNat
    if byteAt payload 0 != 3 then s
    else if payload.length < 2 || ms < 4 || 64 < ms then s.springDiag p [4, 2]
    else if !(s.port p).canGrant then s.springDiag p [4, 1]
    else (s.grantGo p false (some ms)).springDiag p [4, 0]

/-- R242. A granted quiet is in force. -/
def Port.quietHeld (q : Port) : Bool :=
  match q.grant with
  | some g => g.sweepMs.isNone
  | none => false

/-- END (R240, R242). -/
def execDiagEnd (p : PortId) (s : State) : Host.Outcome State Fault Refusal :=
  onLive s fun s => s.rxPartnered p .diag [6] fun s =>
    if (s.port p).quietHeld then s.grantEnd p else s

/-- QUIET_DURATION_EXPIRY (R242). -/
def execQuietDurationExpiry (p : PortId) (s : State) : Host.Outcome State Fault Refusal :=
  onLive s fun s => if (s.port p).quietHeld then s.grantEnd p else s

/-- SWEEP_START_DELAY (R241). -/
def execSweepStartDelay (p : PortId) (s : State) : Host.Outcome State Fault Refusal :=
  onLive s fun s => s.modPort p fun q => { q with
    grant := q.grant.map fun g => { g with sending := g.sending || g.sweepMs.isSome } }

/-- SWEEP_DURATION_END (R241): SWEEP_DONE is sent, and the port returns. -/
def execSweepDurationEnd (p : PortId) (s : State) : Host.Outcome State Fault Refusal :=
  onLive s fun s =>
    match (s.port p).grant with
    | some g => if g.sending then (s.springDiag p [5]).grantEnd p else s
    | none => s

end Sys2Proof.Machine
end

