-- ==== Sys2Proof/Machine/FpFam.lean ====
section
/-! DEFINITION.
Fingerprints between the Well, host memory and flash (R249, R253, R324). -/

namespace Sys2Proof.Machine

/-- CMD_FP_SAVE (R249, R324): the k-th target's slot goes to its place in the buffer, or to
flash. Log 11 (DEDUCED). Log 53 (DEDUCED). -/
def execCmdFpSave (h : CmdHdr) (toFlash : Byte) (buf : BitVec 64) (s : State) :
    Host.Outcome State Fault Refusal :=
  onLive s fun s =>
    let ok := toFlash == 0 || (toFlash == 1 && buf == 0)
    let t := s.runCmd h .fpSave ok false true fun k i e s =>
      onPort e (fun p s =>
        match (s.port p).fp with
        | none => s.finish k e .refused
        | some f =>
          if toFlash = 0 then
            s.doneNext k e fun t =>
              let a := buf.toNat + 2048 * i
              (t.modPort p fun q => { q with fpCopyAt := some (t.now, a) }).hostWrite a f
          else
            let w : FpWrite := { port := p, key := k, tick := s.now + 1, body := f }
            { s with flash := { s.flash with fpq := s.flash.fpq ++ [w] } }) s
    inNextTick (State.fpNext 129) t

/-- FP_FLASH_WRITE_DONE (R249): CHECK is written last, and the next write begins. Log 53 (DEDUCED). -/
def execFpFlashWriteDone (p : PortId) (s : State) : Host.Outcome State Fault Refusal :=
  onLive s fun s =>
    match s.flash.fpq with
    | [] => s
    | w :: ws =>
      match w.copy with
      | none => s
      | some (k, check) =>
        if w.port != p then s
        else
          let t := (s.flashWrite (fpFlashAddr p k + 2016) check).finish w.key (.port p) .ok
          State.fpNext 1024 { t with flash := { t.flash with fpq := ws } }

/-- R249, R324. The fingerprint that a load brings, or the status with which it fails. -/
def State.fpBrought (s : State) (p : PortId) (fromFlash : Bool) (f : Bytes) : Bytes × Option ST :=
  let src := if fromFlash then (s.fpFlash p).map fun c => c.2 else some f
  if s.pst p == .training || s.pst p == .test then ([], some .busy)
  else
    match src with
    | none => ([], some .refused)
    | some f =>
      let own := if fpByTail f then fpTail f else fpHead f
      if fpCheckOk f && own == phyId p then (f, none) else ([], some .badParam)

/-- R179, R252, R253. A load into the slot; a CLEAR of the same tick stands. -/
def State.fpLoad (s : State) (p : PortId) (f : Bytes) : State :=
  if (s.port p).fpClearAt = some s.now then s
  else s.modPort p fun q => { q with
    fp := some (fpSetLoaded f), fpLoadAt := some s.now,
    dorm := { q.dorm with evicted := q.dorm.evicted || q.link.state == .dormant } }

/-- CMD_FP_LOAD (R179, R249, R252, R324): the slot is replaced, with SOURCE = LOADED.
Log 11 (DEDUCED). Log 53 (DEDUCED). -/
def execCmdFpLoad (h : CmdHdr) (fromFlash : Byte) (data : List Bytes) (s : State) :
    Host.Outcome State Fault Refusal :=
  onLive s fun s =>
    let ok := decide (fromFlash.toNat ≤ 1)
    s.runCmd h .fpLoad ok false true fun k i e s =>
      onPort e (fun p s =>
        match s.fpBrought p (fromFlash == 1) (data.getD i []) with
        | (_, some st) => s.finish k e st
        | (f, none) => s.doneNext k e fun t => t.fpLoad p f) s

end Sys2Proof.Machine
end

