-- ==== Sys2Proof/Machine/Mailbox.lean ====
section
/-! DEFINITION.
The mailbox commands (R371–R385): locks, notices, doorbell bits and the bind table. -/

namespace Sys2Proof.Machine

/-- MBX_LOCK_READ (R373, R374). -/
def execMbxLockRead (ms : List MasterId) (c : ChanId) (s : State) :
    Host.Outcome State Fault Refusal :=
  onLive s fun s =>
    let off := ms.filter fun m => s.early m
    let on := ms.filter fun m => !s.early m
    (forAll off (fun m t => t.accessFault m 1 (mbxAddr c 0)) s).lockRead on c

/-- MBX_LOCK_RELEASE (R373): the owner writes 0, unless its channel holds a notice. -/
def execMbxLockRelease (m : MasterId) (c : ChanId) (v : Word) (s : State) :
    Host.Outcome State Fault Refusal :=
  onLive s fun s => s.writeTo m (mbxAddr c 0) fun s =>
    let q := s.chan c
    if v = 0 && m = q.lock && !q.outstanding then s.modChan c fun q => q.unlock s.now else s

/-- MBX_STAGE_WRITE (R375): PTR_LO, PTR_HI or META from the bound sender while no notice is
outstanding. -/
def execMbxStageWrite (m : MasterId) (c : ChanId) (which : Fin 3) (v : Word) (s : State) :
    Host.Outcome State Fault Refusal :=
  onLive s fun s => s.writeTo m (mbxAddr c (4 + 4 * which.val)) fun s =>
    let q := s.chan c
    if q.bound && q.sender = m && !q.outstanding then
      s.modChan c fun q =>
        if which = 0 then { q with ptrLo := v } else if which = 1 then { q with ptrHi := v }
        else { q with metaw := v }
    else s

/-- MBX_POST (R375, R376, R378). -/
def execMbxPost (m : MasterId) (c : ChanId) (s : State) : Host.Outcome State Fault Refusal :=
  onLive s fun s => s.writeTo m (mbxAddr c 0x18) fun s => s.post m c

/-- MBX_TAKE (R377). -/
def execMbxTake (m : MasterId) (c : ChanId) (s : State) : Host.Outcome State Fault Refusal :=
  onLive s fun s => s.writeTo m (mbxAddr c 0x18) fun s =>
    s.chanTake ((s.chan c).bound && (s.chan c).receiver == m) c

/-- MBX_DONE (R377, R382, R383). -/
def execMbxDone (m : MasterId) (c : ChanId) (result : Byte) (s : State) :
    Host.Outcome State Fault Refusal :=
  onLive s fun s => s.writeTo m (mbxAddr c 0x18) fun s =>
    s.chanDone ((s.chan c).bound && (s.chan c).receiver == m) c result

/-- MBX_BELL_SET (R379). -/
def execMbxBellSet (m : MasterId) (c : ChanId) (v : Word) (s : State) :
    Host.Outcome State Fault Refusal :=
  onLive s fun s => s.writeTo m (mbxAddr c 0x10) fun s =>
    let q := s.chan c
    if q.bound && q.sender = m then s.bellSet c v else s

/-- MBX_BELL_CLEAR (R379). -/
def execMbxBellClear (m : MasterId) (c : ChanId) (v : Word) (s : State) :
    Host.Outcome State Fault Refusal :=
  onLive s fun s => s.writeTo m (mbxAddr c 0x10) fun s =>
    let q := s.chan c
    if q.bound && q.receiver = m then s.modChan c fun q => q.bellClear s.now v else s

/-- MBX_MASK_WRITE (R379, R380). -/
def execMbxMaskWrite (m : MasterId) (c : ChanId) (v : Word) (s : State) :
    Host.Outcome State Fault Refusal :=
  onLive s fun s => s.writeTo m (mbxAddr c 0x14) fun s =>
    let q := s.chan c
    if q.bound && q.receiver = m then s.maskSet c v else s

/-- MBX_BIND_WRITE (R371, R384): by Wicket while LOCKED = 0. -/
def execMbxBindWrite (m : MasterId) (c : ChanId) (v : Word) (s : State) :
    Host.Outcome State Fault Refusal :=
  onLive s fun s => s.writeTo m (bindAddr c) fun s =>
    if m = 1 && !s.hub.bindLocked then s.modChan c fun q => { q with bind := v &&& 0x1FF } else s

/-- MBX_BINDCTL_LOCK (R371, R384): Wicket writes 1. -/
def execMbxBindctlLock (m : MasterId) (v : Word) (s : State) :
    Host.Outcome State Fault Refusal :=
  onLive s fun s => s.writeTo m 0x4040 fun s =>
    if m = 1 && bit v 0 then { s with hub := { s.hub with bindLocked := true } } else s

/-- SMBUS_STATUS_READ (R380): identity 13 reads STAT, or BELL where bell is true. -/
def execSmbusStatusRead (c : ChanId) (bell : Bool) (s : State) :
    Host.Outcome State Fault Refusal :=
  onLive s fun s => s.readOf 13 (mbxAddr c (if bell then 0x10 else 0x1C)) fun s =>
    (s.modChan c fun q => if bell then { q with unreadBell := false }
      else { q with unreadStat := false }).alertUpdate

/-- SMBUS_CLOCK_LOW_TIMEOUT (R370): the SMBus master is reset. -/
def execSmbusClockLowTimeout (s : State) : Host.Outcome State Fault Refusal :=
  onLive s fun s => s.resetMasters [13]

end Sys2Proof.Machine
end

