-- ==== Sys2Proof/Machine/PortCmd.lean ====
section
/-! DEFINITION.
Port control (R317–R320), the end of a reset (R401, R403) and the limit of a target (R315). -/

namespace Sys2Proof.Machine

/-! ## CMD_PORT_CONFIG -/

/-- R314, R317. The parameters are in range, no reserved bit of a selected register is set. -/
def portConfigOk (select : Byte) (linkctl trainctl decctl stillctl fpctl : Word) : Bool :=
  select != 0 && fld select 5 3 == 0 &&
    (!bit select 0 || fld linkctl 30 2 == 0) && (!bit select 1 || fld trainctl 13 19 == 0) &&
    (!bit select 2 || fld decctl 25 7 == 0) && (!bit select 3 || fld stillctl 12 20 == 0) &&
    (!bit select 4 || fld fpctl 18 14 == 0)

/-- R317. The selected registers are replaced, in the order of SELECT's bits, and recorded.
Log 12 (DEDUCED). -/
def State.portConfig (s : State) (p : PortId) (select : Byte)
    (linkctl trainctl decctl stillctl fpctl : Word) : State :=
  let s1 := s.cmdWriteIf (bit select 0) p 0x100 linkctl
  let s2 := s1.cmdWriteIf (bit select 1) p 0x114 trainctl
  let s3 := s2.cmdWriteIf (bit select 2) p 0x120 decctl
  let s4 := s3.cmdWriteIf (bit select 3) p 0x12C stillctl
  let s5 := s4.cmdWriteIf (bit select 4) p 0x13C fpctl
  let put (i : Nat) (v : Word) (old : Option Word) : Option Word := if bit select i then some v else old
  s5.modCfg p fun c => { c with applied := {
    linkctl := put 0 linkctl c.applied.linkctl, trainctl := put 1 trainctl c.applied.trainctl,
    decctl := put 2 decctl c.applied.decctl, stillctl := put 3 stillctl c.applied.stillctl,
    fpctl := put 4 (fpctl &&& 0x1FFFF) c.applied.fpctl } }

/-- CMD_PORT_CONFIG (R317). -/
def execCmdPortConfig (h : CmdHdr) (select : Byte) (linkctl trainctl decctl stillctl fpctl : Word)
    (s : State) : Host.Outcome State Fault Refusal :=
  onLive s fun s => s.runCmd h .portConfig
    (portConfigOk select linkctl trainctl decctl stillctl fpctl) true true
    fun k _ e s => onPort e (fun p s =>
      (s.finish k e .ok).portConfig p select linkctl trainctl decctl stillctl fpctl) s

/-! ## CMD_PORT_ENABLE and CMD_PORT_DISABLE -/

/-- R318. CMD_PORT_ENABLE on a port. Log 12 (DEDUCED). -/
def State.enablePort (s : State) (k : CmdKey) (p : PortId) : State :=
  let q := s.port p
  let e := Elem.port p
  if q.inReset then
    (s.modPort p fun q => { q with resume := if q.resume = .disabled then .listening else q.resume }).finish k e .ok
  else
    match q.link.state with
    | .disabled => s.doneNext k e fun t => t.toListening p
    | .listening => s.finish k e .ok
    | .training => s.finish k e .ok
    | .up => s.finish k e .ok
    | .still => s.finish k e .ok
    | .dormant => s.finish k e .refused
    | .fault =>
      if q.link.freason = .linePll && !(s.bed (bedOf p)).pow.lineLock then s.finish k e .refused
      else s.doneNext k e fun t => t.toListening p
    | .test => s.finish k e .busy

/-- CMD_PORT_ENABLE (R318). -/
def execCmdPortEnable (h : CmdHdr) (s : State) : Host.Outcome State Fault Refusal :=
  onLive s fun s => s.runCmd h .portEnable true true true
    fun k _ e s => onPort e (fun p s => s.enablePort k p) s

/-- R318. CMD_PORT_DISABLE on a port. Log 12 (DEDUCED). -/
def State.disablePort (s : State) (k : CmdKey) (p : PortId) : State :=
  let q := s.port p
  let e := Elem.port p
  if q.inReset then (s.modPort p fun q => { q with resume := .disabled }).finish k e .ok
  else if q.link.state = .disabled then (s.clearRemoved p).finish k e .ok
  else inNextTick (fun t => t.disable p) s

/-- CMD_PORT_DISABLE (R318). -/
def execCmdPortDisable (h : CmdHdr) (s : State) : Host.Outcome State Fault Refusal :=
  onLive s fun s => s.runCmd h .portDisable true true true
    fun k _ e s => onPort e (fun p s => s.disablePort k p) s

/-! ## CMD_RETRAIN -/

/-- R157, R172, R319. CMD_RETRAIN on a port. Log 19 (DEDUCED). -/
def State.retrainPort (s : State) (k : CmdKey) (p : PortId) : State :=
  let q := s.port p
  let e := Elem.port p
  let linked := q.link.state == .up || q.link.state == .still
  if linked && !isCh q.link.rung then
    s.doneNext k e fun t => if q.link.c28Fast then t.clauseRetrain p else t.standardStop p
  else
    match q.link.state with
    | .up =>
      inNextTick (fun t =>
        if q.link.spared then t.closeWish p .closeDown 0 .listening true
        else if q.link.role = .tail && q.line.closing = .closeStill then t.wakeFor p .retrain
        else t.retrainAsk p) s
    | .still => inNextTick (fun t => t.wakeFor p .retrain) s
    | .training => if q.link.downAt = some s.now then s.finish k e .ok else s.finish k e .busy
    | .test => s.finish k e .busy
    | .listening => if q.link.downAt = some s.now then s.finish k e .ok else s.finish k e .refused
    | _ => s.finish k e .refused

/-- CMD_RETRAIN (R319). -/
def execCmdRetrain (h : CmdHdr) (s : State) : Host.Outcome State Fault Refusal :=
  onLive s fun s => s.runCmd h .retrain true true true
    fun k _ e s => onPort e (fun p s => s.retrainPort k p) s

/-! ## CMD_RESET -/

/-- R320, R403. CMD_RESET on an element: an element already in reset is not reset again. A device
target's completion is written before its reset. Log 13 (DEDUCED). -/
def State.resetElem (s : State) (k : CmdKey) (e : Elem) : State :=
  match e with
  | .port p =>
    if (s.port p).inReset then s else inNextTick (fun t => t.portReset p k.cid.toNat) s
  | .bed b =>
    if (s.bed b).pow.inReset then s else inNextTick (fun t => t.bedReset b 1 k.cid.toNat) s
  | .lane l =>
    if (s.lane l).inReset || (s.bed (bedOfLane l)).pow.inReset then s
    else inNextTick (fun t => t.laneReset l k.cid.toNat) s
  | .device => inNextTick (fun t => t.deviceReset false) ((s.finish k e .ok).completeKey k)

/-- CMD_RESET (R320). -/
def execCmdReset (h : CmdHdr) (s : State) : Host.Outcome State Fault Refusal :=
  onLive s fun s => s.runCmd h .reset true true false fun k _ e s => s.resetElem k e

/-- R401, R403. The reset of an element ends: what was in reset resumes, and the targets that waited
for it complete. Log 20 (DEDUCED). -/
def State.resetEnd (s : State) (e : Elem) : State :=
  match e with
  | .port p =>
    if (s.port p).inReset && !(s.bed (bedOf p)).pow.inReset then
      (s.portResume p).finishOp .reset e .ok
    else s
  | .bed b =>
    if (s.bed b).pow.inReset && s.bedOn b then
      let t := (s.bedResume b).finishOp .reset e .ok
      let t1 := forAll (portsOf b) (fun p u => u.finishOp .reset (.port p) .ok) t
      forAll (lanesOf b) (fun l u =>
        (u.modLane l fun x => { x with inReset := false }).finishOp .reset (.lane l) .ok) t1
    else s
  | .lane l =>
    if (s.lane l).inReset && !(s.bed (bedOfLane l)).pow.inReset then
      (s.modLane l fun x => { x with inReset := false }).finishOp .reset e .ok
    else s
  | .device => s

/-- RESET_COMPLETE (R320, R401, R403). -/
def execResetComplete (e : Elem) (s : State) : Host.Outcome State Fault Refusal :=
  onLive s fun s => s.resetEnd e

/-- COMMAND_TARGET_TIMEOUT (R315): the target's limit has passed. Log 55 (DEDUCED). -/
def execCommandTargetTimeout (ring : Fin 16) (cid : BitVec 16) (e : Elem) (s : State) :
    Host.Outcome State Fault Refusal :=
  onLive s fun s =>
    match s.cmds.find? fun r => r.hdr.ring == ring && r.hdr.cid == cid && r.awaits e with
    | some r => s.finish r.key e .timeout
    | none => s

end Sys2Proof.Machine
end

