-- ==== Sys2Proof/Machine/Power.lean ====
section
/-! DEFINITION.
CMD_POWER_STATE, the Sluice's steps and the wake sources (R333, R334, R433–R451), and the Spring
messages of a dormant wake (R177–R179, R222). -/

namespace Sys2Proof.Machine

/-! ## CMD_POWER_STATE (R333) -/

/-- R314, R333. STATE is one that the target takes. -/
def powerOk (state : Byte) (e : Elem) : Bool :=
  match e with
  | .port _ => state == 0 || state == 1
  | .bed _ => state == 0 || state == 1
  | .lane _ => false
  | .device => state == 4 || state == 5 || state == 6

/-- The record's STATE is noted. -/
def State.noteArg (s : State) (k : CmdKey) (state : Byte) : State :=
  { s with cmds := s.cmds.map fun r => if r.is k && r.doneTick.isNone then { r with arg := state } else r }

/-- The port is on its way to DORMANT. -/
def Port.entering (q : Port) : Bool :=
  q.dorm.noticeWait || q.link.after == .dormant || q.link.wakeJob == .dormant

/-- R175, R177, R179, R333. A port target. Log 12 (DEDUCED). -/
def State.powerPort (s : State) (k : CmdKey) (p : PortId) (state : Byte) : State :=
  let q := s.port p
  let e := Elem.port p
  if state = 0 then
    if q.link.state = .dormant then inNextTick (fun t => t.wakeCause p none) s
    else if q.entering then s.modDorm p fun d => { d with afterEntry := true }
    else s.finish k e .ok
  else if q.inReset then s.finish k e .busy
  else
    match q.link.state with
    | .dormant => s.finish k e .ok
    | .test => s.finish k e .busy
    | .fault => s.finish k e .refused
    | _ => inNextTick (fun t => t.dormantEnter p) s

/-- R333, R448. A bed target. -/
def State.powerBed (s : State) (k : CmdKey) (b : BedId) (state : Byte) : State :=
  let t := s.modPow b fun w => { w with hold := state == 1 }
  if state = 0 then t.finish k (.bed b) .ok
  else
    let u := t.needBed b
    if (u.bed b).pow.on && !(u.bed b).pow.wanted then u.finish k (.bed b) .ok
    else if u.bedRails then u.finish k (.bed b) .refused
    else u

/-- R433, R434. A device target for ACTIVE: every bed is switched on. -/
def State.powerActive (s : State) (k : CmdKey) : State :=
  if s.hub.mode = .active || (s.hub.mode = .test && s.hub.base = .active) then s.finish k .device .ok
  else
    let t := { s with hub := { s.hub with changing := true, target := .active } }
    (forAll allBeds (fun b u => u.needBed b) t).activeDone

/-- R433, R434. A device target for QUIET. -/
def State.powerQuiet (s : State) (k : CmdKey) : State :=
  let m : DevMode := if s.hub.mode = DevMode.test then .test else .quiet
  let up := s.hub.changing && s.hub.target == DevMode.active
  ({ s with hub := { s.hub with mode := m, base := .quiet,
                                changing := s.hub.changing && !up } }).finish k .device .ok

/-- CMD_POWER_STATE (R333): exempt from R26. -/
def execCmdPowerState (h : CmdHdr) (state : Byte) (s : State) : Host.Outcome State Fault Refusal :=
  onLive s fun s =>
    let ok := match hdrTargets .powerState h with
      | some es => es.all (powerOk state)
      | none => true
    s.runCmd h .powerState ok false true fun k _ e s0 =>
      let s := s0.noteArg k state
      match e with
      | .port p => s.powerPort k p state
      | .bed b => s.powerBed k b state
      | .lane _ => s
      | .device =>
        if state = 4 then s.powerActive k
        else if state = 5 then s.powerQuiet k
        else s.dormantReq k

/-! ## The handshake (R436, R437) -/

/-- SLUICE_BLOCK_ANSWER (R436, R437): the answer is the block's own, by its state. -/
def execSluiceBlockAnswer (blk : Byte) (s : State) : Host.Outcome State Fault Refusal :=
  onLive s fun s => s.blockAnswers blk

/-- SLUICE_ANSWER_TIMEOUT (R436): no answer within 50 µs of an ask. -/
def execSluiceAnswerTimeout (blk : Byte) (s : State) : Host.Outcome State Fault Refusal :=
  onLive s fun s =>
    forAll (s.sluice.reqs.filter fun q => q.asked.contains blk) (fun q t => t.reqFail q blk 2) s

/-- SLUICE_REASK (R436): the block that answered DELAY is asked again. -/
def execSluiceReask (blk : Byte) (s : State) : Host.Outcome State Fault Refusal :=
  onLive s fun s => { s with sluice := { s.sluice with
    reqs := s.sluice.reqs.map fun q =>
      if q.delayed.contains blk then
        { q with asked := q.asked ++ [blk], delayed := q.delayed.erase blk }
      else q } }

/-- SLUICE_DELAY_LIMIT (R436): the block still answers DELAY 10 ms after its first ask. -/
def execSluiceDelayLimit (blk : Byte) (s : State) : Host.Outcome State Fault Refusal :=
  onLive s fun s =>
    forAll (s.sluice.reqs.filter fun q => q.delayed.contains blk) (fun q t => t.reqFail q blk 2) s

/-! ## Gating (R438, R439) -/

/-- R439. A domain of a request is gated; a request with no domain left is done. -/
def State.reqGated (s : State) (q : SReq) (d : Dom) : State :=
  let q1 := { q with doms := q.doms.erase d }
  { s with sluice := { s.sluice with
    reqs := if q1.doms.isEmpty then s.sluice.reqs.filter fun r => r != q
      else s.sluice.reqs.map fun r => if r = q then q1 else r } }

/-- SLUICE_BUS_IDLE (R438, R439): the gate closes, and the Well save is taken. -/
def execSluiceBusIdle (d : Dom) (s : State) : Host.Outcome State Fault Refusal :=
  onLive s fun s =>
    match s.gater d with
    | none => s
    | some q =>
      let t := (s.reqGated q d).heldDrop d
      match d with
      | .hub => t.hubGate
      | .bed b => t.bedGate b

/-- SLUICE_BUS_IDLE_TIMEOUT (R438): the gates reopen and the request fails. -/
def execSluiceBusIdleTimeout (d : Dom) (s : State) : Host.Outcome State Fault Refusal :=
  onLive s fun s =>
    match s.gater d with
    | none => s
    | some q => s.reqFail q (busBlk d) 2

/-- DOMAIN_OFF_COMPLETE (R439, R445): a bed that is needed again is switched on. -/
def execDomainOffComplete (d : Dom) (s : State) : Host.Outcome State Fault Refusal :=
  onLive s fun s =>
    match d with
    | .hub =>
      if s.sluice.hubFalling then
        { s with
          sluice := { s.sluice with hubFalling := false, hubOn := false, entry := false },
          hub := { s.hub with changing := false } }
      else s
    | .bed b =>
      if (s.bed b).pow.falling then
        let t := s.modPow b fun w => { w with falling := false, wanted := false }
        if (s.bed b).pow.wanted && s.hub.mode != .dormant then t.needBed b else t
      else s

/-! ## Power-up (R440, R446) -/

/-- R440, R474. A bed has come on; in a start its memory is tested before its Tender runs. -/
def State.bedCameUp (s : State) (b : BedId) : State :=
  let t := s.bedUp b
  if s.boot.stage = 7 then
    let u := forAll (portsOf b) (fun p v => v.modPort p fun q => { q with inReset := false }) t
    (u.modPow b fun w => { w with tender := false, inReset := false }).bistBegin b none [.memory]
  else t.bedReady b

/-- DOMAIN_SUPPLY_GOOD (R440). Log 20 (DEDUCED). -/
def execDomainSupplyGood (d : Dom) (s : State) : Host.Outcome State Fault Refusal :=
  onLive s fun s =>
    match d with
    | .hub =>
      if s.sluice.hubRising && !s.sluice.hubOn then
        ({ s with sluice := { s.sluice with hubOn := true } }).retainRestore .hub
      else s
    | .bed b => if (s.bed b).pow.rising then s.bedCameUp b else s

/-- R334, R440. What needed a bed that did not come on fails. -/
def State.bedFailed (s : State) (b : BedId) : State :=
  let (req, cid) : Nat × Nat :=
    match s.waiter .powerState (.bed b), s.waiter .powerState .device with
    | some k, _ => (1, k.cid.toNat)
    | none, some k => (4, k.cid.toNat)
    | none, none => (0, 0)
  let s1 := (s.modPow b fun w => { w with rising := false, wanted := false }).raise .powerRefused
    (.bed b) [(16, 1, req), (17, 1, (supplyBlk (.bed b)).toNat), (18, 1, 2), (20, 2, cid)]
  let s2 := { s1 with sluice := { s1.sluice with lastBlock := supplyBlk (.bed b), lastReason := 2 } }
  let mine (st : Byte) (r : CmdRec) : Bool := r.op == .powerState && r.arg == st && r.doneTick.isNone
  let s3 := s2.finishWhere (mine 1) (.bed b) .refused
  let s4 := if s3.hub.changing && s3.hub.target = .active then
      ({ s3 with hub := { s3.hub with changing := false } }).finishWhere (mine 4) .device .refused
    else if s3.hub.changing && s3.hub.target = .calibrate then
      ({ s3 with hub := { s3.hub with changing := false } }).finishOp .calRun .device .refused
    else s3
  forAll (portsOf b) (fun p t =>
    if t.pst p = .dormant && (t.port p).dorm.latched then
      (t.modDorm p fun d => { d with latched := false, heldReady := none }).finishWhere (mine 0)
        (.port p) .refused
    else t) s4

/-- DOMAIN_SUPPLY_TIMEOUT (R440): the switch is opened again. -/
def execDomainSupplyTimeout (d : Dom) (s : State) : Host.Outcome State Fault Refusal :=
  onLive s fun s =>
    match d with
    | .hub =>
      if s.sluice.hubRising && !s.sluice.hubOn then
        ({ s with
          sluice := { s.sluice with hubRising := false, lastBlock := 0x28, lastReason := 2 },
          hub := { s.hub with changing := false } }).raise .powerRefused .device
            [(17, 1, 0x28), (18, 1, 2)]
      else s
    | .bed b => if (s.bed b).pow.rising then s.bedFailed b else s

/-- R444, R446. The device is awake in QUIET, on its way to ACTIVE where EXITMODE says so.
Log 44 (DEDUCED). -/
def State.deviceAwake (s : State) : State :=
  let exit := bit s.sluice.ctl 0
  let s1 := { s with
    sluice := { s.sluice with hubRising := false },
    hub := { s.hub with mode := .quiet, base := .quiet, changing := exit,
                        target := if exit then .active else .quiet } }
  let s2 := (s1.releaseHeld.flushWb).latchedAct
  if exit then (forAll allBeds (fun b t => t.needBed b) s2).activeDone else s2

/-- HUB_RINGS_RESTORED (R440, R444, R446). Log 20 (DEDUCED). -/
def execHubRingsRestored (s : State) : Host.Outcome State Fault Refusal :=
  onLive s fun s => if s.sluice.hubRising && s.sluice.hubOn then s.deviceAwake else s

/-- BED_IDLE_HOLDOFF_EXPIRY (R25, R435): an AUTO bed idle in QUIET is asked to switch off. -/
def execBedIdleHoldoffExpiry (b : BedId) (s : State) : Host.Outcome State Fault Refusal :=
  onLive s fun s =>
    let w := (s.bed b).pow
    let quiet := s.hub.mode == .quiet || (s.hub.mode == .test && s.hub.base == .quiet)
    if quiet && w.on && !w.hold && !w.inReset && !w.wanted && s.bedIdle b && !s.bedTest b &&
        !s.bedLeaving b && !s.sluice.entry && !s.hub.changing then
      { s with sluice := { s.sluice with reqs := s.sluice.reqs ++ [bedReq b] } }
    else s

/-! ## Wakes of the device (R442, R445) -/

/-- R442. The device is DORMANT or on its way there. -/
def State.sleeping (s : State) : Bool := s.hub.mode == .dormant || s.sluice.entry

/-- WAKETIME_REACHED (R442, R450). -/
def execWaketimeReached (s : State) : Host.Outcome State Fault Refusal :=
  onLive s fun s =>
    if s.sleeping && decide (s.sluice.waketime.toNat ≤ s.clk.tick.toNat) &&
        !s.sluice.latched.contains .timer then s.latchWake .timer
    else s

/-- GPIO_RISING_EDGE (R442, R535, R536). Log 45 (DEDUCED). -/
def execGpioRisingEdge (g : Fin 8) (s : State) : Host.Outcome State Fault Refusal :=
  onLive s fun s =>
    let one : Byte := BitVec.ofNat 8 (2 ^ g.val)
    let t := { s with pins := { s.pins with gpioIn := s.pins.gpioIn ||| one } }
    if s.sleeping && !bit s.pins.gpioDir g.val then
      ({ t with sluice := { t.sluice with gpioEdges := t.sluice.gpioEdges ||| one } }).latchWake .gpio
    else t

/-- R443, R445, R446. The beds that latched port wakes need. -/
def State.wakeBeds (s : State) : List BedId :=
  allBeds.filter fun b => (portsOf b).any fun p => s.pst p == .dormant && (s.port p).dorm.latched

/-- WAKE_ACTED_ON (R442, R445, R446): once the entry is complete, the first enabled source wakes the
device. -/
def execWakeActedOn (s : State) : Host.Outcome State Fault Refusal :=
  onLive s fun s =>
    if s.hub.mode != .dormant || s.sluice.entry || s.sluice.hubOn || s.sluice.hubRising then s
    else
      match s.sluice.enabled with
      | none => s
      | some w =>
        let t := { s with
          sluice := { s.sluice with lastWake := w, latched := [], gpioEdges := 0, hubRising := true },
          hub := { s.hub with changing := true } }
        forAll s.wakeBeds (fun b u => u.needBed b) t

/-! ## The messages of a dormant wake (R177–R179, R222) -/

/-- R177. A partner's request where WAKE_ON_SPRING is 0: EV_DORMANT flag 2, once per attempt.
Log 45 (DEDUCED). -/
def State.wakeDenied (s : State) (p : PortId) : State :=
  let d := (s.port p).dorm
  let fresh := match d.lastMsg with
    | some t => decide (t + 20 * Config.tkPerMs < s.now)
    | none => true
  if fresh then s.raise .dormant (.port p) [(16, 1, 2)] else s

/-- R177, R179. A partner's WAKE_REQ or WAKE_READY is accepted. -/
def State.wakeMsg (s : State) (p : PortId) (held : Option Bytes) : State :=
  let q := s.port p
  let on := scWakeSpring q.cfg.stillctl
  if q.link.state = .dormant then
    let t :=
      if q.dorm.waking then
        match held with
        | some d => if q.spring.srole = Role.head then s.wakeReadyAct p d else s
        | none => s
      else if on || q.dorm.latched then s.wakeCause p held
      else s.wakeDenied p
    if (t.port p).link.state = .dormant then t.modDorm p fun d => { d with lastMsg := some s.now }
    else t
  else if q.entering && on then s.modDorm p fun d => { d with afterEntry := true }
  else s

/-- WAKE_REQ (R177–R179): a head that is waking itself ignores a tail's. -/
def execWakeReq (p : PortId) (s : State) : Host.Outcome State Fault Refusal :=
  onLive s fun s => s.rxPartnered p .wakeReq [] fun s =>
    s.wakeMsg p none

/-- R178, R222. WAKE_READY at a head that has left DORMANT: it is answered again, with WAKE_GO in the warm
training of the wake and with WAKE_COLD after it went the other way. Log 45 (DEDUCED). -/
def State.wakeReadyAgain (s : State) (p : PortId) : State :=
  let q := s.port p
  if q.link.state = .training && q.train.kind = .warm && !q.train.fromData then
    s.springDue p { typ := .wakeGo, payload := [BitVec.ofNat 8 q.train.rung.toNat] }
  else if q.link.state = .listening || q.link.state = .training then s.springDue p { typ := .wakeCold }
  else s.wakeMsg p none

/-- WAKE_READY (R177–R179, R222): only a head answers it. Log 45 (DEDUCED). -/
def execWakeReady (p : PortId) (payload : Bytes) (s : State) : Host.Outcome State Fault Refusal :=
  onLive s fun s => s.rxPartnered p .wakeReady payload fun s =>
    let q := s.port p
    if q.spring.srole != Role.head then s
    else if q.link.state = .dormant then s.wakeMsg p (some (payload.take 8))
    else s.wakeReadyAgain p

/-- WAKE_GO (R178). Log 45 (DEDUCED). -/
def execWakeGo (p : PortId) (payload : Bytes) (s : State) : Host.Outcome State Fault Refusal :=
  onLive s fun s => s.rxPartnered p .wakeGo payload fun s =>
    s.wakeGoTake p (BitVec.ofNat 4 (byteAt payload 0).toNat)

/-- WAKE_COLD (R178). -/
def execWakeCold (p : PortId) (s : State) : Host.Outcome State Fault Refusal :=
  onLive s fun s => s.rxPartnered p .wakeCold [] fun s =>
    let q := s.port p
    if q.link.state = .dormant && q.dorm.waking && q.spring.srole == Role.tail then
      (s.leaveDormant p 2).toListening p
    else s

/-- WAKE_ANSWER_TIMEOUT (R178): no answer by 20 ms. -/
def execWakeAnswerTimeout (p : PortId) (s : State) : Host.Outcome State Fault Refusal :=
  onLive s fun s =>
    let q := s.port p
    if q.link.state = .dormant && q.dorm.waking then (s.leaveDormant p 2).toListening p else s

end Sys2Proof.Machine
end

