-- ==== Sys2Proof/Machine/RingFam.lean ====
section
/-! DEFINITION.
The rings as the host and the ring engine drive them (R286–R312, R224, R225): doorbells, fetches,
starts, completions and events, enables and errors, and the two Spring queues of a bed. -/

namespace Sys2Proof.Machine

/-! ## Doorbells (R290, R291) -/

/-- HOST_PRODUCER_DOORBELL (R290): a new tail of a command ring or a Spring transmit queue.
Log 30 (DEDUCED). -/
def execHostProducerDoorbell (r : RingId) (v : Word) (s : State) :
    Host.Outcome State Fault Refusal :=
  onLive s fun s => if hostProduced r then s.bellWrite r v else s

/-- DEVICE_CONSUMER_DOORBELL (R290): a new head of a ring that the device produces into.
Log 30 (DEDUCED). -/
def execDeviceConsumerDoorbell (r : RingId) (v : Word) (s : State) :
    Host.Outcome State Fault Refusal :=
  onLive s fun s => if devProduced r then s.bellWrite r v else s

/-- DOORBELL_MISUSE (R290, R371): an access of the wrong size or alignment is recorded.
Log 30 (DEDUCED). -/
def execDoorbellMisuse (addr : Word) (s : State) : Host.Outcome State Fault Refusal :=
  onLive s fun s => s.accessFault 11 (if s.early 11 then 2 else 5) addr.toNat

/-! ## Commands (R292, R296, R297, R300) -/

/-- COMMAND_FETCH (R292, R305): the entry at the head is fetched, with a completion slot reserved. -/
def execCommandFetch (ring : Fin 16) (entry : Bytes) (s : State) :
    Host.Outcome State Fault Refusal :=
  onLive s fun s =>
    if s.canFetch ring then
      let t := s.modRing (cmdRing ring) fun g => { g with head := g.succ g.head }
      { t with cmds := t.cmds ++ [recOf ring entry] }
    else s

/-- R294, R296. A record starts: one that is bad in its form ends at once. -/
def CmdRec.start (r : CmdRec) (tick : Tick) : CmdRec :=
  if r.badForm.isSome then r.fail tick else { r with started := true }

/-- COMMAND_START (R294, R296, R297, R307). -/
def execCommandStart (ring : Fin 16) (s : State) : Host.Outcome State Fault Refusal :=
  onLive s fun s =>
    let q (r : CmdRec) : Bool := r.hdr.ring == ring && !r.started
    if s.startsNow && (s.nextStart ring).isSome then
      { s with cmds := modFirst q (fun r => r.start s.clk.tick) s.cmds }
    else s

/-- COMPLETION_WRITE (R289, R298–R300, R305). -/
def execCompletionWrite (ring : Fin 16) (cid : BitVec 16) (s : State) :
    Host.Outcome State Fault Refusal :=
  onLive s fun s => if s.ringsServed then s.completeWhere fun r => r.hdr.ring == ring && r.hdr.cid == cid else s

/-- EVENT_ENTRY_WRITE (R302, R342, R409): the first event that is due is routed. Log 14 (DEDUCED). -/
def execEventEntryWrite (s : State) : Host.Outcome State Fault Refusal :=
  onLive s fun s =>
    match s.due with
    | [] => s
    | e :: es => State.routeEvent { s with due := es } e

/-! ## Enables, disables and errors (R305, R306, R309, R310) -/

/-- R310. The offset of RING[r].CFG. -/
def cfgAddr (r : RingId) : Nat := 0x20000 + 0x20 * r.val + 8

/-- RING_ENABLE (R310): a write of CFG with EN = 1. -/
def execRingEnable (m : MasterId) (r : RingId) (cfg : Word) (s : State) :
    Host.Outcome State Fault Refusal :=
  onLive s fun s => s.writeAt m (cfgAddr r) (cfg ||| 1) fun s =>
    s.writeIn m (cfgAddr r) (cfg ||| 1) fun w t => t.ringCfg r w

/-- RING_DISABLE (R309, R310): a write of CFG with EN = 0. -/
def execRingDisable (m : MasterId) (r : RingId) (cfg : Word) (s : State) :
    Host.Outcome State Fault Refusal :=
  onLive s fun s => s.writeAt m (cfgAddr r) (cfg &&& 0xFFFFFFFE) fun s =>
    s.writeIn m (cfgAddr r) (cfg &&& 0xFFFFFFFE) fun w t => t.ringCfg r w

/-- RING_DRAIN_COMPLETE (R309): no fetched command of the ring is left. -/
def execRingDrainComplete (r : RingId) (s : State) : Host.Outcome State Fault Refusal :=
  onLive s fun s =>
    if (s.ring r).state == .draining && (s.ringCmds r.val).isEmpty then
      s.modRing r fun g => { g with state := .idle }
    else s

/-- RING_DMA_ERROR (R309): a ring that the device reads or writes enters ERROR. -/
def execRingDmaError (r : RingId) (s : State) : Host.Outcome State Fault Refusal :=
  onLive s fun s =>
    if (s.ring r).state == .run || (s.ring r).state == .draining then s.ringError r .dmaError else s

/-- MSIX_COALESCE_TIMEOUT (R306): COAL_US has passed since the first entry not signalled. -/
def execMsixCoalesceTimeout (r : RingId) (s : State) : Host.Outcome State Fault Refusal :=
  onLive s fun s =>
    let g := s.ring r
    if g.irqEn && g.coalUs != 0 && g.unsent != 0 then s.sendMsix r else s

/-! ## The Spring queues (R224–R226, R303, R304) -/

/-- R224. The largest USER payload that the port's partner accepts. -/
def maxUser (q : Port) : Nat := leAt (q.spring.pcap.getD []) 6 2

/-- R287, R303. The head of a transmit queue moves on, its phase inverting at each wrap. -/
def Ring.take (g : Ring) : Ring :=
  { g with head := g.succ g.head, phase := if g.succ g.head = 0 then !g.phase else g.phase }

/-- R224, R303. The entry at the head of a transmit queue is taken into its port's list: completed at
once where the port is not in the bed or has no partner, and sent as a USER frame otherwise.
Log 31 (DEDUCED). -/
def State.userPut (s : State) (b : BedId) (entry payload : Bytes) : State :=
  let g := s.ring (sprTxRing b)
  let pn := leAt entry 0 2
  let len := leAt entry 2 2
  let u0 : UserTx := { idx := g.head, phase := g.phase, payload := slice payload 0 len }
  let t := s.modRing (sprTxRing b) Ring.take
  if pn / 16 != b.val then t.completeTx b u0 .badParam 0
  else
    let p := portOf b (Fin.ofNat 16 pn)
    let q := s.port p
    let u := { u0 with num := q.spring.taken }
    if 16 ≤ q.spring.users.length then s
    else if len = 0 || 256 < len then
      (t.modSpring p fun g => { g with users := g.users ++ [{ u with bad := true }] }).usersBad p
    else if q.spring.sstate != .partnered then t.completeTx b u .refused 1
    else if maxUser q < len then
      (t.modSpring p fun g => { g with users := g.users ++ [{ u with bad := true }] }).usersBad p
    else
      (t.modSpring p fun g => { g with users := g.users ++ [u], taken := g.taken + 1 }).springDue p
        { typ := .user, payload := u.payload, slot := some u.num }

/-- SPRING_TX_ENTRY_TAKE (R303). Log 31 (DEDUCED). -/
def execSpringTxEntryTake (b : BedId) (entry payload : Bytes) (s : State) :
    Host.Outcome State Fault Refusal :=
  onLive s fun s =>
    let g := s.ring (sprTxRing b)
    if s.ringsServed && s.dmaOk false && g.state == .run && g.used != 0 then
      s.userPut b entry payload
    else s

/-- R304. A receive entry. -/
def rxEntry (u : UserRx) (phase : Bool) : Bytes :=
  leBytes 2 u.port.val ++ leBytes 2 u.payload.length ++
    [BitVec.ofNat 8 (b2n u.mode4), BitVec.ofNat 8 (b2n phase), u.rssi, u.foff] ++
    leBytes 8 u.tick.toNat ++ zeros 16 ++ slice u.payload 0 256

/-- R225, R226, R304. The oldest accepted USER frame of the bed is written to its receive queue and then
acknowledged, in the session in which it was accepted; where the queue has stopped since it was accepted it
waits unacknowledged. Log 23 (DEDUCED). -/
def State.userGive (s : State) (b : BedId) (u : UserRx) (us : List UserRx) : State :=
  let g := s.ring (sprRxRing b)
  let t := s.modBed b fun d => { d with rxq := us }
  if g.state == .run && g.free != 0 then
    let t1 := t.produce (sprRxRing b) (rxEntry u)
    let h := (s.port u.port).spring
    if u.acked || h.sstate != .partnered || h.sess != u.sess then t1
    else (t1.ackWritten u.port).springKick u.port
  else s

/-- SPRING_RX_ENTRY_WRITE (R304). Log 23 (DEDUCED). -/
def execSpringRxEntryWrite (b : BedId) (s : State) : Host.Outcome State Fault Refusal :=
  onLive s fun s =>
    match (s.bed b).rxq with
    | [] => s
    | u :: us => if s.ringsServed && s.dmaOk false then s.userGive b u us else s

end Sys2Proof.Machine
end

