-- ==== Sys2Proof/Machine/Security.lean ====
section
/-! DEFINITION.
Firmware, attestation, debug and JTAG (R336–R339, R476, R507–R521): the meanings of their
commands. -/

namespace Sys2Proof.Machine

/-! ## Staging (R336, R514) -/

/-- R418, R514. The size of a slot. -/
def slotSize : Nat := 0x1000000

/-- R514. The starts of the 64 KiB blocks that a chunk enters, the first block's with FIRST. -/
def blocksOf (offset len : Nat) : List Nat :=
  (List.range (len / 0x10000 + 2)).filterMap fun i =>
    let a := (offset + 0xFFFF) / 0x10000 * 0x10000 + 0x10000 * i
    if a < offset + len then some a else none

/-- R336, R514. A chunk that may be staged: its blocks are erased. Bytes 0–3 of the image are held
back. Log 55 (DEDUCED). -/
def State.chunkBegin (s : State) (k : CmdKey) (g : Staging) (offset : Nat) (data : Bytes)
    (last : Bool) : State :=
  let t := forAll (blocksOf offset data.length)
    (fun a t => t.flashErase (imageBase g.slot + a) 0x10000) s
  let g1 : Staging := { g with chunk := some (k, offset, data, last),
                               magic := if offset = 0 then data.take 4 else g.magic }
  { t with flash := { t.flash with stage := some g1 } }

/-- R336, R514. The device target of CMD_FW_STAGE. Log 56 (DESIGN CHOICE). -/
def State.stageChunk (s : State) (k : CmdKey) (first last : Bool) (offset : Nat) (data : Bytes) :
    State :=
  let slot := !s.boot.slot
  let bad (t : State) : State :=
    State.finish { t with flash := { t.flash with stage := none } } k .device .badParam
  match s.flash.stage with
  | some g =>
    if g.chunk.isSome then s.finish k .device .busy
    else if first then
      if offset != 0 then bad s
      else (s.slotResult slot .unknown).chunkBegin k
        { slot := slot, done := 0, magic := [], chunk := none } 0 data last
    else if offset != g.done || slotSize < offset + data.length then bad s
    else s.chunkBegin k g offset data last
  | none =>
    if !first || offset != 0 then bad s
    else (s.slotResult slot .unknown).chunkBegin k
      { slot := slot, done := 0, magic := [], chunk := none } 0 data last

/-- CMD_FW_STAGE (R336): length bytes of data. -/
def execCmdFwStage (h : CmdHdr) (flags : Byte) (offset length : Word) (data : Bytes) (s : State) :
    Host.Outcome State Fault Refusal :=
  onLive s fun s =>
    let n := length.toNat
    let ok := decide (flags.toNat < 4) && decide (4 ≤ n) && decide (n ≤ 0x100000) && n % 4 == 0
    s.runCmd h .fwStage ok false false fun k _ _ s =>
      s.stageChunk k (bit flags 0) (bit flags 1) offset.toNat (slice data 0 n)

/-- R514. LAST: the slot is verified with its MAGIC taken as written. Log 56 (DESIGN CHOICE). -/
def State.stageLast (s : State) (k : CmdKey) (g : Staging) : State :=
  let h := g.magic ++ (s.imageHead g.slot).drop 4
  let r := s.verifyHead g.slot h
  let t := { (s.slotResult g.slot r).slotEvent r k.cid.toNat with
    flash := { s.flash with stage := none } }
  if r = .verified then (t.flashProgram (imageBase g.slot) g.magic).finish k .device .ok
  else t.finish k .device .authFail

/-- FW_STAGE_CHUNK_DONE (R514): the chunk is programmed. A chunk whose target has ended meanwhile ends
the staging with MAGIC erased. Log 55 (DEDUCED). -/
def execFwStageChunkDone (s : State) : Host.Outcome State Fault Refusal :=
  onLive s fun s =>
    match s.flash.stage with
    | none => s
    | some g =>
      match g.chunk with
      | none => s
      | some (k, offset, data, last) =>
        let skip := 4 - offset
        let t := s.flashProgram (imageBase g.slot + offset + skip) (data.drop skip)
        if !s.stillWaits k .device then { t with flash := { t.flash with stage := none } }
        else if last then t.stageLast k g
        else
          let g1 : Staging := { g with chunk := none, done := offset + data.length }
          State.finish { t with flash := { t.flash with stage := some g1 } } k .device .ok

/-! ## Activation (R337, R515) -/

/-- R337, R515. The device target of CMD_FW_ACTIVATE. Log 13 (DEDUCED). -/
def State.activate (s : State) (k : CmdKey) (slotB restart : Bool) : State :=
  if (s.imageHead slotB).take 4 == [0xFF, 0xFF, 0xFF, 0xFF] then s.finish k .device .refused
  else
    let r := s.verify slotB k.cid.toNat
    if r.1 = .verified then
      let u := (r.2.bootctlWrite slotB).finish k .device .ok
      if restart then (u.completeKey k).deviceReset false else u
    else r.2.finish k .device .authFail

/-- CMD_FW_ACTIVATE (R337). -/
def execCmdFwActivate (h : CmdHdr) (slot restart : Byte) (s : State) :
    Host.Outcome State Fault Refusal :=
  onLive s fun s =>
    s.runCmd h .fwActivate (decide (slot.toNat < 2) && decide (restart.toNat < 2)) false false
      fun k _ _ s => inNextTick (fun t => t.activate k (slot == 1) (restart == 1)) s

/-! ## Attestation (R516–R518) -/

/-- R517. The dwords of a port that CONFIG_DIGEST takes, as applied. -/
def portDwords (c0 : PortCfg) : List Word :=
  let c := c0.unbuffer
  [c.linkctl, c.trainctl, c.decctl, c.stillctl, c.springctl, c.fpctl, c.hostmap0, c.hostmap1,
   c.lanemap]

/-- R517. The input of CONFIG_DIGEST. -/
def State.configBytes (s : State) : Bytes :=
  let ws := allChans.map (fun c => (s.chan c).bind) ++ [s.clk.divUse] ++
    s.clk.steer.map (fun v => v.setWidth 32) ++ allPorts.flatMap fun p => portDwords (s.port p).cfg
  ws.flatMap fun w => leBytes 4 w.toNat

/-- R516. The report's bytes 0–255. -/
def State.reportHead (s : State) (nonce : Bytes) : Bytes :=
  let b := s.boot
  let flags := b2n (b.fails != 0) + 2 * b2n s.cal.valid +
    4 * b2n (allBeds.any fun x => (s.bed x).legacyUse) + 8 * b2n s.sec.devcert
  [1, BitVec.ofNat 8 flags, BitVec.ofNat 8 (b2n b.slot), BitVec.ofNat 8 (fusedSvn s.sec.svn)] ++
    leBytes 2 b.version.toNat ++ [b.imageSvn, 0] ++ leBytes 8 Config.serial.toNat ++
    leBytes 8 s.clk.tick.toNat ++ leBytes 4 b.startNo ++ leBytes 4 s.cal.seq.toNat ++
    slice nonce 0 32 ++ slice (s.imageHead b.slot) 32 64 ++ slice s.cal.digest 0 32 ++
    shake256 s.configBytes 32 ++
    shake256 (s.flashBytes chainBase (4 + 5293 * s.certCount)) 32 ++ zeros 32

/-- R507, R516. The report. -/
def State.report (s : State) (nonce : Bytes) : Bytes :=
  let m := s.reportHead nonce ++ identityKey
  m ++ (List.range 3309).map (Config.mldsaSign seed ctxAttest m)

/-- CMD_ATTEST (R338, R518). Log 57 (DEDUCED). -/
def execCmdAttest (h : CmdHdr) (reportLen : Word) (nonce : Bytes) (reportAddr : BitVec 64)
    (s : State) : Host.Outcome State Fault Refusal :=
  onLive s fun s =>
    s.runCmd h .attest (decide (5517 ≤ reportLen.toNat)) false false fun k _ e s =>
      if !s.sec.key then s.finish k e .refused
      else (s.hostWrite reportAddr.toNat (s.report nonce)).finish k e .ok

/-! ## Debug unlock (R339, R476, R519–R521) -/

/-- R519. A token that passes. -/
def State.tokenOk (s : State) (len : Nat) (t : Bytes) : Bool :=
  len == 3341 && byteAt t 0 == 1 && byteAt t 1 != 0 && decide ((byteAt t 1).toNat < 4) &&
    allZero (slice t 2 2) && leAt t 4 8 == Config.serial.toNat && leAt t 12 4 == s.boot.startNo &&
    allZero (slice t 20 12) &&
    match s.chainKey (leAt t 16 4) 1 with
    | none => false
    | some key => Config.mldsaVerify key ctxUnlock (slice t 0 32) (slice t 32 3309)

/-- R521. A command that an unlock does not meet is in progress. -/
def State.unlockBusy (s : State) : Bool :=
  s.cmds.any fun r => r.started && r.doneTick.isNone &&
    (r.op == .fwStage || r.op == .fwActivate || r.op == .attest)

/-- R476. Every bed is isolated, and every core stops until PERST#. The unlock's completion and its
event go out first. Log 57 (DEDUCED). -/
def State.scanOpen (s : State) (k : CmdKey) : State :=
  let s1 := forAll s.due (fun e t => t.routeEvent e) { s.completeKey k with due := [] }
  let s2 := forAll allPorts (fun p t => ((t.portRest p).hostOff p).modLink p fun l =>
    { l with state := .test }) s1
  { s2.testMode with pins := { s2.pins with scanStop := true } }

/-- R520. The device target of CMD_DEBUG_UNLOCK. Log 57 (DEDUCED). -/
def State.unlock (s : State) (k : CmdKey) (len : Nat) (token : Bytes) : State :=
  if s.unlockBusy then s.finish k .device .busy
  else if !s.tokenOk len token then (s.security 3 2 k.cid.toNat).finish k .device .authFail
  else
    let scope := (byteAt token 1).setWidth 2
    let t := { s with sec := { s.sec with
      key := false, blocked := true, unlocked := s.sec.unlocked ||| scope, wellUnlock := true } }
    let u := (t.security 1 2 k.cid.toNat).finish k .device .ok
    if scope.getLsbD 0 then u.scanOpen k else u

/-- CMD_DEBUG_UNLOCK (R339). -/
def execCmdDebugUnlock (h : CmdHdr) (tokenLen : Word) (token : Bytes) (s : State) :
    Host.Outcome State Fault Refusal :=
  onLive s fun s =>
    let n := tokenLen.toNat
    s.runCmd h .debugUnlock (decide (1 ≤ n) && decide (n ≤ 8192)) false false fun k _ _ s =>
      s.unlock k n token

/-! ## JTAG (R476) -/

/-- R476. What a JTAG instruction acts as, where internal scan is not enabled. Log 33 (DEDUCED). -/
def State.jtagActs (s : State) (i : Jtag) : Jtag :=
  match i with
  | .boundary => if s.pins.perst || s.hub.mode == .seedbed then .boundary else .bypass
  | .internal => .bypass
  | .bypass => .bypass

/-- JTAG_INSTRUCTION (R476): the TAP takes the instruction whatever the device does. Internal scan
shifts chains whose content is not published, so there it stops. Log 33 (DEDUCED). -/
def execJtagInstruction (i : Jtag) (s : State) : Host.Outcome State Fault Refusal :=
  if s.pins.powered && i == .internal && s.sec.unlocked.getLsbD 0 then .fault .internalScan
  else if s.pins.powered then answer s { s with pins := { s.pins with jtag := s.jtagActs i } }
  else answer s s

end Sys2Proof.Machine
end

