-- ==== Sys2Proof/Machine/Telemetry.lean ====
section
/-! DEFINITION.
Performance counters and telemetry (R480–R504, R329–R331): dumps, block sampling and the commands
that configure them. -/

namespace Sys2Proof.Machine

/-! ## The entries of a dump (R494–R497) -/

/-- R495. The six bytes of a counter. -/
def cntBytes (c : Counter) : Bytes := leBytes 6 c.val.toNat

/-- R486. LO of a counter. -/
def Counter.lo (c : Counter) : Word := BitVec.ofNat 32 (fld c.val 0 32)

/-- R486. HI of a counter: the value's upper 16 bits, and the overflow bit in bit 31. -/
def Counter.hi (c : Counter) : Word := packW [(0, fld c.val 32 16), (31, b2n c.ovf)]

/-- R481. Indices of a port's own counters. -/
def cntListed (i : Nat) : Bool :=
  decide (i ≤ 0x1D) || (decide (0x20 ≤ i) && decide (i ≤ 0x29)) ||
    (decide (0x30 ≤ i) && decide (i ≤ 0x38)) || i == 0x3C || i == 0x3D

/-- R331, R481. The lane counter that an index names for a port: the lane and the counter. -/
def laneCnt (q : Port) (p : PortId) (i : Nat) : Option (LaneId × Nat) :=
  if 0x80 ≤ i ∧ i < 0xA0 ∧ i % 8 < 5 then
    (mapLane q.cfg.lanemap ((i - 0x80) / 8)).map fun l => (laneOf (bedOf p) l, i % 8)
  else none

/-- R481, R482. The counter that an index names for a port; none where the index is not listed. -/
def State.cntAt (s : State) (p : PortId) (i : Nat) : Option Counter :=
  if cntListed i then some ((s.port p).cnt.get i)
  else (laneCnt (s.port p) p i).map fun x => (s.lane x.1).cnt.get x.2

/-- R499. What an offset of PF1 BAR2 reads as. A bed that is off counts nothing but in its Spring
island, so that what the counters hold is what is frozen. -/
def State.bar2Read (s : State) (a : Nat) : Word :=
  let p : PortId := Fin.ofNat 128 (a / 0x2000)
  let o := a % 0x2000
  if 128 ≤ a / 0x2000 || !(s.port p).granted || s.hub.mode == .boot || s.hub.mode == .seedbed then 0
  else
    match s.cntAt p (o / 8) with
    | none => 0
    | some c => if o % 8 = 0 then c.lo else if o % 8 = 4 then c.hi else 0

/-- The overflow bits of the first n counters of a bank, the first in bit 0. -/
def Bank.ovfs (b : Bank) (n : Nat) : Nat := maskOf 0 (List.range n) fun i => (b.get i).ovf

/-- R495. The first 16 bytes of a telemetry entry, PHASE left 0, with what every entry of a dump
carries: BASELINE and LOST_BEFORE. -/
def telHead (s : State) (kind index : Nat) (base frozen : Bool) : Bytes :=
  [BitVec.ofNat 8 kind, BitVec.ofNat 8 index, 0,
    BitVec.ofNat 8 (2 * b2n base + 4 * b2n frozen + 8 * b2n s.tel.dropped)] ++
    leBytes 4 s.tel.seq ++ leBytes 8 s.clk.tick.toNat

/-- R494. The ports of the dump that a bed holds. -/
def State.telPorts (s : State) (b : BedId) : List PortId :=
  (portsOf b).filter fun p => s.tel.cfg.ports.getLsbD p.val

/-- R497. The dump is the first written since dumps were enabled or since the device started. -/
def State.telFirst (s : State) : Bool := s.tel.prevTick.isNone

/-- R496. The HEADER entry of a dump of n entries. -/
def State.telHeader (s : State) (n : Nat) : Bytes :=
  slice (telHead s 1 0 s.telFirst false ++ leBytes 2 s.tel.cfg.periodMs ++ leBytes 2 n ++
    [BitVec.ofNat 8 s.hub.mode.code, BitVec.ofNat 8 (maskOf 0 allBeds s.bedOn),
     BitVec.ofNat 8 (b2n s.clk.synced), 0] ++ leBytes 8 (s.tel.prevTick.getD 0).toNat ++
    leBytes 16 s.tel.cfg.ports.toNat) 0 512

/-- R496. A BED entry. -/
def State.telBed (s : State) (b : BedId) : Bytes :=
  let d := s.bed b
  slice (telHead s 2 b.val s.telFirst (!s.bedOn b) ++ [d.k, BitVec.ofNat 8 (d.cnt.ovfs 4)] ++
    zeros 14 ++ (List.range 4).flatMap fun k => cntBytes (d.cnt.get k)) 0 512

/-- R496. A LANES entry: lanes 32n + 16h to 32n + 16h + 15 of bed n. -/
def State.telLanes (s : State) (b : BedId) (h : Nat) : Bytes :=
  let ls := (lanesOf b).drop (16 * h) |>.take 16
  let ovf := (ls.zipIdx).foldl (fun a x => a + (s.lane x.1).cnt.ovfs 5 * 2 ^ (5 * x.2)) 0
  slice (telHead s 3 (2 * b.val + h) s.telFirst (!s.bedOn b) ++ leBytes 10 ovf ++ zeros 6 ++
    ls.flatMap fun l => (List.range 5).flatMap fun k => cntBytes ((s.lane l).cnt.get k)) 0 512

/-- R497. The slot counters of a port. -/
def Port.slotCnts (q : Port) : List (BitVec 48) := (List.range 16).map fun i => (q.cnt.get i).val

/-- R497. The port's entry is a baseline. -/
def State.telBase (s : State) (p : PortId) : Bool :=
  let q := s.port p
  s.telFirst || q.prev.isNone || q.cntWritten

/-- R497. A PORT entry. -/
def State.telPort (s : State) (p : PortId) : Bytes :=
  let q := s.port p
  let base := s.telBase p
  let us := if base then 0
    else sat (tkToUs (s.clk.tick - s.tel.prevTick.getD 0).toNat)
  let old := q.prev.getD []
  let delta (i : Nat) : Nat :=
    if base then 0 else sat ((q.cnt.get i).val - old.getD i 0).toNat
  slice (telHead s 4 p.val base (!s.bedOn (bedOf p)) ++
    [BitVec.ofNat 8 q.link.state.code, if q.linked then q.link.rung.setWidth 8 else 0,
     q.slots.span.setWidth 8, 0] ++ leBytes 4 us ++ leBytes 8 (q.cnt.ovfs 64) ++
    (List.range 64).flatMap (fun i => cntBytes (q.cnt.get i)) ++
    (List.range 16).flatMap fun i => leBytes 4 (delta i)) 0 512

/-- R494. The entries of a bed in a dump. -/
def State.telBedEntries (s : State) (b : BedId) : List Bytes :=
  if (s.telPorts b).isEmpty then []
  else [s.telBed b, s.telLanes b 0, s.telLanes b 1] ++ (s.telPorts b).map s.telPort

/-- R494. A dump. -/
def State.telEntries (s : State) : List Bytes :=
  let body := allBeds.flatMap s.telBedEntries
  s.telHeader (body.length + 1) :: body

/-! ## Dumps (R305, R493, R497, R501) -/

/-- R305, R344. A dump is dropped whole: counted in LOST, and reported at most once a second. -/
def State.telDrop (s : State) : State :=
  let t := s.ringDrop telRing
  let u := { t with tel := { t.tel with dropped := true } }
  let due := match u.tel.dropAt with
    | some x => decide (x + Config.tk1s ≤ u.now)
    | none => true
  if due then
    ({ u with tel := { u.tel with dropAt := some u.now } }).raise .telDrop .device
      [(20, 4, (u.ring telRing).lost)]
  else u

/-- R329, R501. The settings that wait take effect at a boundary; dumps enabled anew count from
1 and begin with a baseline. Log 51 (DEDUCED). -/
def State.telApply (s : State) : State :=
  match s.tel.next with
  | none => s
  | some (c, t) =>
    if s.now < t then s
    else
      let fresh := c.en && !s.tel.cfg.en
      let l := s.tel
      { s with tel := { l with
        cfg := c, next := none, seq := if fresh then 0 else l.seq,
        prevTick := if fresh then none else l.prevTick,
        dropped := if fresh then false else l.dropped } }

/-- R493. The snapshot of a dump that falls due: it is written, or dropped where it does not fit or
an earlier one is still being written. Log 51 (DEDUCED). -/
def State.telDue (s : State) : State :=
  let l := s.tel
  let t := { s with tel := { l with seq := l.seq + 1 } }
  if !t.tel.writing.isEmpty then State.sampleDrain 512 t.telDrop
  else
    let es := t.telEntries
    if (t.ring telRing).state != .run || decide ((t.ring telRing).free < es.length) then
      State.sampleDrain 512 t.telDrop
    else
      let ps := allPorts.filter fun p => t.tel.cfg.ports.getLsbD p.val
      let snap := ps.map fun p => (p, (t.port p).slotCnts, (t.port p).cntWritten)
      let u := forAll ps (fun p u => u.modPort p fun q => { q with cntWritten := false }) t
      { u with tel := { u.tel with
        writing := es, snap := snap, snapTick := u.clk.tick, dropped := false } }

/-- TELEMETRY_DUMP_DUE (R493): a dump boundary. None is due while the hub main domain is off or in
BOOT, SEEDBED or CALIBRATE. Log 51 (DEDUCED). -/
def execTelemetryDumpDue (s : State) : Host.Outcome State Fault Refusal :=
  onLive s fun s =>
    if s.ringsServed && s.hub.mode != .calibrate && s.telBoundary then
      let t := s.telApply
      if t.tel.cfg.en && t.telBoundary then t.telDue else t
    else s

/-- R288, R495. An entry of a dump with its phase. -/
def telPhase (e : Bytes) (phase : Bool) : Bytes :=
  upd e 3 (byteAt e 3 + BitVec.ofNat 8 (b2n phase))

/-- TELEMETRY_DUMP_WRITTEN (R285, R493, R497): the dump is in the ring, and the samples that waited
for it follow. -/
def execTelemetryDumpWritten (s : State) : Host.Outcome State Fault Refusal :=
  onLive s fun s =>
    let l := s.tel
    if l.writing.isEmpty || !s.dmaOk true then s
    else if (s.ring telRing).state != .run || decide ((s.ring telRing).free < l.writing.length) then
      State.sampleDrain 512 s.telCancel.telDrop
    else
      let s1 := forAll l.writing (fun e t => t.produce telRing (telPhase e)) s
      let s2 := forAll l.snap (fun x t => t.modPort x.1 fun q => { q with prev := some x.2.1 }) s1
      State.sampleDrain 512 { s2 with tel := { s2.tel with
        writing := [], snap := [], prevTick := some l.snapTick } }

/-- CMD_TEL_CONFIG (R329). -/
def execCmdTelConfig (h : CmdHdr) (en : Byte) (periodMs : BitVec 16) (ports : BitVec 128)
    (s : State) : Host.Outcome State Fault Refusal :=
  onLive s fun s =>
    let ok := decide (en.toNat ≤ 1) && decide (1 ≤ periodMs.toNat) &&
      decide (periodMs.toNat ≤ 10000)
    s.runCmd h .telConfig ok false false fun k _ e s => s.doneNext k e fun t =>
      let c : TelCfg := { en := en == 1, periodMs := periodMs.toNat, ports := ports }
      { t with tel := { t.tel with next := some (c, t.now) } }

/-! ## Block sampling (R489–R492, R501) -/

/-- R490. The seed of a bed's sampling LFSR. -/
def sampSeed (b : BedId) : BitVec 32 :=
  let v := Config.serial.setWidth 32 ^^^ BitVec.ofNat 32 (b.val + 1)
  if v = 0 then 1 else v

/-- R489, R490. A countdown of a port is loaded from its bed's LFSR. -/
def State.sampReload (s : State) (p : PortId) (rx : Bool) : State :=
  let d := s.bed (bedOf p)
  let (n, st) := sampDraw d.k.toNat d.sampLfsr
  let t := s.modBed (bedOf p) fun d => { d with sampLfsr := st }
  t.modPort p fun q =>
    if rx then { q with rxSamp := { q.rxSamp with count := n } }
    else { q with txSamp := { q.txSamp with count := n } }

/-- R330, R489, R490. K of a bed is set, its LFSR seeded and its ports' countdowns drawn. -/
def State.sampSet (s : State) (b : BedId) (k : Byte) : State :=
  let t := s.modBed b fun d => { d with k := k, sampLfsr := sampSeed b }
  if k = 0 then t
  else forAll (portsOf b) (fun p t => (t.sampReload p false).sampReload p true) t

/-- CMD_SAMPLE_CONFIG (R330). Log 11 (DEDUCED). -/
def execCmdSampleConfig (h : CmdHdr) (k : Byte) (s : State) : Host.Outcome State Fault Refusal :=
  onLive s fun s =>
    let ok := k == 0 || (decide (10 ≤ k.toNat) && decide (k.toNat ≤ 24))
    s.runCmd h .sampleConfig ok true false fun key _ e s => s.doneNext key e fun t =>
      match e with
      | .bed b => t.sampSet b k
      | _ => forAll allBeds (fun b t => t.sampSet b k) t

/-- SAMPLE_COUNTDOWN_EXPIRY (R489, R490, R501): the block is tagged and the countdown reloaded. A tag
that finds a block in flight, a full store or a port outside data mode is not taken.
Log 52 (DEDUCED). -/
def execSampleCountdownExpiry (p : PortId) (rx : Bool) (s : State) :
    Host.Outcome State Fault Refusal :=
  onLive s fun s =>
    let d := s.bed (bedOf p)
    if d.k = 0 || !s.bedOn (bedOf p) then s
    else
      let q := s.port p
      let m := if rx then q.rxSamp else q.txSamp
      let t := s.sampReload p rx
      if m.flight.isSome || decide (64 ≤ d.store.length) || !q.linked then t.count p 0x3D 1
      else
        let f : Flight := { k := d.k, slotNo := (q.cnt.get (if rx then 8 else 0)).val,
                            tick := s.clk.tick, rung := q.link.rung, deep := rx && q.line.deep }
        (t.modPort p fun q =>
          if rx then { q with rxSamp := { q.rxSamp with flight := some f } }
          else { q with txSamp := { q.txSamp with flight := some f } }).countBed (bedOf p) 2 1

/-- R492. A record in its place in a store: in order of the stage-0 tick. -/
def sampleInsert (r : Sample) : List Sample → List Sample
  | [] => [r]
  | x :: xs => if r.at.toNat < x.at.toNat then r :: x :: xs else x :: sampleInsert r xs

/-- R492. ITER: the largest iteration count of the sections that hold the block's bits, each by how many
sections have been released after it; 0 for TX and on a standard rung. -/
def sampleIter (rx : Bool) (rung : Rung) (iters : List Nat) (sects : List (Fin 16)) : Byte :=
  if rx && isCh rung then BitVec.ofNat 8 (sects.foldl (fun a i => max a (iters.getD i.val 0)) 0) else 0

/-- SAMPLE_RECORD_QUEUE (R491, R492): ticks holds the stamps of the stages from 1 that the block has
reached, fine the fine parts from stage 0, sects the sections that hold its bits as far as they are
released. Log 52 (DEDUCED). -/
def execSampleRecordQueue (p : PortId) (rx : Bool) (ticks : List Tick) (fine : List (BitVec 6))
    (sects : List (Fin 16)) (s : State) : Host.Outcome State Fault Refusal :=
  onLive s fun s =>
    let q := s.port p
    let m := if rx then q.rxSamp else q.txSamp
    match m.flight with
    | none => s
    | some f =>
      if !f.left && ticks.length < 5 then s
      else
        let r : Sample := { port := p, rx := rx, rung := f.rung, iter := sampleIter rx f.rung q.rx.iters sects,
                            k := f.k, deep := f.deep, slotNo := f.slotNo,
                            ticks := f.tick :: ticks.take 5,
                            fine := fine.take (1 + ticks.length), incomplete := f.left }
        let t := s.modPort p fun q =>
          if rx then { q with rxSamp := { q.rxSamp with flight := none } }
          else { q with txSamp := { q.txSamp with flight := none } }
        State.sampleDrain 512 ((t.modBed (bedOf p) fun d =>
          { d with store := sampleInsert r d.store }).count p 0x3C 1)

/-! ## Counters and their grants (R331, R488, R500) -/

/-- COUNTER_GRANT (R331, R500). Log 11 (DEDUCED). -/
def execCounterGrant (h : CmdHdr) (s : State) : Host.Outcome State Fault Refusal :=
  onLive s fun s => s.runCmd h .counterAccess true false false fun k _ e s =>
    onPort e (fun p s => s.doneNext k e fun t => t.modPort p fun q => { q with granted := true }) s

/-- COUNTER_REVOKE (R331, R500). -/
def execCounterRevoke (h : CmdHdr) (s : State) : Host.Outcome State Fault Refusal :=
  onLive s fun s => s.runCmd h .counterAccess true false false fun k _ e s =>
    onPort e (fun p s => s.doneNext k e fun t => t.modPort p fun q => { q with granted := false }) s

/-- R331, R488. A counter of a port takes a value. -/
def State.cntSet (s : State) (p : PortId) (i : Nat) (v : BitVec 48) : State :=
  let t := if cntListed i then s.modPort p fun q => { q with cnt := q.cnt.write s.now i v }
    else match laneCnt (s.port p) p i with
      | some (l, k) => s.modLane l fun x => { x with cnt := x.cnt.write s.now k v }
      | none => s
  t.modPort p fun q => { q with cntWritten := true }

/-- COUNTER_WRITE (R331, R488). -/
def execCounterWrite (h : CmdHdr) (counter : BitVec 16) (value : BitVec 64) (s : State) :
    Host.Outcome State Fault Refusal :=
  onLive s fun s =>
    let i := counter.toNat
    let ok := decide (i ≤ 0x9F) && fld value 48 16 == 0
    s.runCmd h .counterAccess ok true true fun k _ e s =>
      onPort e (fun p s =>
        if cntListed i || (laneCnt (s.port p) p i).isSome then
          s.doneNext k e fun t => t.cntSet p i (value.setWidth 48)
        else s.finish k e .badParam) s

/-! ## The Spring configuration (R332) -/

/-- CMD_SPRING_CONFIG (R63, R332). -/
def execCmdSpringConfig (h : CmdHdr) (select springEn : Byte) (springctl : Word) (s : State) :
    Host.Outcome State Fault Refusal :=
  onLive s fun s =>
    let ok := select != 0 && decide (select.toNat < 4) && decide (springEn.toNat ≤ 1)
    s.runCmd h .springConfig ok false true fun k _ e s =>
      onPort e (fun p s =>
        let s1 := if bit select 0 then
            s.cmdWrite p 0x100 (setFld (s.port p).cfg.linkctl 15 1 (b2n (bit springEn 0)))
          else s
        let s2 := if bit select 1 then s1.cmdWrite p 0x134 springctl else s1
        s2.doneNext k e id) s

end Sys2Proof.Machine
end

