-- ==== Sys2Proof/Machine/Dispatch.lean ====
section
/-! DEFINITION.
The dispatch of a command to its meaning: one arm for each constructor of Instr, in the order of the
opcode table. -/

namespace Sys2Proof.Machine

def exec (i : Instr) (s : State) : Host.Outcome State Fault Refusal :=
  match i with
  | .powerOn => Sys2Proof.Machine.execPowerOn s
  | .powerRemoval => Sys2Proof.Machine.execPowerRemoval s
  | .perstAssert => Sys2Proof.Machine.execPerstAssert s
  | .perstRelease straps => Sys2Proof.Machine.execPerstRelease straps s
  | .railPowerGoodLost rails => Sys2Proof.Machine.execRailPowerGoodLost rails s
  | .railPowerGoodRegained rails => Sys2Proof.Machine.execRailPowerGoodRegained rails s
  | .hotReset => Sys2Proof.Machine.execHotReset s
  | .pcieLinkDown => Sys2Proof.Machine.execPcieLinkDown s
  | .flrPf0 => Sys2Proof.Machine.execFlrPf0 s
  | .flrPf1 => Sys2Proof.Machine.execFlrPf1 s
  | .flrComplete pf1 => Sys2Proof.Machine.execFlrComplete pf1 s
  | .d3hotEntry pf1 => Sys2Proof.Machine.execD3hotEntry pf1 s
  | .d3hotExit pf1 => Sys2Proof.Machine.execD3hotExit pf1 s
  | .smbusClockLowTimeout => Sys2Proof.Machine.execSmbusClockLowTimeout s
  | .loopFirstLock => Sys2Proof.Machine.execLoopFirstLock s
  | .loopLockTimeout => Sys2Proof.Machine.execLoopLockTimeout s
  | .clockMonitorTrip => Sys2Proof.Machine.execClockMonitorTrip s
  | .refclkEdgesResumed => Sys2Proof.Machine.execRefclkEdgesResumed s
  | .reacquireEdgeMissing => Sys2Proof.Machine.execReacquireEdgeMissing s
  | .loopRelock => Sys2Proof.Machine.execLoopRelock s
  | .linePllLockLost b => Sys2Proof.Machine.execLinePllLockLost b s
  | .linePllRelock b => Sys2Proof.Machine.execLinePllRelock b s
  | .linePllRelockTimeout b => Sys2Proof.Machine.execLinePllRelockTimeout b s
  | .linePllPostResetTimeout b => Sys2Proof.Machine.execLinePllPostResetTimeout b s
  | .lanePllLockLost b pll => Sys2Proof.Machine.execLanePllLockLost b pll s
  | .lanePllLock b pll => Sys2Proof.Machine.execLanePllLock b pll s
  | .steerStep b => Sys2Proof.Machine.execSteerStep b s
  | .tenderWatchdogExpiry b => Sys2Proof.Machine.execTenderWatchdogExpiry b s
  | .tempSample temps => Sys2Proof.Machine.execTempSample temps s
  | .esyncEdge => Sys2Proof.Machine.execEsyncEdge s
  | .esyncFollowTimeout => Sys2Proof.Machine.execEsyncFollowTimeout s
  | .cmdPortConfig h select linkctl trainctl decctl stillctl fpctl => Sys2Proof.Machine.execCmdPortConfig h select linkctl trainctl decctl stillctl fpctl s
  | .cmdPortEnable h => Sys2Proof.Machine.execCmdPortEnable h s
  | .cmdPortDisable h => Sys2Proof.Machine.execCmdPortDisable h s
  | .cmdRetrain h => Sys2Proof.Machine.execCmdRetrain h s
  | .cmdReset h => Sys2Proof.Machine.execCmdReset h s
  | .resetComplete e => Sys2Proof.Machine.execResetComplete e s
  | .cmdLaneConfig h cfgs => Sys2Proof.Machine.execCmdLaneConfig h cfgs s
  | .cmdLoopback h side kind rung on => Sys2Proof.Machine.execCmdLoopback h side kind rung on s
  | .cmdDiagRun h tests nvp buf => Sys2Proof.Machine.execCmdDiagRun h tests nvp buf s
  | .cmdFpSave h toFlash buf => Sys2Proof.Machine.execCmdFpSave h toFlash buf s
  | .cmdFpLoad h fromFlash data => Sys2Proof.Machine.execCmdFpLoad h fromFlash data s
  | .cmdCalRun h groups => Sys2Proof.Machine.execCmdCalRun h groups s
  | .cmdCalStore h => Sys2Proof.Machine.execCmdCalStore h s
  | .cmdBistRun h kinds => Sys2Proof.Machine.execCmdBistRun h kinds s
  | .cmdRepairFuse h confirm => Sys2Proof.Machine.execCmdRepairFuse h confirm s
  | .cmdTelConfig h en periodMs ports => Sys2Proof.Machine.execCmdTelConfig h en periodMs ports s
  | .cmdSampleConfig h k => Sys2Proof.Machine.execCmdSampleConfig h k s
  | .counterGrant h => Sys2Proof.Machine.execCounterGrant h s
  | .counterRevoke h => Sys2Proof.Machine.execCounterRevoke h s
  | .counterWrite h counter value => Sys2Proof.Machine.execCounterWrite h counter value s
  | .cmdSpringConfig h select springEn springctl => Sys2Proof.Machine.execCmdSpringConfig h select springEn springctl s
  | .cmdPowerState h state => Sys2Proof.Machine.execCmdPowerState h state s
  | .cmdRegBatch h buf entries => Sys2Proof.Machine.execCmdRegBatch h buf entries s
  | .cmdFwStage h flags offset length data => Sys2Proof.Machine.execCmdFwStage h flags offset length data s
  | .cmdFwActivate h slot restart => Sys2Proof.Machine.execCmdFwActivate h slot restart s
  | .cmdAttest h reportLen nonce reportAddr => Sys2Proof.Machine.execCmdAttest h reportLen nonce reportAddr s
  | .cmdDebugUnlock h tokenLen token => Sys2Proof.Machine.execCmdDebugUnlock h tokenLen token s
  | .estateSyncFollow h timeoutMs value => Sys2Proof.Machine.execEstateSyncFollow h timeoutMs value s
  | .estateSyncLead h timeoutMs value => Sys2Proof.Machine.execEstateSyncLead h timeoutMs value s
  | .commandTargetTimeout ring cid e => Sys2Proof.Machine.execCommandTargetTimeout ring cid e s
  | .hostProducerDoorbell r v => Sys2Proof.Machine.execHostProducerDoorbell r v s
  | .deviceConsumerDoorbell r v => Sys2Proof.Machine.execDeviceConsumerDoorbell r v s
  | .doorbellMisuse addr => Sys2Proof.Machine.execDoorbellMisuse addr s
  | .commandFetch ring entry => Sys2Proof.Machine.execCommandFetch ring entry s
  | .commandStart ring => Sys2Proof.Machine.execCommandStart ring s
  | .completionWrite ring cid => Sys2Proof.Machine.execCompletionWrite ring cid s
  | .eventEntryWrite => Sys2Proof.Machine.execEventEntryWrite s
  | .ringEnable m r cfg => Sys2Proof.Machine.execRingEnable m r cfg s
  | .ringDisable m r cfg => Sys2Proof.Machine.execRingDisable m r cfg s
  | .ringDrainComplete r => Sys2Proof.Machine.execRingDrainComplete r s
  | .ringDmaError r => Sys2Proof.Machine.execRingDmaError r s
  | .msixCoalesceTimeout r => Sys2Proof.Machine.execMsixCoalesceTimeout r s
  | .springTxEntryTake b entry payload => Sys2Proof.Machine.execSpringTxEntryTake b entry payload s
  | .springRxEntryWrite b => Sys2Proof.Machine.execSpringRxEntryWrite b s
  | .telemetryDumpDue => Sys2Proof.Machine.execTelemetryDumpDue s
  | .telemetryDumpWritten => Sys2Proof.Machine.execTelemetryDumpWritten s
  | .sampleCountdownExpiry p rx => Sys2Proof.Machine.execSampleCountdownExpiry p rx s
  | .sampleRecordQueue p rx ticks fine sects => Sys2Proof.Machine.execSampleRecordQueue p rx ticks fine sects s
  | .registerWrite m addr v form => Sys2Proof.Machine.execRegisterWrite m addr v form s
  | .offBlockAccess m kind addr => Sys2Proof.Machine.execOffBlockAccess m kind addr s
  | .afaultClear m => Sys2Proof.Machine.execAfaultClear m s
  | .dshiftClear m p => Sys2Proof.Machine.execDshiftClear m p s
  | .fpClear m p => Sys2Proof.Machine.execFpClear m p s
  | .laneTxeqWrite m l v => Sys2Proof.Machine.execLaneTxeqWrite m l v s
  | .fuseGo m b v => Sys2Proof.Machine.execFuseGo m b v s
  | .fuseBlowDone b readBackOk => Sys2Proof.Machine.execFuseBlowDone b readBackOk s
  | .flashRead m ctl => Sys2Proof.Machine.execFlashRead m ctl s
  | .flashProgram m ctl => Sys2Proof.Machine.execFlashProgram m ctl s
  | .flashErase m ctl => Sys2Proof.Machine.execFlashErase m ctl s
  | .flashOpDone deviceError => Sys2Proof.Machine.execFlashOpDone deviceError s
  | .mbxLockRead ms c => Sys2Proof.Machine.execMbxLockRead ms c s
  | .mbxLockRelease m c v => Sys2Proof.Machine.execMbxLockRelease m c v s
  | .mbxStageWrite m c which v => Sys2Proof.Machine.execMbxStageWrite m c which v s
  | .mbxPost m c => Sys2Proof.Machine.execMbxPost m c s
  | .mbxTake m c => Sys2Proof.Machine.execMbxTake m c s
  | .mbxDone m c result => Sys2Proof.Machine.execMbxDone m c result s
  | .mbxBellSet m c v => Sys2Proof.Machine.execMbxBellSet m c v s
  | .mbxBellClear m c v => Sys2Proof.Machine.execMbxBellClear m c v s
  | .mbxMaskWrite m c v => Sys2Proof.Machine.execMbxMaskWrite m c v s
  | .mbxBindWrite m c v => Sys2Proof.Machine.execMbxBindWrite m c v s
  | .mbxBindctlLock m v => Sys2Proof.Machine.execMbxBindctlLock m v s
  | .seedbedStatus buf => Sys2Proof.Machine.execSeedbedStatus buf s
  | .seedbedVerify buf => Sys2Proof.Machine.execSeedbedVerify buf s
  | .setPreferred buf => Sys2Proof.Machine.execSetPreferred buf s
  | .retry buf => Sys2Proof.Machine.execRetry buf s
  | .startStageEnd o => Sys2Proof.Machine.execStartStageEnd o s
  | .coreReadyReport m => Sys2Proof.Machine.execCoreReadyReport m s
  | .startStageTimeout => Sys2Proof.Machine.execStartStageTimeout s
  | .startTimeout => Sys2Proof.Machine.execStartTimeout s
  | .fwFatal => Sys2Proof.Machine.execFwFatal s
  | .failedStartRestart => Sys2Proof.Machine.execFailedStartRestart s
  | .slotBackgroundVerify => Sys2Proof.Machine.execSlotBackgroundVerify s
  | .svnFuseBlow => Sys2Proof.Machine.execSvnFuseBlow s
  | .sluiceBlockAnswer blk => Sys2Proof.Machine.execSluiceBlockAnswer blk s
  | .sluiceAnswerTimeout blk => Sys2Proof.Machine.execSluiceAnswerTimeout blk s
  | .sluiceReask blk => Sys2Proof.Machine.execSluiceReask blk s
  | .sluiceDelayLimit blk => Sys2Proof.Machine.execSluiceDelayLimit blk s
  | .sluiceBusIdle d => Sys2Proof.Machine.execSluiceBusIdle d s
  | .sluiceBusIdleTimeout d => Sys2Proof.Machine.execSluiceBusIdleTimeout d s
  | .domainOffComplete d => Sys2Proof.Machine.execDomainOffComplete d s
  | .domainSupplyGood d => Sys2Proof.Machine.execDomainSupplyGood d s
  | .domainSupplyTimeout d => Sys2Proof.Machine.execDomainSupplyTimeout d s
  | .hubRingsRestored => Sys2Proof.Machine.execHubRingsRestored s
  | .bedIdleHoldoffExpiry b => Sys2Proof.Machine.execBedIdleHoldoffExpiry b s
  | .waketimeReached => Sys2Proof.Machine.execWaketimeReached s
  | .gpioRisingEdge g => Sys2Proof.Machine.execGpioRisingEdge g s
  | .wakeActedOn => Sys2Proof.Machine.execWakeActedOn s
  | .springWaitExpiry p => Sys2Proof.Machine.execSpringWaitExpiry p s
  | .roleIntervalExpiry p => Sys2Proof.Machine.execRoleIntervalExpiry p s
  | .tailSyncWaitExpiry p => Sys2Proof.Machine.execTailSyncWaitExpiry p s
  | .capRepeatTimer p => Sys2Proof.Machine.execCapRepeatTimer p s
  | .syncWordDetect p bits rssi foff => Sys2Proof.Machine.execSyncWordDetect p bits rssi foff s
  | .springHeader p hdr => Sys2Proof.Machine.execSpringHeader p hdr s
  | .springFrameAbort p => Sys2Proof.Machine.execSpringFrameAbort p s
  | .springTxFrameEnd p => Sys2Proof.Machine.execSpringTxFrameEnd p s
  | .cap p payload => Sys2Proof.Machine.execCap p payload s
  | .select p payload => Sys2Proof.Machine.execSelect p payload s
  | .trainStep p payload => Sys2Proof.Machine.execTrainStep p payload s
  | .quietReq p payload => Sys2Proof.Machine.execQuietReq p payload s
  | .quietAck p payload => Sys2Proof.Machine.execQuietAck p payload s
  | .sweepReq p payload => Sys2Proof.Machine.execSweepReq p payload s
  | .sweepAck p payload => Sys2Proof.Machine.execSweepAck p payload s
  | .sweepDone p => Sys2Proof.Machine.execSweepDone p s
  | .diagEnd p => Sys2Proof.Machine.execDiagEnd p s
  | .dormNotice p => Sys2Proof.Machine.execDormNotice p s
  | .wakeReq p => Sys2Proof.Machine.execWakeReq p s
  | .wakeReady p payload => Sys2Proof.Machine.execWakeReady p payload s
  | .wakeGo p payload => Sys2Proof.Machine.execWakeGo p payload s
  | .wakeCold p => Sys2Proof.Machine.execWakeCold p s
  | .spare p payload => Sys2Proof.Machine.execSpare p payload s
  | .user p payload => Sys2Proof.Machine.execUser p payload s
  | .springCarrierLoss p => Sys2Proof.Machine.execSpringCarrierLoss p s
  | .springSilence p => Sys2Proof.Machine.execSpringSilence p s
  | .springRetryExpiry p => Sys2Proof.Machine.execSpringRetryExpiry p s
  | .keepaliveTimer p => Sys2Proof.Machine.execKeepaliveTimer p s
  | .selectRepeatTimer p => Sys2Proof.Machine.execSelectRepeatTimer p s
  | .joiningTimeout p => Sys2Proof.Machine.execJoiningTimeout p s
  | .trainStepRepeat p => Sys2Proof.Machine.execTrainStepRepeat p s
  | .spareRepeat p => Sys2Proof.Machine.execSpareRepeat p s
  | .wakeReqRepeat p => Sys2Proof.Machine.execWakeReqRepeat p s
  | .wakeReadyRepeat p => Sys2Proof.Machine.execWakeReadyRepeat p s
  | .wakeAnswerTimeout p => Sys2Proof.Machine.execWakeAnswerTimeout p s
  | .dormantNoticeAckTimeout p => Sys2Proof.Machine.execDormantNoticeAckTimeout p s
  | .cableChangeEpisode p => Sys2Proof.Machine.execCableChangeEpisode p s
  | .clause28Complete p o => Sys2Proof.Machine.execClause28Complete p o s
  | .clause28MsFault p => Sys2Proof.Machine.execClause28MsFault p s
  | .clauseTrainingResult p o => Sys2Proof.Machine.execClauseTrainingResult p o s
  | .clauseLinkFail p => Sys2Proof.Machine.execClauseLinkFail p s
  | .clauseFastRetrainTrigger p => Sys2Proof.Machine.execClauseFastRetrainTrigger p s
  | .lineLpiChange p rx enter => Sys2Proof.Machine.execLineLpiChange p rx enter s
  | .commaLockAcquire p pair xs ys => Sys2Proof.Machine.execCommaLockAcquire p pair xs ys s
  | .commaLockLoss p o => Sys2Proof.Machine.execCommaLockLoss p o s
  | .pairFailure p pairs => Sys2Proof.Machine.execPairFailure p pairs s
  | .oamFieldForm p blocks => Sys2Proof.Machine.execOamFieldForm p blocks s
  | .oamFieldReceive p oam => Sys2Proof.Machine.execOamFieldReceive p oam s
  | .oamLost p => Sys2Proof.Machine.execOamLost p s
  | .msgTimeout p => Sys2Proof.Machine.execMsgTimeout p s
  | .healthExtTimer p => Sys2Proof.Machine.execHealthExtTimer p s
  | .sectionRelease p o => Sys2Proof.Machine.execSectionRelease p o s
  | .snrUpdate p errs => Sys2Proof.Machine.execSnrUpdate p errs s
  | .degradeEpochEnd o => Sys2Proof.Machine.execDegradeEpochEnd o s
  | .terminationEnd p => Sys2Proof.Machine.execTerminationEnd p s
  | .trainingRowGroupForm p => Sys2Proof.Machine.execTrainingRowGroupForm p s
  | .tifAccept p tif => Sys2Proof.Machine.execTifAccept p tif s
  | .phaseReady p o => Sys2Proof.Machine.execPhaseReady p o s
  | .echoConverged p => Sys2Proof.Machine.execEchoConverged p s
  | .partnerSignalDetect p => Sys2Proof.Machine.execPartnerSignalDetect p s
  | .trainingDeadlineExpiry p => Sys2Proof.Machine.execTrainingDeadlineExpiry p s
  | .tifLossTimeout p => Sys2Proof.Machine.execTifLossTimeout p s
  | .tailNoHeadTif p => Sys2Proof.Machine.execTailNoHeadTif p s
  | .stillConditionMet p => Sys2Proof.Machine.execStillConditionMet p s
  | .hostNonLpiBlock p frame => Sys2Proof.Machine.execHostNonLpiBlock p frame s
  | .refreshDue p => Sys2Proof.Machine.execRefreshDue p s
  | .partnerRefreshWindowEnd p tifSeen commas => Sys2Proof.Machine.execPartnerRefreshWindowEnd p tifSeen commas s
  | .stillWakeTimeout p => Sys2Proof.Machine.execStillWakeTimeout p s
  | .ingressLockLost l cause => Sys2Proof.Machine.execIngressLockLost l cause s
  | .ingressLockGained l skew => Sys2Proof.Machine.execIngressLockGained l skew s
  | .hostModeReady p => Sys2Proof.Machine.execHostModeReady p s
  | .diagTestEnd p outcome o => Sys2Proof.Machine.execDiagTestEnd p outcome o s
  | .quietAckWaitExpiry p => Sys2Proof.Machine.execQuietAckWaitExpiry p s
  | .quietDurationExpiry p => Sys2Proof.Machine.execQuietDurationExpiry p s
  | .sweepAckTimeout p => Sys2Proof.Machine.execSweepAckTimeout p s
  | .sweepStartDelay p => Sys2Proof.Machine.execSweepStartDelay p s
  | .sweepDurationEnd p => Sys2Proof.Machine.execSweepDurationEnd p s
  | .sweepReceiveTimeout p => Sys2Proof.Machine.execSweepReceiveTimeout p s
  | .fpFlashWriteDone p => Sys2Proof.Machine.execFpFlashWriteDone p s
  | .calRunEnd b pass block => Sys2Proof.Machine.execCalRunEnd b pass block s
  | .calStoreComplete => Sys2Proof.Machine.execCalStoreComplete s
  | .bistKindStop bed o => Sys2Proof.Machine.execBistKindStop bed o s
  | .bistReinitEnd b => Sys2Proof.Machine.execBistReinitEnd b s
  | .bistReinitTimeout b => Sys2Proof.Machine.execBistReinitTimeout b s
  | .pcieLinkUp => Sys2Proof.Machine.execPcieLinkUp s
  | .springPayloadFailure p => Sys2Proof.Machine.execSpringPayloadFailure p s
  | .jtagInstruction ins => Sys2Proof.Machine.execJtagInstruction ins s
  | .smbusStatusRead c bell => Sys2Proof.Machine.execSmbusStatusRead c bell s
  | .esyncLeadPulseEnd => Sys2Proof.Machine.execEsyncLeadPulseEnd s
  | .fwStageChunkDone => Sys2Proof.Machine.execFwStageChunkDone s

end Sys2Proof.Machine
end

