-- ==== Sys2Proof/Machine/Tick.lean ====
section
/-! DEFINITION.
The tick that an empty queue lets pass (R404, R483–R485): the tick counter, the slots that fall due on
every port, and the time of a bed's main domain. -/

namespace Sys2Proof.Machine

/-! ## Slots (R484, R485) -/

/-- R484. Slots per tick of a rung, in units of 1/400. Log 58 (DEDUCED). -/
def rungRate (r : Rung) : Nat :=
  match r.toNat with
  | 1 => 1 | 2 => 10 | 3 => 25 | 4 => 50 | 5 => 100 | 6 => 250 | 7 => 400 | 8 => 500 | 9 => 1000
  | _ => 0

/-- R485. The categories of a slot. -/
inductive SlotCls
  | retired | wasted | front | wake | train | degraded
  deriving DecidableEq, Repr

/-- R481, R485. The place of a category's counter in its direction's eight, and whether BACK counts
it. -/
def SlotCls.place : SlotCls → Nat × Bool
  | .retired => (1, false) | .wasted => (2, false) | .front => (3, false)
  | .wake => (5, true) | .train => (6, true) | .degraded => (7, true)

/-- R484. A slot is counted: in SLOTS, in its category, and in BACK where that includes it. -/
def slotCount (now base : Nat) (b : Bank) (c : SlotCls) : Bank :=
  let b1 := (b.add now base 1).add now (base + c.place.1) 1
  if c.place.2 then b1.add now (base + 4) 1 else b1

/-- R485. A block's category. -/
def blkCls (frame errored : Bool) : SlotCls :=
  if !frame then .front else if errored then .wasted else .retired

/-- R485. A slot that carries nothing is idle by Still or by LPI. -/
def Port.slotIdle (q : Port) (rx : Bool) : Bool :=
  ((q.link.state == .still || q.still.quiet) && q.still.wake.isNone) ||
    (if rx then q.line.pClosing == LState.closeStill else q.line.closing == LState.closeStill)

/-- R485. The category of a due slot within capacity, with the blocks and the wake that are left.
What a standard rung's slot carries is measured by the rung's own PCS: free. Log 58 (DEDUCED). -/
def Port.slotCls (q : Port) (rx : Bool) (blks : List (Bool × Bool)) (wake : Bool) (free : Byte) :
    SlotCls × List (Bool × Bool) × Bool :=
  match blks with
  | b :: bs => (blkCls b.1 b.2, bs, false)
  | [] =>
    if q.link.state == .up || q.link.state == .still then
      if isCh q.link.rung then
        if q.slotIdle rx then (.front, [], wake)
        else if wake then (.wake, [], true)
        else (.train, [], false)
      else if (if rx then q.still.rxLpi else q.still.txLpi) then (.front, [], wake)
      else if wake && decide (128 ≤ free.toNat) then (.wake, [], true)
      else (blkCls (bit free 0) (bit free 1), [], false)
    else if q.slotIdle rx then (.front, [], wake)
    else if wake then (.wake, [], true)
    else (.train, [], false)

/-- R485. The n due slots of a direction within capacity. -/
def Port.slotRun (q : Port) (rx : Bool) (free : Nat → Byte) :
    Nat → List (Bool × Bool) → Bool → List SlotCls × List (Bool × Bool) × Bool
  | 0, bs, w => ([], bs, w)
  | n + 1, bs, w =>
    let (c, bs1, w1) := q.slotCls rx bs w (free n)
    let (cs, bs2, w2) := Port.slotRun q rx free n bs1 w1
    (c :: cs, bs2, w2)

/-- R484, R485. The rung that carries the slots of a span now. -/
def Port.slotRung (q : Port) : Rung :=
  if q.link.state == .up || q.link.state == .still then q.link.rung else q.train.rung

/-- R484, R485. What falls due at a port in a tick: the slots within capacity and those beyond it,
with the two remainders. -/
def Port.slotsDue (q : Port) : Nat × Nat × Nat × Nat :=
  let t := q.slots
  let span := rungRate t.span
  let a := t.acc + span
  let d := a / 400
  let cur := rungRate q.slotRung
  if cur < span then
    let k := t.capAcc + d * cur
    let c := min d (k / span)
    (c, d - c, a % 400, k % span)
  else (d, 0, a % 400, t.capAcc)

/-- R169, R484, R485. A port's slots in a tick. Log 58 (DEDUCED). -/
def Port.slotTick (q : Port) (now : Nat) (free : Nat → Byte) : Port :=
  if q.slots.span = 0 then q
  else
    let (c, g, acc, cap) := q.slotsDue
    let beyond := List.replicate g SlotCls.degraded
    let begun := q.still.wake.isSome
    let (tx, txq, tw) := q.slotRun false free c q.slots.tx (q.slots.txWake || begun)
    let (rx, rxq, rw) := q.slotRun true (fun i => free (4 + i)) c q.slots.rx
      (q.slots.rxWake || begun)
    { q with
      cnt := (beyond ++ rx).foldl (slotCount now 8) ((beyond ++ tx).foldl (slotCount now 0) q.cnt),
      slots := { q.slots with acc := acc, capAcc := cap, tx := txq, rx := rxq, txWake := tw,
                              rxWake := rw } }

/-! ## Beds (R483) -/

/-- R483. The µs that a bed's main domain is on: 4/625 of one in each tick. -/
def Bed.onTick (d : Bed) (now : Nat) : Bed :=
  if !d.pow.on then d
  else if 625 ≤ d.onFrac + 4 then
    { d with onFrac := d.onFrac + 4 - 625, cnt := d.cnt.add now 0 1 }
  else { d with onFrac := d.onFrac + 4 }

/-! ## The tick -/

/-- R389, R395, R404. The clock's part of a tick. -/
def Clk.onTick (c : Clk) : Clk :=
  if c.armed || c.coast then
    { c with tick := c.tick + 1, coastTicks := c.coastTicks + b2n c.coast }
  else c

/-- One tick passes. Log 1 (DESIGN CHOICE). -/
def State.tickOn (s : State) : State :=
  let n := s.now + 1
  let t := { s with now := n, clk := s.clk.onTick }
  if !s.live then t
  else
    { t with
      free := s.free + 1,
      ports := mkVec 128 fun p => (s.port p).slotTick n fun i => Config.freeByte s.free (8 * p.val + i),
      beds := mkVec 8 fun b => (s.bed b).onTick n }

end Sys2Proof.Machine
end

