-- ==== Sys2Proof/Machine/Step.lean ====
section
/-! DEFINITION.
One step: the command at the front of the queue, or, where none waits, one tick of the block's
clock. -/

namespace Sys2Proof.Machine

/-- The step: the first waiting command runs with the queue's rest; on an empty queue a tick
passes. Log 1 (DESIGN CHOICE). -/
def step (s : State) : Host.Outcome State Fault Refusal :=
  match s.pending with
  | [] => .next s.tickOn
  | c :: cs => exec c { s with pending := cs }

/-- The table gives its commands no bits, so no word spells one: the state stays as it is.
Log 3 (DESIGN CHOICE). -/
def State.withFetchWord (s : State) (_nbits _w : Nat) : State := s

end Sys2Proof.Machine
end

