-- ==== Sys2Proof/Decode.lean ====
section
/-! DEFINITION.
The command that a word spells: the table gives its commands no bits, so none does. -/

namespace Sys2Proof

/-- No row of spec/opcode_table.json has bits. Log 3 (DESIGN CHOICE). -/
def decodeTableWord (_nbits _w : Nat) : Option Instr := none

end Sys2Proof
end

