-- ==== Sys2Proof/WellFormed.lean ====
section
/-! DEFINITION.
Which commands are well formed: the ranges and lengths that the manual gives their operands. The
meanings are total, and do not rest on them. -/

namespace Sys2Proof

/-- R541. Rails are named once each. -/
def railsOk (rs : List Rail) : Bool := !rs.isEmpty && decide rs.Nodup

/-- R369. An identity that names a master. -/
def masterOk (m : MasterId) : Bool := decide (1 ≤ m.toNat) && decide (m.toNat ≤ 13)

/-- R437. A code that names a block. -/
def blkOk (b : Byte) : Bool :=
  let n := b.toNat
  (decide (1 ≤ n) && decide (n ≤ 7)) || n == 0x0F || (decide (0x10 ≤ n) && decide (n < 0x29)) ||
    (decide (0x30 ≤ n) && decide (n < 0x38))

/-- R244. What a test measures on a pair has the record's lengths. -/
def pairOk (o : PairObs) : Bool :=
  o.next.length == 3 && o.anext.length == 32 && o.il.length == 32

/-- The command is well formed. Log 61 (DESIGN CHOICE). -/
def Instr.wf (i : Instr) : Bool :=
  match i with
  | .powerOn => true
  | .powerRemoval => true
  | .perstAssert => true
  | .perstRelease _ => true
  | .railPowerGoodLost rails => railsOk rails
  | .railPowerGoodRegained rails => railsOk rails
  | .hotReset => true
  | .pcieLinkDown => true
  | .flrPf0 => true
  | .flrPf1 => true
  | .flrComplete _ => true
  | .d3hotEntry _ => true
  | .d3hotExit _ => true
  | .smbusClockLowTimeout => true
  | .loopFirstLock => true
  | .loopLockTimeout => true
  | .clockMonitorTrip => true
  | .refclkEdgesResumed => true
  | .reacquireEdgeMissing => true
  | .loopRelock => true
  | .linePllLockLost _ => true
  | .linePllRelock _ => true
  | .linePllRelockTimeout _ => true
  | .linePllPostResetTimeout _ => true
  | .lanePllLockLost _ _ => true
  | .lanePllLock _ _ => true
  | .steerStep _ => true
  | .tenderWatchdogExpiry _ => true
  | .tempSample temps => temps.length == 9
  | .esyncEdge => true
  | .esyncFollowTimeout => true
  | .cmdPortConfig _ _ _ _ _ _ _ => true
  | .cmdPortEnable _ => true
  | .cmdPortDisable _ => true
  | .cmdRetrain _ => true
  | .cmdReset _ => true
  | .resetComplete e => e != .device
  | .cmdLaneConfig h cfgs => cfgs.length == 1 || (h.portset && cfgs.length ≤ 128)
  | .cmdLoopback _ _ _ _ _ => true
  | .cmdDiagRun _ _ _ _ => true
  | .cmdFpSave _ _ _ => true
  | .cmdFpLoad _ _ data => data.all fun f => f.length == 2048
  | .cmdCalRun _ _ => true
  | .cmdCalStore _ => true
  | .cmdBistRun _ _ => true
  | .cmdRepairFuse _ _ => true
  | .cmdTelConfig _ _ _ _ => true
  | .cmdSampleConfig _ _ => true
  | .counterGrant _ => true
  | .counterRevoke _ => true
  | .counterWrite _ _ _ => true
  | .cmdSpringConfig _ _ _ _ => true
  | .cmdPowerState _ _ => true
  | .cmdRegBatch _ _ entries => entries.length ≤ 65535
  | .cmdFwStage _ _ _ length data => data.length == length.toNat
  | .cmdFwActivate _ _ _ => true
  | .cmdAttest _ _ nonce _ => nonce.length == 32
  | .cmdDebugUnlock _ tokenLen token => token.length == tokenLen.toNat
  | .estateSyncFollow _ _ _ => true
  | .estateSyncLead _ _ _ => true
  | .commandTargetTimeout _ _ _ => true
  | .hostProducerDoorbell r _ => decide (r.val < 16) || (decide (40 ≤ r.val) && decide (r.val < 48))
  | .deviceConsumerDoorbell r _ => (decide (16 ≤ r.val) && decide (r.val < 37)) || (decide (48 ≤ r.val) && decide (r.val < 56))
  | .doorbellMisuse _ => true
  | .commandFetch _ entry => entry.length == 64
  | .commandStart _ => true
  | .completionWrite _ _ => true
  | .eventEntryWrite => true
  | .ringEnable m _ cfg => masterOk m && cfg.getLsbD 0
  | .ringDisable m _ cfg => masterOk m && !cfg.getLsbD 0
  | .ringDrainComplete _ => true
  | .ringDmaError _ => true
  | .msixCoalesceTimeout _ => true
  | .springTxEntryTake _ entry _ => entry.length == 64
  | .springRxEntryWrite _ => true
  | .telemetryDumpDue => true
  | .telemetryDumpWritten => true
  | .sampleCountdownExpiry _ _ => true
  | .sampleRecordQueue _ _ ticks fine _ => decide (ticks.length ≤ 5) && fine.length == ticks.length + 1
  | .registerWrite m addr _ _ => masterOk m && addr.toNat % 4 == 0
  | .offBlockAccess m kind _ => masterOk m && decide (1 ≤ kind.toNat) && decide (kind.toNat ≤ 4)
  | .afaultClear m => masterOk m
  | .dshiftClear m _ => masterOk m
  | .fpClear m _ => masterOk m
  | .laneTxeqWrite m _ _ => masterOk m
  | .fuseGo m _ _ => masterOk m
  | .fuseBlowDone _ _ => true
  | .flashRead m _ => masterOk m
  | .flashProgram m _ => masterOk m
  | .flashErase m _ => masterOk m
  | .flashOpDone _ => true
  | .mbxLockRead ms _ => !ms.isEmpty && ms.all masterOk
  | .mbxLockRelease m _ _ => masterOk m
  | .mbxStageWrite m _ _ _ => masterOk m
  | .mbxPost m _ => masterOk m
  | .mbxTake m _ => masterOk m
  | .mbxDone m _ _ => masterOk m
  | .mbxBellSet m _ _ => masterOk m
  | .mbxBellClear m _ _ => masterOk m
  | .mbxMaskWrite m _ _ => masterOk m
  | .mbxBindWrite m _ _ => masterOk m
  | .mbxBindctlLock m _ => masterOk m
  | .seedbedStatus _ => true
  | .seedbedVerify _ => true
  | .setPreferred _ => true
  | .retry _ => true
  | .startStageEnd _ => true
  | .coreReadyReport m => decide (1 ≤ m.toNat) && decide (m.toNat ≤ 10)
  | .startStageTimeout => true
  | .startTimeout => true
  | .fwFatal => true
  | .failedStartRestart => true
  | .slotBackgroundVerify => true
  | .svnFuseBlow => true
  | .sluiceBlockAnswer blk => blkOk blk
  | .sluiceAnswerTimeout blk => blkOk blk
  | .sluiceReask blk => blkOk blk
  | .sluiceDelayLimit blk => blkOk blk
  | .sluiceBusIdle _ => true
  | .sluiceBusIdleTimeout _ => true
  | .domainOffComplete _ => true
  | .domainSupplyGood _ => true
  | .domainSupplyTimeout _ => true
  | .hubRingsRestored => true
  | .bedIdleHoldoffExpiry _ => true
  | .waketimeReached => true
  | .gpioRisingEdge _ => true
  | .wakeActedOn => true
  | .springWaitExpiry _ => true
  | .roleIntervalExpiry _ => true
  | .tailSyncWaitExpiry _ => true
  | .capRepeatTimer _ => true
  | .syncWordDetect _ _ _ _ => true
  | .springHeader _ _ => true
  | .springFrameAbort _ => true
  | .springTxFrameEnd _ => true
  | .cap _ payload => decide (payload.length ≤ 256)
  | .select _ payload => decide (payload.length ≤ 256)
  | .trainStep _ payload => decide (payload.length ≤ 256)
  | .quietReq _ payload => decide (payload.length ≤ 256)
  | .quietAck _ payload => decide (payload.length ≤ 256)
  | .sweepReq _ payload => decide (payload.length ≤ 256)
  | .sweepAck _ payload => decide (payload.length ≤ 256)
  | .sweepDone _ => true
  | .diagEnd _ => true
  | .dormNotice _ => true
  | .wakeReq _ => true
  | .wakeReady _ payload => decide (payload.length ≤ 256)
  | .wakeGo _ payload => decide (payload.length ≤ 256)
  | .wakeCold _ => true
  | .spare _ payload => decide (payload.length ≤ 256)
  | .user _ payload => decide (1 ≤ payload.length) && decide (payload.length ≤ 256)
  | .springCarrierLoss _ => true
  | .springSilence _ => true
  | .springRetryExpiry _ => true
  | .keepaliveTimer _ => true
  | .selectRepeatTimer _ => true
  | .joiningTimeout _ => true
  | .trainStepRepeat _ => true
  | .spareRepeat _ => true
  | .wakeReqRepeat _ => true
  | .wakeReadyRepeat _ => true
  | .wakeAnswerTimeout _ => true
  | .dormantNoticeAckTimeout _ => true
  | .cableChangeEpisode _ => true
  | .clause28Complete _ _ => true
  | .clause28MsFault _ => true
  | .clauseTrainingResult _ o => o.errs.length == 4
  | .clauseLinkFail _ => true
  | .clauseFastRetrainTrigger _ => true
  | .lineLpiChange _ _ _ => true
  | .commaLockAcquire _ _ xs ys => xs.length == 8 && ys.length == 8
  | .commaLockLoss _ o => o.vals.length == 4
  | .pairFailure _ pairs => !pairs.isEmpty && decide pairs.Nodup
  | .oamFieldForm _ _ => true
  | .oamFieldReceive _ _ => true
  | .oamLost _ => true
  | .msgTimeout _ => true
  | .healthExtTimer _ => true
  | .sectionRelease _ o => match o.pass with | some n => decide (1 ≤ n) | none => true
  | .snrUpdate _ errs => errs.length == 4
  | .degradeEpochEnd o => decide (o.errs ≤ o.frames) || o.frames == 0
  | .terminationEnd _ => true
  | .trainingRowGroupForm _ => true
  | .tifAccept _ _ => true
  | .phaseReady _ o => o.delay.length == 4 && o.errs.length == 4 && o.coef.length == 192
  | .echoConverged _ => true
  | .partnerSignalDetect _ => true
  | .trainingDeadlineExpiry _ => true
  | .tifLossTimeout _ => true
  | .tailNoHeadTif _ => true
  | .stillConditionMet _ => true
  | .hostNonLpiBlock _ _ => true
  | .refreshDue _ => true
  | .partnerRefreshWindowEnd _ _ _ => true
  | .stillWakeTimeout _ => true
  | .ingressLockLost _ cause => decide (1 ≤ cause.toNat)
  | .ingressLockGained _ _ => true
  | .hostModeReady _ => true
  | .diagTestEnd _ _ o => o.pairs.length == 4 && o.pairs.all pairOk
  | .quietAckWaitExpiry _ => true
  | .quietDurationExpiry _ => true
  | .sweepAckTimeout _ => true
  | .sweepStartDelay _ => true
  | .sweepDurationEnd _ => true
  | .sweepReceiveTimeout _ => true
  | .fpFlashWriteDone _ => true
  | .calRunEnd _ _ block => block.length == 0x3000
  | .calStoreComplete => true
  | .bistKindStop _ _ => true
  | .bistReinitEnd _ => true
  | .bistReinitTimeout _ => true
  | .pcieLinkUp => true
  | .springPayloadFailure _ => true
  | .jtagInstruction _ => true
  | .smbusStatusRead _ _ => true
  | .esyncLeadPulseEnd => true
  | .fwStageChunkDone => true

end Sys2Proof
end

