-- ==== Sys2Proof/Safety.lean ====
section
/-! DEFINITION.
The terms in which claims are stated: runs of steps, the states whose waiting commands and memories are
in form, the commands that act while the device is held, and what a step leaves alone. -/

namespace Sys2Proof

/-- R541, R542. The commands that are the supplies and PERST# themselves, or the JTAG port, which acts
with no clock of the device: those that a held device still follows. -/
def Instr.actsHeld (i : Instr) : Bool :=
  i == .powerOn || i == .powerRemoval || i == .perstAssert ||
    (match i with
     | .perstRelease _ | .railPowerGoodLost _ | .railPowerGoodRegained _ | .jtagInstruction _ => true
     | _ => false)

end Sys2Proof

namespace Sys2Proof.Machine

/-- n steps, each to a next state, lead from the first state to the second. -/
def Runs : Nat → State → State → Prop
  | 0, s, t => t = s
  | n + 1, s, t => ∃ u, step s = .next u ∧ Runs n u t

/-- The command has a next state from s, of which P holds. -/
def Completes (i : Instr) (s : State) (P : State → Prop) : Prop := ∃ t, exec i s = .next t ∧ P t

/-- The command of a header can act: the device serves its ring, and the record of it that waits, if
one does, has the form that R294 asks for. -/
def State.takes (s : State) (h : CmdHdr) (o : Op) : Bool :=
  s.startsNow && (s.waitingRec h o).all fun r => r.badForm.isNone

/-- R26, R292, R307, R314, R316. A command of opcode o acts on its one target e: the device is live and
serves it, its header names that target, and the checks that power and busy stand for let it pass. -/
def State.runsOn (s : State) (h : CmdHdr) (o : Op) (power busy : Bool) (e : Elem) : Bool :=
  s.live && s.takes h o && hdrTargets o h == some [e] && (s.preStatus power busy e).isNone

/-- A command with the ring and CID of a header has status st on target e. -/
def State.ended (s : State) (h : CmdHdr) (o : Op) (e : Elem) (st : ST) : Bool :=
  s.cmds.any fun r => r.hdr.ring == h.ring && r.hdr.cid == h.cid && r.op == o &&
    r.targets.any fun x => x.elem == e && x.status == some st

/-- A command with the ring and CID of a header has acted, and target e waits for its status. -/
def State.inProgress (s : State) (h : CmdHdr) (o : Op) (e : Elem) : Bool :=
  s.cmds.any fun r => r.hdr.ring == h.ring && r.hdr.cid == h.cid && r.op == o && r.awaits e

/-- R298. Each command of key k that waits for target e in s has, in t, status st of it. -/
def State.endsWith (s t : State) (k : CmdKey) (e : Elem) (st : ST) : Bool :=
  (s.cmds.filter fun r => r.is k && r.awaits e).all fun r =>
    t.cmds.any fun u => u.hdr == r.hdr && u.targets.any fun x => x.elem == e && x.status == some st

/-- A command of opcode o that has acted waits for the status of target e. -/
def State.awaited (s : State) (o : Op) (e : Elem) : Bool := s.cmds.any fun r => r.op == o && r.awaits e

/-- R187, R211. A frame of a type with a payload is due at port p, or in transmission. -/
def State.sends (s : State) (p : PortId) (t : FType) (payload : Bytes) : Bool :=
  let g := (s.port p).spring
  (g.due ++ g.cur.toList).any fun f => f.typ == t && f.payload == payload

/-- R187, R211. A frame of a type is due at port p, or in transmission. -/
def State.sendsType (s : State) (p : PortId) (t : FType) : Bool :=
  let g := (s.port p).spring
  (g.due ++ g.cur.toList).any fun f => f.typ == t

/-- R204, R210. The frame in reception at port p is of type t, has this payload, and is not sequenced. -/
def State.receives (s : State) (p : PortId) (t : FType) (payload : Bytes) : Bool :=
  s.live && s.springRuns p && decide (minLen t ≤ payload.length) &&
    match (s.port p).spring.rxHdr with
    | some h => fld h 0 4 == t.code && (minLen t == 0 || fld h 5 9 == payload.length) && !h.getLsbD 14
    | none => false

/-- R204, R212. The frame in reception at port p is of type t, has this payload, and is accepted in
PARTNERED, in order where it is sequenced. -/
def State.accepts (s : State) (p : PortId) (t : FType) (payload : Bytes) : Bool :=
  let g := (s.port p).spring
  s.live && s.springRuns p && decide (minLen t ≤ payload.length) && g.sstate == .partnered &&
    match g.rxHdr with
    | some h => fld h 0 4 == t.code && (minLen t == 0 || fld h 5 9 == payload.length) &&
        (!h.getLsbD 14 || fld h 15 4 == g.rxSeq.toNat)
    | none => false

/-- R301, R344. An event with a code, a source and a value of byte 16 waits for its ring. -/
def State.hasDue (s : State) (c : Ev) (src : Elem) (b : Nat) : Bool :=
  s.due.any fun e => e.code == c && e.src == src && fld e.data 0 8 == b

/-- R157. No link-down criterion of R154 has been met at port p in this tick. -/
def State.noCrit (s : State) (p : PortId) : Bool := s.due.all fun e => !e.critOf p s.now

/-- R344. An EV_LINK_DOWN of port p with a cause and its PAIRS waits for the event ring. -/
def State.hasDown (s : State) (p : PortId) (c : Down) (pairs : BitVec 4) : Bool :=
  s.due.any fun e => e.code == .linkDown && e.src == .port p && fld e.data 0 8 == c.code &&
    fld e.data 16 8 == pairs.toNat

/-- R369. The master is one with access to BAR0. -/
def hasBar0 (m : MasterId) : Bool := m != 0 && m != 12 && m != 14 && m != 15

/-- R345, R369, R438. An access of master m to an offset is made at once: the master has access to BAR0, the
offset's block answers, and no gate of its domain is closing. -/
def State.reaches (s : State) (m : MasterId) (a : Nat) : Bool :=
  hasBar0 m && !s.holding a &&
    match blockOf a with
    | some k => s.answersAt m k a
    | none => false

/-- Every waiting command is well formed. -/
def State.queueOk (s : State) : Bool := s.pending.all Instr.wf

/-- A memory whose unlisted bytes read 0 is in canonical form. -/
def ramOk (m : Mem) : Bool := Memory.wf 0 m

/-- A memory whose unlisted bytes read 0xFF is in canonical form. -/
def flashOk (m : Mem) : Bool := Memory.wf 0xFF m

/-- The three memories are in canonical form: host memory and mailbox memory list no 0, flash no
erased byte. -/
def State.memOk (s : State) : Bool := ramOk s.hostMem && ramOk s.mbxMem && flashOk s.flash.mem

/-- What the hub holds beside its rings and the commands in progress is as before: pins, mode, clocks,
Sluice, start-up, flash, security, telemetry and the mailboxes with their memory. -/
def State.hubKept (s t : State) : Prop :=
  t.pins = s.pins ∧ t.hub = s.hub ∧ t.clk = s.clk ∧ t.sluice = s.sluice ∧ t.boot = s.boot ∧
  t.flash = s.flash ∧ t.sec = s.sec ∧ t.tel = s.tel ∧ t.chans = s.chans ∧ t.mbxMem = s.mbxMem

/-- hubKept, but for the note of the tick's register writes (R14). -/
def State.hubWrote (s t : State) : Prop :=
  s.hubKept { t with hub := s.hub } ∧ t.hub = { s.hub with writes := t.hub.writes }

/-- R14. No register has been written in this tick. -/
def State.unwritten (s : State) : Bool := s.hub.writes.all fun w => w.1 != s.now

/-- hubKept, and the rings and host memory are as before. -/
def State.mostKept (s t : State) : Prop := s.hubKept t ∧ t.rings = s.rings ∧ t.hostMem = s.hostMem

/-- The bulk of the device is as before: hubKept, the rings, host memory and the beds. -/
def State.sidesKept (s t : State) : Prop :=
  s.hubKept t ∧ t.rings = s.rings ∧ t.hostMem = s.hostMem ∧ t.beds = s.beds

/-- Every port but those of a list is as before. -/
def State.portsKept (s t : State) (ps : List PortId) : Prop := ∀ p, p ∉ ps → t.port p = s.port p

/-- Every bed but those of a list is as before. -/
def State.bedsKept (s t : State) (bs : List BedId) : Prop := ∀ b, b ∉ bs → t.bed b = s.bed b

/-- Every lane but those of a list is as before. -/
def State.lanesKept (s t : State) (ls : List LaneId) : Prop := ∀ l, l ∉ ls → t.lane l = s.lane l

/-- Every lane is as before but for its counters. -/
def State.lanesCounted (s t : State) : Prop := ∀ l, t.lane l = { s.lane l with cnt := (t.lane l).cnt }

/-- Every ring but those of a list is as before. -/
def State.ringsKept (s t : State) (rs : List RingId) : Prop := ∀ r, r ∉ rs → t.ring r = s.ring r

/-- Every mailbox channel but those of a list is as before. -/
def State.chansKept (s t : State) (cs : List ChanId) : Prop := ∀ c, c ∉ cs → t.chan c = s.chan c

/-- Host memory outside n bytes from an address reads as before. -/
def State.hostKept (s t : State) (a n : Nat) : Prop :=
  ∀ x, x < a ∨ a + n ≤ x → memRead 0 t.hostMem x = memRead 0 s.hostMem x

/-- Mailbox memory outside n bytes from an address reads as before. -/
def State.mbxKept (s t : State) (a n : Nat) : Prop :=
  ∀ x, x < a ∨ a + n ≤ x → memRead 0 t.mbxMem x = memRead 0 s.mbxMem x

/-- Flash outside n bytes from an offset reads as before. -/
def State.flashKept (s t : State) (a n : Nat) : Prop :=
  ∀ x, x < a ∨ a + n ≤ x → t.flashByte x = s.flashByte x

end Sys2Proof.Machine
end

