-- ==== Sys2Proof/Certificates/Slice0/Obligations.lean ====
section
/-! DEFINITION.
The statements for the provers, each a proposition about the model: the whole machine first, then the
families of commands. A statement of what a command does has the form "under these hypotheses the
command completes, and of the next state the following holds"; its conjuncts are the cases. -/

section

open Sys2Proof Sys2Proof.Machine

/-- The model's own rule of a block (log 1): the step takes the command at the front of the queue and runs
it with the queue's rest, and no word spells a command, since the table gives its commands no bits. -/
def Obligations.StepRunsFront : Prop :=
  (∀ (c : Instr) (cs : List Instr) (s : State),
    step { s with pending := c :: cs } = exec c { s with pending := cs }) ∧
  (∀ (s : State) (n w : Nat), decodeTableWord n w = none ∧ s.withFetchWord n w = s)

/-- R404, R483, R485. On an empty queue one tick passes (log 1): time and, once the loop has locked, the
tick counter move on by one, with the ports' slots and counters and the beds' on-time; nothing else
changes, and in a device held in reset only the clock's part. -/
def Obligations.IdleStep : Prop :=
  (∀ s : State, s.pending = [] → ∃ t, step s = .next t ∧ t.now = s.now + 1 ∧
    t.clk = (if s.ticking then { s.clk with
        tick := s.clk.tick + 1, coastTicks := s.clk.coastTicks + b2n s.clk.coast }
      else s.clk) ∧
    t = { s with now := t.now, clk := t.clk, free := t.free, ports := t.ports, beds := t.beds } ∧
    (∀ p, t.port p = { s.port p with cnt := (t.port p).cnt, slots := (t.port p).slots }) ∧
    (∀ b, t.bed b = { s.bed b with onFrac := (t.bed b).onFrac, cnt := (t.bed b).cnt })) ∧
  (∀ s : State, s.pending = [] → s.live = false →
    step s = .next { s with now := s.now + 1, clk := s.clk.onTick })

/-- R310, R311, R357, R358, R362, R363, R384, R385, R400, R416, R435. The machine right after reset: BOOT with the
loop not locked and the tick counter 0, every port DISABLED, every ring at rest, no channel bound or
locked, no bed on, and no command in progress or waiting. That the reset machine is powered, out of
PERST# and at stage 1 of a start (log 3), and that its memories list nothing (log 5), are the model's
choice; they are in canonical form. -/
def Obligations.ResetValues : Prop :=
  State.reset.live = true ∧ State.reset.hub.mode = .boot ∧ State.reset.boot.stage = 1 ∧
  State.reset.clk.lock = false ∧ State.reset.clk.armed = false ∧ State.reset.clk.tick = 0 ∧
  State.reset.clk.divUse = 0x50201008 ∧ State.reset.ticking = false ∧
  (∀ p, State.reset.pst p = .disabled ∧ (State.reset.port p).fp = none ∧
    (State.reset.port p).spring.sstate = .off) ∧
  (∀ r, (State.reset.ring r).state = .idle ∧ (State.reset.ring r).head = 0 ∧
    (State.reset.ring r).tail = 0) ∧
  (∀ c, (State.reset.chan c).bind = 0 ∧ (State.reset.chan c).lock = 0 ∧
    (State.reset.chan c).notice = false) ∧
  (∀ b, State.reset.bedOn b = false ∧ (State.reset.bed b).pow.inReset = false) ∧
  (∀ l, (State.reset.lane l).locked = false) ∧
  State.reset.hub.retain = List.replicate 64 0 ∧ State.reset.cmds = [] ∧ State.reset.due = [] ∧
  State.reset.pending = [] ∧ State.reset.hostMem = [] ∧ State.reset.mbxMem = [] ∧
  State.reset.flash.mem = [] ∧ State.reset.memOk = true ∧ State.reset.queueOk = true

/-- R476, R541, R542. Every command completes, whatever the state and its operands, and leaves the queue
and the model's time alone; JTAG_INSTRUCTION alone may stop, where internal scan chains with an open scan
scope are shifted, whose content the spec does not give. In a device held without power, under PERST#,
with a rail lost or stopped for scan, every command but the supplies', PERST#'s and the JTAG port's own
takes no effect. -/
def Obligations.CommandsComplete : Prop :=
  (∀ (i : Instr) (s : State),
    (∃ t, exec i s = .next t ∧ t.pending = s.pending ∧ t.now = s.now) ∨
      (i = .jtagInstruction .internal ∧ s.pins.powered = true ∧ s.sec.unlocked.getLsbD 0 = true ∧
        exec i s = .fault .internalScan)) ∧
  (∀ (i : Instr) (s : State), s.live = false → i.actsHeld = false → exec i s = .next s)

/-- The invariant of the three memories (log 5), which every step keeps from every state: host memory and
mailbox memory list no byte that reads 0, flash no erased byte, each in rising order of addresses; and
the waiting commands stay well formed. -/
def Obligations.MemoryInvariant : Prop :=
  ∀ (s t : State), s.memOk = true → s.queueOk = true → step s = .next t →
    t.memOk = true ∧ t.queueOk = true

/-- R512, R513. The anti-rollback field is a thermometer: the fused value is 1 plus the index of the highest
blown bit, whatever is below it, or 0 when none is blown. No command clears a bit, so the value never
falls; only Wicket's blow sets one, the bit of the fused value itself, while a blow is in progress and
the running image's version is above it, and the value is then one more. -/
def Obligations.SecurityVersionRises : Prop :=
  (∀ v : BitVec 64, (v = 0 → fusedSvn v = 0) ∧
    ∀ n, v.getLsbD n = true → (∀ m, n < m → v.getLsbD m = false) → fusedSvn v = n + 1) ∧
  (∀ (i : Instr) (s t : State), exec i s = .next t →
    t.sec.svn = s.sec.svn ∨
      (i = .svnFuseBlow ∧ s.boot.blowing = true ∧ fusedSvn s.sec.svn < s.boot.imageSvn.toNat ∧
        fusedSvn s.sec.svn < 64 ∧
        t.sec.svn = s.sec.svn ||| BitVec.ofNat 64 (2 ^ fusedSvn s.sec.svn) ∧
        fusedSvn t.sec.svn = fusedSvn s.sec.svn + 1))

/-- R404. Beside the tick that passes, only PERST#, the supplies and CMD_ESTATE_SYNC, with the edge that a
FOLLOW waits for, change the count of the tick counter. -/
def Obligations.TickCounterHolds : Prop :=
  ∀ (i : Instr) (s t : State), exec i s = .next t → t.clk.tick ≠ s.clk.tick →
    i = .powerOn ∨ i = .powerRemoval ∨ i = .perstAssert ∨ (∃ rs, i = .railPowerGoodLost rs) ∨
      (∃ h ms v, i = .estateSyncLead h ms v) ∨
      (i = .esyncEdge ∧ s.clk.follow.isSome = true)

/-- R91, R92, R94, R105–R107, R198, R199. Sealed fields: an OAM field, a training info frame and a Spring header
formed from their contents carry a CRC that the receiver's check accepts, and the contents unchanged. -/
def Obligations.SealedFields : Prop :=
  (∀ o : BitVec 182, oamOk (oamSeal o) = true ∧ (oamSeal o).setWidth 182 = o) ∧
  (∀ f : BitVec 480, tifOk (tifSeal f) = true ∧ (tifSeal f).setWidth 480 = f) ∧
  (∀ h : BitVec 72, fld h 5 9 ≤ 256 → headerOk (headerSeal h) = true ∧
    (headerSeal h).setWidth 56 = h.setWidth 56)

/-- R399, R400. Power and PERST#. Power-on of an unpowered device asserts PERST# and gives everything its
reset value but flash, the fuses, the levels at pins and host memory. Power removal leaves the same, unpowered:
the Well is lost, with the failed-start count and the fingerprint slots. PERST# keeps the Well, the fuses
and flash; mailbox memory, the tick counter, the rings, the channels and the port counters are at their
reset values. -/
def Obligations.PowerAndPerst : Prop :=
  (∀ s : State, s.pins.powered = false →
    Completes .powerOn s fun t =>
      t.pins = { powered := true, perst := true, gpioIn := s.pins.gpioIn } ∧ t.hub = {} ∧
      t.rings = State.reset.rings ∧ t.ports = State.reset.ports ∧ t.lanes = State.reset.lanes ∧
      t.chans = State.reset.chans ∧ t.clk = { esyncAt := s.clk.esyncAt } ∧ t.sluice = {} ∧
      t.boot = { stage := 0 } ∧ t.cal = {} ∧ t.tel = {} ∧ t.mbxMem = [] ∧ t.cmds = [] ∧ t.due = [] ∧
      t.flash = { mem := s.flash.mem } ∧ t.sec = { svn := s.sec.svn } ∧
      (∀ b, t.bed b = { Bed.reset b with fuses := (s.bed b).fuses }) ∧ t.hostMem = s.hostMem) ∧
  (∀ s : State,
    Completes .powerRemoval s fun t =>
      t.pins.powered = false ∧ t.hub = {} ∧ t.rings = State.reset.rings ∧ t.ports = State.reset.ports ∧
      t.lanes = State.reset.lanes ∧ t.chans = State.reset.chans ∧ t.clk = { esyncAt := s.clk.esyncAt } ∧
      t.sluice = {} ∧ t.boot = { stage := 0 } ∧ t.cal = {} ∧ t.tel = {} ∧ t.mbxMem = [] ∧ t.cmds = [] ∧
      t.due = [] ∧ t.flash = { mem := s.flash.mem } ∧ t.sec = { svn := s.sec.svn } ∧
      (∀ b, t.bed b = { Bed.reset b with fuses := (s.bed b).fuses }) ∧ t.hostMem = s.hostMem) ∧
  (∀ s : State, s.pins.powered = true →
    Completes .perstAssert s fun t =>
      t.pins.perst = true ∧ t.pins.powered = true ∧ t.hub = {} ∧ t.mbxMem = [] ∧
      t.clk = { esyncAt := s.clk.esyncAt } ∧ t.sluice = {} ∧ t.cal = {} ∧ t.tel = {} ∧ t.cmds = [] ∧
      t.due = [] ∧ t.rings = State.reset.rings ∧ t.chans = State.reset.chans ∧
      t.boot.count = s.boot.count ∧ t.boot.lastReason = s.boot.lastReason ∧
      (∀ p, (t.port p).fp = (s.port p).fp ∧ (t.port p).cnt = (Port.reset p).cnt ∧
        (t.port p).cfg.applied = (s.port p).cfg.applied ∧ t.pst p = .disabled) ∧
      t.flash = { mem := s.flash.mem } ∧ t.sec.svn = s.sec.svn ∧
      (∀ b, (t.bed b).fuses = (s.bed b).fuses ∧ (t.bed b).pow = (Bed.reset b).pow) ∧
      t.hostMem = s.hostMem)

/-- R414, R531, R541, R542. With every rail good the release of PERST# latches the straps and begins a
start, in stage 2 where the loop is locked and in stage 1 otherwise; with a rail missing it latches the
straps, and the start is due. The loss of VDD_CORE resets as PERST# does and leaves a start due unless PERST#
is asserted; the return of the last rail missing begins the start that is due. -/
def Obligations.RailsAndRelease : Prop :=
  (∀ (s : State) (x : BitVec 6), s.pins.powered = true → s.pins.perst = true → s.pins.lost = [] →
    s.sec.wellUnlock = false →
    Completes (.perstRelease x) s fun t =>
      t.pins.perst = false ∧ t.pins.estId = x ∧ t.hub.mode = .boot ∧
      t.boot.stage = (if s.clk.lock then 2 else 1) ∧ t.boot.failed = false ∧ t.boot.count = s.boot.count ∧
      t.ports = s.ports ∧ t.rings = s.rings ∧ t.flash = s.flash ∧ t.clk.tick = s.clk.tick ∧
      t.clk.lock = s.clk.lock ∧ t.chans = s.chans ∧ t.lanes = s.lanes ∧ t.mbxMem = s.mbxMem) ∧
  (∀ (s : State) (x : BitVec 6), s.pins.powered = true → s.pins.perst = true → s.pins.lost ≠ [] →
    Completes (.perstRelease x) s fun t =>
      t = { s with pins := { s.pins with perst := false, estId := x, startDue := true } }) ∧
  (∀ (s : State) (rs : List Rail), s.pins.powered = true → .core ∈ rs → .aon ∉ rs → .io ∉ rs →
    Completes (.railPowerGoodLost rs) s fun t =>
      .core ∈ t.pins.lost ∧ t.pins.powered = true ∧ t.pins.startDue = !s.pins.perst ∧ t.live = false ∧
      t.mbxMem = [] ∧ t.cmds = [] ∧ t.hub = {} ∧ t.rings = State.reset.rings ∧ t.clk.tick = 0 ∧
      (∀ p, (t.port p).fp = (s.port p).fp ∧ (t.port p).cnt = (Port.reset p).cnt) ∧
      t.flash.mem = s.flash.mem ∧ t.boot.count = s.boot.count ∧ t.hostMem = s.hostMem) ∧
  (∀ (s : State) (rs : List Rail), s.pins.powered = true → s.pins.startDue = true →
    s.pins.lost.all rs.contains = true → s.sec.wellUnlock = false →
    Completes (.railPowerGoodRegained rs) s fun t =>
      t.pins.lost = [] ∧ t.pins.startDue = false ∧ t.hub.mode = .boot ∧
      t.boot.stage = (if s.clk.lock then 2 else 1) ∧ t.boot.failed = false ∧ t.boot.count = s.boot.count ∧
      t.ports = s.ports ∧ t.flash = s.flash ∧ t.rings = s.rings)

/-- R285, R308, R380. With the PCIe link there, FLR of PF0 puts every ring but the telemetry ring, HUB.EVROUTE
and PF0's MSI-X table at their reset values and abandons the commands in progress. FLR of PF1 does so
with the telemetry ring, PF1's MSI-X table and the counter grants, and leaves the commands. Neither touches
the tick counter, mailbox memory or the link of a port that is UP and under no cable diagnostic. A hot
reset and the loss of the link do both; outside BOOT and CALIBRATE they leave those ports too. FLR_COMPLETE
ends the reset of its function, D3HOT_ENTRY puts its function in D3hot and D3HOT_EXIT takes it out and
sends the MSI-X messages of unmasked vectors that it held; each leaves the other function and the links. An SMBus clock held low
frees the locks of the SMBus master, 13, and nothing else of the ports, the rings and the bind table. -/
def Obligations.FunctionResets : Prop :=
  (∀ s : State, s.live = true → s.pins.link = true →
    Completes .flrPf0 s fun t =>
      (∀ r, t.ring r = if r = telRing then s.ring telRing else {}) ∧ t.hub.evroute = 0 ∧ t.cmds = [] ∧
      t.pins.flr0 = true ∧ t.pins.d3pf0 = false ∧ t.pins.msix0 = {} ∧ t.pins.msix1 = s.pins.msix1 ∧
      t.clk.tick = s.clk.tick ∧ t.mbxMem = s.mbxMem ∧ t.hostMem = s.hostMem ∧ t.sec = s.sec ∧
      ∀ p, s.pst p = .up → (s.port p).diag = none →
        (t.port p).link = (s.port p).link ∧ (t.port p).train = (s.port p).train ∧
          (t.port p).line = (s.port p).line ∧ (t.port p).cfg = (s.port p).cfg) ∧
  (∀ s : State, s.live = true → s.pins.link = true →
    Completes .flrPf1 s fun t =>
      t.ring telRing = {} ∧ (∀ r, r ≠ telRing → t.ring r = s.ring r) ∧
      (∀ p, (t.port p).granted = false ∧ (t.port p).link = (s.port p).link ∧
        (t.port p).train = (s.port p).train ∧ (t.port p).line = (s.port p).line ∧
        (t.port p).cfg = (s.port p).cfg) ∧
      t.pins.flr1 = true ∧ t.pins.d3pf1 = false ∧ t.pins.msix1 = {} ∧ t.pins.msix0 = s.pins.msix0 ∧
      t.cmds = s.cmds ∧ t.clk = s.clk ∧ t.mbxMem = s.mbxMem ∧ t.hostMem = s.hostMem ∧ t.flash = s.flash) ∧
  (∀ (s : State) (c : Instr), c = .hotReset ∨ c = .pcieLinkDown → s.live = true → s.pins.link = true →
    Completes c s fun t =>
      t.pins.flr0 = false ∧ t.pins.flr1 = false ∧ t.pins.link = decide (c = .hotReset) ∧
      t.pins.msix0 = {} ∧ t.pins.msix1 = {} ∧ t.cmds = [] ∧ (∀ r, t.ring r = {}) ∧ t.hub.evroute = 0 ∧
      (∀ p, (t.port p).granted = false) ∧ t.clk.tick = s.clk.tick ∧ t.mbxMem = s.mbxMem ∧
      t.hostMem = s.hostMem ∧
      (s.hub.mode ≠ .boot → s.hub.mode ≠ .calibrate →
        ∀ p, s.pst p = .up → (s.port p).diag = none →
          (t.port p).link = (s.port p).link ∧ (t.port p).train = (s.port p).train ∧
            (t.port p).line = (s.port p).line ∧ (t.port p).cfg = (s.port p).cfg)) ∧
  (∀ (s : State) (f : Bool), s.live = true →
    Completes (.flrComplete f) s fun t =>
      t = { s with pins := if f then { s.pins with flr1 := false } else { s.pins with flr0 := false } }) ∧
  (∀ (s : State) (f : Bool), s.live = true → s.pins.link = true →
    Completes (.d3hotEntry f) s fun t =>
      t = { s with pins := if f then { s.pins with d3pf1 := true } else { s.pins with d3pf0 := true } }) ∧
  (∀ (s : State) (f : Bool), s.live = true →
    Completes (.d3hotExit f) s fun t =>
      (if f then t.pins.d3pf1 else t.pins.d3pf0) = false ∧
      (if f then t.pins.d3pf0 = s.pins.d3pf0 else t.pins.d3pf1 = s.pins.d3pf1) ∧
      (∀ m ∈ s.msixHeld, m.1 = f → s.msixMasked f m.2 = false → m ∈ t.msix) ∧
      (∀ m ∈ t.msixHeld, m ∈ s.msixHeld ∧ m.1 ≠ f) ∧ t.clk = s.clk ∧ t.mbxMem = s.mbxMem ∧ t.cmds = s.cmds ∧
      ∀ p, (t.port p).link = (s.port p).link) ∧
  (∀ s : State, s.live = true →
    Completes .smbusClockLowTimeout s fun t =>
      (∀ c, (t.chan c).lock ≠ 13) ∧ (∀ c, (t.chan c).bind = (s.chan c).bind) ∧ t.mbxMem = s.mbxMem ∧
      t.ports = s.ports ∧ t.rings = s.rings ∧ t.hub = s.hub)

/-- R389, R394, R395, R396, R416. The first lock of the loop sets LOCK and ARMED, from which the tick counter
counts, and ends stage 1 of the start; a loop that has not locked in its time fails the start with
REFCLK_ABSENT and counts it. The clock monitor's trip puts the loop into coast with LOCK clear, REFLOST set
and the tick of the trip recorded, and every link that is UP, with nothing else awaited of it, goes to LISTENING; good
edges begin reacquisition, a missing one ends it, and the relock sets LOCK and ends coast and REFLOST. -/
def Obligations.ClockLoop : Prop :=
  (∀ s : State, s.live = true → s.clk.lock = false → s.clk.armed = false → s.boot.stage = 1 →
    s.boot.failed = false →
    Completes .loopFirstLock s fun t =>
      t = { s with clk := { s.clk with lock := true, armed := true }, boot := { s.boot with stage := 2 },
                   pins := { s.pins with training := !s.pins.link } } ∧ t.ticking = true) ∧
  (∀ s : State, s.live = true → s.clk.lock = false → s.boot.stage = 1 → s.boot.failed = false →
    Completes .loopLockTimeout s fun t =>
      t = { s with boot := { s.boot with count := min 3 (s.boot.count + 1), lastReason := .refclkAbsent,
                                         failed := true, waitRef := true },
                   pins := { s.pins with cfgReady := s.pins.training || s.pins.link } }) ∧
  (∀ s : State, s.live = true → s.clk.armed = true → s.clk.coast = false →
    Completes .clockMonitorTrip s fun t =>
      t.clk = { s.clk with lock := false, coast := true, reflost := true, reacq := false, synced := false,
                           tripTick := s.clk.tick, coastTicks := 0 } ∧
      t.ticking = true ∧ t.mbxMem = s.mbxMem ∧ t.rings = s.rings ∧
      ∀ p, s.pst p = .up → (s.port p).link.after = .none → (s.port p).dorm.noticeWait = false →
        (s.port p).diag = none → t.pst p = .listening) ∧
  (∀ s : State, s.live = true →
    Completes .refclkEdgesResumed s fun t => t = { s with clk := { s.clk with reacq := s.clk.coast } }) ∧
  (∀ s : State, s.live = true →
    Completes .reacquireEdgeMissing s fun t => t = { s with clk := { s.clk with reacq := false } }) ∧
  (∀ s : State, s.live = true → s.clk.coast = true → s.clk.reacq = true →
    Completes .loopRelock s fun t =>
      t.clk = { s.clk with lock := true, coast := false, reflost := false, reacq := false } ∧
      t.mbxMem = s.mbxMem ∧ t.rings = s.rings)

/-- R393. A bed's line PLL: a lost lock clears LINE_LOCK and holds the bed's LISTENING ports, a relock sets
it, a PLL that does not relock has its bed reset, with ORIGIN BED_FAULT and the forced gate, and one that
is without lock after that puts the bed's LISTENING ports into FAULT with reason LINE_PLL and leaves its
DISABLED ones; the clock loop goes on.
R392. STEER_NOW moves toward CLK.STEER's OFFSET by 0.001 ppm a step, and not past it; nothing else
changes. -/
def Obligations.LinePllAndSteering : Prop :=
  (∀ (s : State) (b : BedId), s.live = true → (s.bed b).pow.on = true → (s.bed b).pow.lineLock = true →
    Completes (.linePllLockLost b) s fun t =>
      (t.bed b).pow.lineLock = false ∧ t.clk = s.clk ∧ t.mbxMem = s.mbxMem ∧ t.rings = s.rings ∧
      ∀ p, bedOf p = b → s.pst p = .listening → t.pst p = .listening ∧ (t.port p).link.held = true) ∧
  (∀ (s : State) (b : BedId), s.live = true → (s.bed b).pow.on = true → (s.bed b).pow.lineLock = false →
    s.clk.reflost = false →
    Completes (.linePllRelock b) s fun t =>
      (t.bed b).pow.lineLock = true ∧ (t.bed b).pow.pllReset = false ∧ s.bedsKept t [b] ∧ t.clk = s.clk ∧
      t.rings = s.rings ∧ t.mbxMem = s.mbxMem) ∧
  (∀ (s : State) (b : BedId), s.live = true → (s.bed b).pow.on = true → (s.bed b).pow.lineLock = false →
    (s.bed b).pow.pllReset = false → (s.bed b).pow.inReset = false → s.clk.reflost = false →
    Completes (.linePllRelockTimeout b) s fun t =>
      (t.bed b).pow.inReset = true ∧ (t.bed b).pow.forced = true ∧ (t.bed b).pow.pllReset = true ∧
      (t.bed b).pow.lineLock = false ∧ t.hasDue .reset (.bed b) 2 = true ∧ t.clk = s.clk ∧
      t.mbxMem = s.mbxMem) ∧
  (∀ (s : State) (b : BedId), s.live = true → (s.bed b).pow.on = true → (s.bed b).pow.lineLock = false →
    (s.bed b).pow.pllReset = true →
    Completes (.linePllPostResetTimeout b) s fun t =>
      (∀ p, bedOf p = b → (s.port p).inReset = false → s.pst p = .listening →
        t.pst p = .fault ∧ (t.port p).link.freason = .linePll) ∧
      (∀ p, bedOf p = b → s.pst p = .disabled → (s.port p).inReset = false → t.pst p = .disabled) ∧
      t.clk = s.clk ∧ t.mbxMem = s.mbxMem) ∧
  (∀ (s : State) (b : BedId), s.live = true → (s.bed b).pow.on = true → (s.bed b).pow.lineLock = true →
    Completes (.steerStep b) s fun t =>
      (t.bed b).pow.steerNow =
        (if (s.bed b).pow.steerNow < (s.clk.steer.getD b.val 0).toInt then (s.bed b).pow.steerNow + 1
         else if (s.clk.steer.getD b.val 0).toInt < (s.bed b).pow.steerNow then (s.bed b).pow.steerNow - 1
         else (s.bed b).pow.steerNow) ∧
      s.bedsKept t [b] ∧ t = { s with beds := t.beds } ∧
      t.bed b = { s.bed b with pow := { (s.bed b).pow with steerNow := (t.bed b).pow.steerNow } })

/-- R399. The first firing of a Tender's watchdog is remembered and resets the core alone, with ORIGIN
WATCHDOG: the Tender's mailbox locks are free, and no link changes; one within 1 s of it resets the bed,
with ORIGIN BED_FAULT and its forced gate. -/
def Obligations.TenderWatchdog : Prop :=
  (∀ (s : State) (b : BedId), s.live = true → (s.bed b).pow.on = true → (s.bed b).pow.tender = true →
    (s.bed b).pow.inReset = false → (s.bed b).pow.wdogAt = none → (s.bed b).bist = none →
    Completes (.tenderWatchdogExpiry b) s fun t =>
      (t.bed b).pow.wdogAt = some s.now ∧ (t.bed b).pow.inReset = false ∧ s.bedsKept t [b] ∧
      (∀ p, (t.port p).link = (s.port p).link) ∧ t.hasDue .reset (.bed b) 3 = true ∧ t.clk = s.clk ∧
      t.mbxMem = s.mbxMem ∧ ∀ c, (t.chan c).lock ≠ tenderId b) ∧
  (∀ (s : State) (b : BedId) (n : Nat), s.live = true → (s.bed b).pow.on = true →
    (s.bed b).pow.tender = true → (s.bed b).pow.inReset = false → (s.bed b).pow.wdogAt = some n →
    s.now < n + Config.tk1s →
    Completes (.tenderWatchdogExpiry b) s fun t =>
      (t.bed b).pow.inReset = true ∧ (t.bed b).pow.forced = true ∧ (t.bed b).pow.wdogAt = none ∧
      (t.bed b).pow.tender = false ∧ t.hasDue .reset (.bed b) 2 = true ∧ t.clk = s.clk ∧
      t.mbxMem = s.mbxMem)

/-- R552. A sample below 120 °C everywhere, with no hold in force, is recorded for the hub and for each
bed, and changes nothing else. -/
def Obligations.TemperatureSample : Prop :=
  ∀ (s : State) (v : List (BitVec 12)), s.live = true → (∀ x ∈ v, tempHot x = false) →
    (∀ b, (s.bed b).tempHeld = false) →
    Completes (.tempSample v) s fun t =>
      (∀ b : BedId, t.bed b = { s.bed b with temp := v.getD b.val 0, tempValid := true, hotRun := false }) ∧
      t = { s with beds := t.beds, hub := { s.hub with temp := v.getD 8 0, tempValid := true,
                                                       hotRun := false } }

/-- R340, R405, R406. The estate's tick. An edge loads VALUE + COMP into the tick counter and ends the command
where a FOLLOW was armed in an earlier tick, ST_OK; with none armed only the input's level shows it. A FOLLOW
that no edge meets by its time-out ends ST_TIMEOUT, and the counter stays. The end of the pulse clears
it. CMD_ESTATE_SYNC as FOLLOW arms with its VALUE and stays in progress; as LEAD it sets the counter to
VALUE in the tick after its start, raises the pulse and ends ST_OK; as FOLLOW with a TIMEOUT_MS outside 1 to 10,000
it ends ST_BAD_PARAM. -/
def Obligations.EstateTime : Prop :=
  (∀ (s : State) (k : CmdKey) (v : BitVec 64), s.live = true → s.clk.follow = some (k, v) →
    s.clk.followAt < s.now →
    Completes .esyncEdge s fun t =>
      t.clk = { s.clk with esyncAt := some s.now, follow := none, tick := v + s.clk.comp.setWidth 64,
                           synced := true } ∧
      s.endsWith t k .device .ok = true ∧ t = { s with clk := t.clk, cmds := t.cmds }) ∧
  (∀ s : State, s.live = true → s.clk.follow = none →
    Completes .esyncEdge s fun t => t = { s with clk := { s.clk with esyncAt := some s.now } }) ∧
  (∀ (s : State) (k : CmdKey) (v : BitVec 64), s.live = true → s.clk.follow = some (k, v) →
    Completes .esyncFollowTimeout s fun t =>
      t.clk = { s.clk with follow := none } ∧ s.endsWith t k .device .timeout = true ∧
      t = { s with clk := t.clk, cmds := t.cmds }) ∧
  (∀ s : State, s.live = true →
    Completes .esyncLeadPulseEnd s fun t => t = { s with clk := { s.clk with leadPulse := false } }) ∧
  (∀ (s : State) (h : CmdHdr) (ms : Word) (v : BitVec 64), s.live = true → s.takes h .estateSync = true →
    hdrTargets .estateSync h = some [.device] → 1 ≤ ms.toNat → ms.toNat ≤ 10000 → s.clk.follow = none →
    Completes (.estateSyncFollow h ms v) s fun t =>
      t.clk = { s.clk with follow := some (CmdHdr.key h s.acts, v), followAt := s.now } ∧ t.inProgress h .estateSync .device = true ∧
      t = { s with clk := t.clk, cmds := t.cmds, acts := s.acts + 1 }) ∧
  (∀ (s : State) (h : CmdHdr) (v : BitVec 64), s.live = true → s.takes h .estateSync = true →
    hdrTargets .estateSync h = some [.device] → s.clk.follow = none →
    Completes (.estateSyncLead h 0 v) s fun t =>
      t.clk.synced = true ∧ t.clk.leadPulse = true ∧
      t.clk.tick = (if s.ticking then v - 1 else v) ∧ t.ended h .estateSync .device .ok = true ∧
      t = { s with clk := t.clk, cmds := t.cmds, acts := s.acts + 1 }) ∧
  (∀ (s : State) (h : CmdHdr) (ms : Word) (v : BitVec 64), s.live = true → s.startsNow = true →
    s.cmds = [] → ms = 0 ∨ 10000 < ms.toNat →
    Completes (.estateSyncFollow h ms v) s fun t =>
      t = { s with cmds := t.cmds } ∧ t.cmds.map CmdRec.outcome = [.badParam] ∧
      t.cmds.all CmdRec.completed = true)

/-- R317. CMD_PORT_CONFIG on a port, in a tick in which no register was written before it: each selected
register takes its parameter and each other one stays; the target ends ST_OK. Without LINKCTL and FPCTL among the
selected ones nothing of the device but the port's configuration and its Still condition changes, beside
the command's record and the note of the tick's writes. -/
def Obligations.PortConfigCommand : Prop :=
  (∀ (s : State) (h : CmdHdr) (p : PortId) (sel : Byte) (lk tr dc st fp : Word),
    s.runsOn h .portConfig true true (.port p) = true → portConfigOk sel lk tr dc st fp = true →
    s.unwritten = true →
    Completes (.cmdPortConfig h sel lk tr dc st fp) s fun t =>
      t.ended h .portConfig (.port p) .ok = true ∧ s.hubWrote t ∧ s.portsKept t [p] ∧
      t.beds = s.beds ∧ t.lanes = s.lanes ∧ t.rings = s.rings ∧
      (t.port p).cfg.linkctl = (if bit sel 0 then lk &&& 0x3FFFFFFF else (s.port p).cfg.linkctl) ∧
      (t.port p).cfg.trainctl = (if bit sel 1 then tr &&& 0x1FFF else (s.port p).cfg.trainctl) ∧
      (t.port p).cfg.decctl = (if bit sel 2 then dc &&& 0x1FFFFFF else (s.port p).cfg.decctl) ∧
      (t.port p).cfg.stillctl = (if bit sel 3 then st &&& 0xFFF else (s.port p).cfg.stillctl) ∧
      (t.port p).cfg.fpctl = (if bit sel 4 then fp &&& 0x1FFFF else (s.port p).cfg.fpctl)) ∧
  (∀ (s : State) (h : CmdHdr) (p : PortId) (sel : Byte) (lk tr dc st fp : Word),
    s.runsOn h .portConfig true true (.port p) = true → portConfigOk sel lk tr dc st fp = true →
    bit sel 0 = false → bit sel 4 = false →
    Completes (.cmdPortConfig h sel lk tr dc st fp) s fun t =>
      s.portsKept t [p] ∧ t = { s with ports := t.ports, hub := { s.hub with writes := t.hub.writes },
                                       cmds := t.cmds, acts := t.acts } ∧
      t.port p = { s.port p with cfg := (t.port p).cfg, still := (t.port p).still })

/-- R318. CMD_PORT_ENABLE takes a DISABLED port to LISTENING with its removed rungs kept, leaves a port
that is LISTENING, TRAINING, UP or STILL as it is, and is refused in DORMANT; CMD_PORT_DISABLE takes a
LISTENING or DISABLED port to DISABLED and forgets the removed rungs, and begins CLOSE_DOWN on an UP port at
a CH rung that is in data mode, which is to be DISABLED after it. -/
def Obligations.PortEnableDisable : Prop :=
  (∀ (s : State) (h : CmdHdr) (p : PortId), s.runsOn h .portEnable true true (.port p) = true →
    (s.port p).inReset = false → s.pst p = .disabled →
    Completes (.cmdPortEnable h) s fun t =>
      t.pst p = .listening ∧ (t.port p).link.removed = (s.port p).link.removed ∧
      (t.port p).link.sRung = lcRung (s.port p).cfg.linkctl ∧ (t.port p).cfg = (s.port p).cfg ∧
      (t.port p).fp = (s.port p).fp ∧ t.ended h .portEnable (.port p) .ok = true ∧ s.hubKept t) ∧
  (∀ (s : State) (h : CmdHdr) (p : PortId), s.runsOn h .portEnable true true (.port p) = true →
    (s.port p).inReset = false →
    s.pst p = .listening ∨ s.pst p = .training ∨ s.pst p = .up ∨ s.pst p = .still ∨ s.pst p = .dormant →
    Completes (.cmdPortEnable h) s fun t =>
      t = { s with cmds := t.cmds, acts := t.acts } ∧
      t.ended h .portEnable (.port p) (if s.pst p = .dormant then .refused else .ok) = true) ∧
  (∀ (s : State) (h : CmdHdr) (p : PortId), s.runsOn h .portDisable true true (.port p) = true →
    (s.port p).inReset = false → s.pst p = .disabled ∨ s.pst p = .listening →
    Completes (.cmdPortDisable h) s fun t =>
      t.pst p = .disabled ∧ (t.port p).link.removed = 0 ∧ (t.port p).cfg = (s.port p).cfg ∧
      t.ended h .portDisable (.port p) .ok = true ∧ s.hubKept t ∧ t.rings = s.rings) ∧
  (∀ (s : State) (h : CmdHdr) (p : PortId), s.runsOn h .portDisable true true (.port p) = true →
    (s.port p).inReset = false → s.pst p = .up → isCh (s.port p).link.rung = true →
    (s.port p).line.closing = .data → (s.port p).line.term = false →
    Completes (.cmdPortDisable h) s fun t =>
      t.pst p = .up ∧ (t.port p).line.closing = .closeDown ∧ (t.port p).line.closeCnt = some 3 ∧
      (t.port p).link.after = .disabled ∧ t.inProgress h .portDisable (.port p) = true ∧
      s.portsKept t [p] ∧ s.sidesKept t)

/-- R172, R319. CMD_RETRAIN wakes a STILL port at a CH rung and keeps its target in progress; a port
that is DISABLED, DORMANT or in FAULT refuses it, one in TEST is busy, and both stay as they are. A tail
that is UP in data mode at a CH rung, not pair-spared, asks its head for its own rung and keeps its target in progress. On
a standard rung without fast retrain an UP port goes to LISTENING with EV_LINK_DOWN, and keeps its removed
rungs. -/
def Obligations.RetrainCommand : Prop :=
  (∀ (s : State) (h : CmdHdr) (p : PortId), s.runsOn h .retrain true true (.port p) = true →
    s.pst p = .still → isCh (s.port p).link.rung = true → (s.port p).still.quiet = true →
    (s.port p).still.wake = none →
    Completes (.cmdRetrain h) s fun t =>
      (t.port p).still = { (s.port p).still with
        wake := some 18, refresh := 0, lastWake := .command, wakeDue := false, heard := false } ∧
      (t.port p).link = { (s.port p).link with wakeJob := .retrain } ∧
      t.inProgress h .retrain (.port p) = true ∧ s.portsKept t [p] ∧ s.sidesKept t) ∧
  (∀ (s : State) (h : CmdHdr) (p : PortId), s.runsOn h .retrain true true (.port p) = true →
    s.pst p = .disabled ∨ s.pst p = .dormant ∨ s.pst p = .fault ∨ s.pst p = .test →
    Completes (.cmdRetrain h) s fun t =>
      t = { s with cmds := t.cmds, acts := t.acts } ∧
      t.ended h .retrain (.port p) (if s.pst p = .test then .busy else .refused) = true) ∧
  (∀ (s : State) (h : CmdHdr) (p : PortId), s.runsOn h .retrain true true (.port p) = true →
    s.pst p = .up → isCh (s.port p).link.rung = true → (s.port p).link.spared = false →
    (s.port p).link.role = .tail → (s.port p).line.closing = .data →
    Completes (.cmdRetrain h) s fun t =>
      t.port p = { s.port p with line := { (s.port p).line with rungReq := (s.port p).link.rung } } ∧
      t.inProgress h .retrain (.port p) = true ∧ s.portsKept t [p] ∧ s.sidesKept t ∧ t.lanes = s.lanes) ∧
  (∀ (s : State) (h : CmdHdr) (p : PortId), s.runsOn h .retrain true true (.port p) = true →
    s.pst p = .up → isCh (s.port p).link.rung = false → (s.port p).link.c28Fast = false →
    Completes (.cmdRetrain h) s fun t =>
      t.pst p = .listening ∧ t.ended h .retrain (.port p) .ok = true ∧ s.hubKept t ∧
      (t.port p).link.removed = (s.port p).link.removed ∧ t.hasDue .linkDown (.port p) 11 = true)

/-- R26, R298, R314–R316. CMD_SAMPLE_CONFIG with an exponent out of its range ends ST_BAD_PARAM without
acting; CMD_PORT_ENABLE of a port whose bed is off ends ST_NOT_POWERED, and of one whose bed is being
tested ST_BUSY. A target that passes its time limit ends ST_TIMEOUT. The device is otherwise unchanged. -/
def Obligations.CommandChecks : Prop :=
  (∀ (s : State) (h : CmdHdr) (k : Byte), s.live = true → s.startsNow = true → s.cmds = [] →
    k ≠ 0 → k.toNat < 10 ∨ 24 < k.toNat →
    Completes (.cmdSampleConfig h k) s fun t =>
      t = { s with cmds := t.cmds } ∧
      t.cmds.map CmdRec.outcome = [.badParam] ∧ t.cmds.all CmdRec.completed = true) ∧
  (∀ (s : State) (h : CmdHdr) (p : PortId) (st : ST), s.live = true → s.takes h .portEnable = true →
    hdrTargets .portEnable h = some [.port p] →
    st = (if s.bedOn (bedOf p) then .busy else .notPowered) →
    s.bedOn (bedOf p) = false ∨ s.bedTest (bedOf p) = true →
    Completes (.cmdPortEnable h) s fun t =>
      t = { s with cmds := t.cmds, acts := t.acts } ∧ t.ended h .portEnable (.port p) st = true) ∧
  (∀ (s : State) (ring : Fin 16) (cid : BitVec 16) (e : Elem), s.live = true →
    (s.cmds.any fun r => r.hdr.ring == ring && r.hdr.cid == cid && r.awaits e) = true →
    Completes (.commandTargetTimeout ring cid e) s fun t =>
      t = { s with cmds := t.cmds } ∧ t.cmds.length = s.cmds.length ∧
      ∃ r ∈ t.cmds, r.hdr.ring = ring ∧ r.hdr.cid = cid ∧
        ∃ x ∈ r.targets, x.elem = e ∧ x.status = some .timeout)

/-- R320, R401, R403. CMD_RESET of a port puts the port in reset with EV_RESET, to resume as R401 says, and
of a bed the bed and its ports; of a lane the lane; each target is in progress until its reset ends. A port already in reset
is not reset again. Of the device it begins a start in BOOT with every ring disabled and nothing in
progress. The end of the reset of a lane, of a port that was not to listen and of a bed ends the target,
and the element is out of reset; that port is in the state it was to resume. -/
def Obligations.ResetCommand : Prop :=
  (∀ (s : State) (h : CmdHdr) (l : LaneId), s.runsOn h .reset true false (.lane l) = true →
    (s.lane l).inReset = false → (s.bed (bedOfLane l)).pow.inReset = false →
    Completes (.cmdReset h) s fun t =>
      (t.lane l).inReset = true ∧ t.inProgress h .reset (.lane l) = true ∧ s.lanesKept t [l] ∧
      s.sidesKept t ∧ t.ports = s.ports) ∧
  (∀ (s : State) (h : CmdHdr) (p : PortId), s.runsOn h .reset true false (.port p) = true →
    (s.port p).inReset = false → (s.bed (bedOf p)).cal = none →
    Completes (.cmdReset h) s fun t =>
      (t.port p).inReset = true ∧ (t.port p).resume = resumeOf (s.pst p) ∧
      (t.port p).cfg.linkctl = (s.port p).cfg.linkctl ∧ (t.port p).fp = (s.port p).fp ∧
      t.hasDue .reset (.port p) 1 = true ∧ t.inProgress h .reset (.port p) = true ∧ t.clk = s.clk ∧
      t.rings = s.rings ∧ t.mbxMem = s.mbxMem) ∧
  (∀ (s : State) (h : CmdHdr) (p : PortId), s.runsOn h .reset true false (.port p) = true →
    (s.port p).inReset = true →
    Completes (.cmdReset h) s fun t =>
      t = { s with cmds := t.cmds, acts := t.acts } ∧ t.inProgress h .reset (.port p) = true) ∧
  (∀ (s : State) (h : CmdHdr) (b : BedId), s.runsOn h .reset true false (.bed b) = true →
    (s.bed b).pow.inReset = false →
    Completes (.cmdReset h) s fun t =>
      (t.bed b).pow.inReset = true ∧ (t.bed b).pow.tender = false ∧
      (∀ p, bedOf p = b → (t.port p).inReset = true) ∧ t.hasDue .reset (.bed b) 1 = true ∧
      t.inProgress h .reset (.bed b) = true ∧ t.clk = s.clk ∧ t.rings = s.rings ∧ t.mbxMem = s.mbxMem) ∧
  (∀ (s : State) (h : CmdHdr), s.runsOn h .reset true false .device = true →
    Completes (.cmdReset h) s fun t =>
      t.hub.mode = .boot ∧ t.boot.stage = (if s.clk.lock then 2 else 1) ∧ t.cmds = [] ∧
      (∀ r, t.ring r = {}) ∧ (∀ p, t.pst p = .disabled ∧ (t.port p).fp = (s.port p).fp) ∧
      t.clk.tick = s.clk.tick ∧ t.sec.svn = s.sec.svn) ∧
  (∀ (s : State) (l : LaneId), s.live = true → (s.lane l).inReset = true →
    (s.bed (bedOfLane l)).pow.inReset = false →
    Completes (.resetComplete (.lane l)) s fun t =>
      t.lane l = { s.lane l with inReset := false } ∧ s.lanesKept t [l] ∧
      t.awaited .reset (.lane l) = false ∧ t = { s with lanes := t.lanes, cmds := t.cmds }) ∧
  (∀ (s : State) (p : PortId), s.live = true → (s.port p).inReset = true →
    (s.bed (bedOf p)).pow.inReset = false → (s.port p).resume ≠ .listening →
    Completes (.resetComplete (.port p)) s fun t =>
      (t.port p).inReset = false ∧ t.pst p = (s.port p).resume ∧ (t.port p).cfg = (s.port p).cfg ∧
      t.awaited .reset (.port p) = false ∧ s.portsKept t [p] ∧ t.clk = s.clk ∧ t.rings = s.rings) ∧
  (∀ (s : State) (b : BedId), s.live = true → (s.bed b).pow.inReset = true → s.bedOn b = true →
    Completes (.resetComplete (.bed b)) s fun t =>
      (t.bed b).pow.inReset = false ∧ (t.bed b).pow.tender = true ∧
      (∀ p, bedOf p = b → (t.port p).inReset = false) ∧ t.awaited .reset (.bed b) = false ∧
      s.bedsKept t [b] ∧ t.clk = s.clk ∧ t.rings = s.rings)

/-- R274, R275, R321, R322. CMD_LANE_CONFIG: a missing entry, or one out of form, fails ST_BAD_PARAM, a port
that is UP or STILL is busy, and a DISABLED one takes the entry's modes and map where they are valid and its bed
has lane clocks for them. CMD_LOOPBACK on the host side takes an UP port to TEST with its line as it was and HEALTH
NOT_UP, and off again to UP; on the line side, internal or at the AFE, it takes a DISABLED port to TEST at a rung
bound to a host mode. -/
def Obligations.LanesAndLoopback : Prop :=
  (∀ (s : State) (h : CmdHdr) (p : PortId) (c : LaneCfg),
    s.runsOn h .laneConfig true true (.port p) = true → laneCfgForm c = true → s.pst p = .disabled →
    laneModesOk (laneCfgNew (s.port p).cfg c) = true →
    (s.modCfg p fun _ => laneCfgNew (s.port p).cfg c).famsOver (bedOf p) = false →
    Completes (.cmdLaneConfig h [c]) s fun t =>
      (t.port p).cfg = laneCfgNew (s.port p).cfg c ∧ t.pst p = .disabled ∧
      t.ended h .laneConfig (.port p) .ok = true ∧ s.hubKept t) ∧
  (∀ (s : State) (h : CmdHdr) (p : PortId) (cs : List LaneCfg),
    s.runsOn h .laneConfig true true (.port p) = true →
    (∀ c ∈ cs.head?, laneCfgForm c = false) ∨ (s.port p).linked = true →
    Completes (.cmdLaneConfig h cs) s fun t =>
      t = { s with cmds := t.cmds, acts := t.acts } ∧
      t.ended h .laneConfig (.port p)
        (if (cs.head?.any laneCfgForm) = true then .busy else .badParam) = true) ∧
  (∀ (s : State) (h : CmdHdr) (p : PortId) (kind : Byte),
    s.runsOn h .loopback true true (.port p) = true → s.pst p = .up → kind.toNat ≤ 2 →
    Completes (.cmdLoopback h 0 kind 0 1) s fun t =>
      t.pst p = .test ∧
      (t.port p).loop = some { side := 0, kind := kind, rung := 0, prior := .up } ∧
      (t.port p).line = { (s.port p).line with health := .notUp } ∧ s.portsKept t [p] ∧ s.sidesKept t ∧ t.lanes = s.lanes ∧
      t.ended h .loopback (.port p) .ok = true) ∧
  (∀ (s : State) (h : CmdHdr) (p : PortId) (kind : Byte) (r : Rung),
    s.runsOn h .loopback true true (.port p) = true → kind.toNat ≤ 2 →
    (s.port p).loop = some { side := 0, kind := kind, rung := r, prior := .up } →
    Completes (.cmdLoopback h 0 kind 0 0) s fun t =>
      t.pst p = .up ∧ (t.port p).loop = none ∧ (t.port p).host.egress = .stream ∧
      (t.port p).line = (s.port p).line ∧ s.portsKept t [p] ∧ s.sidesKept t ∧ t.lanes = s.lanes ∧
      t.ended h .loopback (.port p) .ok = true) ∧
  (∀ (s : State) (h : CmdHdr) (p : PortId) (kind rung : Byte),
    s.runsOn h .loopback true true (.port p) = true → s.pst p = .disabled → kind.toNat ≤ 1 →
    2 ≤ rung.toNat → rung.toNat ≤ 9 → rungHosted (s.port p).cfg (BitVec.ofNat 4 rung.toNat) = true →
    Completes (.cmdLoopback h 1 kind rung 1) s fun t =>
      t.pst p = .test ∧
      (t.port p).loop =
        some { side := 1, kind := kind, rung := BitVec.ofNat 4 rung.toNat, prior := .disabled } ∧
      (t.port p).cfg = (s.port p).cfg ∧ s.portsKept t [p] ∧ s.hubKept t ∧ t.rings = s.rings ∧
      t.ended h .loopback (.port p) .ok = true)

/-- R249, R252–R254, R324. CMD_FP_SAVE to a buffer writes the port's 2,048 bytes there and nothing else of
host memory, ends ST_OK, and is refused where the slot is empty; to flash it begins a write of the port's copy and
stays in progress. CMD_FP_LOAD of a fingerprint of the port with a right CHECK replaces the slot, with SOURCE =
LOADED. A flash write ends with its CHECK bytes and ends the target; FPCTL.CLEAR empties the slot. -/
def Obligations.FingerprintMoves : Prop :=
  (∀ (s : State) (h : CmdHdr) (p : PortId) (buf : BitVec 64) (f : Bytes),
    s.runsOn h .fpSave false true (.port p) = true → (s.port p).fp = some f → f.length = 2048 →
    s.flash.fpq = [] →
    Completes (.cmdFpSave h 0 buf) s fun t =>
      memReadBytes 0 t.hostMem buf.toNat 2048 = f ∧ s.hostKept t buf.toNat 2048 ∧
      t.ended h .fpSave (.port p) .ok = true ∧ s.portsKept t [p] ∧
      t.port p = { s.port p with fpCopyAt := some (s.now + 1, buf.toNat) } ∧
      t = { s with hostMem := t.hostMem, ports := t.ports, cmds := t.cmds, acts := t.acts }) ∧
  (∀ (s : State) (h : CmdHdr) (p : PortId) (f : Bytes),
    s.runsOn h .fpSave false true (.port p) = true → (s.port p).fp = some f → s.flash.fpq = [] →
    Completes (.cmdFpSave h 1 0) s fun t =>
      (t.flash.fpq.map fun w => (w.port, w.body, w.copy.isSome)) = [(p, f, true)] ∧
      s.flashKept t (fpFlashAddr p (s.fpTarget p).1) 2048 ∧
      t.inProgress h .fpSave (.port p) = true ∧
      t = { s with flash := t.flash, cmds := t.cmds, acts := t.acts }) ∧
  (∀ (s : State) (h : CmdHdr) (p : PortId) (buf : BitVec 64),
    s.runsOn h .fpSave false true (.port p) = true → (s.port p).fp = none → s.flash.fpq = [] →
    Completes (.cmdFpSave h 0 buf) s fun t =>
      t.ended h .fpSave (.port p) .refused = true ∧ t = { s with cmds := t.cmds, acts := t.acts }) ∧
  (∀ (s : State) (h : CmdHdr) (p : PortId) (b f g : Bytes) (src : Byte), src.toNat ≤ 1 →
    s.runsOn h .fpLoad false true (.port p) = true → s.pst p ≠ .training → s.pst p ≠ .test →
    (s.port p).fpClearAt ≠ some (s.now + 1) → (if src = 1 then (s.fpFlash p).map (fun c => c.2) else some b) = some f →
    fpCheckOk f = true → (if fpByTail f then fpTail f else fpHead f) = phyId p → g = fpSetLoaded f →
    Completes (.cmdFpLoad h src [b]) s fun t =>
      (t.port p).fp = some g ∧ fpSource g = true ∧ s.portsKept t [p] ∧
      t.ended h .fpLoad (.port p) .ok = true ∧
      t = { s with ports := t.ports, cmds := t.cmds, acts := t.acts }) ∧
  (∀ (s : State) (p : PortId) (w : FpWrite) (k : Nat) (c : Bytes), s.live = true →
    s.flash.fpq = [w] → w.port = p → w.copy = some (k, c) →
    Completes (.fpFlashWriteDone p) s fun t =>
      t.flashBytes (fpFlashAddr p k + 2016) c.length = c ∧
      s.flashKept t (fpFlashAddr p k + 2016) c.length ∧ t.flash.fpq = [] ∧
      s.endsWith t w.key (.port p) .ok = true ∧ t.stillWaits w.key (.port p) = false ∧ t = { s with flash := t.flash, cmds := t.cmds }) ∧
  (∀ (s : State) (m : MasterId) (p : PortId), s.live = true →
    s.reaches m (portBase p + 0x13C) = true →
    Completes (.fpClear m p) s fun t =>
      (t.port p).fp = none ∧ (t.port p).cfg = (s.port p).cfg ∧ s.portsKept t [p] ∧
      t = { s with ports := t.ports })

/-- R232–R236, R241, R243, R323. CMD_DIAG_RUN with PASSIVE alone on an UP port, but for 100BASE-TX, begins it with
the link kept; its end with OK writes the port's record and ends the target; a wait for QUIET_ACK that
runs out before TDR lets TDR begin; a sweep that is not answered, or not received, ends IL with REFUSED or
TIMEOUT, and where IL was the last test writes the record and ends the run. -/
def Obligations.CableTests : Prop :=
  (∀ (s : State) (h : CmdHdr) (p : PortId) (nvp : BitVec 16) (buf : BitVec 64),
    s.runsOn h .diagRun true true (.port p) = true → (s.port p).diag = none →
    s.pst p = .up → (s.port p).link.rung ≠ 1 →
    Completes (.cmdDiagRun h 1 nvp buf) s fun t =>
      ((t.port p).diag.map fun d => (d.left, d.begun, d.addr)) = some ([.passive], true, buf.toNat) ∧
      ((t.port p).diag.map fun d => (d.prior, d.nvp)) = some (.up, nvpUse nvp) ∧ t.pst p = .up ∧
      t.inProgress h .diagRun (.port p) = true ∧ s.portsKept t [p] ∧
      t = { s with ports := t.ports, cmds := t.cmds, acts := t.acts }) ∧
  (∀ (s : State) (p : PortId) (d : Diag) (o : DiagObs), s.live = true → (s.port p).diag = some d →
    d.left = [.passive] → d.begun = true → d.waitAck = false → d.sweep = false → d.inTest = false →
    (∀ r, r ≠ p → (s.port r).diag = none) →
    Completes (.diagTestEnd p tsOk o) s fun t =>
      (t.port p).diag = none ∧ t.pst p = s.pst p ∧ t.stillWaits d.key (.port p) = false ∧
      t.hostMem = memWriteBytes 0 s.hostMem d.addr
        (({ (d.measure .passive tsOk o).record .passive tsOk with
            left := [], begun := false, sweep := false }).bytes p s.clk.tick) ∧
      s.portsKept t [p] ∧ t = { s with ports := t.ports, hostMem := t.hostMem, cmds := t.cmds }) ∧
  (∀ (s : State) (p : PortId) (d : Diag), s.live = true → (s.port p).diag = some d →
    d.waitAck = true → d.inTest = true → d.left.head? = some .tdr →
    (∀ r, r ≠ p → (s.port r).diag = none) →
    Completes (.quietAckWaitExpiry p) s fun t =>
      (t.port p).diag = some { d with waitAck := false, begun := true } ∧ s.portsKept t [p] ∧
      t = { s with ports := t.ports }) ∧
  (∀ (s : State) (p : PortId) (d : Diag) (granted : Bool), s.live = true →
    (s.port p).diag = some d → d.left = [.il] → d.begun = true → d.inTest = true →
    d.sweep = !granted → d.asked = false → (∀ r, r ≠ p → (s.port r).diag = none) →
    Completes (if granted then .sweepReceiveTimeout p else .sweepAckTimeout p) s fun t =>
      (t.port p).diag = none ∧ t.stillWaits d.key (.port p) = false ∧
      t.hostMem = memWriteBytes 0 s.hostMem d.addr
        (({ d.record .il (if granted then tsTimeout else tsRefused) with
            left := [], begun := false, sweep := false }).bytes p s.clk.tick) ∧
      s.hubKept t ∧ t.rings = s.rings)

/-- R325, R326, R456, R460. CMD_CAL_RUN on an idle bed with its ports DISABLED takes them and the device to
TEST; the end of the run records the groups that passed, raises EV_CAL_DONE and ends the target. CMD_CAL_STORE
begins a store where a result waits and none has failed, and is refused otherwise; the end of a store
over a record in force puts the new one in force and ends the target. -/
def Obligations.CalibrationRuns : Prop :=
  (∀ (s : State) (h : CmdHdr) (b : BedId) (g : Byte),
    s.runsOn h .calRun true true (.bed b) = true → g.toNat < 16 → s.bedTest b = false →
    s.calWaits = false → s.calWhole = false → s.bedDisabled b = true →
    Completes (.cmdCalRun h g) s fun t =>
      ((t.bed b).cal.map fun r => (r.groups, r.wholeDevice)) = some (groupsOf g, false) ∧
      (∀ p ∈ portsOf b, t.pst p = .test) ∧ t.hub.mode = .test ∧
      t.inProgress h .calRun (.bed b) = true) ∧
  (∀ (s : State) (b : BedId) (r : CalRun) (k : CmdKey) (pass : BitVec 4) (blk : Bytes),
    s.live = true → (s.bed b).cal = some r → r.key = some k → r.wholeDevice = false →
    Completes (.calRunEnd b pass blk) s fun t =>
      (t.bed b).cal = none ∧ (t.bed b).calRun = r.groups ∧ (t.bed b).calPass = pass &&& r.groups ∧
      (t.bed b).calPend = (s.bed b).calPend ||| r.groups ∧ t.stillWaits k (.bed b) = false ∧
      t.hasDue .calDone (.bed b) r.groups.toNat = true) ∧
  (∀ (s : State) (h : CmdHdr), s.runsOn h .calStore true false .device = true →
    s.calGoing = false → s.cal.store = none → (∃ b, (s.bed b).calPend ≠ 0) →
    (∀ b, (s.bed b).calFail = 0) →
    Completes (.cmdCalStore h) s fun t =>
      (t.cal.store.map fun c => (c.second, c.taken)) =
        some (false, allBeds.map fun b => (s.bed b).calPend) ∧
      t.inProgress h .calStore .device = true ∧
      t = { s with cal := { s.cal with store := t.cal.store }, flash := t.flash, cmds := t.cmds,
                   acts := t.acts }) ∧
  (∀ (s : State) (h : CmdHdr), s.runsOn h .calStore true false .device = true →
    s.calGoing = false → s.cal.store = none →
    (∀ b, (s.bed b).calPend = 0) ∨ (∃ b, (s.bed b).calFail ≠ 0) →
    Completes (.cmdCalStore h) s fun t =>
      t.ended h .calStore .device .refused = true ∧ t = { s with cmds := t.cmds, acts := t.acts }) ∧
  (∀ (s : State) (c : CalStore) (k : CmdKey), s.live = true → s.cal.store = some c →
    c.key = some k → s.cal.valid = true → c.second = false →
    Completes .calStoreComplete s fun t =>
      t.cal.store = none ∧ t.cal.valid = true ∧ t.cal.slot = !s.cal.slot ∧ t.cal.other = true ∧
      t.cal.digest = shake256 c.body 32 ∧ t.stillWaits k .device = false ∧
      t = { s with cal := t.cal, flash := t.flash, beds := t.beds, cmds := t.cmds })

/-- R327, R328, R368, R470, R473, R478. CMD_BIST_RUN on an idle bed takes its ports and the device to TEST
with its kinds to run; a kind that stops leaves its verdict in the run and in BED.BISTSTAT's word; the end
of the re-initialisation ends the run with EV_BIST_DONE and its target; one that does not end in time
resets the bed, with ORIGIN BED_FAULT. CMD_REPAIR_FUSE begins to blow the first repair into the first free
row, FUSE.GO the data into its row, and the end of a blow keeps the row. -/
def Obligations.SelfTestAndFuses : Prop :=
  (∀ (s : State) (h : CmdHdr) (b : BedId) (k : Byte),
    s.runsOn h .bistRun true true (.bed b) = true → k ≠ 0 → k.toNat < 32 →
    s.bistBar [b] = none →
    Completes (.cmdBistRun h k) s fun t =>
      ((t.bed b).bist.map fun r => (r.left, r.result)) = some (kindsOf k, []) ∧
      (t.bed b).bistRes = 0 ∧ (∀ p ∈ portsOf b, t.pst p = .test) ∧ t.hub.mode = .test ∧
      t.inProgress h .bistRun (.bed b) = true) ∧
  (∀ (s : State) (b : BedId) (r : BistRun) (x : BKind) (xs : List BKind) (o : BistObs),
    s.live = true → (s.bed b).bist = some r → r.key ≠ none → r.left = x :: xs →
    Completes (.bistKindStop (some b) o) s fun t =>
      (t.bed b).bist = some { r with left := xs, reinit := xs.isEmpty,
                                     result := r.result ++ [(x, verdictOf x false o)] } ∧
      (t.bed b).bistRes = bistWord (r.result ++ [(x, verdictOf x false o)]) ∧
      (x ≠ .memory → (t.bed b).softMap = (s.bed b).softMap) ∧ s.bedsKept t [b] ∧
      t = { s with beds := t.beds }) ∧
  (∀ (s : State) (b : BedId) (r : BistRun) (k : CmdKey), s.live = true →
    (s.bed b).bist = some r → r.reinit = true → r.key = some k →
    Completes (.bistReinitEnd b) s fun t =>
      (t.bed b).bist = none ∧ t.stillWaits k (.bed b) = false ∧
      t.hasDue .bistDone (.bed b) ((bistWord r.result).toNat % 256) = true) ∧
  (∀ (s : State) (b : BedId) (r : BistRun), s.live = true → (s.bed b).bist = some r →
    r.reinit = true →
    Completes (.bistReinitTimeout b) s fun t =>
      (t.bed b).pow.inReset = true ∧ (t.bed b).pow.forced = true ∧ t.hasDue .reset (.bed b) 2 = true) ∧
  (∀ (s : State) (h : CmdHdr) (b : BedId) (row : BitVec 8) (w : Word) (ws : List Word),
    s.runsOn h .repairFuse true false (.bed b) = true → (s.bed b).bist = none →
    (s.bed b).repair = none → (s.bed b).memPass = true → (s.bed b).toBlow = w :: ws →
    ws.length + 1 + (s.bed b).fuses.length ≤ 64 → s.bedDisabled b = true →
    (s.bed b).fuseBusy = none → (s.bed b).freeRow = some row →
    Completes (.cmdRepairFuse h 0x46555345) s fun t =>
      (t.bed b).fuseBusy = some (row, w, true) ∧ (t.bed b).fuses = (s.bed b).fuses ∧
      t.inProgress h .repairFuse (.bed b) = true ∧ s.bedsKept t [b] ∧
      t = { s with beds := t.beds, cmds := t.cmds, acts := t.acts }) ∧
  (∀ (s : State) (m : MasterId) (b : BedId) (v : Word), s.live = true →
    s.reaches m (bedBase b + 0x20) = true → s.unwritten = true → (s.bed b).fuseBusy = none →
    fld v 0 8 ≤ 63 →
    Completes (.fuseGo m b v) s fun t =>
      t.bed b = { s.bed b with fuseRow := BitVec.ofNat 8 (fld v 0 8),
                               fuseBusy := some (BitVec.ofNat 8 (fld v 0 8), (s.bed b).fuseData, false) } ∧
      s.bedsKept t [b] ∧ t = { s with beds := t.beds, hub := { s.hub with writes := t.hub.writes } }) ∧
  (∀ (s : State) (b : BedId) (row : BitVec 8) (w : Word), s.live = true →
    (s.bed b).fuseBusy = some (row, w, false) → (s.bed b).repair = none →
    Completes (.fuseBlowDone b true) s fun t =>
      t.bed b = { s.bed b with fuses := blowRow (s.bed b).fuses row w, fuseBusy := none,
                               fuseErr := false } ∧
      s.bedsKept t [b] ∧ t = { s with beds := t.beds })

/-- R329–R332, R335. CMD_TEL_CONFIG leaves its settings for the next dump boundary; CMD_SAMPLE_CONFIG sets
K of its bed; the three forms of CMD_COUNTER_ACCESS grant a port's counters, revoke the grant and write a
counter; CMD_SPRING_CONFIG with SELECT = 1 sets SPRING_EN, and with SELECT = 2
SPRINGCTL, which reaches the island; CMD_REG_BATCH with one entry on HUB.RETAIN
writes the register under its mask and records the entry's status. Each target ends ST_OK; the registers are
written in a tick that has written none before. -/
def Obligations.TelemetryAndRegisterCommands : Prop :=
  (∀ (s : State) (h : CmdHdr) (en : Byte) (ms : BitVec 16) (ps : BitVec 128),
    s.runsOn h .telConfig false false .device = true → en.toNat ≤ 1 → 1 ≤ ms.toNat →
    ms.toNat ≤ 10000 →
    Completes (.cmdTelConfig h en ms ps) s fun t =>
      t.tel = { s.tel with next := some ({ en := en == 1, periodMs := ms.toNat, ports := ps }, s.now + 1) } ∧
      t.ended h .telConfig .device .ok = true ∧
      t = { s with tel := t.tel, cmds := t.cmds, acts := t.acts }) ∧
  (∀ (s : State) (h : CmdHdr) (b : BedId) (k : Byte),
    s.runsOn h .sampleConfig true false (.bed b) = true →
    k = 0 ∨ 10 ≤ k.toNat → k.toNat ≤ 24 →
    Completes (.cmdSampleConfig h k) s fun t =>
      (t.bed b).k = k ∧ s.bedsKept t [b] ∧ t.ended h .sampleConfig (.bed b) .ok = true ∧
      t = { s with beds := t.beds, ports := t.ports, cmds := t.cmds, acts := t.acts }) ∧
  (∀ (s : State) (h : CmdHdr) (p : PortId) (g : Bool),
    s.runsOn h .counterAccess false false (.port p) = true →
    Completes (if g then .counterGrant h else .counterRevoke h) s fun t =>
      t.port p = { s.port p with granted := g } ∧ s.portsKept t [p] ∧
      t.ended h .counterAccess (.port p) .ok = true ∧
      t = { s with ports := t.ports, cmds := t.cmds, acts := t.acts }) ∧
  (∀ (s : State) (h : CmdHdr) (p : PortId) (i : BitVec 16) (v : BitVec 64),
    s.runsOn h .counterAccess true true (.port p) = true → cntListed i.toNat = true →
    v.toNat < 2 ^ 48 →
    Completes (.counterWrite h i v) s fun t =>
      t.port p = { s.port p with cnt := (s.port p).cnt.write (s.now + 1) i.toNat (v.setWidth 48),
                                 cntWritten := true } ∧ s.portsKept t [p] ∧
      t.ended h .counterAccess (.port p) .ok = true ∧
      t = { s with ports := t.ports, cmds := t.cmds, acts := t.acts }) ∧
  (∀ (s : State) (h : CmdHdr) (p : PortId) (v : Word),
    s.runsOn h .springConfig false true (.port p) = true → s.unwritten = true →
    Completes (.cmdSpringConfig h 2 0 v) s fun t =>
      (t.port p).cfg = { (s.port p).cfg with springctl := v &&& 0x1FFFFF, islandCtl := v &&& 0x1FFFFF } ∧
      s.portsKept t [p] ∧ s.hubWrote t ∧ t.beds = s.beds ∧ t.lanes = s.lanes ∧
      t.ended h .springConfig (.port p) .ok = true) ∧
  (∀ (s : State) (h : CmdHdr) (p : PortId) (en : Byte) (v : Word), en.toNat ≤ 1 →
    s.runsOn h .springConfig false true (.port p) = true → s.unwritten = true →
    Completes (.cmdSpringConfig h 1 en v) s fun t =>
      (t.port p).cfg.linkctl = setFld (s.port p).cfg.linkctl 15 1 en.toNat &&& 0x3FFFFFFF ∧
      (t.port p).cfg.springctl = (s.port p).cfg.springctl ∧ s.portsKept t [p] ∧ t.clk = s.clk ∧
      t.rings = s.rings ∧ t.ended h .springConfig (.port p) .ok = true) ∧
  (∀ (s : State) (h : CmdHdr) (buf : BitVec 64) (i : Fin 64) (e : RegEntry),
    s.runsOn h .regBatch false false .device = true → e.pad = 0 →
    e.offset.toNat = 0x100 + 4 * i.val → s.hub.retain.length = 64 →
    s.unwritten = true →
    Completes (.cmdRegBatch h buf [e]) s fun t =>
      t.hub.retain.getD i.val 0 =
        ((s.hub.retain.getD i.val 0 &&& ~~~e.mask) ||| (e.value &&& e.mask)) &&& 0x83FFFFFF ∧
      (∀ j : Fin 64, j ≠ i → t.hub.retain.getD j.val 0 = s.hub.retain.getD j.val 0) ∧
      memRead 0 t.hostMem (buf.toNat + 12) = 0 ∧ s.hostKept t (buf.toNat + 12) 1 ∧
      t.ended h .regBatch .device .ok = true ∧
      t = { s with hub := { s.hub with retain := t.hub.retain, writes := t.hub.writes }, hostMem := t.hostMem, cmds := t.cmds,
                   acts := t.acts })

/-- R336–R339, R476, R514, R515, R518–R520. A first CMD_FW_STAGE chunk, which begins at offset 0, erases and begins the
staging in the slot that does not run, and one that is not first while nothing is staged is ST_BAD_PARAM; a chunk that
is programmed ends its target ST_OK. CMD_FW_ACTIVATE of a slot whose head is written, without a restart, makes it the preferred one
where it verifies, and ends ST_AUTH_FAIL where not. CMD_ATTEST writes the report where the identity key is
ready, and is refused where not. CMD_DEBUG_UNLOCK opens the scope of a token that passes, and ends
ST_AUTH_FAIL with its event for one that does not. A JTAG instruction is taken, but internal scan once it
is open, where the model stops. -/
def Obligations.SecurityCommands : Prop :=
  (∀ (s : State) (h : CmdHdr) (n : Word) (data : Bytes),
    s.runsOn h .fwStage false false .device = true → s.flash.stage = none → 4 ≤ n.toNat →
    n.toNat ≤ 0x100000 → n.toNat % 4 = 0 →
    Completes (.cmdFwStage h 1 0 n data) s fun t =>
      (t.flash.stage.map fun g => (g.slot, g.done, g.magic)) =
        some (!s.boot.slot, 0, (slice data 0 n.toNat).take 4) ∧
      (∀ i : Fin 0x10000, t.flashByte (imageBase (!s.boot.slot) + i.val) = 0xFF) ∧
      t.inProgress h .fwStage .device = true ∧
      t = { s with flash := t.flash, sec := t.sec, cmds := t.cmds, acts := t.acts }) ∧
  (∀ (s : State) (h : CmdHdr) (fl : Byte) (off n : Word) (data : Bytes),
    s.runsOn h .fwStage false false .device = true → s.flash.stage = none → fl.toNat < 4 →
    4 ≤ n.toNat → n.toNat ≤ 0x100000 → n.toNat % 4 = 0 → bit fl 0 = false ∨ off ≠ 0 →
    Completes (.cmdFwStage h fl off n data) s fun t =>
      t.ended h .fwStage .device .badParam = true ∧ t = { s with cmds := t.cmds, acts := t.acts }) ∧
  (∀ (s : State) (g : Staging) (k : CmdKey) (off : Nat) (data : Bytes), s.live = true →
    s.flash.stage = some g → g.chunk = some (k, off, data, false) → s.stillWaits k .device = true →
    Completes .fwStageChunkDone s fun t =>
      t.flash.stage = some { g with chunk := none, done := off + data.length } ∧
      s.endsWith t k .device .ok = true ∧ t.stillWaits k .device = false ∧
      t = { s with flash := t.flash, cmds := t.cmds, free := t.free }) ∧
  (∀ (s : State) (h : CmdHdr) (slot : Byte), s.runsOn h .fwActivate false false .device = true →
    slot.toNat < 2 → (s.imageHead (slot == 1)).take 4 ≠ [0xFF, 0xFF, 0xFF, 0xFF] →
    Completes (.cmdFwActivate h slot 0) s fun t =>
      t.ended h .fwActivate .device
        (if s.verifySlot (slot == 1) = .verified then .ok else .authFail) = true ∧
      t.sec = (s.slotResult (slot == 1) (s.verifySlot (slot == 1))).sec ∧
      t.pins = s.pins ∧ t.hub = s.hub ∧ t.ports = s.ports ∧ t.boot = s.boot ∧
      (s.verifySlot (slot == 1) = .verified → t.preferredB = (slot == 1))) ∧
  (∀ (s : State) (h : CmdHdr) (n : Word) (nonce : Bytes) (a : BitVec 64),
    s.runsOn h .attest false false .device = true → 5517 ≤ n.toNat →
    Completes (.cmdAttest h n nonce a) s fun t =>
      t.ended h .attest .device (if s.sec.key then .ok else .refused) = true ∧
      t.hostMem = (if s.sec.key then memWriteBytes 0 s.hostMem a.toNat (s.report nonce)
        else s.hostMem) ∧
      t = { s with hostMem := t.hostMem, cmds := t.cmds, acts := t.acts }) ∧
  (∀ (s : State) (h : CmdHdr) (n : Word) (tok : Bytes),
    s.runsOn h .debugUnlock false false .device = true → 1 ≤ n.toNat → n.toNat ≤ 8192 →
    bit (byteAt tok 1) 0 = false → s.unlockBusy = false →
    Completes (.cmdDebugUnlock h n tok) s fun t =>
      t.ended h .debugUnlock .device (if s.tokenOk n.toNat tok then .ok else .authFail) = true ∧
      t.sec = (if s.tokenOk n.toNat tok then { s.sec with
        key := false, blocked := true, wellUnlock := true,
        unlocked := s.sec.unlocked ||| (byteAt tok 1).setWidth 2 } else s.sec) ∧
      t.hasDue .security .device (if s.tokenOk n.toNat tok then 1 else 3) = true ∧
      t = { s with sec := t.sec, due := t.due, cmds := t.cmds, acts := t.acts }) ∧
  (∀ (s : State) (i : Jtag), s.pins.powered = true →
    i ≠ .internal ∨ s.sec.unlocked.getLsbD 0 = false →
    Completes (.jtagInstruction i) s fun t =>
      t = { s with pins := { s.pins with jtag := s.jtagActs i } }) ∧
  (∀ (s : State), s.pins.powered = true → s.sec.unlocked.getLsbD 0 = true →
    exec (.jtagInstruction .internal) s = .fault .internalScan)

/-- R287, R290, R291, R371. On a running ring, with the device awake: a doorbell whose index moves the host's end
within the ring is taken, the tail of a ring that the host fills or the head of one that the device fills
(shown with nothing waiting in a store); an index beyond the ring's size, and one that overruns the device's end, take the
ring to ERROR with INDEX_RANGE, TAIL_OVERRUN or HEAD_OVERRUN and EV_RING_ERROR. A write of another size or
alignment changes no ring and is recorded as an access fault of kind 5. -/
def Obligations.Doorbells : Prop :=
  (∀ (s : State) (r : RingId) (v : Word), s.live = true → hostProduced r = true → s.early 11 = false →
    s.hub.mode ≠ .dormant → s.sluice.entry = false → s.sluice.hubOn = true → (s.ring r).state = .run →
    fld v 0 16 < (s.ring r).size →
    (fld v 0 16 + (s.ring r).size - (s.ring r).tail) % (s.ring r).size ≤ (s.ring r).free →
    Completes (.hostProducerDoorbell r v) s fun t =>
      t.ring r = { s.ring r with tail := fld v 0 16, bell := v } ∧ s.ringsKept t [r] ∧
      t = { s with rings := t.rings }) ∧
  (∀ (s : State) (r : RingId) (v : Word), s.live = true → devProduced r = true → s.early 11 = false →
    s.hub.mode ≠ .dormant → s.sluice.entry = false → s.sluice.hubOn = true → (s.ring r).state = .run →
    (s.ring r).store = [] → (∀ b, (s.bed b).store = []) → fld v 0 16 < (s.ring r).size →
    (fld v 0 16 + (s.ring r).size - (s.ring r).head) % (s.ring r).size ≤ (s.ring r).used →
    Completes (.deviceConsumerDoorbell r v) s fun t =>
      t.ring r = { s.ring r with head := fld v 0 16, bell := v } ∧ s.ringsKept t [r] ∧
      t = { s with rings := t.rings }) ∧
  (∀ (s : State) (r : RingId) (v : Word) (e : RErr), s.live = true → hostProduced r = true →
    s.early 11 = false → s.hub.mode ≠ .dormant → s.sluice.entry = false → s.sluice.hubOn = true →
    (s.ring r).state = .run →
    ((s.ring r).size ≤ fld v 0 16 ∧ e = .indexRange) ∨
      (fld v 0 16 < (s.ring r).size ∧ e = .tailOverrun ∧
        (s.ring r).free < (fld v 0 16 + (s.ring r).size - (s.ring r).tail) % (s.ring r).size) →
    Completes (.hostProducerDoorbell r v) s fun t =>
      t.ring r = { s.ring r with state := .error, err := e, bell := v } ∧ s.ringsKept t [r] ∧
      t.hasDue .ringError .device r.val = true ∧ t = { s with rings := t.rings, due := t.due }) ∧
  (∀ (s : State) (r : RingId) (v : Word) (e : RErr), s.live = true → devProduced r = true →
    s.early 11 = false → s.hub.mode ≠ .dormant → s.sluice.entry = false → s.sluice.hubOn = true →
    (s.ring r).state = .run →
    ((s.ring r).size ≤ fld v 0 16 ∧ e = .indexRange) ∨
      (fld v 0 16 < (s.ring r).size ∧ e = .headOverrun ∧
        (s.ring r).used < (fld v 0 16 + (s.ring r).size - (s.ring r).head) % (s.ring r).size) →
    Completes (.deviceConsumerDoorbell r v) s fun t =>
      t.ring r = { s.ring r with state := .error, err := e, bell := v } ∧ s.ringsKept t [r] ∧
      t.hasDue .ringError .device r.val = true ∧ t = { s with rings := t.rings, due := t.due }) ∧
  (∀ (s : State) (a : Word), s.live = true → s.early 11 = false →
    Completes (.doorbellMisuse a) s fun t =>
      t.hub = s.hub.fault s.now 11 5 a ∧ t.hasDue .accessFault .device 5 = true ∧
      t = { s with hub := t.hub, due := t.due })

/-- R292, R296, R298–R300. A fetch takes the entry at the head of a command ring, and takes none where the
ring, its completion ring or the device does not run; the oldest command not started starts, or, bad in its
form, ends ST_BAD_PARAM; a completed command's entry, without detail, is written at its completion ring's tail, and the
command is gone. -/
def Obligations.CommandQueue : Prop :=
  (∀ (s : State) (c : Fin 16) (e : Bytes), s.live = true → s.canFetch c = true →
    Completes (.commandFetch c e) s fun t =>
      t.cmds = s.cmds ++ [recOf c e] ∧
      t.ring (cmdRing c) = { s.ring (cmdRing c) with head := (s.ring (cmdRing c)).succ (s.ring (cmdRing c)).head } ∧
      s.ringsKept t [cmdRing c] ∧ t = { s with rings := t.rings, cmds := t.cmds }) ∧
  (∀ (s : State) (c : Fin 16) (e : Bytes), s.live = true →
    s.ringsServed = false ∨ s.sluice.entry = true ∨ (s.ring (cmdRing c)).state ≠ .run ∨
      (s.ring (cplRing c)).state ≠ .run → Completes (.commandFetch c e) s fun t => t = s) ∧
  (∀ (s : State) (c : Fin 16) (r : CmdRec) (rs : List CmdRec), s.live = true → s.startsNow = true →
    s.cmds = r :: rs → r.hdr.ring = c → r.started = false → (s.nextStart c).isSome = true →
    Completes (.commandStart c) s fun t =>
      (t.cmds.head?.map CmdRec.started) = some true ∧ t.cmds.tail = rs ∧
      (r.badForm = none → t.cmds = { r with started := true } :: rs) ∧
      (r.badForm ≠ none → (t.cmds.head?.map fun q => (q.outcome, q.completed)) = some (.badParam, true)) ∧
      t = { s with cmds := t.cmds }) ∧
  (∀ (s : State) (r : CmdRec), s.live = true → s.ringsServed = true → s.dmaOk false = true →
    s.cmds = [r] → r.completed = true → r.hasDetail = false →
    (s.ring (cplRing r.hdr.ring)).state = .run →
    Completes (.completionWrite r.hdr.ring r.hdr.cid) s fun t =>
      t.cmds = [] ∧
      t.hostMem = memWriteBytes 0 s.hostMem
        ((s.ring (cplRing r.hdr.ring)).base.toNat + 32 * (s.ring (cplRing r.hdr.ring)).tail)
        (r.entry (s.ring (cmdRing r.hdr.ring)).head (s.ring (cplRing r.hdr.ring)).phase) ∧
      (t.ring (cplRing r.hdr.ring)).tail =
        (s.ring (cplRing r.hdr.ring)).succ (s.ring (cplRing r.hdr.ring)).tail ∧
      s.ringsKept t [cplRing r.hdr.ring] ∧ s.hubKept t ∧ t.ports = s.ports)

/-- R288, R302, R305, R306, R309, R310. By a write that reaches RING[r].CFG: EN going to 1 with a size in range
makes a ring other than an event or telemetry ring empty and running with phase 1 and its base; EN going to 0 drops the
overflow store of a ring other than a Spring transmit queue, counts it in LOST, and leaves the ring idle, or
draining where it is a command ring with commands in progress. A drained command ring goes idle; a DMA error takes a ring to ERROR with its
event. A coalescing timeout sends the message that waits where its vector is unmasked. An event is written
to the running ring of its class, at its tail. -/
def Obligations.RingControl : Prop :=
  (∀ (s : State) (m : MasterId) (r : RingId) (cfg : Word), s.live = true →
    s.reaches m (cfgAddr r) = true → s.unwritten = true → bit (s.ring r).cfg 0 = false →
    isEvRing r = false → r ≠ telRing → s.badSize r (fld cfg 1 4) = false →
    Completes (.ringEnable m r cfg) s fun t =>
      (t.ring r).state = .run ∧ (t.ring r).head = 0 ∧ (t.ring r).tail = 0 ∧ (t.ring r).phase = true ∧
      (t.ring r).logSize = fld cfg 1 4 ∧ (t.ring r).lost = 0 ∧
      (t.ring r).base = BitVec.ofNat 64
        ((s.ring r).baseHi.toNat * 2 ^ 32 + fld (s.ring r).baseLo 12 20 * 4096) ∧
      s.ringsKept t [r] ∧ t = { s with rings := t.rings, hub := { s.hub with writes := t.hub.writes } }) ∧
  (∀ (s : State) (m : MasterId) (r : RingId) (cfg : Word), s.live = true →
    s.reaches m (cfgAddr r) = true → s.unwritten = true → bit (s.ring r).cfg 0 = true →
    isSprTx r = false →
    Completes (.ringDisable m r cfg) s fun t =>
      (t.ring r).state = (if isCmdRing r && !(s.ringCmds r.val).isEmpty then .draining else .idle) ∧
      (t.ring r).store = [] ∧ (t.ring r).head = (s.ring r).head ∧ (t.ring r).tail = (s.ring r).tail ∧
      (t.ring r).lost = sat ((s.ring r).lost + (s.ring r).store.length) ∧
      (t.ring r).base = (s.ring r).base ∧ s.ringsKept t [r] ∧
      t = { s with rings := t.rings, hub := { s.hub with writes := t.hub.writes } }) ∧
  (∀ (s : State) (r : RingId), s.live = true → (s.ring r).state = .draining →
    (∀ x ∈ s.cmds, x.hdr.ring.val ≠ r.val) →
    Completes (.ringDrainComplete r) s fun t =>
      t.ring r = { s.ring r with state := .idle } ∧ s.ringsKept t [r] ∧
      t = { s with rings := t.rings }) ∧
  (∀ (s : State) (r : RingId), s.live = true → (s.ring r).state = .run ∨ (s.ring r).state = .draining →
    Completes (.ringDmaError r) s fun t =>
      t.ring r = { s.ring r with state := .error, err := .dmaError } ∧ s.ringsKept t [r] ∧
      t.hasDue .ringError .device r.val = true ∧ t = { s with rings := t.rings, due := t.due }) ∧
  (∀ (s : State) (r : RingId), s.live = true → (s.ring r).irqEn = true → (s.ring r).coalUs ≠ 0 →
    (s.ring r).unsent ≠ 0 → s.pins.d3pf0 = false → s.pins.d3pf1 = false →
    s.msixMasked (decide (r = telRing)) (s.ring r).vec = false →
    Completes (.msixCoalesceTimeout r) s fun t =>
      t.msix = s.msix ++ [(decide (r = telRing), (s.ring r).vec)] ∧
      t.ring r = { s.ring r with unsent := 0 } ∧ s.ringsKept t [r] ∧
      t = { s with rings := t.rings, msix := t.msix }) ∧
  (∀ (s : State) (e : Event) (es : List Event) (r : RingId), s.live = true → s.due = e :: es →
    s.mustHold e = false → e.code ≠ .ringError → s.routeOf e.code.cls = some r →
    (s.ring r).state = .run → (s.ring r).store = [] → (s.ring r).free ≠ 0 → s.dmaOk false = true →
    Completes .eventEntryWrite s fun t =>
      t.due = es ∧
      t.hostMem = memWriteBytes 0 s.hostMem ((s.ring r).base.toNat + entrySize r * (s.ring r).tail)
        (eventBytesOf e (s.ring r).lostBefore (s.ring r).phase) ∧
      (t.ring r).tail = (s.ring r).succ (s.ring r).tail ∧ s.ringsKept t [r] ∧ s.hubKept t ∧
      t.ports = s.ports ∧ t.cmds = s.cmds)

/-- R489–R493, R497, R501. A dump boundary takes settings that wait and turn dumps off. With dumps on and none
waiting it counts a dump, and takes it as due where it fits the ring, or drops it whole and counts it where an earlier one is
still being written. A dump of one entry that is written stands in the ring and no longer waits. At a linked port with no block in flight
the countdown's end tags a block and counts it in the bed; at one that is not linked it is counted as missed. The
record of a tagged block that has reached its last stage is stored, with its stamps, and counted. -/
def Obligations.TelemetryDumps : Prop :=
  (∀ (s : State) (c : TelCfg), s.live = true → s.ringsServed = true → s.hub.mode ≠ .calibrate →
    s.telBoundary = true → s.tel.next = some (c, s.now) → c.en = false →
    Completes .telemetryDumpDue s fun t =>
      t.tel.cfg = c ∧ t.tel.next = none ∧ t = { s with tel := t.tel }) ∧
  (∀ (s : State), s.live = true → s.ringsServed = true → s.hub.mode ≠ .calibrate →
    s.telBoundary = true → s.tel.next = none → s.tel.cfg.en = true → s.tel.writing = [] →
    (s.ring telRing).state = .run → s.tel.cfg.ports = 0 → (s.ring telRing).free ≠ 0 →
    Completes .telemetryDumpDue s fun t =>
      t.tel.seq = s.tel.seq + 1 ∧ t.tel.writing.length = 1 ∧ t.tel.snapTick = s.clk.tick ∧
      t = { s with tel := t.tel }) ∧
  (∀ (s : State), s.live = true → s.ringsServed = true → s.hub.mode ≠ .calibrate →
    s.telBoundary = true → s.tel.next = none → s.tel.cfg.en = true → s.tel.writing ≠ [] →
    (∀ b, (s.bed b).store = []) →
    Completes .telemetryDumpDue s fun t =>
      t.tel.seq = s.tel.seq + 1 ∧ t.tel.writing = s.tel.writing ∧ t.tel.dropped = true ∧
      (t.ring telRing).lost = sat ((s.ring telRing).lost + 1) ∧ s.ringsKept t [telRing] ∧
      t = { s with tel := t.tel, rings := t.rings, due := t.due }) ∧
  (∀ (s : State) (e : Bytes), s.live = true → s.tel.writing = [e] → s.tel.snap = [] →
    s.dmaOk true = true → (s.ring telRing).state = .run → (s.ring telRing).free ≠ 0 →
    (∀ b, (s.bed b).store = []) →
    Completes .telemetryDumpWritten s fun t =>
      t.tel = { s.tel with writing := [], snap := [], prevTick := some s.tel.snapTick } ∧
      t.hostMem = memWriteBytes 0 s.hostMem
        ((s.ring telRing).base.toNat + 512 * (s.ring telRing).tail) (telPhase e (s.ring telRing).phase) ∧
      (t.ring telRing).tail = (s.ring telRing).succ (s.ring telRing).tail ∧
      s.ringsKept t [telRing] ∧ t.ports = s.ports ∧ t.beds = s.beds) ∧
  (∀ (s : State) (p : PortId), s.live = true → (s.bed (bedOf p)).k ≠ 0 → s.bedOn (bedOf p) = true →
    (s.port p).linked = false →
    Completes (.sampleCountdownExpiry p false) s fun t =>
      (t.port p).cnt = (s.port p).cnt.add s.now 0x3D 1 ∧
      (t.port p).txSamp.flight = (s.port p).txSamp.flight ∧ s.portsKept t [p] ∧
      s.bedsKept t [bedOf p] ∧ t = { s with ports := t.ports, beds := t.beds }) ∧
  (∀ (s : State) (p : PortId), s.live = true → (s.bed (bedOf p)).k ≠ 0 → s.bedOn (bedOf p) = true →
    (s.port p).linked = true → (s.port p).txSamp.flight = none → (s.bed (bedOf p)).store.length < 64 →
    Completes (.sampleCountdownExpiry p false) s fun t =>
      (t.port p).txSamp.flight = some { k := (s.bed (bedOf p)).k, slotNo := ((s.port p).cnt.get 0).val,
                                        tick := s.clk.tick, rung := (s.port p).link.rung, deep := false } ∧
      (t.bed (bedOf p)).cnt = (s.bed (bedOf p)).cnt.add s.now 2 1 ∧
      (t.port p).link = (s.port p).link ∧ s.portsKept t [p] ∧ s.bedsKept t [bedOf p] ∧
      t = { s with ports := t.ports, beds := t.beds }) ∧
  (∀ (s : State) (p : PortId) (f : Flight) (ticks : List Tick) (fine : List (BitVec 6))
    (sects : List (Fin 16)), s.live = true → (s.port p).txSamp.flight = some f → f.left = false → 5 ≤ ticks.length →
    (∀ b, (s.bed b).store = []) → (s.ring telRing).state = .run → s.tel.writing ≠ [] →
    Completes (.sampleRecordQueue p false ticks fine sects) s fun t =>
      (t.port p).txSamp.flight = none ∧ (t.port p).cnt = (s.port p).cnt.add s.now 0x3C 1 ∧
      ((t.bed (bedOf p)).store.map fun x => (x.port, x.slotNo, x.ticks)) =
        [(p, f.slotNo, f.tick :: ticks.take 5)] ∧
      s.portsKept t [p] ∧ s.bedsKept t [bedOf p] ∧ t = { s with ports := t.ports, beds := t.beds })

/-- R8, R65, R132, R269, R310, R345, R347–R350, R359, R360. A whole-dword write of a master, in a tick in which no
register was written before it, reaches its register alone: shown on HUB.RETAIN, TRAINCTL, the ring bases
and LANE.TXEQ, which is written as applied. A write that is not a whole dword is dropped and sets BADSIZE.
A write to a port register of a bed that is off is dropped, and the first such fault is captured with its
event; AFAULT.CLEAR empties the capture; DSHIFT.CLEAR restores the removed rungs. That a write of a vector control
dword of PF0's MSI-X table sets the vector's mask is the model's reading of PCIe (log 62). -/
def Obligations.RegisterWrites : Prop :=
  (∀ (s : State) (m : MasterId) (i : Fin 64) (v : Word), s.live = true → hasBar0 m = true →
    s.hub.retain.length = 64 → s.unwritten = true →
    Completes (.registerWrite m (BitVec.ofNat 26 (0x100 + 4 * i.val)) v .whole) s fun t =>
      t.hub.retain.getD i.val 0 = v &&& 0x83FFFFFF ∧
      (∀ j : Fin 64, j ≠ i → t.hub.retain.getD j.val 0 = s.hub.retain.getD j.val 0) ∧
      t = { s with hub := { s.hub with retain := t.hub.retain, writes := t.hub.writes } }) ∧
  (∀ (s : State) (m : MasterId) (p : PortId) (v : Word), s.live = true →
    s.reaches m (portBase p + 0x114) = true → s.unwritten = true →
    Completes (.registerWrite m (BitVec.ofNat 26 (portBase p + 0x114)) v .whole) s fun t =>
      t.port p = { s.port p with cfg := { (s.port p).cfg with trainctl := v &&& 0x1FFF } } ∧
      s.portsKept t [p] ∧ t = { s with ports := t.ports, hub := { s.hub with writes := t.hub.writes } }) ∧
  (∀ (s : State) (m : MasterId) (r : RingId) (v : Word), s.live = true →
    s.reaches m (0x20000 + 0x20 * r.val) = true → s.unwritten = true →
    Completes (.registerWrite m (BitVec.ofNat 26 (0x20000 + 0x20 * r.val)) v .whole) s fun t =>
      t.ring r = { s.ring r with baseLo := v &&& 0xFFFFF000 } ∧ s.ringsKept t [r] ∧
      t = { s with rings := t.rings, hub := { s.hub with writes := t.hub.writes } }) ∧
  (∀ (s : State) (m : MasterId) (p : PortId), s.live = true → hasBar0 m = true →
    s.bedOn (bedOf p) = false → s.hub.afValid = false → s.hub.afClearAt ≤ s.now →
    Completes (.offBlockAccess m 2 (BitVec.ofNat 26 (portBase p + 0x100))) s fun t =>
      t.hub = { s.hub with afKind := 2, afMaster := m, afValid := true, afCount := 1,
                           afAddr := BitVec.ofNat 32 (portBase p + 0x100), afAt := some s.now } ∧
      t.hasDue .accessFault .device 2 = true ∧ t = { s with hub := t.hub, due := t.due }) ∧
  (∀ (s : State) (m : MasterId), s.live = true → hasBar0 m = true →
    Completes (.afaultClear m) s fun t =>
      t.afault = 0 ∧ t.hub.afAddr = 0 ∧
      t = { s with hub := { s.hub with afKind := 0, afMaster := 0, afValid := false, afCount := 0,
                                       afBadSize := false, afAddr := 0, afAt := none,
                                       afClearAt := s.now + 1 } }) ∧
  (∀ (s : State) (m : MasterId) (p : PortId), s.live = true →
    s.reaches m (portBase p + 0x108) = true →
    Completes (.dshiftClear m p) s fun t =>
      t.port p = { s.port p with link := { (s.port p).link with
        removed := 0, failRung := 0, failCount := 0, downs := [] } } ∧
      s.portsKept t [p] ∧ t = { s with ports := t.ports }) ∧
  (∀ (s : State) (m : MasterId) (l : LaneId) (v : Word), s.live = true →
    s.reaches m (laneBase l + 4) = true → s.unwritten = true →
    Completes (.laneTxeqWrite m l v) s fun t =>
      t.lane l = { s.lane l with txeq := txeqApplied v } ∧ s.lanesKept t [l] ∧
      t = { s with lanes := t.lanes, hub := { s.hub with writes := t.hub.writes } }) ∧
  (∀ (s : State) (i : Fin 64) (v : Word), s.live = true → s.pins.msix0.vecs.length = 64 →
    s.pins.msix0.pend.getLsbD i.val = false →
    Completes (.registerWrite 11 (BitVec.ofNat 26 (16 * i.val + 12)) v .msix) s fun t =>
      (t.pins.msix0.vecs.getD i.val {}) = { s.pins.msix0.vecs.getD i.val {} with mask := v.getLsbD 0 } ∧
      (∀ j : Fin 64, j ≠ i → t.pins.msix0.vecs.getD j.val {} = s.pins.msix0.vecs.getD j.val {}) ∧
      t = { s with pins := { s.pins with msix0 := { s.pins.msix0 with vecs := t.pins.msix0.vecs } } }) ∧
  (∀ (s : State) (m : MasterId) (a : BitVec 26) (v : Word) (form : WriteForm), s.live = true →
    hasBar0 m = true → form ≠ .whole → form ≠ .msix → s.hub.afClearAt ≤ s.now →
    Completes (.registerWrite m a v form) s fun t =>
      t.afault.getLsbD 16 = true ∧ t = { s with hub := { s.hub with afBadSize := true } })

/-- R430. A FLASH.CTL write with GO, in a tick in which no register was written before it, starts a read, a program
or an erase, or records in ERR why it is refused and leaves flash alone. The end of an erase without a
flash error leaves its 64 KiB erased and everything else in flash as it was; that of a program the bytes of DATA where
flash was erased, and everything else as it was; that of a read of four bytes fills the first dword of DATA. Each sets DONE. -/
def Obligations.FlashAccess : Prop :=
  (∀ (s : State) (m : MasterId) (op : Fin 3) (ctl : Word), s.live = true →
    s.reaches m 0x40004 = true → s.unwritten = true → s.flashRefuse m op.val (fld ctl 2 9) = 0 →
    Completes (if op = 0 then .flashRead m ctl else if op = 1 then .flashProgram m ctl
        else .flashErase m ctl) s fun t =>
      t.flash.busy = some { op := BitVec.ofNat 2 op.val, addr := s.flash.addr.toNat,
                            len := fld ctl 2 9 } ∧
      t.flash.done = false ∧ t.flash.err = 0 ∧ t.flash.mem = s.flash.mem ∧
      t = { s with flash := t.flash, hub := { s.hub with writes := t.hub.writes } }) ∧
  (∀ (s : State) (m : MasterId) (op : Fin 3) (ctl : Word), s.live = true →
    s.reaches m 0x40004 = true → s.unwritten = true → s.flashRefuse m op.val (fld ctl 2 9) ≠ 0 →
    Completes (if op = 0 then .flashRead m ctl else if op = 1 then .flashProgram m ctl
        else .flashErase m ctl) s fun t =>
      t.flash.busy = s.flash.busy ∧ t.flash.done = false ∧
      t.flash.err = BitVec.ofNat 3 (s.flashRefuse m op.val (fld ctl 2 9)) ∧
      t.flash.mem = s.flash.mem ∧
      t = { s with flash := t.flash, hub := { s.hub with writes := t.hub.writes } }) ∧
  (∀ (s : State) (o : FlashOp), s.live = true → s.flash.busy = some o → o.op = 2 →
    Completes (.flashOpDone false) s fun t =>
      t.flash.busy = none ∧ t.flash.done = true ∧ t.flash.err = 0 ∧
      (∀ i : Fin 0x10000, t.flashByte (o.addr + i.val) = 0xFF) ∧ s.flashKept t o.addr 0x10000 ∧
      t = { s with flash := t.flash }) ∧
  (∀ (s : State) (o : FlashOp), s.live = true → s.flash.busy = some o → o.op = 1 → o.len ≤ 256 →
    s.flash.data.length = 64 →
    Completes (.flashOpDone false) s fun t =>
      t.flash.busy = none ∧ t.flash.done = true ∧ s.flashKept t o.addr o.len ∧
      (∀ i : Fin 256, i.val < o.len → s.flashByte (o.addr + i.val) = 0xFF → t.flashByte (o.addr + i.val) =
        BitVec.ofNat 8 (fld (s.flash.data.getD (i.val / 4) 0) (8 * (i.val % 4)) 8)) ∧
      t = { s with flash := t.flash, free := t.free }) ∧
  (∀ (s : State) (o : FlashOp), s.live = true → s.flash.busy = some o → o.op = 0 → o.len = 4 →
    o.addr + 4 ≤ 0x1000000 → s.flash.density = 0 → s.flash.data.length = 64 →
    Completes (.flashOpDone false) s fun t =>
      t.flash.busy = none ∧ t.flash.done = true ∧ t.flash.mem = s.flash.mem ∧
      t.flash.data.getD 0 0 = BitVec.ofNat 32 (leNat (s.flashBytes o.addr 4)) ∧
      t = { s with flash := t.flash })

/-- R373, R374. The mailbox locks: of the masters that read a free lock in one tick the lowest identity
becomes its owner, whether one command or two bring the reads; a read of a lock held since an earlier tick, or freed in this one,
changes nothing; and the owner's write of 0 frees the lock from the next tick unless the channel holds a
notice, while any other write of LOCK changes nothing.
R375. Staging writes are taken only from the bound sender, and only while no notice is posted or
taken; a write that is not taken changes nothing. -/
def Obligations.MailboxLocksAndStaging : Prop :=
  (∀ (s : State) (c : ChanId) (ms : List MasterId) (w : MasterId), s.live = true → w ∈ ms →
    (∀ m ∈ ms, hasBar0 m = true ∧ s.early m = false ∧ w.toNat ≤ m.toNat) → (s.chan c).owner s.now = 0 →
    Completes (.mbxLockRead ms c) s fun t =>
      (t.chan c).lock = w ∧ s.chansKept t [c] ∧ t = { s with chans := t.chans } ∧
      t.chan c = { s.chan c with lock := w, lockAt := some s.now }) ∧
  (∀ (s : State) (c : ChanId) (m : MasterId), s.live = true → hasBar0 m = true → s.early m = false →
    (s.chan c).lock ≠ 0 → (s.chan c).lockAt = some s.now →
    Completes (.mbxLockRead [m] c) s fun t =>
      t.chan c = { s.chan c with
        lock := if m.toNat < (s.chan c).lock.toNat then m else (s.chan c).lock } ∧
      s.chansKept t [c] ∧ t = { s with chans := t.chans }) ∧
  (∀ (s : State) (c : ChanId) (ms : List MasterId), s.live = true → (∀ m ∈ ms, s.early m = false) →
    (s.chan c).owner s.now ≠ 0 → (s.chan c).lock = 0 ∨ (s.chan c).lockAt ≠ some s.now → Completes (.mbxLockRead ms c) s fun t => t = s) ∧
  (∀ (s : State) (c : ChanId) (m : MasterId), s.live = true → hasBar0 m = true → s.early m = false →
    (s.chan c).lock = m → (s.chan c).outstanding = false →
    Completes (.mbxLockRelease m c 0) s fun t =>
      (t.chan c).lock = 0 ∧ (t.chan c).owner (s.now + 1) = 0 ∧ (t.chan c).owner s.now = m ∧
      s.chansKept t [c] ∧ t = { s with chans := t.chans }) ∧
  (∀ (s : State) (c : ChanId) (m : MasterId) (v : Word), s.live = true → hasBar0 m = true →
    s.early m = false → (v ≠ 0 ∨ (s.chan c).lock ≠ m ∨ (s.chan c).outstanding = true) →
    Completes (.mbxLockRelease m c v) s fun t => t = s) ∧
  (∀ (s : State) (c : ChanId) (m : MasterId) (k : Fin 3) (v : Word), s.live = true → hasBar0 m = true →
    s.early m = false → (s.chan c).bound = true → (s.chan c).sender = m → (s.chan c).outstanding = false →
    Completes (.mbxStageWrite m c k v) s fun t =>
      t.chan c = (if k = 0 then { s.chan c with ptrLo := v } else if k = 1 then { s.chan c with ptrHi := v }
        else { s.chan c with metaw := v }) ∧
      s.chansKept t [c] ∧ t = { s with chans := t.chans }) ∧
  (∀ (s : State) (c : ChanId) (m : MasterId) (k : Fin 3) (v : Word), s.live = true → hasBar0 m = true →
    s.early m = false →
    ((s.chan c).bound = false ∨ (s.chan c).sender ≠ m ∨ (s.chan c).outstanding = true) →
    Completes (.mbxStageWrite m c k v) s fun t => t = s)

/-- R375. A post is rejected with the reason of the first condition that fails, in the table's order, and
changes nothing else; an accepted one clears STAT and REJECT and sets NOTICE, or, where its receiver does not
run, ends at once with result 6 and the lock free. A tick of the receiver's reset is left aside. -/
def Obligations.MailboxPost : Prop :=
  (∀ (s : State) (c : ChanId) (m : MasterId) (r : Reject), s.live = true → hasBar0 m = true →
    s.early m = false →
    r = (if (s.chan c).bound = false then .unbound else if (s.chan c).sender ≠ m then .notSender
      else if (s.chan c).lock ≠ m then .noLock else if (s.chan c).outstanding = true then .busy
      else if (s.chan c).ptrOk = false then .badPtr else .none) → r ≠ .none →
    (s.chan c).rxRstAt ≠ some s.now →
    Completes (.mbxPost m c) s fun t =>
      t.chan c = { s.chan c with reject := r } ∧ s.chansKept t [c] ∧ t = { s with chans := t.chans }) ∧
  (∀ (s : State) (c : ChanId) (m : MasterId), s.live = true → hasBar0 m = true → s.early m = false →
    (s.chan c).bound = true → (s.chan c).sender = m → (s.chan c).lock = m →
    (s.chan c).outstanding = false → (s.chan c).ptrOk = true → s.runs (s.chan c).receiver = true →
    s.hub.mode ≠ .dormant → s.sluice.entry = false → (s.chan c).rxRstAt ≠ some s.now →
    Completes (.mbxPost m c) s fun t =>
      (t.chan c).notice = true ∧ (t.chan c).done = false ∧ (t.chan c).result = 0 ∧
      (t.chan c).aborted = false ∧ (t.chan c).withdrawn = false ∧ (t.chan c).reject = .none ∧
      (t.chan c).lock = m ∧ s.chansKept t [c] ∧ t.mbxMem = s.mbxMem ∧ t.ports = s.ports ∧ t.rings = s.rings) ∧
  (∀ (s : State) (c : ChanId) (m : MasterId), s.live = true → hasBar0 m = true → s.early m = false →
    (s.chan c).bound = true → (s.chan c).sender = m → (s.chan c).lock = m →
    (s.chan c).outstanding = false → (s.chan c).discard = false → (s.chan c).ptrOk = true →
    s.runs (s.chan c).receiver = false → s.hub.mode ≠ .dormant → s.sluice.entry = false →
    (s.chan c).rxRstAt ≠ some s.now →
    Completes (.mbxPost m c) s fun t =>
      (t.chan c).notice = false ∧ (t.chan c).done = true ∧ (t.chan c).result = 6 ∧
      (t.chan c).reject = .none ∧ (t.chan c).lock = 0 ∧ s.chansKept t [c] ∧ t.mbxMem = s.mbxMem ∧
      t.ports = s.ports ∧ t.rings = s.rings)

/-- R377. TAKE and DONE by the bound receiver: TAKE clears NOTICE and sets TAKEN; DONE, with or without
TAKE, clears them, sets STAT.DONE with the result and releases the lock. From any other master they are
ignored, and REJECT reads NOT_RECEIVER. -/
def Obligations.MailboxTakeDone : Prop :=
  (∀ (s : State) (c : ChanId) (m : MasterId), s.live = true → hasBar0 m = true → s.early m = false →
    (s.chan c).bound = true → (s.chan c).receiver = m → (s.chan c).notice = true →
    Completes (.mbxTake m c) s fun t =>
      t.chan c = { s.chan c with notice := false, taken := true, heldPost := false } ∧
      s.chansKept t [c] ∧ t = { s with chans := t.chans }) ∧
  (∀ (s : State) (c : ChanId) (m : MasterId) (x : Byte), s.live = true → hasBar0 m = true →
    s.early m = false → (s.chan c).bound = true → (s.chan c).receiver = m →
    (s.chan c).outstanding = true → (s.chan c).discard = false →
    Completes (.mbxDone m c x) s fun t =>
      (t.chan c).notice = false ∧ (t.chan c).taken = false ∧ (t.chan c).done = true ∧
      (t.chan c).result = x ∧ (t.chan c).lock = 0 ∧ s.chansKept t [c] ∧ t.mbxMem = s.mbxMem ∧
      t.ports = s.ports) ∧
  (∀ (s : State) (c : ChanId) (m : MasterId) (x : Byte) (i : Instr), i = .mbxTake m c ∨ i = .mbxDone m c x →
    s.live = true → hasBar0 m = true → s.early m = false →
    ((s.chan c).bound = false ∨ (s.chan c).receiver ≠ m) →
    Completes i s fun t =>
      t.chan c = { s.chan c with reject := .notReceiver } ∧ s.chansKept t [c] ∧
      t = { s with chans := t.chans })

/-- R379. The doorbell bits: a write of the bound sender sets bits, which no clear of that tick clears; one of
the bound receiver clears bits where none was set in its tick; the mask is the receiver's; another master's
write changes nothing. -/
def Obligations.MailboxBells : Prop :=
  (∀ (s : State) (c : ChanId) (m : MasterId) (v : Word), s.live = true → hasBar0 m = true →
    s.early m = false → (s.chan c).bound = true → (s.chan c).sender = m →
    Completes (.mbxBellSet m c v) s fun t =>
      (t.chan c).bell = (s.chan c).bell ||| v ∧ (t.chan c).mask = (s.chan c).mask ∧ s.chansKept t [c] ∧
      t.mbxMem = s.mbxMem ∧ t.ports = s.ports ∧
      ((t.chan c).bellClear s.now (-1)).bell &&& v = v) ∧
  (∀ (s : State) (c : ChanId) (m : MasterId) (v : Word), s.live = true → hasBar0 m = true →
    s.early m = false → (s.chan c).bound = true → (s.chan c).receiver = m → (s.chan c).bellAt ≠ s.now →
    Completes (.mbxBellClear m c v) s fun t =>
      t.chan c = { s.chan c with bell := (s.chan c).bell &&& ~~~v } ∧ s.chansKept t [c] ∧
      t = { s with chans := t.chans }) ∧
  (∀ (s : State) (c : ChanId) (m : MasterId) (v : Word), s.live = true → hasBar0 m = true →
    s.early m = false → (s.chan c).bound = true → (s.chan c).receiver = m →
    Completes (.mbxMaskWrite m c v) s fun t =>
      (t.chan c).mask = v ∧ (t.chan c).bell = (s.chan c).bell ∧ s.chansKept t [c] ∧ t.mbxMem = s.mbxMem) ∧
  (∀ (s : State) (c : ChanId) (m : MasterId) (v : Word) (i : Instr), s.live = true → hasBar0 m = true →
    s.early m = false →
    (i = .mbxBellSet m c v ∧ ((s.chan c).bound = false ∨ (s.chan c).sender ≠ m)) ∨
      ((i = .mbxBellClear m c v ∨ i = .mbxMaskWrite m c v) ∧
        ((s.chan c).bound = false ∨ (s.chan c).receiver ≠ m)) →
    Completes i s fun t => t = s)

/-- R371, R380, R384. The bind table: Wicket, identity 1, alone writes it, and only while LOCKED is 0;
LOCKED sets and no write clears it. A read by identity 13 clears the unread condition it reads, and
SMBALERT# follows the conditions that are left. -/
def Obligations.BindTableAndAlert : Prop :=
  (∀ (s : State) (c : ChanId) (v : Word), s.live = true → s.hub.bindLocked = false →
    Completes (.mbxBindWrite 1 c v) s fun t =>
      t.chan c = { s.chan c with bind := v &&& 0x1FF } ∧ s.chansKept t [c] ∧ t = { s with chans := t.chans }) ∧
  (∀ (s : State) (c : ChanId) (m : MasterId) (v : Word), s.live = true → hasBar0 m = true →
    s.early m = false → (m ≠ 1 ∨ s.hub.bindLocked = true) →
    Completes (.mbxBindWrite m c v) s fun t => t = s) ∧
  (∀ (s : State) (m : MasterId) (v : Word), s.live = true → hasBar0 m = true → s.early m = false →
    Completes (.mbxBindctlLock m v) s fun t =>
      t = { s with hub := { s.hub with
        bindLocked := s.hub.bindLocked || (decide (m = 1) && bit v 0) } }) ∧
  (∀ (s : State) (c : ChanId) (b : Bool), s.live = true → s.early 13 = false →
    Completes (.smbusStatusRead c b) s fun t =>
      (if b then (t.chan c).unreadBell else (t.chan c).unreadStat) = false ∧ s.chansKept t [c] ∧
      (t.pins.alert = true ↔ ∃ d, (t.chan d).unreadStat = true ∨ (t.chan d).unreadBell = true) ∧
      t = { s with chans := t.chans, pins := { s.pins with alert := t.pins.alert } })

/-- R376, R420, R428, R511. Wicket's service of channel 0: a status request's buffer takes the four status
words; a verification answers by its result, which SLOTSTAT takes; in SEEDBED SET_PREFERRED writes the boot
control record for a slot that verifies, and RETRY begins a start with the count at 0, while outside SEEDBED
both are answered ST_REFUSED; a malformed request is answered ST_BAD_PARAM and does nothing more. -/
def Obligations.SeedbedService : Prop :=
  (∀ (s : State) (buf : Bytes), s.live = true → s.wicketServes = true → s.requestOk 1 buf = true →
    (s.chan 0).discard = false → bit (s.chan 0).ptrHi 31 = true →
    Completes (.seedbedStatus buf) s fun t =>
      (t.chan 0).done = true ∧ (t.chan 0).result = 0 ∧ (t.chan 0).lock = 0 ∧ s.chansKept t [0] ∧
      t.mbxMem = memWriteBytes 0 s.mbxMem (fld (s.chan 0).ptrLo 0 13)
        (leBytes 4 s.bootstat.toNat ++ leBytes 4 s.fwver.toNat ++ leBytes 4 s.boot.count ++
          leBytes 4 s.slotstat.toNat) ∧
      t.hostMem = s.hostMem ∧ t.boot = s.boot ∧ t.flash = s.flash ∧ t.sec = s.sec) ∧
  (∀ (s : State) (buf : Bytes) (i : Instr), s.live = true → s.wicketServes = true →
    (s.chan 0).discard = false →
    (i = .seedbedStatus buf ∧ s.requestOk 1 buf = false) ∨
      (i = .seedbedVerify buf ∧ s.requestOk 2 buf = false) ∨
      (i = .setPreferred buf ∧ s.requestOk 3 buf = false) ∨ (i = .retry buf ∧ s.requestOk 4 buf = false) →
    Completes i s fun t =>
      (t.chan 0).done = true ∧ (t.chan 0).result = BitVec.ofNat 8 ST.badParam.code ∧ s.chansKept t [0] ∧
      t.mbxMem = s.mbxMem ∧
      t.boot = s.boot ∧ t.flash = s.flash ∧ t.sec = s.sec ∧ t.hub = s.hub) ∧
  (∀ (s : State) (buf : Bytes), s.live = true → s.wicketServes = true → s.requestOk 2 buf = true →
    (s.chan 0).discard = false →
    Completes (.seedbedVerify buf) s fun t =>
      (t.chan 0).done = true ∧
      ((t.chan 0).result = 0 ↔ s.verifySlot (bit (byteAt buf 1) 0) = .verified) ∧
      t.sec = (s.slotResult (bit (byteAt buf 1) 0) (s.verifySlot (bit (byteAt buf 1) 0))).sec ∧
      s.chansKept t [0] ∧ t.flash = s.flash ∧ t.boot = s.boot ∧ t.mbxMem = s.mbxMem) ∧
  (∀ (s : State) (buf : Bytes), s.live = true → s.wicketServes = true → s.requestOk 3 buf = true →
    (s.chan 0).discard = false → s.hub.mode = .seedbed →
    Completes (.setPreferred buf) s fun t =>
      (t.chan 0).done = true ∧
      ((t.chan 0).result = 0 ↔ s.verifySlot (bit (byteAt buf 1) 0) = .verified) ∧
      (s.verifySlot (bit (byteAt buf 1) 0) = .verified →
        t.flash = (s.bootctlWrite (bit (byteAt buf 1) 0)).flash) ∧
      (s.verifySlot (bit (byteAt buf 1) 0) ≠ .verified → t.flash = s.flash) ∧
      s.chansKept t [0] ∧ t.boot = s.boot ∧ t.mbxMem = s.mbxMem) ∧
  (∀ (s : State) (buf : Bytes) (i : Instr), s.live = true → s.wicketServes = true →
    (s.chan 0).discard = false → s.hub.mode ≠ .seedbed →
    (i = .setPreferred buf ∧ s.requestOk 3 buf = true) ∨ (i = .retry buf ∧ s.requestOk 4 buf = true) →
    Completes i s fun t =>
      (t.chan 0).done = true ∧ (t.chan 0).result = BitVec.ofNat 8 ST.refused.code ∧
      s.chansKept t [0] ∧ t.flash = s.flash ∧ t.boot = s.boot ∧ t.hub = s.hub) ∧
  (∀ (s : State) (buf : Bytes), s.live = true → s.wicketServes = true → s.requestOk 4 buf = true →
    s.hub.mode = .seedbed →
    Completes (.retry buf) s fun t =>
      t.hub.mode = .boot ∧ t.boot.count = 0 ∧ t.boot.userRetry = true ∧ t.boot.reason = .userRetry ∧
      t.boot.stage = (if s.clk.lock then 2 else 1))

/-- R396, R416–R418, R421–R423, R427, R428, R435, R509. A start's stages: no flash and a bad chain fail it with
their reasons, a fourth start after three failed ones stops in SEEDBED, Gardener's report is taken, ends stage 6
and switches the beds on, and stage 9 ends in ACTIVE with the count at 0. A stage's limit, the start's limit and
a fatal error fail it; a failed start counts, at most to 3, and the restart begins a new one. Where the start's
limit falls in the tick of the entry to ACTIVE, the start has succeeded. An endpoint that trains reaches L0. -/
def Obligations.StartStages : Prop :=
  (∀ (s : State) (o : StageObs), s.live = true → s.starting = true → s.boot.stage = 2 →
    o.sfdp = false →
    Completes (.startStageEnd o) s fun t =>
      t.boot.failed = true ∧ t.boot.lastReason = .flashAbsent ∧
      t.boot.count = min 3 (s.boot.count + 1) ∧ t.boot.stage = 2 ∧ t.flash.sfdp = false) ∧
  (∀ (s : State) (o : StageObs), s.live = true → s.starting = true → s.boot.stage = 3 →
    Completes (.startStageEnd o) s fun t =>
      t.boot.failed = !s.chainOk ∧ t.boot.stage = (if s.chainOk then 4 else 3) ∧
      t.boot.lastReason = (if s.chainOk then s.boot.lastReason else .certInvalid) ∧
      t.sec.chainBytes = s.flashBytes chainBase 0x8000 ∧ t.hub = s.hub ∧ t.pins.link = s.pins.link) ∧
  (∀ (s : State) (o : StageObs), s.live = true → s.starting = true → s.boot.stage = 6 →
    s.boot.ready.contains 2 = true → s.sluice.reqs = [] → s.bedRails = false →
    Completes (.startStageEnd o) s fun t =>
      t.boot = { s.boot with stage := 7 } ∧
      (∀ b, (s.bed b).pow.falling = false → (t.bed b).pow =
        { (s.bed b).pow with rising := (s.bed b).pow.rising || !(s.bed b).pow.on }) ∧
      t = { s with boot := t.boot, beds := t.beds }) ∧
  (∀ (s : State) (o : StageObs), s.live = true → s.starting = true → s.boot.stage = 9 →
    Completes (.startStageEnd o) s fun t =>
      t.hub.mode = .active ∧ t.hub.changing = false ∧ t.boot.stage = 0 ∧ t.boot.count = 0 ∧
      t.boot.bgDue = true ∧ t.pins = s.pins ∧ t.sec = s.sec) ∧
  (∀ (s : State), s.live = true → s.starting = true → s.boot.stage = 6 →
    s.boot.ready.contains 2 = false →
    Completes (.coreReadyReport 2) s fun t =>
      t = { s with boot := { s.boot with ready := s.boot.ready ++ [2] } }) ∧
  (∀ (s : State) (i : Instr) (r : Reason), s.live = true → s.starting = true →
    (i = .startStageTimeout ∧ 2 ≤ s.boot.stage ∧ s.boot.stage ≤ 5 ∧ r = .stageTimeout) ∨
      (i = .startStageTimeout ∧ 6 ≤ s.boot.stage ∧ s.boot.stage ≤ 7 ∧ r = .coreNoReady) ∨
      (i = .startTimeout ∧ s.boot.stage ≠ 9 ∧ r = .startTimeout) ∨
      (i = .fwFatal ∧ 6 ≤ s.boot.stage ∧ r = .fwFatal) →
    Completes i s fun t =>
      t.boot.failed = true ∧ t.boot.lastReason = r ∧ t.boot.count = min 3 (s.boot.count + 1) ∧
      t.boot.stage = s.boot.stage ∧ t.hub = s.hub ∧ t.clk = s.clk ∧ t.ports = s.ports ∧
      t.beds = s.beds) ∧
  (∀ (s : State), s.live = true → s.starting = true → s.boot.stage = 9 →
    Completes .startTimeout s fun t =>
      t = { s with boot := { s.boot with
        failed := true, lastReason := .startTimeout, count := min 3 (s.boot.count + 1),
        late := some (s.now, s.boot.count, s.boot.lastReason),
        held := s.boot.held ++ [(.failed, Reason.startTimeout.code, 0, 9, s.clk.tick)] } }) ∧
  (∀ (s : State) (o : StageObs) (c : Nat) (r : Reason), s.live = true → s.boot.failed = true →
    s.boot.stage = 9 → s.boot.late = some (s.now, c, r) →
    Completes (.startStageEnd o) s fun t =>
      t.hub.mode = .active ∧ t.boot.stage = 0 ∧ t.boot.failed = false ∧ t.boot.count = 0 ∧
      t.boot.lastReason = r) ∧
  (∀ (s : State) (o : StageObs), s.live = true → s.starting = true → s.boot.stage = 4 →
    s.boot.hubLogic = .pass → s.boot.hubMemory = .pass → 3 ≤ s.boot.count →
    Completes (.startStageEnd o) s fun t =>
      t.hub.mode = .seedbed ∧ t.hub.changing = false ∧ t.hub.bindLocked = true ∧ t.boot.stage = 0 ∧
      t.boot.count = s.boot.count ∧ t.ports = s.ports ∧ t.beds = s.beds) ∧
  (∀ (s : State), s.live = true → s.boot.failed = true → s.boot.waitRef = false →
    Completes .failedStartRestart s fun t =>
      t.hub.mode = .boot ∧ t.boot.failed = false ∧ t.boot.count = s.boot.count ∧
      t.boot.fails = s.boot.count ∧ t.boot.stage = (if s.clk.lock then 2 else 1) ∧
      (∀ p, t.pst p = .disabled) ∧ t.clk.tick = s.clk.tick) ∧
  (∀ (s : State), s.live = true → s.pins.training = true → s.clk.reflost = false →
    Completes .pcieLinkUp s fun t =>
      t = { s with pins := { s.pins with link := true, training := false } })

/-- R511–R513. In a running device Wicket verifies the other slot once a start and blows the security
version's fuses one at a time: a bit is added and none is cleared, and no fuse is blown beyond the running
image's version or where none is to be blown. -/
def Obligations.SecurityVersion : Prop :=
  (∀ (s : State), s.live = true → s.boot.bgDue = true → s.sluice.hubOn = true →
    Completes .slotBackgroundVerify s fun t =>
      t.boot = { s.boot with bgDue := false } ∧
      t.sec = (s.slotResult (!s.boot.slot) (s.verifySlot (!s.boot.slot))).sec ∧
      t = { s with boot := t.boot, sec := t.sec, due := t.due }) ∧
  (∀ (s : State), s.live = true → s.boot.blowing = true → fusedSvn s.sec.svn < s.boot.imageSvn.toNat →
    fusedSvn s.sec.svn < 64 →
    Completes .svnFuseBlow s fun t =>
      t.sec = { s.sec with svn := s.sec.svn ||| BitVec.ofNat 64 (2 ^ fusedSvn s.sec.svn) } ∧
      fusedSvn t.sec.svn = fusedSvn s.sec.svn + 1 ∧
      (t.boot.blowing = true ↔ fusedSvn t.sec.svn < s.boot.imageSvn.toNat) ∧
      t = { s with boot := { s.boot with blowing := t.boot.blowing }, sec := t.sec, due := t.due }) ∧
  (∀ (s : State), s.live = true →
    s.boot.blowing = false ∨ s.boot.imageSvn.toNat ≤ fusedSvn s.sec.svn →
    Completes .svnFuseBlow s fun t => t.sec = s.sec ∧ t.boot.blowing = false)

/-- R37, R45, R48, R51, R61, R130, R158, R173, R174. The standard rungs: a changed cable forgets REMOVED and
the fingerprint; Clause 28 that completes trains the highest common standard rung by its clause; a master-slave
fault is ROLE_CONFLICT and a restart; the clause's result takes the port UP, or down where it failed or measured
more than 50 ns of skew; a failed link status goes to LISTENING, an agreed fast retrain trains the same rung, and
the two directions of LPI make STILL. -/
def Obligations.StandardRungs : Prop :=
  (∀ (s : State) (p : PortId), s.live = true → s.pst p = .listening →
    Completes (.cableChangeEpisode p) s fun t =>
      (t.port p).link = { (s.port p).link with removed := 0, failRung := 0, failCount := 0, downs := [] } ∧
      (t.port p).fp = none ∧ (t.port p).cfg = (s.port p).cfg ∧ (t.port p).train = (s.port p).train ∧
      (t.port p).spring = (s.port p).spring ∧ s.portsKept t [p] ∧ t = { s with ports := t.ports }) ∧
  (∀ (s : State) (p : PortId) (o : C28Obs) (r : Rung), s.live = true → s.pst p = .listening →
    (s.port p).link.c28 = true → (s.port p).link.c28Held = false →
    r = highest (stdRungs (candidates (s.port p)) &&& o.partner) → r ≠ 0 →
    Completes (.clause28Complete p o) s fun t =>
      t.pst p = .training ∧ (t.port p).train.kind = .standard ∧ (t.port p).train.rung = r ∧
      (t.port p).train.origin = s.now ∧ (t.port p).link.role = .none ∧
      (t.port p).link.timing = timingOf (s.port p).link.sRole o.master ∧ (t.port p).link.c28 = false ∧
      (t.port p).link.c28Fast = (o.fastRt && rungFast r) ∧
      (t.port p).link.eee = eeeAgreed (s.port p) o r ∧
      (t.port p).spring = (s.port p).spring ∧ (t.port p).fp = (s.port p).fp ∧
      (t.port p).cfg = (s.port p).cfg ∧ s.portsKept t [p] ∧ s.sidesKept t) ∧
  (∀ (s : State) (p : PortId), s.live = true → s.pst p = .listening → (s.port p).link.c28 = true →
    (s.port p).link.c28Held = false → (s.port p).link.held = false → candidates (s.port p) ≠ 0 →
    lcRole (s.port p).cfg.linkctl = (s.port p).link.sRole →
    Completes (.clause28MsFault p) s fun t =>
      t.pst p = .listening ∧ t.hasDue .linkDown (.port p) Down.roleConflict.code = true ∧
      (t.port p).link.c28 = true ∧ (t.port p).link.c28Adv = some (s.port p).c28Form ∧
      (t.port p).spring = (s.port p).spring ∧ s.portsKept t [p] ∧ s.sidesKept t ∧ t.lanes = s.lanes) ∧
  (∀ (s : State) (p : PortId) (o : ClauseObs), s.live = true → s.pst p = .training →
    (s.port p).train.kind = .standard → (s.port p).train.waitPll = false →
    isCh (s.port p).train.rung = false → o.ok = true → o.skew.toNat ≤ 100 →
    Completes (.clauseTrainingResult p o) s fun t =>
      t.pst p = .up ∧ (t.port p).link.rung = (s.port p).train.rung ∧ (t.port p).link.rxmap = o.rxmap ∧
      (t.port p).link.polinv = o.polinv ∧ (t.port p).link.skew = o.skew ∧
      (t.port p).link.timing = (s.port p).link.timing ∧ (t.port p).train.fails = 0 ∧
      (t.port p).train.margins = marginsOf (s.port p).train.rung false (t.port p).train.snr ∧
      (∀ i ∈ (s.port p).pairs, (t.port p).train.snr.getD i.val 0 = snrOf false (o.errs.getD i.val ⟨1, 0⟩)) ∧
      t.hasDue .linkUp (.port p) (s.port p).train.rung.toNat = true ∧
      (t.port p).fp = (s.port p).fp ∧ (t.port p).cfg = (s.port p).cfg ∧
      s.portsKept t [p] ∧ s.sidesKept t) ∧
  (∀ (s : State) (p : PortId) (o : ClauseObs) (c : TCause) (d : Down), s.live = true →
    s.pst p = .training → (s.port p).train.kind = .standard → (s.port p).train.waitPll = false →
    (o.ok = false ∧ (s.port p).train.fromData = false ∧ c = .clause ∧ d = .trainFail) ∨
      (o.ok = true ∧ 100 < o.skew.toNat ∧ c = .skew ∧ d = .skew) →
    Completes (.clauseTrainingResult p o) s fun t =>
      t.pst p = .listening ∧ (t.port p).train.lastCause = c ∧
      (t.port p).train.fails = min 255 ((s.port p).train.fails + 1) ∧
      t.hasDown p d 0 = true ∧ (t.port p).fp = (s.port p).fp ∧ (t.port p).cfg = (s.port p).cfg ∧
      s.portsKept t [p] ∧ s.hubKept t) ∧
  (∀ (s : State) (p : PortId) (o : ClauseObs) (i : Instr), s.live = true →
    isCh (s.port p).link.rung = false → (s.port p).link.after = .none →
    (s.port p).dorm.noticeWait = false → s.noCrit p = true →
    (i = .clauseLinkFail p ∧ (s.port p).linked = true) ∨
      (i = .clauseTrainingResult p o ∧ o.ok = false ∧ s.pst p = .training ∧
        (s.port p).train.kind = .standard ∧ (s.port p).train.waitPll = false ∧
        (s.port p).train.fromData = true) →
    Completes i s fun t =>
      t.pst p = .listening ∧ t.hasDown p .clauseLink 0 = true ∧
      (t.port p).line.lastDown = BitVec.ofNat 4 Down.clauseLink.code ∧
      (t.port p).cfg = (s.port p).cfg ∧ (t.port p).fp = (s.port p).fp ∧ s.portsKept t [p] ∧
      s.hubKept t) ∧
  (∀ (s : State) (p : PortId), s.live = true → s.pst p = .up → isCh (s.port p).link.rung = false →
    (s.port p).link.c28Fast = true →
    Completes (.clauseFastRetrainTrigger p) s fun t =>
      t.pst p = .training ∧ (t.port p).train.kind = .standard ∧
      (t.port p).train.rung = (s.port p).link.rung ∧ (t.port p).train.fromData = true ∧
      (t.port p).train.origin = s.now ∧ (t.port p).fp = (s.port p).fp ∧
      (t.port p).cfg = (s.port p).cfg ∧ s.portsKept t [p] ∧
      s.sidesKept t) ∧
  (∀ (s : State) (p : PortId) (rx enter : Bool) (w : PState × Still), s.live = true →
    isCh (s.port p).link.rung = false → (s.port p).link.eee = true → w = (s.pst p, (s.port p).still) →
    (w.1 = .up ∧ (w.2.txLpi && w.2.rxLpi) = false) ∨
      (w.1 = .still ∧ w.2.txLpi = true ∧ w.2.rxLpi = true) →
    Completes (.lineLpiChange p rx enter) s fun t =>
      (t.port p).still.rxLpi = (if rx then enter else w.2.rxLpi) ∧
      (t.port p).still.txLpi = (if rx then w.2.txLpi else enter) ∧
      t.pst p = (if (t.port p).still.txLpi && (t.port p).still.rxLpi then .still else .up) ∧
      (t.pst p ≠ w.1 →
        t.hasDue .still (.port p) (if t.pst p = .still then 1 else 0) = true) ∧
      (w.1 = .still → enter = false →
        (t.port p).still.lastWake = if rx then .partner else .host) ∧
      (rx = true → enter = true → (s.port p).host.egress = .stream → (t.port p).host.egress = .lpi) ∧
      (t.port p).line = (s.port p).line ∧ s.portsKept t [p] ∧ s.sidesKept t ∧ t.lanes = s.lanes)

/-- R53–R56, R88, R89, R124, R154, R156, R157. Comma locks and pairs: what a slot position brings gives a lock,
noted with its identity and polarity; two locks of one identity are both lost, and a lost lock is counted; the
last one takes the link down with FRAMING_LOST, or after a single bad pair into three-pair training where that is
possible. A single pair that fails in data mode is spared where that is possible, and otherwise, or where more
fail, the link goes down with PAIR_FAULT. Of two criteria in one tick the first in order gives the cause. -/
def Obligations.CommaLocksAndPairs : Prop :=
  (∀ (s : State) (p : PortId) (i j : Pair) (inv : Bool) (xs ys : List Int), s.live = true →
    commaLock (xs.zip ys) = some (j, inv) → (s.port p).lineOn = true → (s.port p).pairs.contains i = true →
    (s.port p).line.locks.getD i.val none = none →
    ((s.port p).line.locks.all fun k => match k with | some x => x.ident != j | none => true) = true →
    Completes (.commaLockAcquire p i xs ys) s fun t =>
      (t.port p).line.locks = upd (s.port p).line.locks i.val (some ⟨j, inv⟩) ∧
      (t.port p).link = (s.port p).link.lockMap i j inv ∧ (t.port p).cnt = (s.port p).cnt ∧
      s.portsKept t [p] ∧ t = { s with ports := t.ports }) ∧
  (∀ (s : State) (p : PortId) (i k m : Pair) (x : Lock) (inv : Bool) (xs ys : List Int),
    s.live = true → commaLock (xs.zip ys) = some (x.ident, inv) → (s.port p).lineOn = true → (s.port p).pairs.contains i = true →
    (s.port p).line.locks.getD i.val none = none →
    (s.port p).line.locks.getD k.val none = some x →
    (∀ n : Pair, n < k → ∀ y ∈ (s.port p).line.locks.getD n.val none, y.ident ≠ x.ident) →
    m ≠ k → (s.port p).pairs.contains m = true → ((s.port p).line.locks.getD m.val none).isSome = true →
    Completes (.commaLockAcquire p i xs ys) s fun t =>
      (t.port p).line.locks = upd (s.port p).line.locks k.val none ∧
      (t.port p).link = (s.port p).link ∧ (t.port p).cnt = (s.port p).cnt.add s.now 0x22 1 ∧
      s.portsKept t [p] ∧ t = { s with ports := t.ports }) ∧
  (∀ (s : State) (p : PortId) (i j : Pair) (k : Lock) (vs : List RxPt), s.live = true →
    (s.port p).lineOn = true → (s.port p).still.quiet = false →
    (s.port p).line.locks.getD i.val none = some k → lockFails k vs = true → j ≠ i →
    (s.port p).pairs.contains j = true → ((s.port p).line.locks.getD j.val none).isSome = true →
    Completes (.commaLockLoss p ⟨i, vs⟩) s fun t =>
      (t.port p).line.locks = upd (s.port p).line.locks i.val none ∧
      (t.port p).link = (s.port p).link ∧ (t.port p).cnt = (s.port p).cnt.add s.now 0x22 1 ∧
      s.portsKept t [p] ∧ t = { s with ports := t.ports }) ∧
  (∀ (s : State) (p : PortId) (i : Instr) (c : Down) (x : Pair) (k : Lock) (vs : List RxPt),
    s.live = true → s.pst p = .up → isCh (s.port p).link.rung = true → (s.port p).still.quiet = false →
    (s.port p).link.after = .none → (s.port p).dorm.noticeWait = false →
    (s.port p).link.role = .tail → (s.port p).link.spared = false → s.noCrit p = true →
    (i = .commaLockLoss p ⟨x, vs⟩ ∧ c = .framingLost ∧ (s.port p).line.suspPair = none ∧
        (s.port p).line.locks.getD x.val none = some k ∧
        lockFails k vs = true ∧ ∀ j : Pair, j ≠ x → (s.port p).line.locks.getD j.val none = none) ∨
      (i = .oamLost p ∧ c = .oamLost ∧ (s.port p).line.susp = 0) →
    Completes i s fun t =>
      t.pst p = .training ∧ (t.port p).train.kind = .none ∧ (t.port p).train.await = true ∧
      (t.port p).train.fromData = true ∧ (t.port p).train.rung = (s.port p).link.rung ∧
      t.hasDown p c 0 = true ∧ (t.port p).line.lastDown = BitVec.ofNat 4 c.code ∧
      (t.port p).line.health = .notUp ∧ (t.port p).fp = (s.port p).fp ∧ s.portsKept t [p] ∧
      s.hubKept t ∧ t.beds = s.beds) ∧
  (∀ (s : State) (p : PortId) (x i : Pair) (k : Lock) (vs : List RxPt), s.live = true → s.pst p = .up →
    isCh (s.port p).link.rung = true → (s.port p).still.quiet = false →
    (s.port p).line.suspPair = some i → sparePossible (s.port p) = true →
    (s.port p).line.locks.getD x.val none = some k → lockFails k vs = true →
    (∀ j : Pair, j ≠ x → (s.port p).line.locks.getD j.val none = none) →
    Completes (.commaLockLoss p ⟨x, vs⟩) s fun t =>
      t.pst p = .training ∧ (t.port p).train.kind = .threePair ∧ (t.port p).train.rung = 8 ∧
      (t.port p).link.spared = true ∧ (t.port p).link.sparedPair = i ∧
      t.hasDue .pairSpared (.port p) i.val = true ∧ s.portsKept t [p] ∧ s.sidesKept t) ∧
  (∀ (s : State) (p : PortId) (i : Pair), s.live = true → s.pst p = .up →
    isCh (s.port p).link.rung = true → (s.port p).still.quiet = false →
    (s.port p).link.downAt ≠ some s.now →
    (s.port p).pairs.contains i = true → sparePossible (s.port p) = true →
    Completes (.pairFailure p [i]) s fun t =>
      t.pst p = .training ∧ (t.port p).train.kind = .threePair ∧ (t.port p).train.phase = .timing ∧
      (t.port p).train.rung = 8 ∧ (t.port p).link.spared = true ∧ (t.port p).link.sparedPair = i ∧
      (t.port p).train.fromData = true ∧ (t.port p).fp = (s.port p).fp.map (fpSetConfirmed false) ∧
      (t.port p).line.spareReq =
        (if (s.port p).line.term then none else some ((s.port p).headPair i)) ∧
      t.hasDue .pairSpared (.port p) i.val = true ∧ s.portsKept t [p] ∧ s.sidesKept t) ∧
  (∀ (s : State) (p : PortId) (ps bad : List Pair), s.live = true → s.pst p = .up →
    isCh (s.port p).link.rung = true → (s.port p).still.quiet = false →
    (s.port p).link.downAt ≠ some s.now →
    bad = ps.filter (s.port p).pairs.contains →
    (bad.length = 1 ∧ sparePossible (s.port p) = false) ∨ 2 ≤ bad.length →
    Completes (.pairFailure p ps) s fun t =>
      t.pst p = .listening ∧ (t.port p).link.spared = false ∧ t.hasDown p .pairFault (pairMask bad) = true ∧
      (t.port p).cfg = (s.port p).cfg ∧ (t.port p).fp = (s.port p).fp ∧ s.portsKept t [p] ∧
      s.hubKept t) ∧
  (∀ (s : State) (p : PortId), s.live = true → (s.port p).ls ≠ .up →
    s.hasDue .linkDown (.port p) Down.uncBurst.code = true →
    (s.due.all fun e => e.code != .linkDown || e.src != .port p ||
      (e.critOf p s.now && decide (Down.uncBurst.code ≤ fld e.data 0 8))) = true →
    Completes (.oamLost p) s fun t =>
      t.hasDue .linkDown (.port p) Down.oamLost.code = true ∧
      t.hasDue .linkDown (.port p) Down.uncBurst.code = false ∧
      (t.port p).line.lastDown = BitVec.ofNat 4 Down.oamLost.code ∧
      (t.port p).link = (s.port p).link ∧ (t.port p).cnt = (s.port p).cnt ∧ s.portsKept t [p] ∧
      t = { s with ports := t.ports, due := t.due })

/-- R55, R70, R77, R91, R93, R94, R96, R97, R120, R154. The OAM field: each row group in data mode carries the
next SEQ and the blocks of the host side, a closing counts down to the termination rows, and one that this end
decided raises LOCAL_DOWN; a valid field is kept as the partner's last, out of sequence counted, and a failed
one is counted, the 32nd in a row as OAM_LOST; a tail follows the head's CLOSE_RETRAIN; the messages wait and
lapse; and a port that went to three-pair training names the failed pair in SPARE_REQ of the row groups that it
still sends, without host data. -/
def Obligations.OamFields : Prop :=
  (∀ (s : State) (p : PortId) (bs : List HostBlk), s.live = true → s.pst p = .up →
    isCh (s.port p).link.rung = true → (s.port p).still.quiet = false → (s.port p).line.term = false →
    (s.port p).line.txData = true → (s.port p).line.downDue = false → (s.port p).line.closing = .data →
    (s.port p).line.rungReq = 0 → (s.port p).link.wakeJob = .none →
    Completes (.oamFieldForm p bs) s fun t =>
      (t.port p).line.seq = (s.port p).line.seq + 1 ∧ (t.port p).line.uncSeen = false ∧
      (t.port p).line.msg = (s.port p).line.nextMsg.msg ∧
      (t.port p).line.msgs = (s.port p).line.nextMsg.msgs ∧
      (t.port p).line.txScr = (scramble ((s.port p).link.role != .tail) (s.port p).line.txScr
        (groupStream { s.port p with
          line := (s.port p).line.nextMsg,
          still := (s.port p).still.hostSees (stripMarkers bs) }.oamField
          ((fours 66 (s.lineBlocks p bs).1).map transcode))).2 ∧
      (t.port p).host.txq = (s.lineBlocks p bs).2 ∧
      (t.port p).link = (s.port p).link ∧ (t.port p).cnt = (s.port p).cnt ∧ s.portsKept t [p] ∧
      s.lanesCounted t ∧ t = { s with ports := t.ports, lanes := t.lanes }) ∧
  (∀ (s : State) (p : PortId) (bs : List HostBlk), s.live = true → s.pst p = .up →
    isCh (s.port p).link.rung = true → (s.port p).still.quiet = false → (s.port p).line.term = false →
    (s.port p).line.txData = true → (s.port p).line.closing ≠ .data → (s.port p).link.wakeJob = .none →
    Completes (.oamFieldForm p bs) s fun t =>
      (t.port p).line.closing = (s.port p).line.closing ∧ (t.port p).line.downDue = false ∧
      (t.port p).line.term = decide ((s.port p).line.closeCnt.getD 0 = 0) ∧
      (∀ n ∈ (s.port p).line.closeCnt, 0 < n → (t.port p).line.closeCnt = some (n - 1)) ∧
      ((s.port p).line.downDue = true →
        t.hasDue .linkDown (.port p) Down.localDown.code = true) ∧
      t.awaited .retrain (.port p) = false ∧ t.pst p = .up ∧ s.portsKept t [p] ∧ s.sidesKept t ∧
      s.lanesCounted t) ∧
  (∀ (s : State) (p : PortId) (o : BitVec 198), s.live = true → (s.port p).rx.run = .on →
    s.pst p = .up → oamOk o = true → fld o 8 4 = 0 → bit o 20 = false → fld o 16 4 = 0 →
    fld o 45 4 = 0 → (s.port p).link.role = .tail →
    Completes (.oamFieldReceive p o) s fun t =>
      (t.port p).line.oam = some o ∧ (t.port p).line.oamValid = true ∧ (t.port p).line.oamGap = 0 ∧
      (t.port p).line.rxData = true ∧ (t.port p).line.msgAck = (s.port p).line.msgAck ∧
      (t.port p).line.msg = (if bit o 50 = (s.port p).line.msgTog then none else (s.port p).line.msg) ∧
      (t.port p).line.epRemote = ((s.port p).line.epRemote || bit o 43 || bit o 44) ∧
      (t.port p).rx = { (s.port p).rx with seqNext := some (BitVec.ofNat 8 (fld o 0 8 + 1)) } ∧
      (t.port p).cnt = (if (s.port p).rx.seqBad o then (s.port p).cnt.add s.now 0x21 1
        else (s.port p).cnt) ∧
      (t.port p).link = (s.port p).link ∧ s.portsKept t [p] ∧ t = { s with ports := t.ports }) ∧
  (∀ (s : State) (p : PortId) (o : BitVec 198), s.live = true → (s.port p).rx.run = .on →
    s.pst p = .up → (s.port p).train.abortLeft = 0 → (s.port p).still.ended = false →
    oamOk o = true → fld o 8 4 = LState.closeRetrain.code → bit o 20 = false →
    fld o 51 2 ≠ 0 → fld o 16 4 = 0 → fld o 45 4 = 0 → (s.port p).link.role = .tail → (s.port p).line.closing = .data →
    Completes (.oamFieldReceive p o) s fun t =>
      (t.port p).line.closing = .closeRetrain ∧ (t.port p).line.closeCnt = some 3 ∧
      (t.port p).line.downDue = false ∧ (t.port p).rx.left = some (8 - (s.port p).rx.row + 8 * fld o 51 2) ∧
      t.pst p = .up ∧ s.portsKept t [p] ∧ s.sidesKept t) ∧
  (∀ (s : State) (p : PortId) (o : BitVec 198), s.live = true → (s.port p).takesData = true →
    s.pst p = .up → oamOk o = false → (s.port p).line.oamGap < 31 ∨ (s.port p).line.susp = 1 →
    Completes (.oamFieldReceive p o) s fun t =>
      (t.port p).line.oamGap = (if (s.port p).line.susp = 1 then 1 else (s.port p).line.oamGap + 1) ∧
      (t.port p).line.oamValid = false ∧ (t.port p).line.oam = (s.port p).line.oam ∧
      (t.port p).cnt = (s.port p).cnt.add s.now 0x20 1 ∧ (t.port p).link = (s.port p).link ∧
      s.portsKept t [p] ∧ t = { s with ports := t.ports }) ∧
  (∀ (s : State) (p : PortId) (o : BitVec 198), s.live = true → (s.port p).takesData = true →
    s.pst p = .up → oamOk o = false → 31 ≤ (s.port p).line.oamGap → (s.port p).line.susp = 0 →
    (s.port p).link.after = .none → (s.port p).dorm.noticeWait = false → s.noCrit p = true →
    Completes (.oamFieldReceive p o) s fun t =>
      t.hasDown p .oamLost 0 = true ∧ t.pst p ≠ .up ∧ s.portsKept t [p] ∧
      s.hubKept t) ∧
  (∀ (s : State) (p : PortId), s.live = true → (s.port p).line.msg.isSome = true →
    Completes (.msgTimeout p) s fun t =>
      t.port p = { s.port p with
        line := { (s.port p).line with msg := none }, cnt := (s.port p).cnt.add s.now 0x23 1 } ∧
      s.portsKept t [p] ∧ t = { s with ports := t.ports }) ∧
  (∀ (s : State) (p : PortId), s.live = true → s.pst p = .up → isCh (s.port p).link.rung = true →
    Completes (.healthExtTimer p) s fun t =>
      t.port p = { s.port p with line := { (s.port p).line with
        msgs := (s.port p).line.msgs ++ [(2, BitVec.ofNat 128 (min (s.port p).line.hxUnc 0xFFFF +
          2 ^ 16 * min (s.port p).line.hxCorr 0xFFFFFFFF))],
        hxUnc := 0, hxCorr := 0 } } ∧
      s.portsKept t [p] ∧ t = { s with ports := t.ports }) ∧
  (∀ (s : State) (p : PortId) (bs : List HostBlk) (i : Pair), s.live = true →
    s.pst p = .training → (s.port p).line.spareReq = some i →
    Completes (.oamFieldForm p bs) s fun t =>
      fld { s.port p with line := (s.port p).line.nextMsg }.oamField 20 3 = 1 + 2 * i.val ∧
      (t.port p).line.txScr = (scramble ((s.port p).link.role != .tail) (s.port p).line.txScr
        (groupStream { s.port p with
          line := (s.port p).line.nextMsg,
          still := (s.port p).still.hostSees (stripMarkers bs) }.oamField
          ((fours 66 (List.replicate groupBlks localFaultBlk)).map transcode))).2 ∧
      (t.port p).line.seq = (s.port p).line.seq + 1 ∧ (t.port p).line.spareReq = some i ∧
      (t.port p).train = (s.port p).train ∧ (t.port p).link = (s.port p).link ∧
      s.portsKept t [p] ∧ s.lanesCounted t ∧ t = { s with ports := t.ports, lanes := t.lanes })

/-- R1, R70, R77, R120, R127, R128, R135–R143, R149, R150, R152–R154, R166, R171, R318. Sections, SNR and health: a
section of data mode that the window releases is counted, joins the last 128 and brings its blocks to the host
side, a burst of uncorrectable ones takes the link down, and after data mode the window is flushed; an SNR update
gives the margins, the receiver adapting unless it is frozen; an epoch moves HEALTH; and the end of termination is
what the closing code stands for. -/
def Obligations.SectionsAndHealth : Prop :=
  (∀ (s : State) (p : PortId) (o : SecObs) (unc : Bool), s.live = true → s.pst p = .up →
    s.bedOn (bedOf p) = true → (s.port p).rx.run = .on → (s.port p).rx.left = none →
    o.ahead + 1 = decWindow (s.port p).line.deep → dcDownUnc (s.port p).cfg.decctl = 0 →
    unc = sectionUnc (s.port p).rx o →
    Completes (.sectionRelease p o) s fun t =>
      (t.port p).rx = (s.port p).rx.release o unc (rowStream (s.port p) o).2
        ((s.port p).rx.blocks (rowStream (s.port p) o).1 unc).2 (iterCount (s.port p).line.deep o.pass) ∧
      (t.port p).line.uncWin = (unc :: (s.port p).line.uncWin).take 128 ∧
      (t.port p).line.epUnc = (s.port p).line.epUnc + b2n unc ∧
      (t.port p).line.uncSeen = ((s.port p).line.uncSeen || unc) ∧
      ((s.port p).host.egress = .lpi ∨ (s.port p).host.egress = .stream →
        (t.port p).host.egress = .stream ∧
        (t.port p).host.out = (addMarkers (s.port p).host.mode (s.port p).host.amCount
          (s.port p).host.amDebt (((s.port p).rx.blocks (rowStream (s.port p) o).1 unc).1.flatMap
            (hostBlks (dcErrMark (s.port p).cfg.decctl)))).1) ∧
      (o.decided = o.hard → dcErrMark (s.port p).cfg.decctl = false → (t.port p).cnt =
        (if unc then ((((s.port p).cnt.add s.now 0x10 1).add s.now 0x11 0).add s.now
            (0x16 + iterBin (iterCount (s.port p).line.deep o.pass)) 1).add s.now 0x13 1
          else (((s.port p).cnt.add s.now 0x10 1).add s.now 0x11 0).add s.now
            (0x16 + iterBin (iterCount (s.port p).line.deep o.pass)) 1)) ∧
      (t.port p).link = (s.port p).link ∧ s.portsKept t [p] ∧ t = { s with ports := t.ports }) ∧
  (∀ (s : State) (p : PortId) (o : SecObs), s.live = true → s.pst p = .up →
    isCh (s.port p).link.rung = true → s.bedOn (bedOf p) = true → (s.port p).rx.run = .on →
    (s.port p).rx.left = none → o.ahead + 1 = decWindow (s.port p).line.deep → (s.port p).line.susp = 0 →
    (s.port p).line.done = false →
    dcDownUnc (s.port p).cfg.decctl ≠ 0 →
    dcDownUnc (s.port p).cfg.decctl ≤
      (((sectionUnc (s.port p).rx o :: (s.port p).line.uncWin).take 128).filter id).length →
    (s.port p).link.after = .none → (s.port p).dorm.noticeWait = false → s.noCrit p = true →
    Completes (.sectionRelease p o) s fun t =>
      t.hasDown p .uncBurst 0 = true ∧ t.pst p ≠ .up ∧ (t.port p).rx.run = .flush ∧
      (t.port p).cfg.linkctl = (s.port p).cfg.linkctl ∧ s.portsKept t [p] ∧ s.hubKept t) ∧
  (∀ (s : State) (p : PortId) (o : SecObs), s.live = true → s.bedOn (bedOf p) = true →
    (s.port p).rx.run = .flush → o.ahead < decWindow (s.port p).line.deep →
    Completes (.sectionRelease p o) s fun t =>
      (t.port p).rx.run = (if o.ahead = 0 then .off else .flush) ∧ (t.port p).rx.left = some o.ahead ∧
      (t.port p).rx.dec1 = o.decided ∧ (t.port p).rx.dec2 = (s.port p).rx.dec1 ∧
      (t.port p).line = (s.port p).line ∧ (t.port p).link = (s.port p).link ∧ t.due = s.due ∧
      s.portsKept t [p] ∧ t = { s with ports := t.ports }) ∧
  (∀ (s : State) (p : PortId) (es : List ErrSum), s.live = true → s.pst p = .up →
    isCh (s.port p).link.rung = true → (s.port p).still.quiet = false →
    (s.port p).link.spared = false → tcDrop (s.port p).cfg.trainctl = 0 →
    Completes (.snrUpdate p es) s fun t =>
      (t.port p).line.snr = allPairs.map (fun i => snrOf true (es.getD i.val ⟨1, 0⟩)) ∧
      (t.port p).line.snrHist = (t.port p).line.snr :: (s.port p).line.snrHist.take 3 ∧
      (t.port p).line.epSnrs = (t.port p).line.snr :: (s.port p).line.epSnrs ∧
      (t.port p).line.minNow = minMargin ((t.port p).line.snr.map fun v => marginOf v
        (if (s.port p).line.deep then 104 else 110)) ∧
      (tcFreeze (s.port p).cfg.trainctl = true →
        (t.port p).adapt = (s.port p).adapt ∧ t.free = s.free) ∧
      (t.port p).link = (s.port p).link ∧ (t.port p).train = (s.port p).train ∧ s.portsKept t [p] ∧
      t = { s with ports := t.ports, free := t.free }) ∧
  (∀ (s : State) (p : PortId) (n e : Nat) (unc mar bad : Bool), s.live = true →
    (s.port p).linked = true →
    unc = (decide (1 ≤ dcDegUnc (s.port p).cfg.decctl) &&
      decide (dcDegUnc (s.port p).cfg.decctl ≤
        if isCh (s.port p).link.rung then (s.port p).line.epUnc else e)) →
    mar = ((s.port p).epochSnr.2 != 0 &&
      (!isCh (s.port p).link.rung || decide (1024 ≤ (s.port p).line.epGroups)) &&
      decide ((s.port p).epochSnr.1 <
        (snrThreshold (s.port p).link.rung (s.port p).line.deep +
          2 * dcDegMargin (s.port p).cfg.decctl) * (s.port p).epochSnr.2)) →
    bad = (unc || mar) → (s.port p).line.health ≠ .notUp →
    Completes (.degradeEpochEnd ⟨p, n, e⟩) s fun t =>
      (t.port p).line.health =
        (if bad = true then .degraded
         else if (s.port p).line.health = .degraded ∧
           (s.port p).line.clean + 1 < dcClear (s.port p).cfg.decctl then .degraded
         else .good) ∧
      (t.port p).line.clean = (if bad then 0 else (s.port p).line.clean + 1) ∧
      (t.port p).line.remoteDeg = (s.port p).line.epRemote ∧ (t.port p).line.epUnc = 0 ∧
      (t.port p).line.epSnrs = [] ∧ (t.port p).line.epGroups = 0 ∧
      (t.port p).cnt = (if isCh (s.port p).link.rung then (s.port p).cnt
        else ((s.port p).cnt.add s.now 0x10 n).add s.now 0x13 e) ∧
      ((t.port p).line.health ≠ (s.port p).line.health →
        t.hasDue .linkDegraded (.port p) (b2n bad) = true) ∧
      ((t.port p).line.health = (s.port p).line.health → t.due = s.due) ∧
      (t.port p).link = (s.port p).link ∧ s.portsKept t [p] ∧
      ((s.port p).epochSnr.2 ≠ 0 → t.free = s.free) ∧
      t = { s with ports := t.ports, due := t.due, free := t.free }) ∧
  (∀ (s : State) (p : PortId), s.live = true → (s.port p).line.term = true →
    (s.port p).line.closing = .closeStill → s.pst p = .up → (s.port p).line.pClosed = true →
    (s.port p).line.waitEnd = none →
    Completes (.terminationEnd p) s fun t =>
      t.pst p = .still ∧ (t.port p).still.quiet = true ∧ (t.port p).line.term = false ∧
      (t.port p).still.wake = (if (s.port p).still.wakeDue then some 18 else none) ∧
      (t.port p).host.egress = .lpi ∧ t.hasDue .still (.port p) 1 = true ∧
      (t.port p).rx = (s.port p).rx ∧
      (t.port p).link.rung = (s.port p).link.rung ∧ s.portsKept t [p] ∧ s.sidesKept t ∧
      t.lanes = s.lanes) ∧
  (∀ (s : State) (p : PortId), s.live = true → (s.port p).line.term = true →
    (s.port p).line.closing = .closeRetrain ∨ (s.port p).line.closing = .closeRung → s.pst p = .up →
    (s.port p).link.role = .tail → (s.port p).line.waitEnd = none →
    Completes (.terminationEnd p) s fun t =>
      t.pst p = .training ∧ (t.port p).train.kind = .none ∧ (t.port p).train.await = true ∧
      (t.port p).train.rung = (if (s.port p).line.closing = .closeRung then (s.port p).line.rungReq
        else (s.port p).link.rung) ∧
      ((s.port p).rx.run = .on → (t.port p).rx = { (s.port p).rx with run := .drain }) ∧
      (t.port p).train.fromData = true ∧ (t.port p).fp = (s.port p).fp ∧ s.portsKept t [p] ∧
      s.sidesKept t) ∧
  (∀ (s : State) (p : PortId), s.live = true → (s.port p).line.term = true →
    (s.port p).line.closing = .closeDown → s.pst p = .up → (s.port p).link.after = .disabled →
    Completes (.terminationEnd p) s fun t =>
      t.pst p = .disabled ∧ t.awaited .portDisable (.port p) = false ∧
      (t.port p).link.removed = 0 ∧ (t.port p).cfg = (s.port p).cfg ∧ (t.port p).fp = (s.port p).fp ∧
      s.portsKept t [p] ∧ s.sidesKept t)

/-- R25, R27, R175, R333, R434, R445, R448. CMD_POWER_STATE: HOLD of a bed that is on; DORMANT for a port
that is DISABLED; QUIET and ACTIVE for the device; and device DORMANT, refused while a port is neither
DISABLED nor DORMANT, which otherwise begins the entry and asks every block. -/
def Obligations.PowerStateCommand : Prop :=
  (∀ (s : State) (h : CmdHdr) (b : BedId) (x : Byte), s.runsOn h .powerState false true (.bed b) = true →
    x.toNat ≤ 1 → s.bedOn b = true → s.bedLeaving b = false → (s.bed b).pow.falling = false →
    (s.bed b).pow.wanted = false →
    Completes (.cmdPowerState h x) s fun t =>
      t.bed b = { s.bed b with pow := { (s.bed b).pow with hold := x == 1 } } ∧ s.bedsKept t [b] ∧
      t.ended h .powerState (.bed b) .ok = true ∧
      t = { s with beds := t.beds, cmds := t.cmds, acts := t.acts }) ∧
  (∀ (s : State) (h : CmdHdr) (p : PortId), s.runsOn h .powerState false true (.port p) = true →
    s.pst p = .disabled → (s.port p).inReset = false → (s.port p).dorm.afterEntry = false →
    Completes (.cmdPowerState h 1) s fun t =>
      t.pst p = .dormant ∧ (t.port p).cfg = (s.port p).cfg ∧ (t.port p).fp = (s.port p).fp ∧
      t.hasDue .dormant (.port p) 1 = true ∧ t.ended h .powerState (.port p) .ok = true ∧
      s.hubKept t) ∧
  (∀ (s : State) (h : CmdHdr) (x : Byte), s.runsOn h .powerState false true .device = true →
    s.hub.mode = .active ∨ s.hub.mode = .quiet → s.hub.changing = false →
    x = 5 ∨ (x = 4 ∧ s.sluice.reqs = [] ∧
      ∀ b, s.bedOn b = true ∧ (s.bed b).pow.falling = false) →
    Completes (.cmdPowerState h x) s fun t =>
      t.hub.mode = (if x = 5 then .quiet else .active) ∧ t.hub.changing = false ∧
      t.ended h .powerState .device .ok = true ∧
      t = { s with hub := t.hub, cmds := t.cmds, acts := t.acts }) ∧
  (∀ (s : State) (h : CmdHdr), s.runsOn h .powerState false true .device = true →
    (∃ p, (s.port p).atRest = false) →
    Completes (.cmdPowerState h 6) s fun t =>
      t.ended h .powerState .device .refused = true ∧ t = { s with cmds := t.cmds, acts := t.acts }) ∧
  (∀ (s : State) (h : CmdHdr), s.runsOn h .powerState false true .device = true →
    (∀ p, (s.port p).atRest = true) → (∀ p, s.waking p = false) →
    s.sluice.entry = false → s.hub.mode ≠ .test →
    Completes (.cmdPowerState h 6) s fun t =>
      t.sluice.entry = true ∧ t.hub.target = .dormant ∧ t.hub.mode = s.hub.mode ∧
      t.inProgress h .powerState .device = true ∧
      t.sluice.reqs.dropLast = s.sluice.reqs ∧
      (t.sluice.reqs.getLast?.map fun q =>
        (q.doms.getLast?, decide (q.asked = q.doms.flatMap domBlocks), q.delayed, q.elem)) =
        some (some .hub, true, [], .device) ∧
      t = { s with sluice := t.sluice, hub := t.hub, cmds := t.cmds, acts := t.acts })

/-- R51, R334, R436–R440, R446. The handshake for one bed: an ACK or a DELAY is noted, a delayed block is asked
again, and a refusal, a silence, or a delay or busy bus beyond its limit abandons the request with its
event, its block and its reason. With the bus idle the bed's gate closes, and what its ports' status registers
held is lost, but not their state, configuration, fingerprints and DSHIFT.REMOVED; the request is done, and the
bed is off when the domain reports so, as is the hub. A bed whose supplies come up is on with its Tender running;
one whose supplies do not stays off, with the event that names them. -/
def Obligations.SluiceHandshake : Prop :=
  (∀ (s : State) (q : SReq) (blk : Byte), s.live = true → s.sluice.reqs = [q] →
    q.asked.contains blk = true → q.elem ≠ .device → s.blkAnswer q blk ≠ .refuse →
    Completes (.sluiceBlockAnswer blk) s fun t =>
      t.sluice.reqs = [{ q with
        asked := q.asked.erase blk,
        delayed := if s.blkAnswer q blk = .delay then q.delayed ++ [blk] else q.delayed }] ∧
      t = { s with sluice := { s.sluice with reqs := t.sluice.reqs } }) ∧
  (∀ (s : State) (q : SReq) (blk : Byte) (i : Instr) (r : BitVec 2) (b : BedId), s.live = true →
    s.sluice.reqs = [q] → q.elem = .bed b → q.key = none → (∀ p, s.pst p ≠ .dormant) →
    s.sluice.heldAcc = [] →
    (i = .sluiceBlockAnswer blk ∧ q.asked.contains blk = true ∧ s.blkAnswer q blk = .refuse ∧ r = 1) ∨
      (i = .sluiceAnswerTimeout blk ∧ q.asked.contains blk = true ∧ r = 2) ∨
      (i = .sluiceDelayLimit blk ∧ q.delayed.contains blk = true ∧ r = 2) ∨
      (i = .sluiceBusIdleTimeout (.bed b) ∧ q.gating = true ∧ q.doms.contains (.bed b) = true ∧
        blk = busBlk (.bed b) ∧ r = 2) →
    Completes i s fun t =>
      t.sluice = { s.sluice with lastBlock := blk, lastReason := r, reqs := [] } ∧
      t.hasDue .powerRefused (.bed b) q.req.toNat = true ∧
      t = { s with sluice := t.sluice, due := t.due }) ∧
  (∀ (s : State) (q : SReq) (blk : Byte), s.live = true → s.sluice.reqs = [q] →
    q.delayed.contains blk = true →
    Completes (.sluiceReask blk) s fun t =>
      t = { s with sluice := { s.sluice with reqs :=
        [{ q with asked := q.asked ++ [blk], delayed := q.delayed.erase blk }] } }) ∧
  (∀ (s : State) (q : SReq) (b : BedId), s.live = true → s.sluice.reqs = [q] → q.gating = true →
    q.doms = [.bed b] →
    Completes (.sluiceBusIdle (.bed b)) s fun t =>
      (t.bed b).pow = { (s.bed b).pow with
        on := false, falling := true, tender := false,
        lineLock := false, laneLock := [false, false], steerNow := 0 } ∧
      t.sluice.reqs = [] ∧ s.bedsKept t [b] ∧ t.rings = s.rings ∧
      (∀ p, bedOf p = b → (t.port p).train = {} ∧ (t.port p).line = {} ∧ (t.port p).rx = {} ∧
        (t.port p).adapt = {} ∧ (t.port p).host = {} ∧ (t.port p).cfg = (s.port p).cfg ∧
        (t.port p).fp = (s.port p).fp ∧ t.pst p = s.pst p ∧
        (t.port p).link.removed = (s.port p).link.removed) ∧
      (∀ p, bedOf p ≠ b → t.port p = s.port p) ∧
      (∀ l, bedOfLane l = b → (t.lane l).locked = false)) ∧
  (∀ (s : State) (b : BedId), s.live = true → (s.bed b).pow.falling = true →
    (s.bed b).pow.wanted = false →
    Completes (.domainOffComplete (.bed b)) s fun t =>
      (t.bed b).pow = { (s.bed b).pow with falling := false } ∧ s.bedsKept t [b] ∧
      t = { s with beds := t.beds }) ∧
  (∀ (s : State), s.live = true → s.sluice.hubFalling = true →
    Completes (.domainOffComplete .hub) s fun t =>
      t = { s with
        sluice := { s.sluice with hubFalling := false, hubOn := false, entry := false },
        hub := { s.hub with changing := false } }) ∧
  (∀ (s : State) (b : BedId), s.live = true → (s.bed b).pow.rising = true → s.boot.stage ≠ 7 →
    s.hub.saved = [] → s.hub.changing = false → (∀ p, s.pst p ≠ .dormant) →
    Completes (.domainSupplyGood (.bed b)) s fun t =>
      (t.bed b).pow.on = true ∧ (t.bed b).pow.rising = false ∧ (t.bed b).pow.tender = true ∧
      (t.bed b).pow.lineLock = !s.clk.reflost ∧ s.hubKept t ∧ t.rings = s.rings ∧
      s.bedsKept t [b]) ∧
  (∀ (s : State) (b : BedId), s.live = true → (s.bed b).pow.rising = true → s.hub.changing = false →
    s.cmds = [] → (∀ p, s.pst p ≠ .dormant) →
    Completes (.domainSupplyTimeout (.bed b)) s fun t =>
      (t.bed b).pow = { (s.bed b).pow with rising := false, wanted := false } ∧ s.bedsKept t [b] ∧
      t.sluice = { s.sluice with lastBlock := supplyBlk (.bed b), lastReason := 2 } ∧
      t.hasDue .powerRefused (.bed b) 0 = true ∧
      t = { s with beds := t.beds, sluice := t.sluice, due := t.due })

/-- R25, R442, R444–R446, R450, R536. The ways into and out of sleep: an idle bed in QUIET is asked to
switch off unless it is held; a wake time reached or a rising input is latched in a sleeping device; the
first enabled source switches the hub on; and with its rings restored the device is awake in QUIET. -/
def Obligations.SleepAndWake : Prop :=
  (∀ (s : State) (b : BedId), s.live = true → s.hub.mode = .quiet → s.bedOn b = true →
    (s.bed b).pow.hold = false → (s.bed b).pow.inReset = false → (s.bed b).pow.wanted = false →
    s.bedIdle b = true → s.bedTest b = false → s.sluice.reqs = [] → s.sluice.entry = false →
    s.hub.changing = false →
    Completes (.bedIdleHoldoffExpiry b) s fun t =>
      t = { s with sluice := { s.sluice with reqs := [bedReq b] } }) ∧
  (∀ (s : State) (b : BedId), s.live = true → (s.bed b).pow.hold = true ∨ s.bedIdle b = false →
    Completes (.bedIdleHoldoffExpiry b) s fun t => t = s) ∧
  (∀ (s : State), s.live = true → s.hub.mode = .dormant → s.sluice.waketime.toNat ≤ s.clk.tick.toNat →
    s.sluice.latched = [] →
    Completes .waketimeReached s fun t =>
      t = { s with sluice := { s.sluice with latched := [.timer] } }) ∧
  (∀ (s : State) (g : Fin 8), s.live = true → s.hub.mode ≠ .dormant → s.sluice.entry = false →
    Completes (.gpioRisingEdge g) s fun t =>
      bit t.pins.gpioIn g.val = true ∧ (∀ j : Fin 8, j ≠ g → bit t.pins.gpioIn j.val = bit s.pins.gpioIn j.val) ∧
      t = { s with pins := { s.pins with gpioIn := t.pins.gpioIn } }) ∧
  (∀ (s : State) (g : Fin 8), s.live = true → s.hub.mode = .dormant → bit s.pins.gpioDir g.val = false →
    Completes (.gpioRisingEdge g) s fun t =>
      bit t.sluice.gpioEdges g.val = true ∧ t.sluice.latched = s.sluice.latched ++ [.gpio] ∧
      bit t.pins.gpioIn g.val = true ∧ t.hub = s.hub ∧
      t = { s with pins := { s.pins with gpioIn := t.pins.gpioIn },
                   sluice := { s.sluice with
                     gpioEdges := t.sluice.gpioEdges, latched := t.sluice.latched } }) ∧
  (∀ (s : State) (w : WakeSrc), s.live = true → s.hub.mode = .dormant → s.sluice.entry = false →
    s.sluice.hubOn = false → s.sluice.hubRising = false → s.sluice.enabled = some w →
    (∀ p, s.pst p ≠ .dormant) →
    Completes .wakeActedOn s fun t =>
      t = { s with
        sluice := { s.sluice with lastWake := w, latched := [], gpioEdges := 0, hubRising := true },
        hub := { s.hub with changing := true } }) ∧
  (∀ (s : State), s.live = true → s.hub.mode = .dormant → s.sluice.enabled = none →
    Completes .wakeActedOn s fun t => t = s) ∧
  (∀ (s : State), s.live = true → s.sluice.hubRising = true → s.sluice.hubOn = false → s.hub.saved = [] →
    Completes (.domainSupplyGood .hub) s fun t =>
      t = { s with sluice := { s.sluice with hubOn := true } }) ∧
  (∀ (s : State), s.live = true → s.sluice.hubRising = true → s.sluice.hubOn = false →
    Completes (.domainSupplyTimeout .hub) s fun t =>
      t.sluice = { s.sluice with hubRising := false, lastBlock := 0x28, lastReason := 2 } ∧
      t.hub = { s.hub with changing := false } ∧
      t = { s with sluice := t.sluice, hub := t.hub, due := t.due }) ∧
  (∀ (s : State), s.live = true → s.sluice.hubRising = true → s.sluice.hubOn = true →
    bit s.sluice.ctl 0 = false →
    Completes .hubRingsRestored s fun t =>
      t.hub.mode = .quiet ∧ t.hub.base = .quiet ∧ t.hub.changing = false ∧
      t.sluice.hubRising = false ∧ t.flash = s.flash ∧ t.sec = s.sec ∧ t.boot = s.boot)

/-- R199, R201, R204, R205, R214. A sync word that at least 28 of 32 decisions agree with begins a
reception; a header whose CRC passes is kept as the partner's last; a header that fails, a payload that
fails and an aborted frame end the reception, each under its own counter, and the run of good frames. -/
def Obligations.SpringReception : Prop :=
  (∀ (s : State) (p : PortId) (bits : Word) (rssi foff : Byte), s.live = true → s.springRuns p = true →
    (s.port p).spring.sstate ≠ .off → (s.port p).spring.rxBusy = false →
    spThresh (s.port p).cfg.islandCtl ≤ rssi.toNat →
    syncDetects (syncWord ((s.port p).spring.srole != .head)) bits = true →
    Completes (.syncWordDetect p bits rssi foff) s fun t =>
      (t.port p).spring.rxBusy = true ∧ (t.port p).spring.rxHdr = none ∧
      (t.port p).spring.rxRssi = rssi ∧ (t.port p).spring.rxFoff = foff ∧
      (t.port p).spring.rxTick = s.clk.tick ∧ (t.port p).cnt = (s.port p).cnt.add s.now 0x32 1 ∧
      (t.port p).spring.srole = (if (s.port p).spring.interval.isSome = true ∧
        (s.port p).spring.srole = .none then .tail else (s.port p).spring.srole) ∧
      (t.port p).link = (s.port p).link ∧ s.portsKept t [p] ∧ t = { s with ports := t.ports }) ∧
  (∀ (s : State) (p : PortId) (hdr : BitVec 72), s.live = true → s.springRuns p = true →
    (s.port p).spring.rxBusy = true → (s.port p).spring.rxHdr = none → headerOk hdr = true →
    (s.port p).spring.sstate ≠ .partnered → 1 ≤ fld hdr 0 4 → fld hdr 0 4 < 12 → fld hdr 5 9 ≠ 0 →
    hdr.getLsbD 26 = false →
    Completes (.springHeader p hdr) s fun t =>
      (t.port p).spring.rxHdr = some hdr ∧ (t.port p).spring.lastHdr = some hdr ∧
      (t.port p).spring.rxBusy = true ∧ (t.port p).spring.sstate = (s.port p).spring.sstate ∧
      (t.port p).link = { (s.port p).link with hdrSeen := (s.port p).link.hdrSeen ||
        ((s.port p).link.state == .listening && (s.port p).link.window) } ∧
      s.portsKept t [p] ∧ s.sidesKept t ∧ t.lanes = s.lanes) ∧
  (∀ (s : State) (p : PortId) (hdr : BitVec 72) (i : Instr) (n : Nat), s.live = true →
    (i = .springHeader p hdr ∧ s.springRuns p = true ∧ (s.port p).spring.rxBusy = true ∧
        (s.port p).spring.rxHdr = none ∧ headerOk hdr = false ∧ n = 0x33) ∨
      (i = .springPayloadFailure p ∧ (s.port p).spring.rxHdr.isSome = true ∧ n = 0x34) ∨
      (i = .springFrameAbort p ∧ (s.port p).spring.rxBusy = true ∧
        n = if (s.port p).spring.rxHdr.isSome then 0x34 else 0x33) →
    Completes i s fun t =>
      t.port p = { s.port p with
        spring := { (s.port p).spring with rxBusy := false, rxHdr := none, good := 0 },
        cnt := (s.port p).cnt.add s.now n 1 } ∧
      s.portsKept t [p] ∧ t = { s with ports := t.ports })

/-- R40–R44, R206, R207, R216–R218. The roles and the handshake: a listen interval that hears nothing
makes a head, whose wait that hears nothing gives the role back with a new draw of 1 to 15; an accepted
capability frame leads a head to PARTNERED and to its SELECT, and a listener to JOINING as tail; a tail that
no SELECT reaches listens again, and a SELECT of a CH rung starts its training; capability frames and SELECT are
repeated, outside LISTENING as KEEP, and a frame's end leaves the transmitter free; the Spring wait window is
extended where a header was heard, and ends in Clause 28. -/
def Obligations.SpringHandshake : Prop :=
  (∀ (s : State) (p : PortId), s.live = true → s.springRuns p = true →
    (s.port p).spring.interval.isSome = true → (s.port p).spring.sstate = .listen →
    (s.port p).spring.srole = .none →
    Completes (.roleIntervalExpiry p) s fun t =>
      (t.port p).spring.srole = .head ∧ (t.port p).spring.sstate = .joining ∧
      (t.port p).spring.interval = none ∧ t.sendsType p .cap = true ∧
      (t.port p).link = (s.port p).link ∧ s.portsKept t [p] ∧ s.sidesKept t) ∧
  (∀ (s : State) (p : PortId), s.live = true → s.springRuns p = true →
    (s.port p).spring.waitTail = true → (s.port p).spring.srole = .head →
    (s.port p).spring.sstate = .joining →
    Completes (.tailSyncWaitExpiry p) s fun t =>
      (t.port p).spring.srole = .none ∧ (t.port p).spring.sstate = .listen ∧
      (t.port p).spring.interval.isSome = true ∧
      (∀ v ∈ (t.port p).spring.interval, 1 ≤ v ∧ v ≤ 15) ∧ (t.port p).link = (s.port p).link ∧
      s.portsKept t [p] ∧ s.bedsKept t [bedOf p] ∧ s.mostKept t) ∧
  (∀ (s : State) (p : PortId), s.live = true → s.springRuns p = true →
    (s.port p).spring.capRep = true →
    Completes (.capRepeatTimer p) s fun t =>
      t.sendsType p .cap = true ∧ (t.port p).link = (s.port p).link ∧ s.portsKept t [p] ∧
      s.sidesKept t) ∧
  (∀ (s : State) (p : PortId), s.live = true → (s.port p).spring.sstate = .joining →
    (s.port p).spring.srole = .tail → s.pst p = .listening → (s.port p).link.c28Held = false →
    Completes (.joiningTimeout p) s fun t =>
      t.port p = { s.port p with spring := { (s.port p).spring with
        sstate := .listen, due := [], cur := none, body := [] } } ∧
      s.portsKept t [p] ∧ t = { s with ports := t.ports }) ∧
  (∀ (s : State) (p : PortId) (pay : Bytes), s.receives p .cap pay = true → byteAt pay 0 ≠ 0 →
    (s.port p).spring.sstate = .joining → (s.port p).spring.srole = .head → s.pst p = .listening →
    (s.port p).link.held = true →
    Completes (.cap p pay) s fun t =>
      (t.port p).spring.sstate = .partnered ∧ (t.port p).spring.pcap = some (pay.take 24) ∧
      (t.port p).spring.sel = some ([15, 0] ++ slice (pay.take 24) 8 8) ∧
      t.sendsType p .select = true ∧ t.hasDue .springRx (.port p) 1 = true ∧ t.pst p = .listening ∧
      s.portsKept t [p] ∧ s.bedsKept t [bedOf p] ∧ s.mostKept t) ∧
  (∀ (s : State) (p : PortId) (pay : Bytes), s.receives p .cap pay = true → byteAt pay 0 ≠ 0 →
    (s.port p).spring.sstate = .listen → (s.port p).spring.srole = .none → s.pst p = .listening →
    Completes (.cap p pay) s fun t =>
      (t.port p).spring.sstate = .joining ∧ (t.port p).spring.srole = .tail ∧
      (t.port p).spring.pcap = some (pay.take 24) ∧ t.sendsType p .cap = true ∧
      s.portsKept t [p] ∧ s.bedsKept t [bedOf p] ∧ s.mostKept t) ∧
  (∀ (s : State) (p : PortId) (pay : Bytes), s.receives p .select pay = true → pay.length = 10 →
    (s.port p).spring.sstate = .joining → (s.port p).spring.srole = .tail → s.pst p = .listening →
    (s.port p).link.held = false → leAt pay 2 8 = (phyId p).toNat →
    byteAt pay 0 = 8 ∨ byteAt pay 0 = 9 → byteAt pay 1 = 1 →
    Completes (.select p pay) s fun t =>
      t.pst p = .training ∧ (t.port p).train.kind = .cold ∧ (t.port p).train.phase = .echoHead ∧
      (t.port p).train.rung = BitVec.ofNat 4 (byteAt pay 0).toNat ∧ (t.port p).train.silent = true ∧
      (t.port p).link.role = .tail ∧ (t.port p).spring.sstate = .partnered ∧
      (t.port p).spring.hsDone = true ∧ s.portsKept t [p] ∧ s.bedsKept t [bedOf p] ∧ s.mostKept t) ∧
  (∀ (s : State) (p : PortId) (pay : Bytes), s.live = true → s.springRuns p = true →
    (s.port p).spring.sstate = .partnered → (s.port p).spring.srole = .head →
    (s.port p).spring.hsDone = false → (s.port p).spring.sel = some pay →
    (s.port p).spring.selCount < 10 →
    s.pst p = .listening ∨ ((s.port p).spring.cur = none ∧ (s.port p).spring.due = []) →
    Completes (.selectRepeatTimer p) s fun t =>
      t.sends p .select (if s.pst p = .listening then pay else [15, 0] ++ slice pay 2 8) = true ∧ (t.port p).spring.sstate = .partnered ∧
      (t.port p).link = (s.port p).link ∧ s.portsKept t [p] ∧ s.sidesKept t) ∧
  (∀ (s : State) (p : PortId) (c : TxFrame), s.live = true → (s.port p).spring.cur = some c →
    (s.port p).spring.due = [] → (s.port p).spring.ackDue = false →
    Completes (.springTxFrameEnd p) s fun t =>
      t.port p = { s.port p with spring := { (s.port p).spring with
        cur := none, body := [], cut := false, waitTail := (s.port p).spring.waitTail || (c.typ == .cap &&
          (s.port p).spring.srole == .head && (s.port p).spring.sstate == .joining &&
          !(s.port p).spring.capRep) } } ∧
      s.portsKept t [p] ∧ t = { s with ports := t.ports }) ∧
  (∀ (s : State) (p : PortId), s.live = true → s.pst p = .listening →
    (s.port p).link.window = true → (s.port p).link.hdrSeen = true → (s.port p).link.extended = false →
    Completes (.springWaitExpiry p) s fun t =>
      t.port p = { s.port p with link := { (s.port p).link with extended := true } } ∧
      s.portsKept t [p] ∧ t = { s with ports := t.ports }) ∧
  (∀ (s : State) (p : PortId), s.live = true → s.pst p = .listening →
    (s.port p).link.window = true → (s.port p).link.hdrSeen = false → (s.port p).link.c28 = false →
    (s.port p).link.c28Held = false → candidates (s.port p) ≠ 0 → (s.port p).link.held = false →
    Completes (.springWaitExpiry p) s fun t =>
      (t.port p).link = { (s.port p).link with
        window := false, c28 := true, c28Adv := some (s.port p).c28Form } ∧
      s.portsKept t [p] ∧ t = { s with ports := t.ports })

/-- R208, R209, R212, R220–R222. The upkeep of a session: a retry resends everything outstanding, the
eighth in a row and the losses end the session with their cause, and the repeating messages fall due
again. -/
def Obligations.SpringUpkeep : Prop :=
  (∀ (s : State) (p : PortId) (f : TxFrame) (fs : List TxFrame), s.live = true → s.springRuns p = true →
    (s.port p).spring.sstate = .partnered → (s.port p).spring.out = f :: fs →
    (s.port p).spring.expiries < 7 → (s.port p).spring.cur = none → (s.port p).spring.due = [] →
    Completes (.springRetryExpiry p) s fun t =>
      (t.port p).spring.expiries = (s.port p).spring.expiries + 1 ∧
      (t.port p).spring.out = f :: fs ∧ (t.port p).spring.sstate = .partnered ∧
      (t.port p).link = (s.port p).link ∧ s.portsKept t [p] ∧ s.sidesKept t) ∧
  (∀ (s : State) (p : PortId) (i : Instr) (c : Loss), s.live = true →
    (s.port p).spring.sstate = .partnered → s.pst p = .up → (s.port p).diag = none →
    (i = .springCarrierLoss p ∧ c = .carrier) ∨ (i = .springSilence p ∧ c = .silence) ∨
      (i = .springRetryExpiry p ∧ c = .retry ∧ s.springRuns p = true ∧
        (s.port p).spring.out ≠ [] ∧ 7 ≤ (s.port p).spring.expiries ∧
        (s.port p).spring.cur = none ∧ (s.port p).spring.due = []) →
    (s.port p).spring.srole ≠ .none →
    Completes i s fun t =>
      (t.port p).spring.lastLoss = c ∧ (t.port p).spring.out = [] ∧ (t.port p).spring.users = [] ∧
      (t.port p).spring.sstate = (if (s.port p).spring.srole = .head then .joining else .listen) ∧
      t.hasDue .springRx (.port p) 2 = true ∧ (t.port p).link = (s.port p).link ∧
      s.portsKept t [p] ∧ s.hubKept t ∧ t.beds = s.beds) ∧
  (∀ (s : State) (p : PortId), s.live = true → s.springRuns p = true →
    (s.port p).spring.sstate = .partnered → (s.port p).spring.cur = none →
    Completes (.keepaliveTimer p) s fun t =>
      t.sendsType p .keepalive = true ∧ (t.port p).link = (s.port p).link ∧ s.portsKept t [p] ∧
      s.sidesKept t) ∧
  (∀ (s : State) (p : PortId) (i : Instr) (ty : FType) (pay : Bytes), s.live = true →
    (s.port p).spring.sstate = .partnered →
    (i = .trainStepRepeat p ∧ ty = .trainStep ∧ (s.port p).spring.step = some (pay, none)) ∨
      (i = .spareRepeat p ∧ ty = .spare ∧ (s.port p).spring.spareRep.map (fun b => [b]) = some pay) ∨
      (i = .wakeReqRepeat p ∧ ty = .wakeReq ∧ (s.port p).spring.wakeReq = true ∧ pay = []) ∨
      (i = .wakeReadyRepeat p ∧ ty = .wakeReady ∧ (s.port p).spring.wakeReady = true ∧
        pay = readyPayload (s.port p)) →
    Completes i s fun t =>
      t.sends p ty pay = true ∧ (t.port p).link = (s.port p).link ∧
      (t.port p).spring.step = (s.port p).spring.step ∧ (t.port p).train = (s.port p).train ∧
      s.portsKept t [p] ∧ s.sidesKept t) ∧
  (∀ (s : State) (p : PortId) (pay : Bytes) (n : Nat), s.live = true →
    (s.port p).spring.sstate = .partnered → (s.port p).spring.step = some (pay, some (n + 2)) →
    Completes (.trainStepRepeat p) s fun t =>
      (t.port p).spring.step = some (pay, some (n + 1)) ∧ t.sends p .trainStep pay = true)

/-- R55, R118, R124, R175–R178, R220–R222. The link messages of an accepted frame: the tail follows the
head's step, SPARE moves a link to three pairs, a dormant notice is noted and the end of the wait for one's
acknowledgement begins the close; a wake request starts the wake of a DORMANT port, and its answers, or none in
time, lead the port out. -/
def Obligations.SpringMessages : Prop :=
  (∀ (s : State) (p : PortId) (pay : Bytes), s.accepts p .trainStep pay = true → byteAt pay 0 = 1 →
    bit (byteAt pay 2) 0 = false → s.pst p = .training → (s.port p).train.kind = .cold →
    (s.port p).train.abortLeft = 0 → (s.port p).link.role = .tail →
    (s.port p).train.phase = .echoHead →
    Completes (.trainStep p pay) s fun t =>
      (t.port p).train = { (s.port p).train with
        phase := .echoTail, silent := false, tifInPhase := false } ∧
      t.pst p = .training ∧ s.portsKept t [p] ∧ s.bedsKept t [bedOf p] ∧ s.mostKept t) ∧
  (∀ (s : State) (p : PortId) (pay : Bytes), s.accepts p .spare pay = true → s.pst p = .up →
    isCh (s.port p).link.rung = true → (s.port p).link.role = .head →
    sparePossible (s.port p) = true →
    Completes (.spare p pay) s fun t =>
      t.pst p = .training ∧ (t.port p).train.kind = .threePair ∧ (t.port p).train.rung = 8 ∧
      (t.port p).train.phase = .timing ∧ (t.port p).link.spared = true ∧
      (t.port p).link.sparedPair = Fin.ofNat 4 (fld (byteAt pay 0) 0 2) ∧
      t.hasDue .pairSpared (.port p) (fld (byteAt pay 0) 0 2) = true ∧
      s.portsKept t [p] ∧ s.bedsKept t [bedOf p] ∧ s.mostKept t) ∧
  (∀ (s : State) (p : PortId), s.accepts p .dormNotice [] = true → s.pst p = .up →
    Completes (.dormNotice p) s fun t =>
      (t.port p).dorm = { (s.port p).dorm with noticeRx := true } ∧ t.pst p = .up ∧
      s.portsKept t [p] ∧ s.bedsKept t [bedOf p] ∧ s.mostKept t) ∧
  (∀ (s : State) (p : PortId), s.live = true → (s.port p).dorm.noticeWait = true → s.pst p = .up →
    (s.port p).line.closing = .data → (s.port p).line.term = false →
    Completes (.dormantNoticeAckTimeout p) s fun t =>
      (t.port p).dorm = { (s.port p).dorm with noticeWait := false } ∧
      (t.port p).line = { (s.port p).line with closing := .closeDown, closeCnt := some 3,
                                               closeAt := s.now, downDue := false } ∧
      (t.port p).link = { (s.port p).link with after := .dormant } ∧ s.portsKept t [p] ∧
      t = { s with ports := t.ports }) ∧
  (∀ (s : State) (p : PortId), s.accepts p .wakeReq [] = true → s.pst p = .dormant →
    (s.port p).spring.srole = .tail → (s.port p).dorm.waking = false → (s.port p).dorm.latched = false →
    scWakeSpring (s.port p).cfg.stillctl = true → s.canWake p = true →
    Completes (.wakeReq p) s fun t =>
      (t.port p).dorm.waking = true ∧ (t.port p).dorm.latched = false ∧
      (t.port p).spring.wakeReady = true ∧ t.pst p = .dormant ∧ s.portsKept t [p] ∧
      s.bedsKept t [bedOf p] ∧ s.mostKept t) ∧
  (∀ (s : State) (p : PortId) (pay : Bytes), s.accepts p .wakeReady pay = true → s.pst p = .dormant →
    (s.port p).spring.srole = .head → (s.port p).dorm.waking = true → (s.port p).fp = none →
    Completes (.wakeReady p pay) s fun t =>
      t.pst p = .listening ∧ (t.port p).lastReject = 1 ∧ t.hasDue .dormant (.port p) 0 = true ∧
      s.hubKept t) ∧
  (∀ (s : State) (p : PortId) (pay : Bytes), s.accepts p .wakeGo pay = true → s.pst p = .dormant →
    (s.port p).spring.srole = .tail → (s.port p).dorm.waking = true →
    isCh (BitVec.ofNat 4 (byteAt pay 0).toNat) = true →
    Completes (.wakeGo p pay) s fun t =>
      (t.pst p = .training ∨ t.pst p = .listening) ∧ (t.port p).dorm.waking = false ∧
      t.hasDue .dormant (.port p) 0 = true ∧ s.hubKept t) ∧
  (∀ (s : State) (p : PortId) (i : Instr), s.live = true → s.pst p = .dormant →
    (s.port p).dorm.waking = true →
    (i = .wakeCold p ∧ s.accepts p .wakeCold [] = true ∧ (s.port p).spring.srole = .tail) ∨
      i = .wakeAnswerTimeout p →
    Completes i s fun t =>
      t.pst p = .listening ∧ (t.port p).dorm.waking = false ∧ t.hasDue .dormant (.port p) 0 = true ∧
      s.hubKept t)

/-- R212, R224–R226, R303, R304. A USER frame in order takes its SEQ and waits for its bed's receive queue, and is
acknowledged once its entry is written there; a taken transmit entry joins its port's list and its frame falls
due, or it completes at once where its port is not in the bed. -/
def Obligations.UserFrames : Prop :=
  (∀ (s : State) (p : PortId) (pay : Bytes) (h : BitVec 72), s.accepts p .user pay = true →
    (s.port p).spring.rxHdr = some h → h.getLsbD 14 = true →
    spUser (s.port p).cfg.islandCtl = true → s.hub.mode ≠ .dormant →
    (s.ring (sprRxRing (bedOf p))).state = .run → (s.bed (bedOf p)).rxq = [] →
    (s.ring (sprRxRing (bedOf p))).free ≠ 0 →
    Completes (.user p pay) s fun t =>
      (t.bed (bedOf p)).rxq = [{
        port := p, payload := pay, mode4 := h.getLsbD 4,
        tick := (s.port p).spring.rxTick, rssi := (s.port p).spring.rxRssi,
        foff := s.foffNow p, acked := false, seq := (s.port p).spring.rxSeq,
        sess := (s.port p).spring.sess }] ∧
      (t.port p).spring.rxSeq = (s.port p).spring.rxSeq + 1 ∧
      (t.port p).spring.ackSeq = (s.port p).spring.ackSeq ∧ s.portsKept t [p] ∧
      s.bedsKept t [bedOf p] ∧ s.mostKept t) ∧
  (∀ (s : State) (b : BedId) (u : UserRx), s.live = true → (s.bed b).rxq = [u] → s.ringsServed = true →
    s.dmaOk false = true → (s.ring (sprRxRing b)).state = .run → (s.ring (sprRxRing b)).free ≠ 0 →
    u.acked = false → bedOf u.port = b → (s.port u.port).spring.sstate = .partnered →
    (s.port u.port).spring.sess = u.sess →
    Completes (.springRxEntryWrite b) s fun t =>
      (t.bed b).rxq = [] ∧
      t.hostMem = memWriteBytes 0 s.hostMem
        ((s.ring (sprRxRing b)).base.toNat + 288 * (s.ring (sprRxRing b)).tail)
        (rxEntry u (s.ring (sprRxRing b)).phase) ∧
      (t.ring (sprRxRing b)).tail = (s.ring (sprRxRing b)).succ (s.ring (sprRxRing b)).tail ∧
      (t.port u.port).spring.ackSeq = (s.port u.port).spring.rxSeq - 1 ∧
      (t.port u.port).spring.rxSeq = (s.port u.port).spring.rxSeq ∧
      (t.port u.port).spring.ackValid = true ∧ s.portsKept t [u.port] ∧ s.bedsKept t [b] ∧
      s.ringsKept t [sprRxRing b] ∧ s.hubKept t) ∧
  (∀ (s : State) (b : BedId) (e pay : Bytes) (p : PortId), s.live = true → s.ringsServed = true →
    s.dmaOk false = true → (s.ring (sprTxRing b)).state = .run → (s.ring (sprTxRing b)).used ≠ 0 →
    leAt e 0 2 = p.val → bedOf p = b → 1 ≤ leAt e 2 2 → leAt e 2 2 ≤ 256 →
    leAt e 2 2 ≤ maxUser (s.port p) → (s.port p).spring.users.length < 16 →
    (s.port p).spring.sstate = .partnered →
    Completes (.springTxEntryTake b e pay) s fun t =>
      (t.port p).spring.users = (s.port p).spring.users ++ [{
        idx := (s.ring (sprTxRing b)).head, phase := (s.ring (sprTxRing b)).phase,
        payload := slice pay 0 (leAt e 2 2), bad := false, num := (s.port p).spring.taken }] ∧
      t.sends p .user (slice pay 0 (leAt e 2 2)) = true ∧
      t.ring (sprTxRing b) = (s.ring (sprTxRing b)).take ∧ s.ringsKept t [sprTxRing b] ∧
      s.portsKept t [p] ∧ t.beds = s.beds ∧ t.hostMem = s.hostMem ∧ s.hubKept t) ∧
  (∀ (s : State) (b : BedId) (e pay : Bytes), s.live = true → s.ringsServed = true →
    s.dmaOk false = true → (s.ring (sprTxRing b)).state = .run → (s.ring (sprTxRing b)).used ≠ 0 →
    leAt e 0 2 / 16 ≠ b.val →
    Completes (.springTxEntryTake b e pay) s fun t =>
      t.hostMem = memWriteBytes 0 s.hostMem
        ((s.ring (sprTxRing b)).base.toNat + 64 * (s.ring (sprTxRing b)).head + 32)
        (writeBackBytes { bed := b, idx := (s.ring (sprTxRing b)).head,
                          phase := (s.ring (sprTxRing b)).phase, status := .badParam, detail := 0,
                          tick := s.clk.tick }) ∧
      (t.ring (sprTxRing b)).head = (s.ring (sprTxRing b)).succ (s.ring (sprTxRing b)).head ∧
      t.ports = s.ports ∧ t.beds = s.beds ∧ s.ringsKept t [sprTxRing b] ∧ s.hubKept t)

/-- R236, R240–R242. The frames by which two ends keep a line quiet: a DISABLED or LISTENING port grants
a quiet or a sweep by going to TEST, any other refuses it; the grant ends with END, with its duration or
with the sweep, and the port returns; an acknowledged request lets the requester's test run. -/
def Obligations.DiagFrames : Prop :=
  (∀ (s : State) (p : PortId) (ms : Byte) (sweep : Bool),
    s.accepts p .diag (if sweep then [3, ms] else [1, ms, 1]) = true →
    s.pst p = .disabled ∨ s.pst p = .listening → (if sweep then 4 ≤ ms.toNat ∧ ms.toNat ≤ 64 else 1 ≤ ms.toNat ∧ ms.toNat ≤ 250) →
    Completes (if sweep then .sweepReq p [3, ms] else .quietReq p [1, ms, 1]) s fun t =>
      t.pst p = .test ∧ (t.port p).grant = some {
        highz := !sweep,
        sweepMs := if sweep then some ms.toNat else none, sending := false, prior := s.pst p } ∧
      t.sends p .diag [if sweep then 4 else 2, 0] = true ∧ s.portsKept t [p] ∧
      s.bedsKept t [bedOf p] ∧ s.mostKept t) ∧
  (∀ (s : State) (p : PortId) (sweep : Bool),
    s.accepts p .diag (if sweep then [3, 4] else [1, 1, 0]) = true →
    s.pst p ≠ .disabled ∧ s.pst p ≠ .listening →
    Completes (if sweep then .sweepReq p [3, 4] else .quietReq p [1, 1, 0]) s fun t =>
      t.sends p .diag [if sweep then 4 else 2, 1] = true ∧ (t.port p).grant = (s.port p).grant ∧
      (t.port p).link = (s.port p).link ∧ s.portsKept t [p] ∧ s.bedsKept t [bedOf p] ∧
      s.mostKept t) ∧
  (∀ (s : State) (p : PortId) (d : Diag), s.accepts p .diag [2, 0] = true →
    (s.port p).diag = some d → d.waitAck = true → d.inTest = true → d.left.head? = some .tdr →
    (∀ r, r ≠ p → (s.port r).diag = none) →
    Completes (.quietAck p [2, 0]) s fun t =>
      (t.port p).diag = some { d with waitAck := false, begun := true, flags := d.flags ||| 3 } ∧
      (s.pst p ≠ .listening → (t.port p).link = (s.port p).link) ∧ s.portsKept t [p] ∧
      s.bedsKept t [bedOf p] ∧ s.mostKept t) ∧
  (∀ (s : State) (p : PortId) (d : Diag), s.accepts p .diag [4, 0] = true →
    (s.port p).diag = some d → d.left = [.il] → d.begun = true → d.sweep = true →
    Completes (.sweepAck p [4, 0]) s fun t =>
      (t.port p).diag = some { d with sweep := false } ∧
      (s.pst p ≠ .listening → (t.port p).link = (s.port p).link) ∧
      s.portsKept t [p] ∧ s.bedsKept t [bedOf p] ∧ s.mostKept t) ∧
  (∀ (s : State) (p : PortId), s.accepts p .diag [5] = true →
    Completes (.sweepDone p) s fun t =>
      (t.port p).diag = (s.port p).diag ∧
      (s.pst p ≠ .listening → (t.port p).link = (s.port p).link) ∧
      (t.port p).spring.rxBusy = false ∧ (t.port p).spring.rssi = (s.port p).spring.rxRssi ∧
      s.portsKept t [p] ∧ s.bedsKept t [bedOf p] ∧ s.mostKept t) ∧
  (∀ (s : State) (p : PortId) (g : Grant) (i : Instr), s.live = true → (s.port p).grant = some g →
    g.sweepMs = none → g.prior = .disabled → s.pst p = .test →
    (i = .diagEnd p ∧ s.accepts p .diag [6] = true) ∨ i = .quietDurationExpiry p →
    Completes i s fun t =>
      (t.port p).grant = none ∧ t.pst p = .disabled ∧ s.portsKept t [p] ∧ s.mostKept t) ∧
  (∀ (s : State) (p : PortId) (g : Grant) (n : Nat), s.live = true → (s.port p).grant = some g →
    g.sweepMs = some n →
    Completes (.sweepStartDelay p) s fun t =>
      t.port p = { s.port p with grant := some { g with sending := true } } ∧ s.portsKept t [p] ∧
      t = { s with ports := t.ports }) ∧
  (∀ (s : State) (p : PortId) (g : Grant), s.live = true → (s.port p).grant = some g →
    g.sending = true → g.prior = .disabled → s.pst p = .test →
    Completes (.sweepDurationEnd p) s fun t =>
      (t.port p).grant = none ∧ t.pst p = .disabled ∧ t.sends p .diag [5] = true ∧
      s.portsKept t [p] ∧ s.sidesKept t)

/-- R102–R105, R108, R113, R119, R122, R123, R166, R169, R221. A training row group: TSEQ moves on, the countdown
of a change with it, and the change follows its zero with the precoder that the partner sent, and in three-pair
training with the end of SPARE; an end that is silent sends none, one that aborts counts its last eight and then
goes where its training leads, and a quiet end counts its row groups and those of its wake. The first one of
three-pair training ends the spare request. -/
def Obligations.TrainingRowGroups : Prop :=
  (∀ (s : State) (p : PortId), s.live = true → s.pst p = .training →
    (s.port p).train.kind ≠ .standard → (s.port p).train.waitPll = false →
    (s.port p).train.phase ∉ [.data, .none, .handshake] → (s.port p).train.abortLeft = 0 →
    (s.port p).line.spareReq = none →
    (s.port p).train.silent = false →
    (s.port p).train.sw ≠ some 0 →
    Completes (.trainingRowGroupForm p) s fun t =>
      (t.port p).train.tseq = (s.port p).train.tseq + 1 ∧ (t.port p).train.sent = true ∧
      (t.port p).train.sw = (s.port p).train.sw.map (· - 1) ∧
      (t.port p).train.phase = (s.port p).train.phase ∧
      (t.port p).train.ready = (s.port p).train.ready ∧
      (t.port p).line.txPts = (precode (s.port p).trainTaps
        ((s.port p).trainSyms (s.port p).trainTif (s.port p).train.phase (s.port p).train.tseq).1
        (s.port p).line.prec).1 ∧
      (t.port p).line.locks = (s.port p).line.locks ∧ (t.port p).link = (s.port p).link ∧
      s.portsKept t [p] ∧ t = { s with ports := t.ports }) ∧
  (∀ (s : State) (p : PortId), s.live = true → s.pst p = .training →
    (s.port p).train.kind ≠ .standard → (s.port p).train.waitPll = false →
    (s.port p).train.phase ∉ [.data, .none, .handshake] → (s.port p).train.abortLeft = 0 →
    (s.port p).line.spareReq = none →
    (s.port p).train.silent = false → (s.port p).train.sw = some 0 →
    Completes (.trainingRowGroupForm p) s fun t =>
      (t.port p).train.phase = (s.port p).train.swTo ∧ (t.port p).train.ready = false ∧
      (t.port p).train.sw = none ∧ (t.port p).train.tifInPhase = false ∧
      (t.port p).train.held = (if (s.port p).train.swTo = .pam4 then (s.port p).train.rxCoef
        else (s.port p).train.held) ∧
      (t.port p).line.seq = (s.port p).line.seq ∧ (t.port p).line.txScr = (s.port p).line.txScr ∧
      (t.port p).line.enc1 = (s.port p).line.enc1 ∧ (t.port p).line.enc2 = (s.port p).line.enc2 ∧
      (t.port p).line.locks = (s.port p).line.locks ∧ (t.port p).rx = (s.port p).rx ∧
      ((s.port p).train.swTo = .data → (s.port p).train.kind = .threePair →
        (t.port p).spring.spareRep = none ∧ ∀ f ∈ (t.port p).spring.due, f.typ ≠ .spare) ∧
      (t.port p).link = (s.port p).link ∧ s.portsKept t [p] ∧ t = { s with ports := t.ports }) ∧
  (∀ (s : State) (p : PortId) (n : Nat), s.live = true → s.pst p = .training →
    (s.port p).train.kind ≠ .standard → (s.port p).train.waitPll = false →
    (s.port p).train.phase ∉ [.none, .handshake] → (s.port p).train.abortLeft = n + 1 →
    Completes (.trainingRowGroupForm p) s fun t =>
      (n ≠ 0 → (t.port p).train.abortLeft = n ∧ t.pst p = .training ∧
        (t.port p).train.tseq = (s.port p).train.tseq + 1 ∧ t = { s with ports := t.ports }) ∧
      (n = 0 → t.pst p = (match (s.port p).link.after with
        | .disabled => .disabled
        | .dormant => .dormant
        | .warm => .training
        | _ => .listening)) ∧
      s.portsKept t [p] ∧ s.hubKept t) ∧
  (∀ (s : State) (p : PortId), s.live = true → s.pst p = .training →
    (s.port p).train.kind ≠ .standard → (s.port p).train.waitPll = false →
    (s.port p).train.phase ∉ [.data, .none, .handshake] → (s.port p).train.abortLeft = 0 →
    (s.port p).line.spareReq = none →
    (s.port p).train.silent = true → (s.port p).train.sent = true →
    (s.port p).train.phase ≠ .timing ∨ (s.port p).link.role ≠ .tail ∨ (s.port p).allLocked = false →
    Completes (.trainingRowGroupForm p) s fun t =>
      (t.port p).line = { (s.port p).line with txPts := [] } ∧
      (t.port p).train.tseq = (s.port p).train.tseq + 1 ∧ (t.port p).train.silent = true ∧
      (t.port p).train.phase = (s.port p).train.phase ∧ (t.port p).link = (s.port p).link ∧
      s.portsKept t [p] ∧ t = { s with ports := t.ports }) ∧
  (∀ (s : State) (p : PortId), s.live = true → s.pst p ≠ .training → (s.port p).still.quiet = true →
    Completes (.trainingRowGroupForm p) s fun t =>
      (t.port p).still.qrg = (s.port p).still.qrg + 1 ∧
      (t.port p).still.quiet = decide ((s.port p).still.wake ≠ some 0) ∧
      (t.port p).still.wake = (match (s.port p).still.wake with
        | some (n + 1) => some n
        | _ => none) ∧
      ((s.port p).still.wake = none → (s.port p).still.refresh = 0 → (t.port p).line.txPts = []) ∧
      ((s.port p).still.wake = none →
        (t.port p).still.refresh = (s.port p).still.refresh - 1) ∧
      (t.port p).link = (s.port p).link ∧ s.portsKept t [p] ∧ t = { s with ports := t.ports }) ∧
  (∀ (s : State) (p : PortId), s.live = true → s.pst p = .training →
    (s.port p).train.kind ≠ .standard → (s.port p).train.waitPll = false →
    (s.port p).train.phase ∉ [.data, .none, .handshake] → (s.port p).train.abortLeft = 0 →
    (s.port p).train.silent = false → (s.port p).train.sw = none →
    (s.port p).line.spareReq.isSome = true →
    Completes (.trainingRowGroupForm p) s fun t =>
      (t.port p).line.spareReq = none ∧ (t.port p).line.seq = 0 ∧
      (t.port p).line.txScr = BitVec.allOnes 58 ∧ (t.port p).line.enc1 = 0 ∧ (t.port p).line.enc2 = 0 ∧
      (t.port p).train.tseq = (s.port p).train.tseq + 1 ∧
      (t.port p).line.txPts = (precode (s.port p).trainTaps ((s.port p).trainSyms (s.port p).trainTif
        (s.port p).train.phase (s.port p).train.tseq).1 (s.port p).line.prec).1 ∧
      (t.port p).link = (s.port p).link ∧ s.portsKept t [p] ∧ t = { s with ports := t.ports })

/-- R107, R108, R112, R114, R115, R123, R145, R149. Training info frames and READY: a frame whose CRC fails is
nothing, another is kept as the partner's last with its coefficients, a countdown at RAMP makes the receiver ready
for the partner's data mode, and a frame with ABORT fails the training; a tail follows the head into PRECODER; an
end that meets the exit condition of its phase is READY, at RAMP, whose profile the margins may settle, only where
its margins suffice; a head that finds both ends READY begins the countdown; and a skew beyond 50 ns abandons the
training. -/
def Obligations.FramesAndReady : Prop :=
  (∀ (s : State) (p : PortId) (f : BitVec 512), s.live = true → tifOk f = false →
    Completes (.tifAccept p f) s fun t => t = s) ∧
  (∀ (s : State) (p : PortId) (f : BitVec 512), s.live = true → tifOk f = true →
    s.pst p = .training → (s.port p).train.kind ≠ .standard → (s.port p).train.waitPll = false →
    (s.port p).train.abortLeft = 0 → bit f 14 = false → bit f 84 = false → bit f 13 = false →
    (s.port p).link.role = .head → fld f 0 4 ≠ TKind.threePair.code →
    Completes (.tifAccept p f) s fun t =>
      (t.port p).train.partner = some f ∧ (t.port p).train.tifInPhase = true ∧
      (t.port p).train.phase = (s.port p).train.phase ∧
      (t.port p).train.cbAck = (if bit f 47 then
        (s.port p).train.cbAck ||| BitVec.ofNat 8 (2 ^ fld f 44 3) else (s.port p).train.cbAck) ∧
      (bit f 47 = true → (t.port p).train.rxCoef.getD (24 * fld f 44 3) 0 =
        BitVec.ofNat 16 (fld f 88 16)) ∧
      (fld f 48 8 = 0xFF → (t.port p).rx = (s.port p).rx) ∧
      (fld f 48 8 ≠ 0xFF → fld f 4 4 = Phase.ramp.code → (s.port p).train.peerNext = none →
        (t.port p).rx = (s.port p).rx.start false) ∧
      (t.port p).link = (s.port p).link ∧ s.portsKept t [p] ∧ t = { s with ports := t.ports }) ∧
  (∀ (s : State) (p : PortId) (f : BitVec 512), s.live = true → tifOk f = true →
    s.pst p = .training → (s.port p).train.waitPll = false → (s.port p).train.abortLeft = 0 →
    bit f 14 = false → bit f 84 = false → bit f 12 = false → (s.port p).link.role = .tail →
    (s.port p).train.kind = .cold → fld f 0 4 = TKind.cold.code → (s.port p).train.phase = .timing →
    fld f 4 4 = Phase.precoder.code → fld f 48 8 = 0xFF →
    Completes (.tifAccept p f) s fun t =>
      (t.port p).train.phase = .precoder ∧ (t.port p).train.ready = false ∧
      (t.port p).train.partner = some f ∧ (t.port p).train.kind = .cold ∧
      (t.port p).link = (s.port p).link ∧ s.portsKept t [p] ∧ t = { s with ports := t.ports }) ∧
  (∀ (s : State) (p : PortId) (f : BitVec 512), s.live = true → tifOk f = true →
    s.pst p = .training → (s.port p).train.kind = .cold → (s.port p).train.waitPll = false →
    (s.port p).train.await = false → (s.port p).train.abortLeft = 0 → bit f 14 = true →
    Completes (.tifAccept p f) s fun t =>
      t.pst p = .listening ∧ (t.port p).train.lastCause = .peerAbort ∧
      (t.port p).train.fails = min 255 ((s.port p).train.fails + 1) ∧
      t.hasDue .linkDown (.port p) Down.trainFail.code = true ∧ (t.port p).fp = (s.port p).fp ∧
      s.portsKept t [p] ∧ s.hubKept t) ∧
  (∀ (s : State) (p : PortId) (o : ReadyObs), s.live = true → s.pst p = .training →
    (s.port p).train.kind = .cold → (s.port p).train.abortLeft = 0 → (s.port p).train.ready = false →
    (s.port p).train.waitPll = false → (s.port p).link.role = .tail →
    ((s.port p).train.phase = .timing ∧ (largestSkew o.delay).toNat ≤ 100 ∧ (s.port p).train.tifInPhase = true ∧
        (s.port p).allLocked = true ∧ (s.port p).train.silent = false) ∨
      ((s.port p).train.phase = .precoder ∧ (s.port p).cbAckOut = 0xFF ∧
        (s.port p).cbAckIn = 0xFF) ∨
      ((s.port p).train.phase = .pam4 ∧ (s.port p).allLocked = true) →
    Completes (.phaseReady p o) s fun t =>
      (t.port p).train.ready = true ∧ (t.port p).train.phase = (s.port p).train.phase ∧
      ((s.port p).train.phase = .timing → (t.port p).train.timingLock = true ∧
        (t.port p).train.skew = largestSkew o.delay ∧ (t.port p).link.skew = largestSkew o.delay ∧
        (t.port p).train.ownCoef = o.coef) ∧
      t.pst p = .training ∧ s.portsKept t [p] ∧ t = { s with ports := t.ports, free := t.free }) ∧
  (∀ (s : State) (p : PortId) (o : ReadyObs) (ms short : List (BitVec 5)) (deep : Bool), s.live = true →
    s.pst p = .training → (s.port p).train.kind = .cold → (s.port p).train.abortLeft = 0 →
    (s.port p).train.ready = false → (s.port p).train.waitPll = false →
    (s.port p).link.role = .tail → (s.port p).train.phase = .ramp →
    short = marginsOf (s.port p).train.rung false ((s.port p).rampSnr o) →
    deep = ((s.port p).cfg.profile == 1 || ((s.port p).cfg.profile == 2 &&
      decide ((minMargin (activeMargins (s.port p).pairs short)).toNat < (s.port p).cfg.minMargin.toNat))) →
    ms = marginsOf (s.port p).train.rung deep ((s.port p).rampSnr o) →
    Completes (.phaseReady p o) s fun t =>
      (t.port p).train.ready = decide ((s.port p).cfg.minMargin.toNat ≤
        (minMargin (activeMargins (s.port p).pairs ms)).toNat) ∧
      (t.port p).train.margins = ms ∧ (t.port p).train.snr = (s.port p).rampSnr o ∧
      (t.port p).line.deep = deep ∧ (t.port p).link = (s.port p).link ∧ s.portsKept t [p] ∧
      t = { s with ports := t.ports, free := t.free }) ∧
  (∀ (s : State) (p : PortId) (o : ReadyObs) (f : BitVec 512), s.live = true → s.pst p = .training →
    (s.port p).train.kind = .cold → (s.port p).train.abortLeft = 0 → (s.port p).train.ready = false →
    (s.port p).train.waitPll = false → (s.port p).link.role = .head → (s.port p).train.phase = .pam4 →
    (s.port p).allLocked = true → (s.port p).train.sw = none → (s.port p).train.partner = some f →
    bit f 13 = true → fld f 4 4 = Phase.pam4.code →
    Completes (.phaseReady p o) s fun t =>
      (t.port p).train.ready = true ∧ (t.port p).train.sw = some 7 ∧
      (t.port p).train.swTo = .ramp ∧ (t.port p).link = (s.port p).link ∧ s.portsKept t [p] ∧
      t = { s with ports := t.ports, free := t.free }) ∧
  (∀ (s : State) (p : PortId) (o : ReadyObs), s.live = true → s.pst p = .training →
    (s.port p).train.kind = .cold → (s.port p).train.abortLeft = 0 → (s.port p).train.ready = false →
    (s.port p).train.waitPll = false → (s.port p).train.phase = .timing →
    (s.port p).train.silent = false → 100 < (largestSkew o.delay).toNat →
    Completes (.phaseReady p o) s fun t =>
      t.pst p = .training ∧ (t.port p).train.abortLeft = 8 ∧ (t.port p).train.abortCause = .skew ∧
      (t.port p).train.lastCause = .skew ∧ (t.port p).link.after = .listening ∧
      t.hasDue .linkDown (.port p) Down.skew.code = true ∧ s.portsKept t [p] ∧ s.sidesKept t ∧
      t.lanes = s.lanes)

/-- R101, R109–R111, R115, R120, R122, R123, R220. The handoffs and limits of a training: an end whose
echo canceller has converged falls silent and hands off over Spring until it detects the partner's
signal; an expired deadline or a lost partner abandons the training with its cause, by eight ABORT row
groups, or from ECHO_TAIL over Spring; a handshake beyond its deadline begins LISTENING anew; and a tail that a
head never reaches fails its retrain, or after a link-down goes to LISTENING without a second event. -/
def Obligations.HandoffsAndLimits : Prop :=
  (∀ (s : State) (p : PortId), s.live = true → s.pst p = .training → (s.port p).link.role = .head →
    (s.port p).train.phase = .echoHead → (s.port p).train.silent = false →
    (s.port p).link.spared = false → (s.port p).train.report = none →
    Completes (.echoConverged p) s fun t =>
      (t.port p).train.phase = .echoTail ∧ (t.port p).train.silent = true ∧
      (t.port p).line.txPts = [] ∧ (t.port p).spring.step = some ([1, 0, 0], none) ∧
      t.sends p .trainStep [1, 0, 0] = true ∧ (t.port p).link = (s.port p).link ∧
      s.portsKept t [p] ∧ s.sidesKept t ∧ t.lanes = s.lanes) ∧
  (∀ (s : State) (p : PortId), s.live = true → s.pst p = .training → (s.port p).link.role = .tail →
    (s.port p).train.phase = .echoTail → (s.port p).train.silent = false →
    (s.port p).link.spared = false → (s.port p).train.report = none →
    Completes (.echoConverged p) s fun t =>
      (t.port p).train.phase = .timing ∧ (t.port p).train.silent = true ∧
      (t.port p).line.txPts = [] ∧ (t.port p).spring.step = some ([2, 0, 0], none) ∧
      t.sends p .trainStep [2, 0, 0] = true ∧ (t.port p).link = (s.port p).link ∧
      s.portsKept t [p] ∧ s.sidesKept t ∧ t.lanes = s.lanes) ∧
  (∀ (s : State) (p : PortId) (pay : Bytes), s.live = true →
    (s.port p).spring.step = some (pay, none) →
    Completes (.partnerSignalDetect p) s fun t =>
      t.port p = { s.port p with spring := { (s.port p).spring with
        step := none, due := (s.port p).spring.due.filter fun x => x.typ != .trainStep } } ∧
      s.portsKept t [p] ∧ t = { s with ports := t.ports }) ∧
  (∀ (s : State) (p : PortId) (i : Instr) (c : TCause), s.live = true → s.pst p = .training →
    (s.port p).train.kind = .cold → (s.port p).train.abortLeft = 0 →
    (s.port p).train.silent = false → (s.port p).line.txData = false →
    (s.port p).train.phase = .timing ∨ (s.port p).train.phase = .precoder ∨
      (s.port p).train.phase = .pam4 ∨
      ((s.port p).train.phase = .ramp ∧ (s.port p).train.ready = true) →
    (i = .trainingDeadlineExpiry p ∧ c = .timeout) ∨
      (i = .tifLossTimeout p ∧ c = .lockLost ∧ (s.port p).train.partner.isSome = true) →
    Completes i s fun t =>
      t.pst p = .training ∧ (t.port p).train.abortLeft = 8 ∧ (t.port p).train.abortCause = c ∧
      (t.port p).train.lastCause = c ∧ (t.port p).train.sw = none ∧
      (t.port p).train.fails = min 255 ((s.port p).train.fails + 1) ∧
      (t.port p).link.after = .listening ∧
      t.hasDue .linkDown (.port p) Down.trainFail.code = true ∧ (t.port p).fp = (s.port p).fp ∧
      s.portsKept t [p] ∧ s.sidesKept t ∧ t.lanes = s.lanes) ∧
  (∀ (s : State) (p : PortId), s.live = true → s.pst p = .training →
    (s.port p).train.kind = .cold → (s.port p).train.abortLeft = 0 →
    (s.port p).train.phase = .echoTail → (s.port p).link.spared = false →
    (s.port p).line.txData = false →
    Completes (.trainingDeadlineExpiry p) s fun t =>
      t.pst p = .listening ∧ (t.port p).train.lastCause = .timeout ∧
      t.hasDue .linkDown (.port p) Down.trainFail.code = true ∧ s.portsKept t [p] ∧ s.hubKept t) ∧
  (∀ (s : State) (p : PortId), s.live = true → (s.port p).inHandshake = true →
    Completes (.trainingDeadlineExpiry p) s fun t =>
      t.pst p = .listening ∧ (t.port p).link.heardAt = none ∧ (t.port p).train.lastCause = .timeout ∧
      (t.port p).train.fails = min 255 ((s.port p).train.fails + 1) ∧
      t.hasDue .linkDown (.port p) Down.trainFail.code = true ∧ (t.port p).cfg = (s.port p).cfg ∧
      (t.port p).fp = (s.port p).fp ∧ s.portsKept t [p] ∧ s.hubKept t) ∧
  (∀ (s : State) (p : PortId), s.live = true → s.pst p = .training →
    (s.port p).train.await = true → (s.port p).train.abortLeft = 0 → (s.port p).train.kind = .none →
    Completes (.tailNoHeadTif p) s fun t =>
      ((s.port p).link.downAt ≠ some (s.port p).train.origin →
        t.hasDue .linkDown (.port p) Down.trainFail.code = true) ∧
      ((s.port p).link.downAt = some (s.port p).train.origin →
        (t.due.filter fun e => e.code == .linkDown) = s.due.filter fun e => e.code == .linkDown) ∧
      t.pst p = .listening ∧ (t.port p).train.lastCause = .timeout ∧
      (t.port p).train.fails = min 255 ((s.port p).train.fails + 1) ∧
      (t.port p).fp = (s.port p).fp ∧ s.portsKept t [p] ∧ s.hubKept t)

/-- R164–R172, R182. Still: LPI for the entry delay makes the condition, on which the head closes once
the partner's field says the same; a host block ends it and wakes a quiet end; the refreshes begin at
their place in the cycle; a partner's refresh that comes clears the count of missed ones, and two missed in a
row, or a wake that the partner does not answer, lose the link. -/
def Obligations.StillUpkeep : Prop :=
  (∀ (s : State) (p : PortId) (o : BitVec 198), s.live = true → s.pst p = .up →
    isCh (s.port p).link.rung = true → scStill (s.port p).cfg.stillctl = true →
    (s.port p).host.mode ≠ 0 →
    (s.port p).still.quiet = false → (s.port p).line.oam = some o → (s.port p).line.closing = .data →
    Completes (.stillConditionMet p) s fun t =>
      (t.port p).still.lpi = true ∧ (t.port p).still.cond = true ∧
      (t.port p).line.closing = (if (s.port p).link.role = .head ∧ fld o 12 4 = 1 then .closeStill
        else .data) ∧
      (t.port p).line.closeCnt = (if (s.port p).link.role = .head ∧ fld o 12 4 = 1 then some 3
        else (s.port p).line.closeCnt) ∧
      t.pst p = .up ∧ s.portsKept t [p] ∧ t = { s with ports := t.ports }) ∧
  (∀ (s : State) (p : PortId) (frame : Bool), s.live = true → (s.port p).linked = true →
    isCh (s.port p).link.rung = true → (s.port p).still.quiet = true → (s.port p).still.wake = none →
    Completes (.hostNonLpiBlock p frame) s fun t =>
      (t.port p).still = { (s.port p).still with
        lpi := false, cond := false, wake := some 18, refresh := 0, lastWake := .host,
        wakeDue := false, heard := false } ∧
      (t.port p).cnt = (if frame then (s.port p).cnt.add s.now 0x24 1 else (s.port p).cnt) ∧
      (t.port p).link = (s.port p).link ∧ s.portsKept t [p] ∧ t = { s with ports := t.ports }) ∧
  (∀ (s : State) (p : PortId) (frame : Bool), s.live = true → s.pst p = .up →
    isCh (s.port p).link.rung = true → (s.port p).still.quiet = false →
    (s.port p).line.closing ≠ .closeStill →
    Completes (.hostNonLpiBlock p frame) s fun t =>
      t.port p = { s.port p with still := { (s.port p).still with lpi := false, cond := false } } ∧
      s.portsKept t [p] ∧ t = { s with ports := t.ports }) ∧
  (∀ (s : State) (p : PortId), s.live = true → (s.port p).still.quiet = true →
    (s.port p).still.wake = none →
    Completes (.refreshDue p) s fun t =>
      (t.port p).still.refresh = 8 ∧ (s.port p).still.qrg ≤ (t.port p).still.qrg ∧
      (t.port p).still.qrg < (s.port p).still.qrg + refreshCycle (s.port p).link.rung ∧
      (t.port p).still.qrg % refreshCycle (s.port p).link.rung =
        refreshCycle (s.port p).link.rung - 8 ∧
      (t.port p).still.quiet = true ∧ (t.port p).still.wake = none ∧
      (t.port p).line = (s.port p).line ∧ (t.port p).link = (s.port p).link ∧ s.portsKept t [p] ∧
      t = { s with ports := t.ports }) ∧
  (∀ (s : State) (p : PortId) (seen : Bool) (commas : BitVec 4), s.live = true →
    (s.port p).still.quiet = true →
    (seen || (s.port p).pairs.any fun i => bit commas i.val) = true →
    Completes (.partnerRefreshWindowEnd p seen commas) s fun t =>
      (t.port p).still.missed = false ∧ (t.port p).still.missRun = 0 ∧
      (t.port p).still.quiet = true ∧ (t.port p).cnt = (s.port p).cnt ∧
      (∀ i : Pair, bit commas i.val = true →
        (t.port p).line.locks[i.val]? = (s.port p).line.locks[i.val]?) ∧
      (t.port p).link = (s.port p).link ∧ s.portsKept t [p] ∧ t = { s with ports := t.ports }) ∧
  (∀ (s : State) (p : PortId), s.live = true → (s.port p).still.quiet = true →
    (s.port p).still.missRun = 0 →
    Completes (.partnerRefreshWindowEnd p false 0) s fun t =>
      t.port p = { s.port p with
        still := { (s.port p).still with missed := true, missRun := 1 },
        cnt := (s.port p).cnt.add s.now 0x25 1 } ∧
      s.portsKept t [p] ∧ t = { s with ports := t.ports }) ∧
  (∀ (s : State) (p : PortId) (i : Instr), s.live = true → s.pst p = .still →
    (s.port p).still.quiet = true → (s.port p).link.wakeJob = .none → (s.port p).link.role = .tail →
    (s.port p).link.spared = false → (s.port p).still.left = false →
    (i = .partnerRefreshWindowEnd p false 0 ∧ 1 ≤ (s.port p).still.missRun) ∨
      (i = .stillWakeTimeout p ∧ (s.port p).still.wake.isSome = true ∧
        (s.port p).still.heard = false) →
    Completes i s fun t =>
      t.pst p = .training ∧ (t.port p).train.kind = .none ∧ (t.port p).train.await = true ∧
      (t.port p).train.rung = (s.port p).link.rung ∧
      t.hasDue .linkDown (.port p) Down.stillLost.code = true ∧
      t.hasDue .still (.port p) 0 = true ∧ (t.port p).still.quiet = false ∧
      (t.port p).fp = (s.port p).fp ∧ s.portsKept t [p] ∧ s.sidesKept t)

/-- R261, R266, R271, R272, R390, R482. The host lanes: an ingress lane that loses lock is unlocked and counts it,
and each port that used it notes the cause, a linked one reporting the loss; one that locks within 40 ns of skew reports
its port up again; a lane PLL that loses lock takes every lane on it with it, and its lock runs them
again. -/
def Obligations.HostLanes : Prop :=
  (∀ (s : State) (l : LaneId) (c : BitVec 3), s.live = true → (s.lane l).locked = true →
    Completes (.ingressLockLost l c) s fun t =>
      t.lane l = { s.lane l with
        locked := false, adapting := true, cnt := (s.lane l).cnt.add s.now 3 1 } ∧ s.lanesKept t [l] ∧
      (∀ p ∈ s.laneLosers l, (t.port p).host.lastCause = c ∧ (t.pst p = s.pst p ∨ t.pst p = .up) ∧
        (s.pst p = .up ∨ s.pst p = .still → (t.port p).host.lost = true ∧
          (t.port p).still.lpi = false ∧ t.hasDue .laneLockLost (.port p) 1 = true)) ∧
      s.portsKept t (s.laneLosers l) ∧ s.sidesKept t) ∧
  (∀ (s : State) (l : LaneId) (c : BitVec 3), s.live = true → (s.lane l).locked = false →
    Completes (.ingressLockLost l c) s fun t =>
      t.lane l = { s.lane l with adapting := true } ∧ s.lanesKept t [l] ∧
      t = { s with lanes := t.lanes }) ∧
  (∀ (s : State) (p : PortId) (l : LaneId) (k : Byte), s.live = true → s.lanePorts l = [p] →
    (s.lane l).idle = false → (s.lane l).inReset = false → (s.lane l).locked = false →
    skewTooWide (s.port p).host.mode k = false →
    Completes (.ingressLockGained l k) s fun t =>
      t.lane l = { s.lane l with locked := true, adapting := false } ∧ s.lanesKept t [l] ∧
      (t.port p).host = { (s.port p).host with
        skew := k, lost := (s.port p).host.lost && !t.ingressUp p } ∧
      ((s.port p).host.lost = true → t.ingressUp p = true → (s.port p).linked = true →
        t.hasDue .laneLockLost (.port p) 0 = true) ∧
      (t.port p).link = (s.port p).link ∧ s.portsKept t [p] ∧ s.sidesKept t) ∧
  (∀ (s : State) (p : PortId) (l : LaneId) (k : Byte), s.live = true → s.lanePorts l = [p] →
    (s.lane l).idle = false → (s.lane l).inReset = false → (s.lane l).locked = false →
    skewTooWide (s.port p).host.mode k = true →
    Completes (.ingressLockGained l k) s fun t =>
      (t.port p).host = { (s.port p).host with skew := k, lastCause := 2 } ∧
      s.portsKept t [p] ∧ t = { s with ports := t.ports }) ∧
  (∀ (s : State) (p : PortId), s.live = true →
    Completes (.hostModeReady p) s fun t =>
      t.port p = { s.port p with host := { (s.port p).host with changing := false } } ∧
      s.portsKept t [p] ∧ t = { s with ports := t.ports }) ∧
  (∀ (s : State) (b : BedId) (k : Fin 2), s.live = true →
    (s.bed b).pow.laneLock[k.val]? = some true →
    Completes (.lanePllLockLost b k) s fun t =>
      t.bed b = { s.bed b with pow := { (s.bed b).pow with
        laneLock := upd (s.bed b).pow.laneLock k.val false } } ∧
      (∀ l ∈ s.pllLanes b k,
        t.lane l = { s.lane l with
          locked := false, adapting := true, idle := true,
          cnt := if (s.lane l).locked then (s.lane l).cnt.add s.now 3 1 else (s.lane l).cnt }) ∧
      s.lanesKept t (s.pllLanes b k) ∧ s.bedsKept t [b] ∧ s.portsKept t (portsOf b) ∧ s.mostKept t) ∧
  (∀ (s : State) (b : BedId) (k : Fin 2), s.live = true → (s.bed b).pow.on = true →
    (s.bed b).pow.laneFam.getD k.val 0 ≠ 0 → (s.bed b).pow.inReset = false →
    Completes (.lanePllLock b k) s fun t =>
      t.bed b = { s.bed b with pow := { (s.bed b).pow with
        laneLock := upd (s.bed b).pow.laneLock k.val true } } ∧
      (∀ l ∈ s.pllLanes b k, t.lane l = { s.lane l with idle := false }) ∧
      s.lanesKept t (s.pllLanes b k) ∧ s.bedsKept t [b] ∧
      t = { s with beds := t.beds, lanes := t.lanes })

end
end

