-- ==== Sys2Proof/Laws/Bytes.lean ====
section
/-! SUPPORT.
Strings of bytes: lengths, numbers written and read back, and sealed fingerprints. -/

namespace Sys2Proof.Machine

/-- The number of the little-endian bytes of a number that fits them is that number. -/
theorem leNat_leBytes : ∀ (k n : Nat), n < 256 ^ k → leNat (leBytes k n) = n
  | 0, n, h => by simp at h; simp [leBytes, leNat, h]
  | k + 1, n, h => by
    have h1 : n / 256 < 256 ^ k := by
      rw [Nat.div_lt_iff_lt_mul (by decide)]; rw [Nat.pow_succ] at h; exact h
    simp only [leBytes, leNat, leNat_leBytes k _ h1, BitVec.toNat_ofNat]; omega

/-- A number in k bytes is k bytes. -/
theorem leBytes_length : ∀ (k n : Nat), (leBytes k n).length = k
  | 0, _ => rfl
  | k + 1, n => by simp [leBytes, leBytes_length k]

/-- The last steps of a round answer 25 lanes. -/
theorem kRow_length (rc : BitVec 64) (a : List (BitVec 64)) : (kRow rc a).length = 25 := by
  simp [kRow, kState]

/-- Rounds by at least one constant answer 25 lanes where each round does. -/
theorem rounds_length (f : List (BitVec 64) → BitVec 64 → List (BitVec 64)) (hf : ∀ a x, (f a x).length = 25)
    (l : List (BitVec 64)) (h : l ≠ []) (a : List (BitVec 64)) : (l.foldl f a).length = 25 := by
  induction l generalizing a with
  | nil => exact absurd rfl h
  | cons x xs ih =>
    cases xs with
    | nil => exact hf a x
    | cons y ys => exact ih (by simp) _

/-- A number of rounds has a constant for the first. -/
theorem roundConsts_ne (n : Nat) (r : Byte) : roundConsts (n + 1) r ≠ [] := by
  rw [roundConsts]; exact List.cons_ne_nil _ _

/-- Keccak-f answers 25 lanes. -/
theorem keccakF_length (a : List (BitVec 64)) : (keccakF a).length = 25 :=
  rounds_length (fun b rc => kRow rc (kMove (kMix b))) (fun b rc => kRow_length rc (kMove (kMix b))) _
    (roundConsts_ne 23 1) a

/-- Eight bytes a lane. -/
theorem lanes_flat_length (a : List (BitVec 64)) : (a.flatMap fun l => leBytes 8 l.toNat).length = 8 * a.length := by
  induction a with
  | nil => rfl
  | cons x xs ih => simp only [List.flatMap_cons, List.length_append, leBytes_length, ih, List.length_cons]; omega

/-- Each squeezed block is 136 bytes. -/
theorem squeeze_length : ∀ (n : Nat) (a : List (BitVec 64)), a.length = 25 → (squeeze n a).length = 136 * n
  | 0, _, _ => rfl
  | n + 1, a, h => by
    simp only [squeeze, List.length_append, lanes_flat_length, List.length_take, h, squeeze_length n _ (keccakF_length a)]; omega

/-- Absorbing keeps 25 lanes. -/
theorem absorbAll_length : ∀ (n : Nat) (a : List (BitVec 64)) (bs : Bytes), a.length = 25 →
    (absorbAll n a bs).length = 25
  | 0, _, _, h => h
  | n + 1, _, _, _ => absorbAll_length n _ _ (keccakF_length _)

/-- SHAKE256 answers as many bytes as are asked for. -/
theorem shake256_length (m : Bytes) (n : Nat) : (shake256 m n).length = n := by
  unfold shake256
  simp only [List.length_take]
  rw [squeeze_length _ _ (absorbAll_length _ _ _ (by simp))]; omega

/-- Sealing a fingerprint leaves what stands before its CHECK (R249). -/
theorem fpSeal_take (f : Bytes) (i n : Nat) (h : i + n ≤ 2016) (hl : 2016 ≤ f.length) :
    ((fpSeal f).drop i).take n = (f.drop i).take n := by
  unfold fpSeal
  rw [List.drop_append_of_le_length (by simp; omega), List.take_append_of_le_length (by simp; omega)]
  rw [List.drop_take, List.take_take]; congr 1; omega

/-- A byte before CHECK is as before the sealing (R249). -/
theorem fpSeal_byteAt (f : Bytes) (i : Nat) (h : i < 2016) (hl : 2016 ≤ f.length) :
    byteAt (fpSeal f) i = byteAt f i := by
  unfold fpSeal byteAt
  rw [List.getD_append _ _ _ _ (by simp; omega)]
  simp [List.getD_eq_getElem?_getD, h]

/-- The CHECK of a sealed fingerprint is right (R249). -/
theorem fpSeal_checkOk (f : Bytes) (hl : 2016 ≤ f.length) : fpCheckOk (fpSeal f) = true := by
  have h : (f.take 2016).length = 2016 := by simp; omega
  unfold fpCheckOk fpSeal
  rw [List.take_left' h, List.drop_left' h]
  simp [shake256_length, hl]

/-- A PHY_ID fits eight bytes. -/
theorem phyId_lt (p : PortId) : (phyId p).toNat < 256 ^ 8 := by
  have := (phyId p).isLt; simpa using this

end Sys2Proof.Machine
end

