-- ==== Sys2Proof/Laws/State.lean ====
section
/-! SUPPORT.
One lemma for each field of State and each update of it: what an update leaves, by rfl. -/

namespace Sys2Proof.Machine

variable (s : State)

section
variable (p : PortId) (f : Port → Port)
@[simp] theorem modPort_pending : (s.modPort p f).pending = s.pending := rfl
@[simp] theorem modPort_pins : (s.modPort p f).pins = s.pins := rfl
@[simp] theorem modPort_hub : (s.modPort p f).hub = s.hub := rfl
@[simp] theorem modPort_clk : (s.modPort p f).clk = s.clk := rfl
@[simp] theorem modPort_sluice : (s.modPort p f).sluice = s.sluice := rfl
@[simp] theorem modPort_boot : (s.modPort p f).boot = s.boot := rfl
@[simp] theorem modPort_flash : (s.modPort p f).flash = s.flash := rfl
@[simp] theorem modPort_cal : (s.modPort p f).cal = s.cal := rfl
@[simp] theorem modPort_sec : (s.modPort p f).sec = s.sec := rfl
@[simp] theorem modPort_tel : (s.modPort p f).tel = s.tel := rfl
@[simp] theorem modPort_chans : (s.modPort p f).chans = s.chans := rfl
@[simp] theorem modPort_mbxMem : (s.modPort p f).mbxMem = s.mbxMem := rfl
@[simp] theorem modPort_rings : (s.modPort p f).rings = s.rings := rfl
@[simp] theorem modPort_cmds : (s.modPort p f).cmds = s.cmds := rfl
@[simp] theorem modPort_due : (s.modPort p f).due = s.due := rfl
@[simp] theorem modPort_held : (s.modPort p f).held = s.held := rfl
@[simp] theorem modPort_heldLost : (s.modPort p f).heldLost = s.heldLost := rfl
@[simp] theorem modPort_msix : (s.modPort p f).msix = s.msix := rfl
@[simp] theorem modPort_msixHeld : (s.modPort p f).msixHeld = s.msixHeld := rfl
@[simp] theorem modPort_notes : (s.modPort p f).notes = s.notes := rfl
@[simp] theorem modPort_hostMem : (s.modPort p f).hostMem = s.hostMem := rfl
@[simp] theorem modPort_heldWb : (s.modPort p f).heldWb = s.heldWb := rfl
@[simp] theorem modPort_beds : (s.modPort p f).beds = s.beds := rfl
@[simp] theorem modPort_lanes : (s.modPort p f).lanes = s.lanes := rfl
@[simp] theorem modPort_now : (s.modPort p f).now = s.now := rfl
@[simp] theorem modPort_free : (s.modPort p f).free = s.free := rfl
@[simp] theorem modPort_acts : (s.modPort p f).acts = s.acts := rfl
end

section
variable (b : BedId) (f : Bed → Bed)
@[simp] theorem modBed_pending : (s.modBed b f).pending = s.pending := rfl
@[simp] theorem modBed_pins : (s.modBed b f).pins = s.pins := rfl
@[simp] theorem modBed_hub : (s.modBed b f).hub = s.hub := rfl
@[simp] theorem modBed_clk : (s.modBed b f).clk = s.clk := rfl
@[simp] theorem modBed_sluice : (s.modBed b f).sluice = s.sluice := rfl
@[simp] theorem modBed_boot : (s.modBed b f).boot = s.boot := rfl
@[simp] theorem modBed_flash : (s.modBed b f).flash = s.flash := rfl
@[simp] theorem modBed_cal : (s.modBed b f).cal = s.cal := rfl
@[simp] theorem modBed_sec : (s.modBed b f).sec = s.sec := rfl
@[simp] theorem modBed_tel : (s.modBed b f).tel = s.tel := rfl
@[simp] theorem modBed_chans : (s.modBed b f).chans = s.chans := rfl
@[simp] theorem modBed_mbxMem : (s.modBed b f).mbxMem = s.mbxMem := rfl
@[simp] theorem modBed_rings : (s.modBed b f).rings = s.rings := rfl
@[simp] theorem modBed_cmds : (s.modBed b f).cmds = s.cmds := rfl
@[simp] theorem modBed_due : (s.modBed b f).due = s.due := rfl
@[simp] theorem modBed_held : (s.modBed b f).held = s.held := rfl
@[simp] theorem modBed_heldLost : (s.modBed b f).heldLost = s.heldLost := rfl
@[simp] theorem modBed_msix : (s.modBed b f).msix = s.msix := rfl
@[simp] theorem modBed_msixHeld : (s.modBed b f).msixHeld = s.msixHeld := rfl
@[simp] theorem modBed_notes : (s.modBed b f).notes = s.notes := rfl
@[simp] theorem modBed_hostMem : (s.modBed b f).hostMem = s.hostMem := rfl
@[simp] theorem modBed_heldWb : (s.modBed b f).heldWb = s.heldWb := rfl
@[simp] theorem modBed_ports : (s.modBed b f).ports = s.ports := rfl
@[simp] theorem modBed_lanes : (s.modBed b f).lanes = s.lanes := rfl
@[simp] theorem modBed_now : (s.modBed b f).now = s.now := rfl
@[simp] theorem modBed_free : (s.modBed b f).free = s.free := rfl
@[simp] theorem modBed_acts : (s.modBed b f).acts = s.acts := rfl
end

section
variable (l : LaneId) (f : Lane → Lane)
@[simp] theorem modLane_pending : (s.modLane l f).pending = s.pending := rfl
@[simp] theorem modLane_pins : (s.modLane l f).pins = s.pins := rfl
@[simp] theorem modLane_hub : (s.modLane l f).hub = s.hub := rfl
@[simp] theorem modLane_clk : (s.modLane l f).clk = s.clk := rfl
@[simp] theorem modLane_sluice : (s.modLane l f).sluice = s.sluice := rfl
@[simp] theorem modLane_boot : (s.modLane l f).boot = s.boot := rfl
@[simp] theorem modLane_flash : (s.modLane l f).flash = s.flash := rfl
@[simp] theorem modLane_cal : (s.modLane l f).cal = s.cal := rfl
@[simp] theorem modLane_sec : (s.modLane l f).sec = s.sec := rfl
@[simp] theorem modLane_tel : (s.modLane l f).tel = s.tel := rfl
@[simp] theorem modLane_chans : (s.modLane l f).chans = s.chans := rfl
@[simp] theorem modLane_mbxMem : (s.modLane l f).mbxMem = s.mbxMem := rfl
@[simp] theorem modLane_rings : (s.modLane l f).rings = s.rings := rfl
@[simp] theorem modLane_cmds : (s.modLane l f).cmds = s.cmds := rfl
@[simp] theorem modLane_due : (s.modLane l f).due = s.due := rfl
@[simp] theorem modLane_held : (s.modLane l f).held = s.held := rfl
@[simp] theorem modLane_heldLost : (s.modLane l f).heldLost = s.heldLost := rfl
@[simp] theorem modLane_msix : (s.modLane l f).msix = s.msix := rfl
@[simp] theorem modLane_msixHeld : (s.modLane l f).msixHeld = s.msixHeld := rfl
@[simp] theorem modLane_notes : (s.modLane l f).notes = s.notes := rfl
@[simp] theorem modLane_hostMem : (s.modLane l f).hostMem = s.hostMem := rfl
@[simp] theorem modLane_heldWb : (s.modLane l f).heldWb = s.heldWb := rfl
@[simp] theorem modLane_ports : (s.modLane l f).ports = s.ports := rfl
@[simp] theorem modLane_beds : (s.modLane l f).beds = s.beds := rfl
@[simp] theorem modLane_now : (s.modLane l f).now = s.now := rfl
@[simp] theorem modLane_free : (s.modLane l f).free = s.free := rfl
@[simp] theorem modLane_acts : (s.modLane l f).acts = s.acts := rfl
end

section
variable (r : RingId) (f : Ring → Ring)
@[simp] theorem modRing_pending : (s.modRing r f).pending = s.pending := rfl
@[simp] theorem modRing_pins : (s.modRing r f).pins = s.pins := rfl
@[simp] theorem modRing_hub : (s.modRing r f).hub = s.hub := rfl
@[simp] theorem modRing_clk : (s.modRing r f).clk = s.clk := rfl
@[simp] theorem modRing_sluice : (s.modRing r f).sluice = s.sluice := rfl
@[simp] theorem modRing_boot : (s.modRing r f).boot = s.boot := rfl
@[simp] theorem modRing_flash : (s.modRing r f).flash = s.flash := rfl
@[simp] theorem modRing_cal : (s.modRing r f).cal = s.cal := rfl
@[simp] theorem modRing_sec : (s.modRing r f).sec = s.sec := rfl
@[simp] theorem modRing_tel : (s.modRing r f).tel = s.tel := rfl
@[simp] theorem modRing_chans : (s.modRing r f).chans = s.chans := rfl
@[simp] theorem modRing_mbxMem : (s.modRing r f).mbxMem = s.mbxMem := rfl
@[simp] theorem modRing_cmds : (s.modRing r f).cmds = s.cmds := rfl
@[simp] theorem modRing_due : (s.modRing r f).due = s.due := rfl
@[simp] theorem modRing_held : (s.modRing r f).held = s.held := rfl
@[simp] theorem modRing_heldLost : (s.modRing r f).heldLost = s.heldLost := rfl
@[simp] theorem modRing_msix : (s.modRing r f).msix = s.msix := rfl
@[simp] theorem modRing_msixHeld : (s.modRing r f).msixHeld = s.msixHeld := rfl
@[simp] theorem modRing_notes : (s.modRing r f).notes = s.notes := rfl
@[simp] theorem modRing_hostMem : (s.modRing r f).hostMem = s.hostMem := rfl
@[simp] theorem modRing_heldWb : (s.modRing r f).heldWb = s.heldWb := rfl
@[simp] theorem modRing_ports : (s.modRing r f).ports = s.ports := rfl
@[simp] theorem modRing_beds : (s.modRing r f).beds = s.beds := rfl
@[simp] theorem modRing_lanes : (s.modRing r f).lanes = s.lanes := rfl
@[simp] theorem modRing_now : (s.modRing r f).now = s.now := rfl
@[simp] theorem modRing_free : (s.modRing r f).free = s.free := rfl
@[simp] theorem modRing_acts : (s.modRing r f).acts = s.acts := rfl
end

section
variable (c : ChanId) (f : Chan → Chan)
@[simp] theorem modChan_pending : (s.modChan c f).pending = s.pending := rfl
@[simp] theorem modChan_pins : (s.modChan c f).pins = s.pins := rfl
@[simp] theorem modChan_hub : (s.modChan c f).hub = s.hub := rfl
@[simp] theorem modChan_clk : (s.modChan c f).clk = s.clk := rfl
@[simp] theorem modChan_sluice : (s.modChan c f).sluice = s.sluice := rfl
@[simp] theorem modChan_boot : (s.modChan c f).boot = s.boot := rfl
@[simp] theorem modChan_flash : (s.modChan c f).flash = s.flash := rfl
@[simp] theorem modChan_cal : (s.modChan c f).cal = s.cal := rfl
@[simp] theorem modChan_sec : (s.modChan c f).sec = s.sec := rfl
@[simp] theorem modChan_tel : (s.modChan c f).tel = s.tel := rfl
@[simp] theorem modChan_mbxMem : (s.modChan c f).mbxMem = s.mbxMem := rfl
@[simp] theorem modChan_rings : (s.modChan c f).rings = s.rings := rfl
@[simp] theorem modChan_cmds : (s.modChan c f).cmds = s.cmds := rfl
@[simp] theorem modChan_due : (s.modChan c f).due = s.due := rfl
@[simp] theorem modChan_held : (s.modChan c f).held = s.held := rfl
@[simp] theorem modChan_heldLost : (s.modChan c f).heldLost = s.heldLost := rfl
@[simp] theorem modChan_msix : (s.modChan c f).msix = s.msix := rfl
@[simp] theorem modChan_msixHeld : (s.modChan c f).msixHeld = s.msixHeld := rfl
@[simp] theorem modChan_notes : (s.modChan c f).notes = s.notes := rfl
@[simp] theorem modChan_hostMem : (s.modChan c f).hostMem = s.hostMem := rfl
@[simp] theorem modChan_heldWb : (s.modChan c f).heldWb = s.heldWb := rfl
@[simp] theorem modChan_ports : (s.modChan c f).ports = s.ports := rfl
@[simp] theorem modChan_beds : (s.modChan c f).beds = s.beds := rfl
@[simp] theorem modChan_lanes : (s.modChan c f).lanes = s.lanes := rfl
@[simp] theorem modChan_now : (s.modChan c f).now = s.now := rfl
@[simp] theorem modChan_free : (s.modChan c f).free = s.free := rfl
@[simp] theorem modChan_acts : (s.modChan c f).acts = s.acts := rfl
end

@[simp] theorem port_modPort_self (p : PortId) (f : Port → Port) : (s.modPort p f).port p = f (s.port p) := by
  simp [State.port, State.modPort, Vector.get_eq_getElem]
theorem port_modPort_ne (p : PortId) (f : Port → Port) (i : PortId) (h : i ≠ p) :
    (s.modPort p f).port i = s.port i := by
  have : p.val ≠ i.val := fun e => h (Fin.ext e.symm)
  simp [State.port, State.modPort, Vector.get_eq_getElem, Vector.getElem_set_ne _ _ this]
theorem port_modPort (p : PortId) (f : Port → Port) (i : PortId) :
    (s.modPort p f).port i = if i = p then f (s.port p) else s.port i := by
  by_cases h : i = p
  · subst h; simp
  · simp [port_modPort_ne _ _ _ _ h, h]
@[simp] theorem bed_modPort (p : PortId) (f : Port → Port) (i : BedId) :
    (s.modPort p f).bed i = s.bed i := rfl
@[simp] theorem lane_modPort (p : PortId) (f : Port → Port) (i : LaneId) :
    (s.modPort p f).lane i = s.lane i := rfl
@[simp] theorem ring_modPort (p : PortId) (f : Port → Port) (i : RingId) :
    (s.modPort p f).ring i = s.ring i := rfl
@[simp] theorem chan_modPort (p : PortId) (f : Port → Port) (i : ChanId) :
    (s.modPort p f).chan i = s.chan i := rfl

@[simp] theorem port_modBed (b : BedId) (f : Bed → Bed) (i : PortId) :
    (s.modBed b f).port i = s.port i := rfl
@[simp] theorem bed_modBed_self (b : BedId) (f : Bed → Bed) : (s.modBed b f).bed b = f (s.bed b) := by
  simp [State.bed, State.modBed, Vector.get_eq_getElem]
theorem bed_modBed_ne (b : BedId) (f : Bed → Bed) (i : BedId) (h : i ≠ b) :
    (s.modBed b f).bed i = s.bed i := by
  have : b.val ≠ i.val := fun e => h (Fin.ext e.symm)
  simp [State.bed, State.modBed, Vector.get_eq_getElem, Vector.getElem_set_ne _ _ this]
theorem bed_modBed (b : BedId) (f : Bed → Bed) (i : BedId) :
    (s.modBed b f).bed i = if i = b then f (s.bed b) else s.bed i := by
  by_cases h : i = b
  · subst h; simp
  · simp [bed_modBed_ne _ _ _ _ h, h]
@[simp] theorem lane_modBed (b : BedId) (f : Bed → Bed) (i : LaneId) :
    (s.modBed b f).lane i = s.lane i := rfl
@[simp] theorem ring_modBed (b : BedId) (f : Bed → Bed) (i : RingId) :
    (s.modBed b f).ring i = s.ring i := rfl
@[simp] theorem chan_modBed (b : BedId) (f : Bed → Bed) (i : ChanId) :
    (s.modBed b f).chan i = s.chan i := rfl

@[simp] theorem port_modLane (l : LaneId) (f : Lane → Lane) (i : PortId) :
    (s.modLane l f).port i = s.port i := rfl
@[simp] theorem bed_modLane (l : LaneId) (f : Lane → Lane) (i : BedId) :
    (s.modLane l f).bed i = s.bed i := rfl
@[simp] theorem lane_modLane_self (l : LaneId) (f : Lane → Lane) : (s.modLane l f).lane l = f (s.lane l) := by
  simp [State.lane, State.modLane, Vector.get_eq_getElem]
theorem lane_modLane_ne (l : LaneId) (f : Lane → Lane) (i : LaneId) (h : i ≠ l) :
    (s.modLane l f).lane i = s.lane i := by
  have : l.val ≠ i.val := fun e => h (Fin.ext e.symm)
  simp [State.lane, State.modLane, Vector.get_eq_getElem, Vector.getElem_set_ne _ _ this]
theorem lane_modLane (l : LaneId) (f : Lane → Lane) (i : LaneId) :
    (s.modLane l f).lane i = if i = l then f (s.lane l) else s.lane i := by
  by_cases h : i = l
  · subst h; simp
  · simp [lane_modLane_ne _ _ _ _ h, h]
@[simp] theorem ring_modLane (l : LaneId) (f : Lane → Lane) (i : RingId) :
    (s.modLane l f).ring i = s.ring i := rfl
@[simp] theorem chan_modLane (l : LaneId) (f : Lane → Lane) (i : ChanId) :
    (s.modLane l f).chan i = s.chan i := rfl

@[simp] theorem port_modRing (r : RingId) (f : Ring → Ring) (i : PortId) :
    (s.modRing r f).port i = s.port i := rfl
@[simp] theorem bed_modRing (r : RingId) (f : Ring → Ring) (i : BedId) :
    (s.modRing r f).bed i = s.bed i := rfl
@[simp] theorem lane_modRing (r : RingId) (f : Ring → Ring) (i : LaneId) :
    (s.modRing r f).lane i = s.lane i := rfl
@[simp] theorem ring_modRing_self (r : RingId) (f : Ring → Ring) : (s.modRing r f).ring r = f (s.ring r) := by
  simp [State.ring, State.modRing, Vector.get_eq_getElem]
theorem ring_modRing_ne (r : RingId) (f : Ring → Ring) (i : RingId) (h : i ≠ r) :
    (s.modRing r f).ring i = s.ring i := by
  have : r.val ≠ i.val := fun e => h (Fin.ext e.symm)
  simp [State.ring, State.modRing, Vector.get_eq_getElem, Vector.getElem_set_ne _ _ this]
theorem ring_modRing (r : RingId) (f : Ring → Ring) (i : RingId) :
    (s.modRing r f).ring i = if i = r then f (s.ring r) else s.ring i := by
  by_cases h : i = r
  · subst h; simp
  · simp [ring_modRing_ne _ _ _ _ h, h]
@[simp] theorem chan_modRing (r : RingId) (f : Ring → Ring) (i : ChanId) :
    (s.modRing r f).chan i = s.chan i := rfl

@[simp] theorem port_modChan (c : ChanId) (f : Chan → Chan) (i : PortId) :
    (s.modChan c f).port i = s.port i := rfl
@[simp] theorem bed_modChan (c : ChanId) (f : Chan → Chan) (i : BedId) :
    (s.modChan c f).bed i = s.bed i := rfl
@[simp] theorem lane_modChan (c : ChanId) (f : Chan → Chan) (i : LaneId) :
    (s.modChan c f).lane i = s.lane i := rfl
@[simp] theorem ring_modChan (c : ChanId) (f : Chan → Chan) (i : RingId) :
    (s.modChan c f).ring i = s.ring i := rfl
@[simp] theorem chan_modChan_self (c : ChanId) (f : Chan → Chan) : (s.modChan c f).chan c = f (s.chan c) := by
  simp [State.chan, State.modChan, Vector.get_eq_getElem]
theorem chan_modChan_ne (c : ChanId) (f : Chan → Chan) (i : ChanId) (h : i ≠ c) :
    (s.modChan c f).chan i = s.chan i := by
  have : c.val ≠ i.val := fun e => h (Fin.ext e.symm)
  simp [State.chan, State.modChan, Vector.get_eq_getElem, Vector.getElem_set_ne _ _ this]
theorem chan_modChan (c : ChanId) (f : Chan → Chan) (i : ChanId) :
    (s.modChan c f).chan i = if i = c then f (s.chan c) else s.chan i := by
  by_cases h : i = c
  · subst h; simp
  · simp [chan_modChan_ne _ _ _ _ h, h]

section
variable (a : Nat) (bs : Bytes)
@[simp] theorem hostWrite_pending : (s.hostWrite a bs).pending = s.pending := rfl
@[simp] theorem hostWrite_pins : (s.hostWrite a bs).pins = s.pins := rfl
@[simp] theorem hostWrite_hub : (s.hostWrite a bs).hub = s.hub := rfl
@[simp] theorem hostWrite_clk : (s.hostWrite a bs).clk = s.clk := rfl
@[simp] theorem hostWrite_sluice : (s.hostWrite a bs).sluice = s.sluice := rfl
@[simp] theorem hostWrite_boot : (s.hostWrite a bs).boot = s.boot := rfl
@[simp] theorem hostWrite_flash : (s.hostWrite a bs).flash = s.flash := rfl
@[simp] theorem hostWrite_cal : (s.hostWrite a bs).cal = s.cal := rfl
@[simp] theorem hostWrite_sec : (s.hostWrite a bs).sec = s.sec := rfl
@[simp] theorem hostWrite_tel : (s.hostWrite a bs).tel = s.tel := rfl
@[simp] theorem hostWrite_chans : (s.hostWrite a bs).chans = s.chans := rfl
@[simp] theorem hostWrite_mbxMem : (s.hostWrite a bs).mbxMem = s.mbxMem := rfl
@[simp] theorem hostWrite_rings : (s.hostWrite a bs).rings = s.rings := rfl
@[simp] theorem hostWrite_cmds : (s.hostWrite a bs).cmds = s.cmds := rfl
@[simp] theorem hostWrite_due : (s.hostWrite a bs).due = s.due := rfl
@[simp] theorem hostWrite_held : (s.hostWrite a bs).held = s.held := rfl
@[simp] theorem hostWrite_heldLost : (s.hostWrite a bs).heldLost = s.heldLost := rfl
@[simp] theorem hostWrite_msix : (s.hostWrite a bs).msix = s.msix := rfl
@[simp] theorem hostWrite_msixHeld : (s.hostWrite a bs).msixHeld = s.msixHeld := rfl
@[simp] theorem hostWrite_notes : (s.hostWrite a bs).notes = s.notes := rfl
@[simp] theorem hostWrite_heldWb : (s.hostWrite a bs).heldWb = s.heldWb := rfl
@[simp] theorem hostWrite_ports : (s.hostWrite a bs).ports = s.ports := rfl
@[simp] theorem hostWrite_beds : (s.hostWrite a bs).beds = s.beds := rfl
@[simp] theorem hostWrite_lanes : (s.hostWrite a bs).lanes = s.lanes := rfl
@[simp] theorem hostWrite_now : (s.hostWrite a bs).now = s.now := rfl
@[simp] theorem hostWrite_free : (s.hostWrite a bs).free = s.free := rfl
@[simp] theorem hostWrite_acts : (s.hostWrite a bs).acts = s.acts := rfl
@[simp] theorem port_hostWrite (i : PortId) : (s.hostWrite a bs).port i = s.port i := rfl
@[simp] theorem bed_hostWrite (i : BedId) : (s.hostWrite a bs).bed i = s.bed i := rfl
@[simp] theorem lane_hostWrite (i : LaneId) : (s.hostWrite a bs).lane i = s.lane i := rfl
@[simp] theorem ring_hostWrite (i : RingId) : (s.hostWrite a bs).ring i = s.ring i := rfl
@[simp] theorem chan_hostWrite (i : ChanId) : (s.hostWrite a bs).chan i = s.chan i := rfl
end

section
variable (a : Nat) (bs : Bytes)
@[simp] theorem flashWrite_pending : (s.flashWrite a bs).pending = s.pending := rfl
@[simp] theorem flashWrite_pins : (s.flashWrite a bs).pins = s.pins := rfl
@[simp] theorem flashWrite_hub : (s.flashWrite a bs).hub = s.hub := rfl
@[simp] theorem flashWrite_clk : (s.flashWrite a bs).clk = s.clk := rfl
@[simp] theorem flashWrite_sluice : (s.flashWrite a bs).sluice = s.sluice := rfl
@[simp] theorem flashWrite_boot : (s.flashWrite a bs).boot = s.boot := rfl
@[simp] theorem flashWrite_cal : (s.flashWrite a bs).cal = s.cal := rfl
@[simp] theorem flashWrite_sec : (s.flashWrite a bs).sec = s.sec := rfl
@[simp] theorem flashWrite_tel : (s.flashWrite a bs).tel = s.tel := rfl
@[simp] theorem flashWrite_chans : (s.flashWrite a bs).chans = s.chans := rfl
@[simp] theorem flashWrite_mbxMem : (s.flashWrite a bs).mbxMem = s.mbxMem := rfl
@[simp] theorem flashWrite_rings : (s.flashWrite a bs).rings = s.rings := rfl
@[simp] theorem flashWrite_cmds : (s.flashWrite a bs).cmds = s.cmds := rfl
@[simp] theorem flashWrite_due : (s.flashWrite a bs).due = s.due := rfl
@[simp] theorem flashWrite_held : (s.flashWrite a bs).held = s.held := rfl
@[simp] theorem flashWrite_heldLost : (s.flashWrite a bs).heldLost = s.heldLost := rfl
@[simp] theorem flashWrite_msix : (s.flashWrite a bs).msix = s.msix := rfl
@[simp] theorem flashWrite_msixHeld : (s.flashWrite a bs).msixHeld = s.msixHeld := rfl
@[simp] theorem flashWrite_notes : (s.flashWrite a bs).notes = s.notes := rfl
@[simp] theorem flashWrite_hostMem : (s.flashWrite a bs).hostMem = s.hostMem := rfl
@[simp] theorem flashWrite_heldWb : (s.flashWrite a bs).heldWb = s.heldWb := rfl
@[simp] theorem flashWrite_ports : (s.flashWrite a bs).ports = s.ports := rfl
@[simp] theorem flashWrite_beds : (s.flashWrite a bs).beds = s.beds := rfl
@[simp] theorem flashWrite_lanes : (s.flashWrite a bs).lanes = s.lanes := rfl
@[simp] theorem flashWrite_now : (s.flashWrite a bs).now = s.now := rfl
@[simp] theorem flashWrite_free : (s.flashWrite a bs).free = s.free := rfl
@[simp] theorem flashWrite_acts : (s.flashWrite a bs).acts = s.acts := rfl
@[simp] theorem port_flashWrite (i : PortId) : (s.flashWrite a bs).port i = s.port i := rfl
@[simp] theorem bed_flashWrite (i : BedId) : (s.flashWrite a bs).bed i = s.bed i := rfl
@[simp] theorem lane_flashWrite (i : LaneId) : (s.flashWrite a bs).lane i = s.lane i := rfl
@[simp] theorem ring_flashWrite (i : RingId) : (s.flashWrite a bs).ring i = s.ring i := rfl
@[simp] theorem chan_flashWrite (i : ChanId) : (s.flashWrite a bs).chan i = s.chan i := rfl
end

section
variable (a n : Nat)
@[simp] theorem flashErase_pending : (s.flashErase a n).pending = s.pending := rfl
@[simp] theorem flashErase_pins : (s.flashErase a n).pins = s.pins := rfl
@[simp] theorem flashErase_hub : (s.flashErase a n).hub = s.hub := rfl
@[simp] theorem flashErase_clk : (s.flashErase a n).clk = s.clk := rfl
@[simp] theorem flashErase_sluice : (s.flashErase a n).sluice = s.sluice := rfl
@[simp] theorem flashErase_boot : (s.flashErase a n).boot = s.boot := rfl
@[simp] theorem flashErase_cal : (s.flashErase a n).cal = s.cal := rfl
@[simp] theorem flashErase_sec : (s.flashErase a n).sec = s.sec := rfl
@[simp] theorem flashErase_tel : (s.flashErase a n).tel = s.tel := rfl
@[simp] theorem flashErase_chans : (s.flashErase a n).chans = s.chans := rfl
@[simp] theorem flashErase_mbxMem : (s.flashErase a n).mbxMem = s.mbxMem := rfl
@[simp] theorem flashErase_rings : (s.flashErase a n).rings = s.rings := rfl
@[simp] theorem flashErase_cmds : (s.flashErase a n).cmds = s.cmds := rfl
@[simp] theorem flashErase_due : (s.flashErase a n).due = s.due := rfl
@[simp] theorem flashErase_held : (s.flashErase a n).held = s.held := rfl
@[simp] theorem flashErase_heldLost : (s.flashErase a n).heldLost = s.heldLost := rfl
@[simp] theorem flashErase_msix : (s.flashErase a n).msix = s.msix := rfl
@[simp] theorem flashErase_msixHeld : (s.flashErase a n).msixHeld = s.msixHeld := rfl
@[simp] theorem flashErase_notes : (s.flashErase a n).notes = s.notes := rfl
@[simp] theorem flashErase_hostMem : (s.flashErase a n).hostMem = s.hostMem := rfl
@[simp] theorem flashErase_heldWb : (s.flashErase a n).heldWb = s.heldWb := rfl
@[simp] theorem flashErase_ports : (s.flashErase a n).ports = s.ports := rfl
@[simp] theorem flashErase_beds : (s.flashErase a n).beds = s.beds := rfl
@[simp] theorem flashErase_lanes : (s.flashErase a n).lanes = s.lanes := rfl
@[simp] theorem flashErase_now : (s.flashErase a n).now = s.now := rfl
@[simp] theorem flashErase_free : (s.flashErase a n).free = s.free := rfl
@[simp] theorem flashErase_acts : (s.flashErase a n).acts = s.acts := rfl
@[simp] theorem port_flashErase (i : PortId) : (s.flashErase a n).port i = s.port i := rfl
@[simp] theorem bed_flashErase (i : BedId) : (s.flashErase a n).bed i = s.bed i := rfl
@[simp] theorem lane_flashErase (i : LaneId) : (s.flashErase a n).lane i = s.lane i := rfl
@[simp] theorem ring_flashErase (i : RingId) : (s.flashErase a n).ring i = s.ring i := rfl
@[simp] theorem chan_flashErase (i : ChanId) : (s.flashErase a n).chan i = s.chan i := rfl
end

section
variable (c : Ev) (e : Elem) (fs : List (Nat × Nat × Nat))
@[simp] theorem raise_pending : (s.raise c e fs).pending = s.pending := rfl
@[simp] theorem raise_pins : (s.raise c e fs).pins = s.pins := rfl
@[simp] theorem raise_hub : (s.raise c e fs).hub = s.hub := rfl
@[simp] theorem raise_clk : (s.raise c e fs).clk = s.clk := rfl
@[simp] theorem raise_sluice : (s.raise c e fs).sluice = s.sluice := rfl
@[simp] theorem raise_boot : (s.raise c e fs).boot = s.boot := rfl
@[simp] theorem raise_flash : (s.raise c e fs).flash = s.flash := rfl
@[simp] theorem raise_cal : (s.raise c e fs).cal = s.cal := rfl
@[simp] theorem raise_sec : (s.raise c e fs).sec = s.sec := rfl
@[simp] theorem raise_tel : (s.raise c e fs).tel = s.tel := rfl
@[simp] theorem raise_chans : (s.raise c e fs).chans = s.chans := rfl
@[simp] theorem raise_mbxMem : (s.raise c e fs).mbxMem = s.mbxMem := rfl
@[simp] theorem raise_rings : (s.raise c e fs).rings = s.rings := rfl
@[simp] theorem raise_cmds : (s.raise c e fs).cmds = s.cmds := rfl
@[simp] theorem raise_held : (s.raise c e fs).held = s.held := rfl
@[simp] theorem raise_heldLost : (s.raise c e fs).heldLost = s.heldLost := rfl
@[simp] theorem raise_msix : (s.raise c e fs).msix = s.msix := rfl
@[simp] theorem raise_msixHeld : (s.raise c e fs).msixHeld = s.msixHeld := rfl
@[simp] theorem raise_notes : (s.raise c e fs).notes = s.notes := rfl
@[simp] theorem raise_hostMem : (s.raise c e fs).hostMem = s.hostMem := rfl
@[simp] theorem raise_heldWb : (s.raise c e fs).heldWb = s.heldWb := rfl
@[simp] theorem raise_ports : (s.raise c e fs).ports = s.ports := rfl
@[simp] theorem raise_beds : (s.raise c e fs).beds = s.beds := rfl
@[simp] theorem raise_lanes : (s.raise c e fs).lanes = s.lanes := rfl
@[simp] theorem raise_now : (s.raise c e fs).now = s.now := rfl
@[simp] theorem raise_free : (s.raise c e fs).free = s.free := rfl
@[simp] theorem raise_acts : (s.raise c e fs).acts = s.acts := rfl
@[simp] theorem port_raise (i : PortId) : (s.raise c e fs).port i = s.port i := rfl
@[simp] theorem bed_raise (i : BedId) : (s.raise c e fs).bed i = s.bed i := rfl
@[simp] theorem lane_raise (i : LaneId) : (s.raise c e fs).lane i = s.lane i := rfl
@[simp] theorem ring_raise (i : RingId) : (s.raise c e fs).ring i = s.ring i := rfl
@[simp] theorem chan_raise (i : ChanId) : (s.raise c e fs).chan i = s.chan i := rfl
end

section
variable (k : Event → Bool)
@[simp] theorem unraise_pending : (s.unraise k).pending = s.pending := rfl
@[simp] theorem unraise_pins : (s.unraise k).pins = s.pins := rfl
@[simp] theorem unraise_hub : (s.unraise k).hub = s.hub := rfl
@[simp] theorem unraise_clk : (s.unraise k).clk = s.clk := rfl
@[simp] theorem unraise_sluice : (s.unraise k).sluice = s.sluice := rfl
@[simp] theorem unraise_boot : (s.unraise k).boot = s.boot := rfl
@[simp] theorem unraise_flash : (s.unraise k).flash = s.flash := rfl
@[simp] theorem unraise_cal : (s.unraise k).cal = s.cal := rfl
@[simp] theorem unraise_sec : (s.unraise k).sec = s.sec := rfl
@[simp] theorem unraise_tel : (s.unraise k).tel = s.tel := rfl
@[simp] theorem unraise_chans : (s.unraise k).chans = s.chans := rfl
@[simp] theorem unraise_mbxMem : (s.unraise k).mbxMem = s.mbxMem := rfl
@[simp] theorem unraise_rings : (s.unraise k).rings = s.rings := rfl
@[simp] theorem unraise_cmds : (s.unraise k).cmds = s.cmds := rfl
@[simp] theorem unraise_held : (s.unraise k).held = s.held := rfl
@[simp] theorem unraise_heldLost : (s.unraise k).heldLost = s.heldLost := rfl
@[simp] theorem unraise_msix : (s.unraise k).msix = s.msix := rfl
@[simp] theorem unraise_msixHeld : (s.unraise k).msixHeld = s.msixHeld := rfl
@[simp] theorem unraise_notes : (s.unraise k).notes = s.notes := rfl
@[simp] theorem unraise_hostMem : (s.unraise k).hostMem = s.hostMem := rfl
@[simp] theorem unraise_heldWb : (s.unraise k).heldWb = s.heldWb := rfl
@[simp] theorem unraise_ports : (s.unraise k).ports = s.ports := rfl
@[simp] theorem unraise_beds : (s.unraise k).beds = s.beds := rfl
@[simp] theorem unraise_lanes : (s.unraise k).lanes = s.lanes := rfl
@[simp] theorem unraise_now : (s.unraise k).now = s.now := rfl
@[simp] theorem unraise_free : (s.unraise k).free = s.free := rfl
@[simp] theorem unraise_acts : (s.unraise k).acts = s.acts := rfl
@[simp] theorem port_unraise (i : PortId) : (s.unraise k).port i = s.port i := rfl
@[simp] theorem bed_unraise (i : BedId) : (s.unraise k).bed i = s.bed i := rfl
@[simp] theorem lane_unraise (i : LaneId) : (s.unraise k).lane i = s.lane i := rfl
@[simp] theorem ring_unraise (i : RingId) : (s.unraise k).ring i = s.ring i := rfl
@[simp] theorem chan_unraise (i : ChanId) : (s.unraise k).chan i = s.chan i := rfl
end

section
@[simp] theorem takeFree_pending : (s.takeFree).pending = s.pending := rfl
@[simp] theorem takeFree_pins : (s.takeFree).pins = s.pins := rfl
@[simp] theorem takeFree_hub : (s.takeFree).hub = s.hub := rfl
@[simp] theorem takeFree_clk : (s.takeFree).clk = s.clk := rfl
@[simp] theorem takeFree_sluice : (s.takeFree).sluice = s.sluice := rfl
@[simp] theorem takeFree_boot : (s.takeFree).boot = s.boot := rfl
@[simp] theorem takeFree_flash : (s.takeFree).flash = s.flash := rfl
@[simp] theorem takeFree_cal : (s.takeFree).cal = s.cal := rfl
@[simp] theorem takeFree_sec : (s.takeFree).sec = s.sec := rfl
@[simp] theorem takeFree_tel : (s.takeFree).tel = s.tel := rfl
@[simp] theorem takeFree_chans : (s.takeFree).chans = s.chans := rfl
@[simp] theorem takeFree_mbxMem : (s.takeFree).mbxMem = s.mbxMem := rfl
@[simp] theorem takeFree_rings : (s.takeFree).rings = s.rings := rfl
@[simp] theorem takeFree_cmds : (s.takeFree).cmds = s.cmds := rfl
@[simp] theorem takeFree_due : (s.takeFree).due = s.due := rfl
@[simp] theorem takeFree_held : (s.takeFree).held = s.held := rfl
@[simp] theorem takeFree_heldLost : (s.takeFree).heldLost = s.heldLost := rfl
@[simp] theorem takeFree_msix : (s.takeFree).msix = s.msix := rfl
@[simp] theorem takeFree_msixHeld : (s.takeFree).msixHeld = s.msixHeld := rfl
@[simp] theorem takeFree_notes : (s.takeFree).notes = s.notes := rfl
@[simp] theorem takeFree_hostMem : (s.takeFree).hostMem = s.hostMem := rfl
@[simp] theorem takeFree_heldWb : (s.takeFree).heldWb = s.heldWb := rfl
@[simp] theorem takeFree_ports : (s.takeFree).ports = s.ports := rfl
@[simp] theorem takeFree_beds : (s.takeFree).beds = s.beds := rfl
@[simp] theorem takeFree_lanes : (s.takeFree).lanes = s.lanes := rfl
@[simp] theorem takeFree_now : (s.takeFree).now = s.now := rfl
@[simp] theorem takeFree_acts : (s.takeFree).acts = s.acts := rfl
@[simp] theorem port_takeFree (i : PortId) : (s.takeFree).port i = s.port i := rfl
@[simp] theorem bed_takeFree (i : BedId) : (s.takeFree).bed i = s.bed i := rfl
@[simp] theorem lane_takeFree (i : LaneId) : (s.takeFree).lane i = s.lane i := rfl
@[simp] theorem ring_takeFree (i : RingId) : (s.takeFree).ring i = s.ring i := rfl
@[simp] theorem chan_takeFree (i : ChanId) : (s.takeFree).chan i = s.chan i := rfl
end

section
variable (q : CmdRec → Bool) (e : Elem) (st : ST)
@[simp] theorem finishWhere_pending : (s.finishWhere q e st).pending = s.pending := rfl
@[simp] theorem finishWhere_pins : (s.finishWhere q e st).pins = s.pins := rfl
@[simp] theorem finishWhere_hub : (s.finishWhere q e st).hub = s.hub := rfl
@[simp] theorem finishWhere_clk : (s.finishWhere q e st).clk = s.clk := rfl
@[simp] theorem finishWhere_sluice : (s.finishWhere q e st).sluice = s.sluice := rfl
@[simp] theorem finishWhere_boot : (s.finishWhere q e st).boot = s.boot := rfl
@[simp] theorem finishWhere_flash : (s.finishWhere q e st).flash = s.flash := rfl
@[simp] theorem finishWhere_cal : (s.finishWhere q e st).cal = s.cal := rfl
@[simp] theorem finishWhere_sec : (s.finishWhere q e st).sec = s.sec := rfl
@[simp] theorem finishWhere_tel : (s.finishWhere q e st).tel = s.tel := rfl
@[simp] theorem finishWhere_chans : (s.finishWhere q e st).chans = s.chans := rfl
@[simp] theorem finishWhere_mbxMem : (s.finishWhere q e st).mbxMem = s.mbxMem := rfl
@[simp] theorem finishWhere_rings : (s.finishWhere q e st).rings = s.rings := rfl
@[simp] theorem finishWhere_due : (s.finishWhere q e st).due = s.due := rfl
@[simp] theorem finishWhere_held : (s.finishWhere q e st).held = s.held := rfl
@[simp] theorem finishWhere_heldLost : (s.finishWhere q e st).heldLost = s.heldLost := rfl
@[simp] theorem finishWhere_msix : (s.finishWhere q e st).msix = s.msix := rfl
@[simp] theorem finishWhere_msixHeld : (s.finishWhere q e st).msixHeld = s.msixHeld := rfl
@[simp] theorem finishWhere_notes : (s.finishWhere q e st).notes = s.notes := rfl
@[simp] theorem finishWhere_hostMem : (s.finishWhere q e st).hostMem = s.hostMem := rfl
@[simp] theorem finishWhere_heldWb : (s.finishWhere q e st).heldWb = s.heldWb := rfl
@[simp] theorem finishWhere_ports : (s.finishWhere q e st).ports = s.ports := rfl
@[simp] theorem finishWhere_beds : (s.finishWhere q e st).beds = s.beds := rfl
@[simp] theorem finishWhere_lanes : (s.finishWhere q e st).lanes = s.lanes := rfl
@[simp] theorem finishWhere_now : (s.finishWhere q e st).now = s.now := rfl
@[simp] theorem finishWhere_free : (s.finishWhere q e st).free = s.free := rfl
@[simp] theorem finishWhere_acts : (s.finishWhere q e st).acts = s.acts := rfl
@[simp] theorem port_finishWhere (i : PortId) : (s.finishWhere q e st).port i = s.port i := rfl
@[simp] theorem bed_finishWhere (i : BedId) : (s.finishWhere q e st).bed i = s.bed i := rfl
@[simp] theorem lane_finishWhere (i : LaneId) : (s.finishWhere q e st).lane i = s.lane i := rfl
@[simp] theorem ring_finishWhere (i : RingId) : (s.finishWhere q e st).ring i = s.ring i := rfl
@[simp] theorem chan_finishWhere (i : ChanId) : (s.finishWhere q e st).chan i = s.chan i := rfl
end

section
variable (k : CmdKey) (e : Elem) (st : ST)
@[simp] theorem finish_pending : (s.finish k e st).pending = s.pending := rfl
@[simp] theorem finish_pins : (s.finish k e st).pins = s.pins := rfl
@[simp] theorem finish_hub : (s.finish k e st).hub = s.hub := rfl
@[simp] theorem finish_clk : (s.finish k e st).clk = s.clk := rfl
@[simp] theorem finish_sluice : (s.finish k e st).sluice = s.sluice := rfl
@[simp] theorem finish_boot : (s.finish k e st).boot = s.boot := rfl
@[simp] theorem finish_flash : (s.finish k e st).flash = s.flash := rfl
@[simp] theorem finish_cal : (s.finish k e st).cal = s.cal := rfl
@[simp] theorem finish_sec : (s.finish k e st).sec = s.sec := rfl
@[simp] theorem finish_tel : (s.finish k e st).tel = s.tel := rfl
@[simp] theorem finish_chans : (s.finish k e st).chans = s.chans := rfl
@[simp] theorem finish_mbxMem : (s.finish k e st).mbxMem = s.mbxMem := rfl
@[simp] theorem finish_rings : (s.finish k e st).rings = s.rings := rfl
@[simp] theorem finish_due : (s.finish k e st).due = s.due := rfl
@[simp] theorem finish_held : (s.finish k e st).held = s.held := rfl
@[simp] theorem finish_heldLost : (s.finish k e st).heldLost = s.heldLost := rfl
@[simp] theorem finish_msix : (s.finish k e st).msix = s.msix := rfl
@[simp] theorem finish_msixHeld : (s.finish k e st).msixHeld = s.msixHeld := rfl
@[simp] theorem finish_notes : (s.finish k e st).notes = s.notes := rfl
@[simp] theorem finish_hostMem : (s.finish k e st).hostMem = s.hostMem := rfl
@[simp] theorem finish_heldWb : (s.finish k e st).heldWb = s.heldWb := rfl
@[simp] theorem finish_ports : (s.finish k e st).ports = s.ports := rfl
@[simp] theorem finish_beds : (s.finish k e st).beds = s.beds := rfl
@[simp] theorem finish_lanes : (s.finish k e st).lanes = s.lanes := rfl
@[simp] theorem finish_now : (s.finish k e st).now = s.now := rfl
@[simp] theorem finish_free : (s.finish k e st).free = s.free := rfl
@[simp] theorem finish_acts : (s.finish k e st).acts = s.acts := rfl
@[simp] theorem port_finish (i : PortId) : (s.finish k e st).port i = s.port i := rfl
@[simp] theorem bed_finish (i : BedId) : (s.finish k e st).bed i = s.bed i := rfl
@[simp] theorem lane_finish (i : LaneId) : (s.finish k e st).lane i = s.lane i := rfl
@[simp] theorem ring_finish (i : RingId) : (s.finish k e st).ring i = s.ring i := rfl
@[simp] theorem chan_finish (i : ChanId) : (s.finish k e st).chan i = s.chan i := rfl
end

section
variable (o : Op) (e : Elem) (st : ST)
@[simp] theorem finishOp_pending : (s.finishOp o e st).pending = s.pending := rfl
@[simp] theorem finishOp_pins : (s.finishOp o e st).pins = s.pins := rfl
@[simp] theorem finishOp_hub : (s.finishOp o e st).hub = s.hub := rfl
@[simp] theorem finishOp_clk : (s.finishOp o e st).clk = s.clk := rfl
@[simp] theorem finishOp_sluice : (s.finishOp o e st).sluice = s.sluice := rfl
@[simp] theorem finishOp_boot : (s.finishOp o e st).boot = s.boot := rfl
@[simp] theorem finishOp_flash : (s.finishOp o e st).flash = s.flash := rfl
@[simp] theorem finishOp_cal : (s.finishOp o e st).cal = s.cal := rfl
@[simp] theorem finishOp_sec : (s.finishOp o e st).sec = s.sec := rfl
@[simp] theorem finishOp_tel : (s.finishOp o e st).tel = s.tel := rfl
@[simp] theorem finishOp_chans : (s.finishOp o e st).chans = s.chans := rfl
@[simp] theorem finishOp_mbxMem : (s.finishOp o e st).mbxMem = s.mbxMem := rfl
@[simp] theorem finishOp_rings : (s.finishOp o e st).rings = s.rings := rfl
@[simp] theorem finishOp_due : (s.finishOp o e st).due = s.due := rfl
@[simp] theorem finishOp_held : (s.finishOp o e st).held = s.held := rfl
@[simp] theorem finishOp_heldLost : (s.finishOp o e st).heldLost = s.heldLost := rfl
@[simp] theorem finishOp_msix : (s.finishOp o e st).msix = s.msix := rfl
@[simp] theorem finishOp_msixHeld : (s.finishOp o e st).msixHeld = s.msixHeld := rfl
@[simp] theorem finishOp_notes : (s.finishOp o e st).notes = s.notes := rfl
@[simp] theorem finishOp_hostMem : (s.finishOp o e st).hostMem = s.hostMem := rfl
@[simp] theorem finishOp_heldWb : (s.finishOp o e st).heldWb = s.heldWb := rfl
@[simp] theorem finishOp_ports : (s.finishOp o e st).ports = s.ports := rfl
@[simp] theorem finishOp_beds : (s.finishOp o e st).beds = s.beds := rfl
@[simp] theorem finishOp_lanes : (s.finishOp o e st).lanes = s.lanes := rfl
@[simp] theorem finishOp_now : (s.finishOp o e st).now = s.now := rfl
@[simp] theorem finishOp_free : (s.finishOp o e st).free = s.free := rfl
@[simp] theorem finishOp_acts : (s.finishOp o e st).acts = s.acts := rfl
@[simp] theorem port_finishOp (i : PortId) : (s.finishOp o e st).port i = s.port i := rfl
@[simp] theorem bed_finishOp (i : BedId) : (s.finishOp o e st).bed i = s.bed i := rfl
@[simp] theorem lane_finishOp (i : LaneId) : (s.finishOp o e st).lane i = s.lane i := rfl
@[simp] theorem ring_finishOp (i : RingId) : (s.finishOp o e st).ring i = s.ring i := rfl
@[simp] theorem chan_finishOp (i : ChanId) : (s.finishOp o e st).chan i = s.chan i := rfl
end

section
variable (q : Elem → Bool)
@[simp] theorem abortTargets_pending : (s.abortTargets q).pending = s.pending := rfl
@[simp] theorem abortTargets_pins : (s.abortTargets q).pins = s.pins := rfl
@[simp] theorem abortTargets_hub : (s.abortTargets q).hub = s.hub := rfl
@[simp] theorem abortTargets_clk : (s.abortTargets q).clk = s.clk := rfl
@[simp] theorem abortTargets_sluice : (s.abortTargets q).sluice = s.sluice := rfl
@[simp] theorem abortTargets_boot : (s.abortTargets q).boot = s.boot := rfl
@[simp] theorem abortTargets_flash : (s.abortTargets q).flash = s.flash := rfl
@[simp] theorem abortTargets_cal : (s.abortTargets q).cal = s.cal := rfl
@[simp] theorem abortTargets_sec : (s.abortTargets q).sec = s.sec := rfl
@[simp] theorem abortTargets_tel : (s.abortTargets q).tel = s.tel := rfl
@[simp] theorem abortTargets_chans : (s.abortTargets q).chans = s.chans := rfl
@[simp] theorem abortTargets_mbxMem : (s.abortTargets q).mbxMem = s.mbxMem := rfl
@[simp] theorem abortTargets_rings : (s.abortTargets q).rings = s.rings := rfl
@[simp] theorem abortTargets_due : (s.abortTargets q).due = s.due := rfl
@[simp] theorem abortTargets_held : (s.abortTargets q).held = s.held := rfl
@[simp] theorem abortTargets_heldLost : (s.abortTargets q).heldLost = s.heldLost := rfl
@[simp] theorem abortTargets_msix : (s.abortTargets q).msix = s.msix := rfl
@[simp] theorem abortTargets_msixHeld : (s.abortTargets q).msixHeld = s.msixHeld := rfl
@[simp] theorem abortTargets_notes : (s.abortTargets q).notes = s.notes := rfl
@[simp] theorem abortTargets_hostMem : (s.abortTargets q).hostMem = s.hostMem := rfl
@[simp] theorem abortTargets_heldWb : (s.abortTargets q).heldWb = s.heldWb := rfl
@[simp] theorem abortTargets_ports : (s.abortTargets q).ports = s.ports := rfl
@[simp] theorem abortTargets_beds : (s.abortTargets q).beds = s.beds := rfl
@[simp] theorem abortTargets_lanes : (s.abortTargets q).lanes = s.lanes := rfl
@[simp] theorem abortTargets_now : (s.abortTargets q).now = s.now := rfl
@[simp] theorem abortTargets_free : (s.abortTargets q).free = s.free := rfl
@[simp] theorem abortTargets_acts : (s.abortTargets q).acts = s.acts := rfl
@[simp] theorem port_abortTargets (i : PortId) : (s.abortTargets q).port i = s.port i := rfl
@[simp] theorem bed_abortTargets (i : BedId) : (s.abortTargets q).bed i = s.bed i := rfl
@[simp] theorem lane_abortTargets (i : LaneId) : (s.abortTargets q).lane i = s.lane i := rfl
@[simp] theorem ring_abortTargets (i : RingId) : (s.abortTargets q).ring i = s.ring i := rfl
@[simp] theorem chan_abortTargets (i : ChanId) : (s.abortTargets q).chan i = s.chan i := rfl
end

/-- What a command's effect leaves: the queue and the model's time are the step's. -/
theorem answer_next (s t u : State) (h : answer s t = .next u) :
    u = { t with pending := s.pending, now := s.now } := by
  simp only [answer, Host.Outcome.next.injEq] at h
  exact h.symm

/-- onLive always goes on, by its effect where the device is live and unchanged where not. -/
theorem onLive_eq (s : State) (f : State → State) :
    onLive s f = .next { (if s.live then f s else s) with pending := s.pending, now := s.now } := rfl

/-- Whatever onLive answers keeps the queue and the time. -/
theorem onLive_frame (s t : State) (f : State → State) (h : onLive s f = .next t) :
    t.pending = s.pending ∧ t.now = s.now := by
  rw [onLive_eq, Host.Outcome.next.injEq] at h
  subst h
  exact ⟨rfl, rfl⟩

/-- A device that is not live takes no effect. -/
theorem onLive_off (s : State) (f : State → State) (h : s.live = false) : onLive s f = .next s := by
  simp [onLive, answer, h]

/-- An effect that belongs to the next tick leaves the model's time. -/
@[simp] theorem inNextTick_now (f : State → State) : (inNextTick f s).now = s.now := rfl

end Sys2Proof.Machine
end

