-- ==== Sys2Proof/Laws/Frames.lean ====
section
/-! SUPPORT.
What each operation over the state leaves alone: one lemma for each operation, a field of State after
another; for the operations that take an operation, under the same claim for that one. -/

namespace Sys2Proof.Machine

@[simp] theorem ite_pins (c : Prop) [Decidable c] (a b : State) :
    (if c then a else b).pins = if c then a.pins else b.pins := by split <;> rfl

@[simp] theorem ite_hub (c : Prop) [Decidable c] (a b : State) :
    (if c then a else b).hub = if c then a.hub else b.hub := by split <;> rfl

@[simp] theorem ite_clk (c : Prop) [Decidable c] (a b : State) :
    (if c then a else b).clk = if c then a.clk else b.clk := by split <;> rfl

@[simp] theorem ite_sluice (c : Prop) [Decidable c] (a b : State) :
    (if c then a else b).sluice = if c then a.sluice else b.sluice := by split <;> rfl

@[simp] theorem ite_boot (c : Prop) [Decidable c] (a b : State) :
    (if c then a else b).boot = if c then a.boot else b.boot := by split <;> rfl

@[simp] theorem ite_flash (c : Prop) [Decidable c] (a b : State) :
    (if c then a else b).flash = if c then a.flash else b.flash := by split <;> rfl

@[simp] theorem ite_sec (c : Prop) [Decidable c] (a b : State) :
    (if c then a else b).sec = if c then a.sec else b.sec := by split <;> rfl

@[simp] theorem ite_tel (c : Prop) [Decidable c] (a b : State) :
    (if c then a else b).tel = if c then a.tel else b.tel := by split <;> rfl

@[simp] theorem ite_chans (c : Prop) [Decidable c] (a b : State) :
    (if c then a else b).chans = if c then a.chans else b.chans := by split <;> rfl

@[simp] theorem ite_mbxMem (c : Prop) [Decidable c] (a b : State) :
    (if c then a else b).mbxMem = if c then a.mbxMem else b.mbxMem := by split <;> rfl

@[simp] theorem ite_rings (c : Prop) [Decidable c] (a b : State) :
    (if c then a else b).rings = if c then a.rings else b.rings := by split <;> rfl

@[simp] theorem ite_hostMem (c : Prop) [Decidable c] (a b : State) :
    (if c then a else b).hostMem = if c then a.hostMem else b.hostMem := by split <;> rfl

@[simp] theorem ite_ports (c : Prop) [Decidable c] (a b : State) :
    (if c then a else b).ports = if c then a.ports else b.ports := by split <;> rfl

@[simp] theorem ite_beds (c : Prop) [Decidable c] (a b : State) :
    (if c then a else b).beds = if c then a.beds else b.beds := by split <;> rfl

@[simp] theorem ite_lanes (c : Prop) [Decidable c] (a b : State) :
    (if c then a else b).lanes = if c then a.lanes else b.lanes := by split <;> rfl

@[simp] theorem ite_now (c : Prop) [Decidable c] (a b : State) :
    (if c then a else b).now = if c then a.now else b.now := by split <;> rfl

@[simp] theorem ite_free (c : Prop) [Decidable c] (a b : State) :
    (if c then a else b).free = if c then a.free else b.free := by split <;> rfl

@[simp] theorem ite_pending (c : Prop) [Decidable c] (a b : State) :
    (if c then a else b).pending = if c then a.pending else b.pending := by split <;> rfl

@[simp] theorem forAll_pins {α : Type} (xs : List α) (g : α → State → State) (s : State)
    (h : (fun x t => (g x t).pins) = fun (_ : α) t => t.pins) : (forAll xs g s).pins = s.pins := by
  unfold forAll
  induction xs generalizing s with
  | nil => rfl
  | cons x xs ih => exact (ih _).trans (congrFun (congrFun h x) s)

@[simp] theorem forAll_hub {α : Type} (xs : List α) (g : α → State → State) (s : State)
    (h : (fun x t => (g x t).hub) = fun (_ : α) t => t.hub) : (forAll xs g s).hub = s.hub := by
  unfold forAll
  induction xs generalizing s with
  | nil => rfl
  | cons x xs ih => exact (ih _).trans (congrFun (congrFun h x) s)

@[simp] theorem forAll_clk {α : Type} (xs : List α) (g : α → State → State) (s : State)
    (h : (fun x t => (g x t).clk) = fun (_ : α) t => t.clk) : (forAll xs g s).clk = s.clk := by
  unfold forAll
  induction xs generalizing s with
  | nil => rfl
  | cons x xs ih => exact (ih _).trans (congrFun (congrFun h x) s)

@[simp] theorem forAll_sluice {α : Type} (xs : List α) (g : α → State → State) (s : State)
    (h : (fun x t => (g x t).sluice) = fun (_ : α) t => t.sluice) : (forAll xs g s).sluice = s.sluice := by
  unfold forAll
  induction xs generalizing s with
  | nil => rfl
  | cons x xs ih => exact (ih _).trans (congrFun (congrFun h x) s)

@[simp] theorem forAll_boot {α : Type} (xs : List α) (g : α → State → State) (s : State)
    (h : (fun x t => (g x t).boot) = fun (_ : α) t => t.boot) : (forAll xs g s).boot = s.boot := by
  unfold forAll
  induction xs generalizing s with
  | nil => rfl
  | cons x xs ih => exact (ih _).trans (congrFun (congrFun h x) s)

@[simp] theorem forAll_flash {α : Type} (xs : List α) (g : α → State → State) (s : State)
    (h : (fun x t => (g x t).flash) = fun (_ : α) t => t.flash) : (forAll xs g s).flash = s.flash := by
  unfold forAll
  induction xs generalizing s with
  | nil => rfl
  | cons x xs ih => exact (ih _).trans (congrFun (congrFun h x) s)

@[simp] theorem forAll_sec {α : Type} (xs : List α) (g : α → State → State) (s : State)
    (h : (fun x t => (g x t).sec) = fun (_ : α) t => t.sec) : (forAll xs g s).sec = s.sec := by
  unfold forAll
  induction xs generalizing s with
  | nil => rfl
  | cons x xs ih => exact (ih _).trans (congrFun (congrFun h x) s)

@[simp] theorem forAll_tel {α : Type} (xs : List α) (g : α → State → State) (s : State)
    (h : (fun x t => (g x t).tel) = fun (_ : α) t => t.tel) : (forAll xs g s).tel = s.tel := by
  unfold forAll
  induction xs generalizing s with
  | nil => rfl
  | cons x xs ih => exact (ih _).trans (congrFun (congrFun h x) s)

@[simp] theorem forAll_chans {α : Type} (xs : List α) (g : α → State → State) (s : State)
    (h : (fun x t => (g x t).chans) = fun (_ : α) t => t.chans) : (forAll xs g s).chans = s.chans := by
  unfold forAll
  induction xs generalizing s with
  | nil => rfl
  | cons x xs ih => exact (ih _).trans (congrFun (congrFun h x) s)

@[simp] theorem forAll_mbxMem {α : Type} (xs : List α) (g : α → State → State) (s : State)
    (h : (fun x t => (g x t).mbxMem) = fun (_ : α) t => t.mbxMem) : (forAll xs g s).mbxMem = s.mbxMem := by
  unfold forAll
  induction xs generalizing s with
  | nil => rfl
  | cons x xs ih => exact (ih _).trans (congrFun (congrFun h x) s)

@[simp] theorem forAll_rings {α : Type} (xs : List α) (g : α → State → State) (s : State)
    (h : (fun x t => (g x t).rings) = fun (_ : α) t => t.rings) : (forAll xs g s).rings = s.rings := by
  unfold forAll
  induction xs generalizing s with
  | nil => rfl
  | cons x xs ih => exact (ih _).trans (congrFun (congrFun h x) s)

@[simp] theorem forAll_hostMem {α : Type} (xs : List α) (g : α → State → State) (s : State)
    (h : (fun x t => (g x t).hostMem) = fun (_ : α) t => t.hostMem) : (forAll xs g s).hostMem = s.hostMem := by
  unfold forAll
  induction xs generalizing s with
  | nil => rfl
  | cons x xs ih => exact (ih _).trans (congrFun (congrFun h x) s)

@[simp] theorem forAll_ports {α : Type} (xs : List α) (g : α → State → State) (s : State)
    (h : (fun x t => (g x t).ports) = fun (_ : α) t => t.ports) : (forAll xs g s).ports = s.ports := by
  unfold forAll
  induction xs generalizing s with
  | nil => rfl
  | cons x xs ih => exact (ih _).trans (congrFun (congrFun h x) s)

@[simp] theorem forAll_beds {α : Type} (xs : List α) (g : α → State → State) (s : State)
    (h : (fun x t => (g x t).beds) = fun (_ : α) t => t.beds) : (forAll xs g s).beds = s.beds := by
  unfold forAll
  induction xs generalizing s with
  | nil => rfl
  | cons x xs ih => exact (ih _).trans (congrFun (congrFun h x) s)

@[simp] theorem forAll_lanes {α : Type} (xs : List α) (g : α → State → State) (s : State)
    (h : (fun x t => (g x t).lanes) = fun (_ : α) t => t.lanes) : (forAll xs g s).lanes = s.lanes := by
  unfold forAll
  induction xs generalizing s with
  | nil => rfl
  | cons x xs ih => exact (ih _).trans (congrFun (congrFun h x) s)

@[simp] theorem forAll_now {α : Type} (xs : List α) (g : α → State → State) (s : State)
    (h : (fun x t => (g x t).now) = fun (_ : α) t => t.now) : (forAll xs g s).now = s.now := by
  unfold forAll
  induction xs generalizing s with
  | nil => rfl
  | cons x xs ih => exact (ih _).trans (congrFun (congrFun h x) s)

@[simp] theorem forAll_free {α : Type} (xs : List α) (g : α → State → State) (s : State)
    (h : (fun x t => (g x t).free) = fun (_ : α) t => t.free) : (forAll xs g s).free = s.free := by
  unfold forAll
  induction xs generalizing s with
  | nil => rfl
  | cons x xs ih => exact (ih _).trans (congrFun (congrFun h x) s)

@[simp] theorem forAll_pending {α : Type} (xs : List α) (g : α → State → State) (s : State)
    (h : (fun x t => (g x t).pending) = fun (_ : α) t => t.pending) : (forAll xs g s).pending = s.pending := by
  unfold forAll
  induction xs generalizing s with
  | nil => rfl
  | cons x xs ih => exact (ih _).trans (congrFun (congrFun h x) s)

@[simp] theorem inNextTick_clk (g : State → State) (s : State) (h : (fun t => (g t).clk) = fun t => t.clk) :
    (inNextTick g s).clk = s.clk := by
  have h1 := fun t => congrFun h t
  unfold inNextTick; simp only [h1]; simp

@[simp] theorem inNextTick_pins (g : State → State) (s : State) (h : (fun t => (g t).pins) = fun t => t.pins) :
    (inNextTick g s).pins = s.pins := by
  have h1 := fun t => congrFun h t
  unfold inNextTick; simp only [h1]

@[simp] theorem inNextTick_hub (g : State → State) (s : State) (h : (fun t => (g t).hub) = fun t => t.hub) :
    (inNextTick g s).hub = s.hub := by
  have h1 := fun t => congrFun h t
  unfold inNextTick; simp only [h1]

@[simp] theorem inNextTick_sluice (g : State → State) (s : State) (h : (fun t => (g t).sluice) = fun t => t.sluice) :
    (inNextTick g s).sluice = s.sluice := by
  have h1 := fun t => congrFun h t
  unfold inNextTick; simp only [h1]

@[simp] theorem inNextTick_boot (g : State → State) (s : State) (h : (fun t => (g t).boot) = fun t => t.boot) :
    (inNextTick g s).boot = s.boot := by
  have h1 := fun t => congrFun h t
  unfold inNextTick; simp only [h1]

@[simp] theorem inNextTick_flash (g : State → State) (s : State) (h : (fun t => (g t).flash) = fun t => t.flash) :
    (inNextTick g s).flash = s.flash := by
  have h1 := fun t => congrFun h t
  unfold inNextTick; simp only [h1]

@[simp] theorem inNextTick_sec (g : State → State) (s : State) (h : (fun t => (g t).sec) = fun t => t.sec) :
    (inNextTick g s).sec = s.sec := by
  have h1 := fun t => congrFun h t
  unfold inNextTick; simp only [h1]

@[simp] theorem inNextTick_tel (g : State → State) (s : State) (h : (fun t => (g t).tel) = fun t => t.tel) :
    (inNextTick g s).tel = s.tel := by
  have h1 := fun t => congrFun h t
  unfold inNextTick; simp only [h1]

@[simp] theorem inNextTick_chans (g : State → State) (s : State) (h : (fun t => (g t).chans) = fun t => t.chans) :
    (inNextTick g s).chans = s.chans := by
  have h1 := fun t => congrFun h t
  unfold inNextTick; simp only [h1]

@[simp] theorem inNextTick_mbxMem (g : State → State) (s : State) (h : (fun t => (g t).mbxMem) = fun t => t.mbxMem) :
    (inNextTick g s).mbxMem = s.mbxMem := by
  have h1 := fun t => congrFun h t
  unfold inNextTick; simp only [h1]

@[simp] theorem inNextTick_rings (g : State → State) (s : State) (h : (fun t => (g t).rings) = fun t => t.rings) :
    (inNextTick g s).rings = s.rings := by
  have h1 := fun t => congrFun h t
  unfold inNextTick; simp only [h1]

@[simp] theorem inNextTick_hostMem (g : State → State) (s : State) (h : (fun t => (g t).hostMem) = fun t => t.hostMem) :
    (inNextTick g s).hostMem = s.hostMem := by
  have h1 := fun t => congrFun h t
  unfold inNextTick; simp only [h1]

@[simp] theorem inNextTick_ports (g : State → State) (s : State) (h : (fun t => (g t).ports) = fun t => t.ports) :
    (inNextTick g s).ports = s.ports := by
  have h1 := fun t => congrFun h t
  unfold inNextTick; simp only [h1]

@[simp] theorem inNextTick_beds (g : State → State) (s : State) (h : (fun t => (g t).beds) = fun t => t.beds) :
    (inNextTick g s).beds = s.beds := by
  have h1 := fun t => congrFun h t
  unfold inNextTick; simp only [h1]

@[simp] theorem inNextTick_lanes (g : State → State) (s : State) (h : (fun t => (g t).lanes) = fun t => t.lanes) :
    (inNextTick g s).lanes = s.lanes := by
  have h1 := fun t => congrFun h t
  unfold inNextTick; simp only [h1]


@[simp] theorem inNextTick_free (g : State → State) (s : State) (h : (fun t => (g t).free) = fun t => t.free) :
    (inNextTick g s).free = s.free := by
  have h1 := fun t => congrFun h t
  unfold inNextTick; simp only [h1]

@[simp] theorem inNextTick_pending (g : State → State) (s : State) (h : (fun t => (g t).pending) = fun t => t.pending) :
    (inNextTick g s).pending = s.pending := by
  have h1 := fun t => congrFun h t
  unfold inNextTick; simp only [h1]

@[simp] theorem hostWrite_frame (s : State) (a : Nat) (bs : Bytes) :
    (State.hostWrite s a bs).pins = s.pins ∧
    (State.hostWrite s a bs).hub = s.hub ∧
    (State.hostWrite s a bs).clk = s.clk ∧
    (State.hostWrite s a bs).sluice = s.sluice ∧
    (State.hostWrite s a bs).boot = s.boot ∧
    (State.hostWrite s a bs).flash = s.flash ∧
    (State.hostWrite s a bs).sec = s.sec ∧
    (State.hostWrite s a bs).tel = s.tel ∧
    (State.hostWrite s a bs).chans = s.chans ∧
    (State.hostWrite s a bs).mbxMem = s.mbxMem ∧
    (State.hostWrite s a bs).rings = s.rings ∧
    (State.hostWrite s a bs).ports = s.ports ∧
    (State.hostWrite s a bs).beds = s.beds ∧
    (State.hostWrite s a bs).lanes = s.lanes ∧
    (State.hostWrite s a bs).now = s.now ∧
    (State.hostWrite s a bs).free = s.free ∧
    (State.hostWrite s a bs).pending = s.pending := by
  simp -implicitDefEqProofs [State.hostWrite]

@[simp] theorem flashWrite_frame (s : State) (a : Nat) (bs : Bytes) :
    (State.flashWrite s a bs).pins = s.pins ∧
    (State.flashWrite s a bs).hub = s.hub ∧
    (State.flashWrite s a bs).clk = s.clk ∧
    (State.flashWrite s a bs).sluice = s.sluice ∧
    (State.flashWrite s a bs).boot = s.boot ∧
    (State.flashWrite s a bs).sec = s.sec ∧
    (State.flashWrite s a bs).tel = s.tel ∧
    (State.flashWrite s a bs).chans = s.chans ∧
    (State.flashWrite s a bs).mbxMem = s.mbxMem ∧
    (State.flashWrite s a bs).rings = s.rings ∧
    (State.flashWrite s a bs).hostMem = s.hostMem ∧
    (State.flashWrite s a bs).ports = s.ports ∧
    (State.flashWrite s a bs).beds = s.beds ∧
    (State.flashWrite s a bs).lanes = s.lanes ∧
    (State.flashWrite s a bs).now = s.now ∧
    (State.flashWrite s a bs).free = s.free ∧
    (State.flashWrite s a bs).pending = s.pending := by
  simp -implicitDefEqProofs [State.flashWrite]

@[simp] theorem flashErase_frame (s : State) (a : Nat) (n : Nat) :
    (State.flashErase s a n).pins = s.pins ∧
    (State.flashErase s a n).hub = s.hub ∧
    (State.flashErase s a n).clk = s.clk ∧
    (State.flashErase s a n).sluice = s.sluice ∧
    (State.flashErase s a n).boot = s.boot ∧
    (State.flashErase s a n).sec = s.sec ∧
    (State.flashErase s a n).tel = s.tel ∧
    (State.flashErase s a n).chans = s.chans ∧
    (State.flashErase s a n).mbxMem = s.mbxMem ∧
    (State.flashErase s a n).rings = s.rings ∧
    (State.flashErase s a n).hostMem = s.hostMem ∧
    (State.flashErase s a n).ports = s.ports ∧
    (State.flashErase s a n).beds = s.beds ∧
    (State.flashErase s a n).lanes = s.lanes ∧
    (State.flashErase s a n).now = s.now ∧
    (State.flashErase s a n).free = s.free ∧
    (State.flashErase s a n).pending = s.pending := by
  simp -implicitDefEqProofs [State.flashErase]

@[simp] theorem modMsix_frame (s : State) (pf1 : Bool) (f : MsixTab → MsixTab) :
    (State.modMsix s pf1 f).hub = s.hub ∧
    (State.modMsix s pf1 f).clk = s.clk ∧
    (State.modMsix s pf1 f).sluice = s.sluice ∧
    (State.modMsix s pf1 f).boot = s.boot ∧
    (State.modMsix s pf1 f).flash = s.flash ∧
    (State.modMsix s pf1 f).sec = s.sec ∧
    (State.modMsix s pf1 f).tel = s.tel ∧
    (State.modMsix s pf1 f).chans = s.chans ∧
    (State.modMsix s pf1 f).mbxMem = s.mbxMem ∧
    (State.modMsix s pf1 f).rings = s.rings ∧
    (State.modMsix s pf1 f).hostMem = s.hostMem ∧
    (State.modMsix s pf1 f).ports = s.ports ∧
    (State.modMsix s pf1 f).beds = s.beds ∧
    (State.modMsix s pf1 f).lanes = s.lanes ∧
    (State.modMsix s pf1 f).now = s.now ∧
    (State.modMsix s pf1 f).free = s.free ∧
    (State.modMsix s pf1 f).pending = s.pending := by
  simp -implicitDefEqProofs [State.modMsix]

@[simp] theorem message_frame (s : State) (pf1 : Bool) (vec : Nat) :
    (State.message s pf1 vec).hub = s.hub ∧
    (State.message s pf1 vec).clk = s.clk ∧
    (State.message s pf1 vec).sluice = s.sluice ∧
    (State.message s pf1 vec).boot = s.boot ∧
    (State.message s pf1 vec).flash = s.flash ∧
    (State.message s pf1 vec).sec = s.sec ∧
    (State.message s pf1 vec).tel = s.tel ∧
    (State.message s pf1 vec).chans = s.chans ∧
    (State.message s pf1 vec).mbxMem = s.mbxMem ∧
    (State.message s pf1 vec).rings = s.rings ∧
    (State.message s pf1 vec).hostMem = s.hostMem ∧
    (State.message s pf1 vec).ports = s.ports ∧
    (State.message s pf1 vec).beds = s.beds ∧
    (State.message s pf1 vec).lanes = s.lanes ∧
    (State.message s pf1 vec).now = s.now ∧
    (State.message s pf1 vec).free = s.free ∧
    (State.message s pf1 vec).pending = s.pending := by
  simp -implicitDefEqProofs [State.message]

@[simp] theorem msixWrite_frame (s : State) (pf1 : Bool) (off : Nat) (v : Word) :
    (State.msixWrite s pf1 off v).hub = s.hub ∧
    (State.msixWrite s pf1 off v).clk = s.clk ∧
    (State.msixWrite s pf1 off v).sluice = s.sluice ∧
    (State.msixWrite s pf1 off v).boot = s.boot ∧
    (State.msixWrite s pf1 off v).flash = s.flash ∧
    (State.msixWrite s pf1 off v).sec = s.sec ∧
    (State.msixWrite s pf1 off v).tel = s.tel ∧
    (State.msixWrite s pf1 off v).chans = s.chans ∧
    (State.msixWrite s pf1 off v).mbxMem = s.mbxMem ∧
    (State.msixWrite s pf1 off v).rings = s.rings ∧
    (State.msixWrite s pf1 off v).hostMem = s.hostMem ∧
    (State.msixWrite s pf1 off v).ports = s.ports ∧
    (State.msixWrite s pf1 off v).beds = s.beds ∧
    (State.msixWrite s pf1 off v).lanes = s.lanes ∧
    (State.msixWrite s pf1 off v).now = s.now ∧
    (State.msixWrite s pf1 off v).free = s.free ∧
    (State.msixWrite s pf1 off v).pending = s.pending := by
  simp -implicitDefEqProofs [State.msixWrite]

@[simp] theorem modPort_frame (s : State) (p : PortId) (f : Port → Port) :
    (State.modPort s p f).pins = s.pins ∧
    (State.modPort s p f).hub = s.hub ∧
    (State.modPort s p f).clk = s.clk ∧
    (State.modPort s p f).sluice = s.sluice ∧
    (State.modPort s p f).boot = s.boot ∧
    (State.modPort s p f).flash = s.flash ∧
    (State.modPort s p f).sec = s.sec ∧
    (State.modPort s p f).tel = s.tel ∧
    (State.modPort s p f).chans = s.chans ∧
    (State.modPort s p f).mbxMem = s.mbxMem ∧
    (State.modPort s p f).rings = s.rings ∧
    (State.modPort s p f).hostMem = s.hostMem ∧
    (State.modPort s p f).beds = s.beds ∧
    (State.modPort s p f).lanes = s.lanes ∧
    (State.modPort s p f).now = s.now ∧
    (State.modPort s p f).free = s.free ∧
    (State.modPort s p f).pending = s.pending := by
  simp -implicitDefEqProofs [State.modPort]

@[simp] theorem modBed_frame (s : State) (b : BedId) (f : Bed → Bed) :
    (State.modBed s b f).pins = s.pins ∧
    (State.modBed s b f).hub = s.hub ∧
    (State.modBed s b f).clk = s.clk ∧
    (State.modBed s b f).sluice = s.sluice ∧
    (State.modBed s b f).boot = s.boot ∧
    (State.modBed s b f).flash = s.flash ∧
    (State.modBed s b f).sec = s.sec ∧
    (State.modBed s b f).tel = s.tel ∧
    (State.modBed s b f).chans = s.chans ∧
    (State.modBed s b f).mbxMem = s.mbxMem ∧
    (State.modBed s b f).rings = s.rings ∧
    (State.modBed s b f).hostMem = s.hostMem ∧
    (State.modBed s b f).ports = s.ports ∧
    (State.modBed s b f).lanes = s.lanes ∧
    (State.modBed s b f).now = s.now ∧
    (State.modBed s b f).free = s.free ∧
    (State.modBed s b f).pending = s.pending := by
  simp -implicitDefEqProofs [State.modBed]

@[simp] theorem modLane_frame (s : State) (l : LaneId) (f : Lane → Lane) :
    (State.modLane s l f).pins = s.pins ∧
    (State.modLane s l f).hub = s.hub ∧
    (State.modLane s l f).clk = s.clk ∧
    (State.modLane s l f).sluice = s.sluice ∧
    (State.modLane s l f).boot = s.boot ∧
    (State.modLane s l f).flash = s.flash ∧
    (State.modLane s l f).sec = s.sec ∧
    (State.modLane s l f).tel = s.tel ∧
    (State.modLane s l f).chans = s.chans ∧
    (State.modLane s l f).mbxMem = s.mbxMem ∧
    (State.modLane s l f).rings = s.rings ∧
    (State.modLane s l f).hostMem = s.hostMem ∧
    (State.modLane s l f).ports = s.ports ∧
    (State.modLane s l f).beds = s.beds ∧
    (State.modLane s l f).now = s.now ∧
    (State.modLane s l f).free = s.free ∧
    (State.modLane s l f).pending = s.pending := by
  simp -implicitDefEqProofs [State.modLane]

@[simp] theorem modRing_frame (s : State) (r : RingId) (f : Ring → Ring) :
    (State.modRing s r f).pins = s.pins ∧
    (State.modRing s r f).hub = s.hub ∧
    (State.modRing s r f).clk = s.clk ∧
    (State.modRing s r f).sluice = s.sluice ∧
    (State.modRing s r f).boot = s.boot ∧
    (State.modRing s r f).flash = s.flash ∧
    (State.modRing s r f).sec = s.sec ∧
    (State.modRing s r f).tel = s.tel ∧
    (State.modRing s r f).chans = s.chans ∧
    (State.modRing s r f).mbxMem = s.mbxMem ∧
    (State.modRing s r f).hostMem = s.hostMem ∧
    (State.modRing s r f).ports = s.ports ∧
    (State.modRing s r f).beds = s.beds ∧
    (State.modRing s r f).lanes = s.lanes ∧
    (State.modRing s r f).now = s.now ∧
    (State.modRing s r f).free = s.free ∧
    (State.modRing s r f).pending = s.pending := by
  simp -implicitDefEqProofs [State.modRing]

@[simp] theorem modChan_frame (s : State) (c : ChanId) (f : Chan → Chan) :
    (State.modChan s c f).pins = s.pins ∧
    (State.modChan s c f).hub = s.hub ∧
    (State.modChan s c f).clk = s.clk ∧
    (State.modChan s c f).sluice = s.sluice ∧
    (State.modChan s c f).boot = s.boot ∧
    (State.modChan s c f).flash = s.flash ∧
    (State.modChan s c f).sec = s.sec ∧
    (State.modChan s c f).tel = s.tel ∧
    (State.modChan s c f).mbxMem = s.mbxMem ∧
    (State.modChan s c f).rings = s.rings ∧
    (State.modChan s c f).hostMem = s.hostMem ∧
    (State.modChan s c f).ports = s.ports ∧
    (State.modChan s c f).beds = s.beds ∧
    (State.modChan s c f).lanes = s.lanes ∧
    (State.modChan s c f).now = s.now ∧
    (State.modChan s c f).free = s.free ∧
    (State.modChan s c f).pending = s.pending := by
  simp -implicitDefEqProofs [State.modChan]

@[simp] theorem modLink_frame (s : State) (p : PortId) (f : Link → Link) :
    (State.modLink s p f).pins = s.pins ∧
    (State.modLink s p f).hub = s.hub ∧
    (State.modLink s p f).clk = s.clk ∧
    (State.modLink s p f).sluice = s.sluice ∧
    (State.modLink s p f).boot = s.boot ∧
    (State.modLink s p f).flash = s.flash ∧
    (State.modLink s p f).sec = s.sec ∧
    (State.modLink s p f).tel = s.tel ∧
    (State.modLink s p f).chans = s.chans ∧
    (State.modLink s p f).mbxMem = s.mbxMem ∧
    (State.modLink s p f).rings = s.rings ∧
    (State.modLink s p f).hostMem = s.hostMem ∧
    (State.modLink s p f).beds = s.beds ∧
    (State.modLink s p f).lanes = s.lanes ∧
    (State.modLink s p f).now = s.now ∧
    (State.modLink s p f).free = s.free ∧
    (State.modLink s p f).pending = s.pending := by
  simp -implicitDefEqProofs [State.modLink]

@[simp] theorem modTrain_frame (s : State) (p : PortId) (f : Train → Train) :
    (State.modTrain s p f).pins = s.pins ∧
    (State.modTrain s p f).hub = s.hub ∧
    (State.modTrain s p f).clk = s.clk ∧
    (State.modTrain s p f).sluice = s.sluice ∧
    (State.modTrain s p f).boot = s.boot ∧
    (State.modTrain s p f).flash = s.flash ∧
    (State.modTrain s p f).sec = s.sec ∧
    (State.modTrain s p f).tel = s.tel ∧
    (State.modTrain s p f).chans = s.chans ∧
    (State.modTrain s p f).mbxMem = s.mbxMem ∧
    (State.modTrain s p f).rings = s.rings ∧
    (State.modTrain s p f).hostMem = s.hostMem ∧
    (State.modTrain s p f).beds = s.beds ∧
    (State.modTrain s p f).lanes = s.lanes ∧
    (State.modTrain s p f).now = s.now ∧
    (State.modTrain s p f).free = s.free ∧
    (State.modTrain s p f).pending = s.pending := by
  simp -implicitDefEqProofs [State.modTrain]

@[simp] theorem modLine_frame (s : State) (p : PortId) (f : Line → Line) :
    (State.modLine s p f).pins = s.pins ∧
    (State.modLine s p f).hub = s.hub ∧
    (State.modLine s p f).clk = s.clk ∧
    (State.modLine s p f).sluice = s.sluice ∧
    (State.modLine s p f).boot = s.boot ∧
    (State.modLine s p f).flash = s.flash ∧
    (State.modLine s p f).sec = s.sec ∧
    (State.modLine s p f).tel = s.tel ∧
    (State.modLine s p f).chans = s.chans ∧
    (State.modLine s p f).mbxMem = s.mbxMem ∧
    (State.modLine s p f).rings = s.rings ∧
    (State.modLine s p f).hostMem = s.hostMem ∧
    (State.modLine s p f).beds = s.beds ∧
    (State.modLine s p f).lanes = s.lanes ∧
    (State.modLine s p f).now = s.now ∧
    (State.modLine s p f).free = s.free ∧
    (State.modLine s p f).pending = s.pending := by
  simp -implicitDefEqProofs [State.modLine]

@[simp] theorem modStill_frame (s : State) (p : PortId) (f : Still → Still) :
    (State.modStill s p f).pins = s.pins ∧
    (State.modStill s p f).hub = s.hub ∧
    (State.modStill s p f).clk = s.clk ∧
    (State.modStill s p f).sluice = s.sluice ∧
    (State.modStill s p f).boot = s.boot ∧
    (State.modStill s p f).flash = s.flash ∧
    (State.modStill s p f).sec = s.sec ∧
    (State.modStill s p f).tel = s.tel ∧
    (State.modStill s p f).chans = s.chans ∧
    (State.modStill s p f).mbxMem = s.mbxMem ∧
    (State.modStill s p f).rings = s.rings ∧
    (State.modStill s p f).hostMem = s.hostMem ∧
    (State.modStill s p f).beds = s.beds ∧
    (State.modStill s p f).lanes = s.lanes ∧
    (State.modStill s p f).now = s.now ∧
    (State.modStill s p f).free = s.free ∧
    (State.modStill s p f).pending = s.pending := by
  simp -implicitDefEqProofs [State.modStill]

@[simp] theorem modDorm_frame (s : State) (p : PortId) (f : Dorm → Dorm) :
    (State.modDorm s p f).pins = s.pins ∧
    (State.modDorm s p f).hub = s.hub ∧
    (State.modDorm s p f).clk = s.clk ∧
    (State.modDorm s p f).sluice = s.sluice ∧
    (State.modDorm s p f).boot = s.boot ∧
    (State.modDorm s p f).flash = s.flash ∧
    (State.modDorm s p f).sec = s.sec ∧
    (State.modDorm s p f).tel = s.tel ∧
    (State.modDorm s p f).chans = s.chans ∧
    (State.modDorm s p f).mbxMem = s.mbxMem ∧
    (State.modDorm s p f).rings = s.rings ∧
    (State.modDorm s p f).hostMem = s.hostMem ∧
    (State.modDorm s p f).beds = s.beds ∧
    (State.modDorm s p f).lanes = s.lanes ∧
    (State.modDorm s p f).now = s.now ∧
    (State.modDorm s p f).free = s.free ∧
    (State.modDorm s p f).pending = s.pending := by
  simp -implicitDefEqProofs [State.modDorm]

@[simp] theorem modHost_frame (s : State) (p : PortId) (f : HostSide → HostSide) :
    (State.modHost s p f).pins = s.pins ∧
    (State.modHost s p f).hub = s.hub ∧
    (State.modHost s p f).clk = s.clk ∧
    (State.modHost s p f).sluice = s.sluice ∧
    (State.modHost s p f).boot = s.boot ∧
    (State.modHost s p f).flash = s.flash ∧
    (State.modHost s p f).sec = s.sec ∧
    (State.modHost s p f).tel = s.tel ∧
    (State.modHost s p f).chans = s.chans ∧
    (State.modHost s p f).mbxMem = s.mbxMem ∧
    (State.modHost s p f).rings = s.rings ∧
    (State.modHost s p f).hostMem = s.hostMem ∧
    (State.modHost s p f).beds = s.beds ∧
    (State.modHost s p f).lanes = s.lanes ∧
    (State.modHost s p f).now = s.now ∧
    (State.modHost s p f).free = s.free ∧
    (State.modHost s p f).pending = s.pending := by
  simp -implicitDefEqProofs [State.modHost]

@[simp] theorem modSpring_frame (s : State) (p : PortId) (f : Spring → Spring) :
    (State.modSpring s p f).pins = s.pins ∧
    (State.modSpring s p f).hub = s.hub ∧
    (State.modSpring s p f).clk = s.clk ∧
    (State.modSpring s p f).sluice = s.sluice ∧
    (State.modSpring s p f).boot = s.boot ∧
    (State.modSpring s p f).flash = s.flash ∧
    (State.modSpring s p f).sec = s.sec ∧
    (State.modSpring s p f).tel = s.tel ∧
    (State.modSpring s p f).chans = s.chans ∧
    (State.modSpring s p f).mbxMem = s.mbxMem ∧
    (State.modSpring s p f).rings = s.rings ∧
    (State.modSpring s p f).hostMem = s.hostMem ∧
    (State.modSpring s p f).beds = s.beds ∧
    (State.modSpring s p f).lanes = s.lanes ∧
    (State.modSpring s p f).now = s.now ∧
    (State.modSpring s p f).free = s.free ∧
    (State.modSpring s p f).pending = s.pending := by
  simp -implicitDefEqProofs [State.modSpring]

@[simp] theorem modCfg_frame (s : State) (p : PortId) (f : PortCfg → PortCfg) :
    (State.modCfg s p f).pins = s.pins ∧
    (State.modCfg s p f).hub = s.hub ∧
    (State.modCfg s p f).clk = s.clk ∧
    (State.modCfg s p f).sluice = s.sluice ∧
    (State.modCfg s p f).boot = s.boot ∧
    (State.modCfg s p f).flash = s.flash ∧
    (State.modCfg s p f).sec = s.sec ∧
    (State.modCfg s p f).tel = s.tel ∧
    (State.modCfg s p f).chans = s.chans ∧
    (State.modCfg s p f).mbxMem = s.mbxMem ∧
    (State.modCfg s p f).rings = s.rings ∧
    (State.modCfg s p f).hostMem = s.hostMem ∧
    (State.modCfg s p f).beds = s.beds ∧
    (State.modCfg s p f).lanes = s.lanes ∧
    (State.modCfg s p f).now = s.now ∧
    (State.modCfg s p f).free = s.free ∧
    (State.modCfg s p f).pending = s.pending := by
  simp -implicitDefEqProofs [State.modCfg]

@[simp] theorem modPow_frame (s : State) (b : BedId) (f : BedPower → BedPower) :
    (State.modPow s b f).pins = s.pins ∧
    (State.modPow s b f).hub = s.hub ∧
    (State.modPow s b f).clk = s.clk ∧
    (State.modPow s b f).sluice = s.sluice ∧
    (State.modPow s b f).boot = s.boot ∧
    (State.modPow s b f).flash = s.flash ∧
    (State.modPow s b f).sec = s.sec ∧
    (State.modPow s b f).tel = s.tel ∧
    (State.modPow s b f).chans = s.chans ∧
    (State.modPow s b f).mbxMem = s.mbxMem ∧
    (State.modPow s b f).rings = s.rings ∧
    (State.modPow s b f).hostMem = s.hostMem ∧
    (State.modPow s b f).ports = s.ports ∧
    (State.modPow s b f).lanes = s.lanes ∧
    (State.modPow s b f).now = s.now ∧
    (State.modPow s b f).free = s.free ∧
    (State.modPow s b f).pending = s.pending := by
  simp -implicitDefEqProofs [State.modPow]

@[simp] theorem takeFree_frame (s : State) :
    (State.takeFree s).pins = s.pins ∧
    (State.takeFree s).hub = s.hub ∧
    (State.takeFree s).clk = s.clk ∧
    (State.takeFree s).sluice = s.sluice ∧
    (State.takeFree s).boot = s.boot ∧
    (State.takeFree s).flash = s.flash ∧
    (State.takeFree s).sec = s.sec ∧
    (State.takeFree s).tel = s.tel ∧
    (State.takeFree s).chans = s.chans ∧
    (State.takeFree s).mbxMem = s.mbxMem ∧
    (State.takeFree s).rings = s.rings ∧
    (State.takeFree s).hostMem = s.hostMem ∧
    (State.takeFree s).ports = s.ports ∧
    (State.takeFree s).beds = s.beds ∧
    (State.takeFree s).lanes = s.lanes ∧
    (State.takeFree s).now = s.now ∧
    (State.takeFree s).pending = s.pending := by
  simp -implicitDefEqProofs [State.takeFree]

@[simp] theorem count_frame (s : State) (p : PortId) (i : Nat) (n : Nat) :
    (State.count s p i n).pins = s.pins ∧
    (State.count s p i n).hub = s.hub ∧
    (State.count s p i n).clk = s.clk ∧
    (State.count s p i n).sluice = s.sluice ∧
    (State.count s p i n).boot = s.boot ∧
    (State.count s p i n).flash = s.flash ∧
    (State.count s p i n).sec = s.sec ∧
    (State.count s p i n).tel = s.tel ∧
    (State.count s p i n).chans = s.chans ∧
    (State.count s p i n).mbxMem = s.mbxMem ∧
    (State.count s p i n).rings = s.rings ∧
    (State.count s p i n).hostMem = s.hostMem ∧
    (State.count s p i n).beds = s.beds ∧
    (State.count s p i n).lanes = s.lanes ∧
    (State.count s p i n).now = s.now ∧
    (State.count s p i n).free = s.free ∧
    (State.count s p i n).pending = s.pending := by
  simp -implicitDefEqProofs [State.count]

@[simp] theorem countBed_frame (s : State) (b : BedId) (i : Nat) (n : Nat) :
    (State.countBed s b i n).pins = s.pins ∧
    (State.countBed s b i n).hub = s.hub ∧
    (State.countBed s b i n).clk = s.clk ∧
    (State.countBed s b i n).sluice = s.sluice ∧
    (State.countBed s b i n).boot = s.boot ∧
    (State.countBed s b i n).flash = s.flash ∧
    (State.countBed s b i n).sec = s.sec ∧
    (State.countBed s b i n).tel = s.tel ∧
    (State.countBed s b i n).chans = s.chans ∧
    (State.countBed s b i n).mbxMem = s.mbxMem ∧
    (State.countBed s b i n).rings = s.rings ∧
    (State.countBed s b i n).hostMem = s.hostMem ∧
    (State.countBed s b i n).ports = s.ports ∧
    (State.countBed s b i n).lanes = s.lanes ∧
    (State.countBed s b i n).now = s.now ∧
    (State.countBed s b i n).free = s.free ∧
    (State.countBed s b i n).pending = s.pending := by
  simp -implicitDefEqProofs [State.countBed]

@[simp] theorem countLane_frame (s : State) (l : LaneId) (i : Nat) (n : Nat) :
    (State.countLane s l i n).pins = s.pins ∧
    (State.countLane s l i n).hub = s.hub ∧
    (State.countLane s l i n).clk = s.clk ∧
    (State.countLane s l i n).sluice = s.sluice ∧
    (State.countLane s l i n).boot = s.boot ∧
    (State.countLane s l i n).flash = s.flash ∧
    (State.countLane s l i n).sec = s.sec ∧
    (State.countLane s l i n).tel = s.tel ∧
    (State.countLane s l i n).chans = s.chans ∧
    (State.countLane s l i n).mbxMem = s.mbxMem ∧
    (State.countLane s l i n).rings = s.rings ∧
    (State.countLane s l i n).hostMem = s.hostMem ∧
    (State.countLane s l i n).ports = s.ports ∧
    (State.countLane s l i n).beds = s.beds ∧
    (State.countLane s l i n).now = s.now ∧
    (State.countLane s l i n).free = s.free ∧
    (State.countLane s l i n).pending = s.pending := by
  simp -implicitDefEqProofs [State.countLane]

@[simp] theorem raise_frame (s : State) (c : Ev) (src : Elem) (fs : List (Nat × Nat × Nat)) :
    (State.raise s c src fs).pins = s.pins ∧
    (State.raise s c src fs).hub = s.hub ∧
    (State.raise s c src fs).clk = s.clk ∧
    (State.raise s c src fs).sluice = s.sluice ∧
    (State.raise s c src fs).boot = s.boot ∧
    (State.raise s c src fs).flash = s.flash ∧
    (State.raise s c src fs).sec = s.sec ∧
    (State.raise s c src fs).tel = s.tel ∧
    (State.raise s c src fs).chans = s.chans ∧
    (State.raise s c src fs).mbxMem = s.mbxMem ∧
    (State.raise s c src fs).rings = s.rings ∧
    (State.raise s c src fs).hostMem = s.hostMem ∧
    (State.raise s c src fs).ports = s.ports ∧
    (State.raise s c src fs).beds = s.beds ∧
    (State.raise s c src fs).lanes = s.lanes ∧
    (State.raise s c src fs).now = s.now ∧
    (State.raise s c src fs).free = s.free ∧
    (State.raise s c src fs).pending = s.pending := by
  simp -implicitDefEqProofs [State.raise]

@[simp] theorem unraise_frame (s : State) (keep : Event → Bool) :
    (State.unraise s keep).pins = s.pins ∧
    (State.unraise s keep).hub = s.hub ∧
    (State.unraise s keep).clk = s.clk ∧
    (State.unraise s keep).sluice = s.sluice ∧
    (State.unraise s keep).boot = s.boot ∧
    (State.unraise s keep).flash = s.flash ∧
    (State.unraise s keep).sec = s.sec ∧
    (State.unraise s keep).tel = s.tel ∧
    (State.unraise s keep).chans = s.chans ∧
    (State.unraise s keep).mbxMem = s.mbxMem ∧
    (State.unraise s keep).rings = s.rings ∧
    (State.unraise s keep).hostMem = s.hostMem ∧
    (State.unraise s keep).ports = s.ports ∧
    (State.unraise s keep).beds = s.beds ∧
    (State.unraise s keep).lanes = s.lanes ∧
    (State.unraise s keep).now = s.now ∧
    (State.unraise s keep).free = s.free ∧
    (State.unraise s keep).pending = s.pending := by
  simp -implicitDefEqProofs [State.unraise]

@[simp] theorem finishWhere_frame (s : State) (q : CmdRec → Bool) (e : Elem) (st : ST) :
    (State.finishWhere s q e st).pins = s.pins ∧
    (State.finishWhere s q e st).hub = s.hub ∧
    (State.finishWhere s q e st).clk = s.clk ∧
    (State.finishWhere s q e st).sluice = s.sluice ∧
    (State.finishWhere s q e st).boot = s.boot ∧
    (State.finishWhere s q e st).flash = s.flash ∧
    (State.finishWhere s q e st).sec = s.sec ∧
    (State.finishWhere s q e st).tel = s.tel ∧
    (State.finishWhere s q e st).chans = s.chans ∧
    (State.finishWhere s q e st).mbxMem = s.mbxMem ∧
    (State.finishWhere s q e st).rings = s.rings ∧
    (State.finishWhere s q e st).hostMem = s.hostMem ∧
    (State.finishWhere s q e st).ports = s.ports ∧
    (State.finishWhere s q e st).beds = s.beds ∧
    (State.finishWhere s q e st).lanes = s.lanes ∧
    (State.finishWhere s q e st).now = s.now ∧
    (State.finishWhere s q e st).free = s.free ∧
    (State.finishWhere s q e st).pending = s.pending := by
  simp -implicitDefEqProofs [State.finishWhere]

@[simp] theorem finish_frame (s : State) (k : CmdKey) (e : Elem) (st : ST) :
    (State.finish s k e st).pins = s.pins ∧
    (State.finish s k e st).hub = s.hub ∧
    (State.finish s k e st).clk = s.clk ∧
    (State.finish s k e st).sluice = s.sluice ∧
    (State.finish s k e st).boot = s.boot ∧
    (State.finish s k e st).flash = s.flash ∧
    (State.finish s k e st).sec = s.sec ∧
    (State.finish s k e st).tel = s.tel ∧
    (State.finish s k e st).chans = s.chans ∧
    (State.finish s k e st).mbxMem = s.mbxMem ∧
    (State.finish s k e st).rings = s.rings ∧
    (State.finish s k e st).hostMem = s.hostMem ∧
    (State.finish s k e st).ports = s.ports ∧
    (State.finish s k e st).beds = s.beds ∧
    (State.finish s k e st).lanes = s.lanes ∧
    (State.finish s k e st).now = s.now ∧
    (State.finish s k e st).free = s.free ∧
    (State.finish s k e st).pending = s.pending := by
  simp -implicitDefEqProofs [State.finish]

@[simp] theorem finishOp_frame (s : State) (o : Op) (e : Elem) (st : ST) :
    (State.finishOp s o e st).pins = s.pins ∧
    (State.finishOp s o e st).hub = s.hub ∧
    (State.finishOp s o e st).clk = s.clk ∧
    (State.finishOp s o e st).sluice = s.sluice ∧
    (State.finishOp s o e st).boot = s.boot ∧
    (State.finishOp s o e st).flash = s.flash ∧
    (State.finishOp s o e st).sec = s.sec ∧
    (State.finishOp s o e st).tel = s.tel ∧
    (State.finishOp s o e st).chans = s.chans ∧
    (State.finishOp s o e st).mbxMem = s.mbxMem ∧
    (State.finishOp s o e st).rings = s.rings ∧
    (State.finishOp s o e st).hostMem = s.hostMem ∧
    (State.finishOp s o e st).ports = s.ports ∧
    (State.finishOp s o e st).beds = s.beds ∧
    (State.finishOp s o e st).lanes = s.lanes ∧
    (State.finishOp s o e st).now = s.now ∧
    (State.finishOp s o e st).free = s.free ∧
    (State.finishOp s o e st).pending = s.pending := by
  simp -implicitDefEqProofs [State.finishOp]

@[simp] theorem abortTargets_frame (s : State) (q : Elem → Bool) :
    (State.abortTargets s q).pins = s.pins ∧
    (State.abortTargets s q).hub = s.hub ∧
    (State.abortTargets s q).clk = s.clk ∧
    (State.abortTargets s q).sluice = s.sluice ∧
    (State.abortTargets s q).boot = s.boot ∧
    (State.abortTargets s q).flash = s.flash ∧
    (State.abortTargets s q).sec = s.sec ∧
    (State.abortTargets s q).tel = s.tel ∧
    (State.abortTargets s q).chans = s.chans ∧
    (State.abortTargets s q).mbxMem = s.mbxMem ∧
    (State.abortTargets s q).rings = s.rings ∧
    (State.abortTargets s q).hostMem = s.hostMem ∧
    (State.abortTargets s q).ports = s.ports ∧
    (State.abortTargets s q).beds = s.beds ∧
    (State.abortTargets s q).lanes = s.lanes ∧
    (State.abortTargets s q).now = s.now ∧
    (State.abortTargets s q).free = s.free ∧
    (State.abortTargets s q).pending = s.pending := by
  simp -implicitDefEqProofs [State.abortTargets]

@[simp] theorem fpEval_frame (s : State) (p : PortId) (o : FpForm) :
    (State.fpEval s p o).2.pins = s.pins ∧
    (State.fpEval s p o).2.hub = s.hub ∧
    (State.fpEval s p o).2.clk = s.clk ∧
    (State.fpEval s p o).2.sluice = s.sluice ∧
    (State.fpEval s p o).2.boot = s.boot ∧
    (State.fpEval s p o).2.flash = s.flash ∧
    (State.fpEval s p o).2.sec = s.sec ∧
    (State.fpEval s p o).2.tel = s.tel ∧
    (State.fpEval s p o).2.chans = s.chans ∧
    (State.fpEval s p o).2.mbxMem = s.mbxMem ∧
    (State.fpEval s p o).2.rings = s.rings ∧
    (State.fpEval s p o).2.hostMem = s.hostMem ∧
    (State.fpEval s p o).2.beds = s.beds ∧
    (State.fpEval s p o).2.lanes = s.lanes ∧
    (State.fpEval s p o).2.now = s.now ∧
    (State.fpEval s p o).2.free = s.free ∧
    (State.fpEval s p o).2.pending = s.pending := by
  simp -implicitDefEqProofs [State.fpEval]

@[simp] theorem adaptOn_frame (s : State) (p : PortId) (data : Bool) :
    (State.adaptOn s p data).pins = s.pins ∧
    (State.adaptOn s p data).hub = s.hub ∧
    (State.adaptOn s p data).clk = s.clk ∧
    (State.adaptOn s p data).sluice = s.sluice ∧
    (State.adaptOn s p data).boot = s.boot ∧
    (State.adaptOn s p data).flash = s.flash ∧
    (State.adaptOn s p data).sec = s.sec ∧
    (State.adaptOn s p data).tel = s.tel ∧
    (State.adaptOn s p data).chans = s.chans ∧
    (State.adaptOn s p data).mbxMem = s.mbxMem ∧
    (State.adaptOn s p data).rings = s.rings ∧
    (State.adaptOn s p data).hostMem = s.hostMem ∧
    (State.adaptOn s p data).beds = s.beds ∧
    (State.adaptOn s p data).lanes = s.lanes ∧
    (State.adaptOn s p data).now = s.now ∧
    (State.adaptOn s p data).pending = s.pending := by
  simp -implicitDefEqProofs [State.adaptOn]

@[simp] theorem fpNext_frame (x0 : Nat) (x1 : State) :
    (State.fpNext x0 x1).pins = x1.pins ∧
    (State.fpNext x0 x1).hub = x1.hub ∧
    (State.fpNext x0 x1).clk = x1.clk ∧
    (State.fpNext x0 x1).sluice = x1.sluice ∧
    (State.fpNext x0 x1).boot = x1.boot ∧
    (State.fpNext x0 x1).sec = x1.sec ∧
    (State.fpNext x0 x1).tel = x1.tel ∧
    (State.fpNext x0 x1).chans = x1.chans ∧
    (State.fpNext x0 x1).mbxMem = x1.mbxMem ∧
    (State.fpNext x0 x1).rings = x1.rings ∧
    (State.fpNext x0 x1).hostMem = x1.hostMem ∧
    (State.fpNext x0 x1).ports = x1.ports ∧
    (State.fpNext x0 x1).beds = x1.beds ∧
    (State.fpNext x0 x1).lanes = x1.lanes ∧
    (State.fpNext x0 x1).now = x1.now ∧
    (State.fpNext x0 x1).free = x1.free ∧
    (State.fpNext x0 x1).pending = x1.pending := by
  induction x0 generalizing x1 with
  | zero => simp [State.fpNext]
  | succ n ih => unfold State.fpNext; (try dsimp only); (repeat' split) <;> (try simp_all -implicitDefEqProofs)

@[simp] theorem fpRecopy_frame (s : State) (p : PortId) (f : Bytes) :
    (State.fpRecopy s p f).pins = s.pins ∧
    (State.fpRecopy s p f).hub = s.hub ∧
    (State.fpRecopy s p f).clk = s.clk ∧
    (State.fpRecopy s p f).sluice = s.sluice ∧
    (State.fpRecopy s p f).boot = s.boot ∧
    (State.fpRecopy s p f).sec = s.sec ∧
    (State.fpRecopy s p f).tel = s.tel ∧
    (State.fpRecopy s p f).chans = s.chans ∧
    (State.fpRecopy s p f).mbxMem = s.mbxMem ∧
    (State.fpRecopy s p f).rings = s.rings ∧
    (State.fpRecopy s p f).ports = s.ports ∧
    (State.fpRecopy s p f).beds = s.beds ∧
    (State.fpRecopy s p f).lanes = s.lanes ∧
    (State.fpRecopy s p f).now = s.now ∧
    (State.fpRecopy s p f).free = s.free ∧
    (State.fpRecopy s p f).pending = s.pending := by
  unfold State.fpRecopy; (try dsimp only); (repeat' split) <;> (try simp_all -implicitDefEqProofs)

@[simp] theorem fpSaveWell_frame (s : State) (p : PortId) :
    (State.fpSaveWell s p).pins = s.pins ∧
    (State.fpSaveWell s p).hub = s.hub ∧
    (State.fpSaveWell s p).clk = s.clk ∧
    (State.fpSaveWell s p).sluice = s.sluice ∧
    (State.fpSaveWell s p).boot = s.boot ∧
    (State.fpSaveWell s p).sec = s.sec ∧
    (State.fpSaveWell s p).tel = s.tel ∧
    (State.fpSaveWell s p).chans = s.chans ∧
    (State.fpSaveWell s p).mbxMem = s.mbxMem ∧
    (State.fpSaveWell s p).rings = s.rings ∧
    (State.fpSaveWell s p).beds = s.beds ∧
    (State.fpSaveWell s p).lanes = s.lanes ∧
    (State.fpSaveWell s p).now = s.now ∧
    (State.fpSaveWell s p).pending = s.pending := by
  simp -implicitDefEqProofs [State.fpSaveWell]

@[simp] theorem sendMsix_frame (s : State) (r : RingId) :
    (State.sendMsix s r).hub = s.hub ∧
    (State.sendMsix s r).clk = s.clk ∧
    (State.sendMsix s r).sluice = s.sluice ∧
    (State.sendMsix s r).boot = s.boot ∧
    (State.sendMsix s r).flash = s.flash ∧
    (State.sendMsix s r).sec = s.sec ∧
    (State.sendMsix s r).tel = s.tel ∧
    (State.sendMsix s r).chans = s.chans ∧
    (State.sendMsix s r).mbxMem = s.mbxMem ∧
    (State.sendMsix s r).hostMem = s.hostMem ∧
    (State.sendMsix s r).ports = s.ports ∧
    (State.sendMsix s r).beds = s.beds ∧
    (State.sendMsix s r).lanes = s.lanes ∧
    (State.sendMsix s r).now = s.now ∧
    (State.sendMsix s r).free = s.free ∧
    (State.sendMsix s r).pending = s.pending := by
  simp -implicitDefEqProofs [State.sendMsix]

@[simp] theorem signal_frame (s : State) (r : RingId) :
    (State.signal s r).hub = s.hub ∧
    (State.signal s r).clk = s.clk ∧
    (State.signal s r).sluice = s.sluice ∧
    (State.signal s r).boot = s.boot ∧
    (State.signal s r).flash = s.flash ∧
    (State.signal s r).sec = s.sec ∧
    (State.signal s r).tel = s.tel ∧
    (State.signal s r).chans = s.chans ∧
    (State.signal s r).mbxMem = s.mbxMem ∧
    (State.signal s r).hostMem = s.hostMem ∧
    (State.signal s r).ports = s.ports ∧
    (State.signal s r).beds = s.beds ∧
    (State.signal s r).lanes = s.lanes ∧
    (State.signal s r).now = s.now ∧
    (State.signal s r).free = s.free ∧
    (State.signal s r).pending = s.pending := by
  simp -implicitDefEqProofs [State.signal]

@[simp] theorem produce_frame (s : State) (r : RingId) (entry : Bool → Bytes) :
    (State.produce s r entry).hub = s.hub ∧
    (State.produce s r entry).clk = s.clk ∧
    (State.produce s r entry).sluice = s.sluice ∧
    (State.produce s r entry).boot = s.boot ∧
    (State.produce s r entry).flash = s.flash ∧
    (State.produce s r entry).sec = s.sec ∧
    (State.produce s r entry).tel = s.tel ∧
    (State.produce s r entry).chans = s.chans ∧
    (State.produce s r entry).mbxMem = s.mbxMem ∧
    (State.produce s r entry).ports = s.ports ∧
    (State.produce s r entry).beds = s.beds ∧
    (State.produce s r entry).lanes = s.lanes ∧
    (State.produce s r entry).now = s.now ∧
    (State.produce s r entry).free = s.free ∧
    (State.produce s r entry).pending = s.pending := by
  simp -implicitDefEqProofs [State.produce]

@[simp] theorem ringDrop_frame (s : State) (r : RingId) :
    (State.ringDrop s r).pins = s.pins ∧
    (State.ringDrop s r).hub = s.hub ∧
    (State.ringDrop s r).clk = s.clk ∧
    (State.ringDrop s r).sluice = s.sluice ∧
    (State.ringDrop s r).boot = s.boot ∧
    (State.ringDrop s r).flash = s.flash ∧
    (State.ringDrop s r).sec = s.sec ∧
    (State.ringDrop s r).tel = s.tel ∧
    (State.ringDrop s r).chans = s.chans ∧
    (State.ringDrop s r).mbxMem = s.mbxMem ∧
    (State.ringDrop s r).hostMem = s.hostMem ∧
    (State.ringDrop s r).ports = s.ports ∧
    (State.ringDrop s r).beds = s.beds ∧
    (State.ringDrop s r).lanes = s.lanes ∧
    (State.ringDrop s r).now = s.now ∧
    (State.ringDrop s r).free = s.free ∧
    (State.ringDrop s r).pending = s.pending := by
  simp -implicitDefEqProofs [State.ringDrop]

@[simp] theorem ringError_frame (s : State) (r : RingId) (e : RErr) :
    (State.ringError s r e).pins = s.pins ∧
    (State.ringError s r e).hub = s.hub ∧
    (State.ringError s r e).clk = s.clk ∧
    (State.ringError s r e).sluice = s.sluice ∧
    (State.ringError s r e).boot = s.boot ∧
    (State.ringError s r e).flash = s.flash ∧
    (State.ringError s r e).sec = s.sec ∧
    (State.ringError s r e).tel = s.tel ∧
    (State.ringError s r e).chans = s.chans ∧
    (State.ringError s r e).mbxMem = s.mbxMem ∧
    (State.ringError s r e).hostMem = s.hostMem ∧
    (State.ringError s r e).ports = s.ports ∧
    (State.ringError s r e).beds = s.beds ∧
    (State.ringError s r e).lanes = s.lanes ∧
    (State.ringError s r e).now = s.now ∧
    (State.ringError s r e).free = s.free ∧
    (State.ringError s r e).pending = s.pending := by
  simp -implicitDefEqProofs [State.ringError]

@[simp] theorem writeBackNow_frame (s : State) (w : WriteBack) :
    (State.writeBackNow s w).hub = s.hub ∧
    (State.writeBackNow s w).clk = s.clk ∧
    (State.writeBackNow s w).sluice = s.sluice ∧
    (State.writeBackNow s w).boot = s.boot ∧
    (State.writeBackNow s w).flash = s.flash ∧
    (State.writeBackNow s w).sec = s.sec ∧
    (State.writeBackNow s w).tel = s.tel ∧
    (State.writeBackNow s w).chans = s.chans ∧
    (State.writeBackNow s w).mbxMem = s.mbxMem ∧
    (State.writeBackNow s w).ports = s.ports ∧
    (State.writeBackNow s w).beds = s.beds ∧
    (State.writeBackNow s w).lanes = s.lanes ∧
    (State.writeBackNow s w).now = s.now ∧
    (State.writeBackNow s w).free = s.free ∧
    (State.writeBackNow s w).pending = s.pending := by
  simp -implicitDefEqProofs [State.writeBackNow]

@[simp] theorem completeTx_frame (s : State) (b : BedId) (u : UserTx) (st : ST) (detail : Nat) :
    (State.completeTx s b u st detail).hub = s.hub ∧
    (State.completeTx s b u st detail).clk = s.clk ∧
    (State.completeTx s b u st detail).sluice = s.sluice ∧
    (State.completeTx s b u st detail).boot = s.boot ∧
    (State.completeTx s b u st detail).flash = s.flash ∧
    (State.completeTx s b u st detail).sec = s.sec ∧
    (State.completeTx s b u st detail).tel = s.tel ∧
    (State.completeTx s b u st detail).chans = s.chans ∧
    (State.completeTx s b u st detail).mbxMem = s.mbxMem ∧
    (State.completeTx s b u st detail).ports = s.ports ∧
    (State.completeTx s b u st detail).beds = s.beds ∧
    (State.completeTx s b u st detail).lanes = s.lanes ∧
    (State.completeTx s b u st detail).now = s.now ∧
    (State.completeTx s b u st detail).free = s.free ∧
    (State.completeTx s b u st detail).pending = s.pending := by
  simp -implicitDefEqProofs [State.completeTx]

@[simp] theorem flushWb_frame (s : State) :
    (State.flushWb s).hub = s.hub ∧
    (State.flushWb s).clk = s.clk ∧
    (State.flushWb s).sluice = s.sluice ∧
    (State.flushWb s).boot = s.boot ∧
    (State.flushWb s).flash = s.flash ∧
    (State.flushWb s).sec = s.sec ∧
    (State.flushWb s).tel = s.tel ∧
    (State.flushWb s).chans = s.chans ∧
    (State.flushWb s).mbxMem = s.mbxMem ∧
    (State.flushWb s).ports = s.ports ∧
    (State.flushWb s).beds = s.beds ∧
    (State.flushWb s).lanes = s.lanes ∧
    (State.flushWb s).now = s.now ∧
    (State.flushWb s).free = s.free ∧
    (State.flushWb s).pending = s.pending := by
  simp -implicitDefEqProofs [State.flushWb]

@[simp] theorem telCancel_frame (s : State) :
    (State.telCancel s).pins = s.pins ∧
    (State.telCancel s).hub = s.hub ∧
    (State.telCancel s).clk = s.clk ∧
    (State.telCancel s).sluice = s.sluice ∧
    (State.telCancel s).boot = s.boot ∧
    (State.telCancel s).flash = s.flash ∧
    (State.telCancel s).sec = s.sec ∧
    (State.telCancel s).chans = s.chans ∧
    (State.telCancel s).mbxMem = s.mbxMem ∧
    (State.telCancel s).rings = s.rings ∧
    (State.telCancel s).hostMem = s.hostMem ∧
    (State.telCancel s).beds = s.beds ∧
    (State.telCancel s).lanes = s.lanes ∧
    (State.telCancel s).now = s.now ∧
    (State.telCancel s).free = s.free ∧
    (State.telCancel s).pending = s.pending := by
  simp -implicitDefEqProofs [State.telCancel]

@[simp] theorem sampleDrain_frame (x0 : Nat) (x1 : State) :
    (State.sampleDrain x0 x1).hub = x1.hub ∧
    (State.sampleDrain x0 x1).clk = x1.clk ∧
    (State.sampleDrain x0 x1).sluice = x1.sluice ∧
    (State.sampleDrain x0 x1).boot = x1.boot ∧
    (State.sampleDrain x0 x1).flash = x1.flash ∧
    (State.sampleDrain x0 x1).sec = x1.sec ∧
    (State.sampleDrain x0 x1).tel = x1.tel ∧
    (State.sampleDrain x0 x1).chans = x1.chans ∧
    (State.sampleDrain x0 x1).mbxMem = x1.mbxMem ∧
    (State.sampleDrain x0 x1).ports = x1.ports ∧
    (State.sampleDrain x0 x1).lanes = x1.lanes ∧
    (State.sampleDrain x0 x1).now = x1.now ∧
    (State.sampleDrain x0 x1).free = x1.free ∧
    (State.sampleDrain x0 x1).pending = x1.pending := by
  induction x0 generalizing x1 with
  | zero => simp [State.sampleDrain]
  | succ n ih => unfold State.sampleDrain; (try dsimp only); (repeat' split) <;> (try simp_all -implicitDefEqProofs)

@[simp] theorem springEvent_frame (s : State) (p : PortId) (cause : Nat) (loss : Nat) (phy : Nat) :
    (State.springEvent s p cause loss phy).pins = s.pins ∧
    (State.springEvent s p cause loss phy).hub = s.hub ∧
    (State.springEvent s p cause loss phy).clk = s.clk ∧
    (State.springEvent s p cause loss phy).sluice = s.sluice ∧
    (State.springEvent s p cause loss phy).boot = s.boot ∧
    (State.springEvent s p cause loss phy).flash = s.flash ∧
    (State.springEvent s p cause loss phy).sec = s.sec ∧
    (State.springEvent s p cause loss phy).tel = s.tel ∧
    (State.springEvent s p cause loss phy).chans = s.chans ∧
    (State.springEvent s p cause loss phy).mbxMem = s.mbxMem ∧
    (State.springEvent s p cause loss phy).rings = s.rings ∧
    (State.springEvent s p cause loss phy).hostMem = s.hostMem ∧
    (State.springEvent s p cause loss phy).ports = s.ports ∧
    (State.springEvent s p cause loss phy).beds = s.beds ∧
    (State.springEvent s p cause loss phy).lanes = s.lanes ∧
    (State.springEvent s p cause loss phy).now = s.now ∧
    (State.springEvent s p cause loss phy).free = s.free ∧
    (State.springEvent s p cause loss phy).pending = s.pending := by
  simp -implicitDefEqProofs [State.springEvent]

@[simp] theorem capBuild_frame (s : State) (p : PortId) :
    (State.capBuild s p).2.pins = s.pins ∧
    (State.capBuild s p).2.hub = s.hub ∧
    (State.capBuild s p).2.clk = s.clk ∧
    (State.capBuild s p).2.sluice = s.sluice ∧
    (State.capBuild s p).2.boot = s.boot ∧
    (State.capBuild s p).2.flash = s.flash ∧
    (State.capBuild s p).2.sec = s.sec ∧
    (State.capBuild s p).2.tel = s.tel ∧
    (State.capBuild s p).2.chans = s.chans ∧
    (State.capBuild s p).2.mbxMem = s.mbxMem ∧
    (State.capBuild s p).2.rings = s.rings ∧
    (State.capBuild s p).2.hostMem = s.hostMem ∧
    (State.capBuild s p).2.beds = s.beds ∧
    (State.capBuild s p).2.lanes = s.lanes ∧
    (State.capBuild s p).2.now = s.now ∧
    (State.capBuild s p).2.free = s.free ∧
    (State.capBuild s p).2.pending = s.pending := by
  unfold State.capBuild; (try dsimp only); (repeat' split) <;> (try simp_all -implicitDefEqProofs)

@[simp] theorem capStage_frame (s : State) (p : PortId) :
    (State.capStage s p).pins = s.pins ∧
    (State.capStage s p).hub = s.hub ∧
    (State.capStage s p).clk = s.clk ∧
    (State.capStage s p).sluice = s.sluice ∧
    (State.capStage s p).boot = s.boot ∧
    (State.capStage s p).flash = s.flash ∧
    (State.capStage s p).sec = s.sec ∧
    (State.capStage s p).tel = s.tel ∧
    (State.capStage s p).chans = s.chans ∧
    (State.capStage s p).mbxMem = s.mbxMem ∧
    (State.capStage s p).rings = s.rings ∧
    (State.capStage s p).hostMem = s.hostMem ∧
    (State.capStage s p).beds = s.beds ∧
    (State.capStage s p).lanes = s.lanes ∧
    (State.capStage s p).now = s.now ∧
    (State.capStage s p).free = s.free ∧
    (State.capStage s p).pending = s.pending := by
  simp -implicitDefEqProofs [State.capStage]

@[simp] theorem capStageBed_frame (s : State) (b : BedId) :
    (State.capStageBed s b).pins = s.pins ∧
    (State.capStageBed s b).hub = s.hub ∧
    (State.capStageBed s b).clk = s.clk ∧
    (State.capStageBed s b).sluice = s.sluice ∧
    (State.capStageBed s b).boot = s.boot ∧
    (State.capStageBed s b).flash = s.flash ∧
    (State.capStageBed s b).sec = s.sec ∧
    (State.capStageBed s b).tel = s.tel ∧
    (State.capStageBed s b).chans = s.chans ∧
    (State.capStageBed s b).mbxMem = s.mbxMem ∧
    (State.capStageBed s b).rings = s.rings ∧
    (State.capStageBed s b).hostMem = s.hostMem ∧
    (State.capStageBed s b).beds = s.beds ∧
    (State.capStageBed s b).lanes = s.lanes ∧
    (State.capStageBed s b).now = s.now ∧
    (State.capStageBed s b).free = s.free ∧
    (State.capStageBed s b).pending = s.pending := by
  simp -implicitDefEqProofs [State.capStageBed]

@[simp] theorem springStart_frame (s : State) (p : PortId) (f : TxFrame) :
    (State.springStart s p f).pins = s.pins ∧
    (State.springStart s p f).hub = s.hub ∧
    (State.springStart s p f).clk = s.clk ∧
    (State.springStart s p f).sluice = s.sluice ∧
    (State.springStart s p f).boot = s.boot ∧
    (State.springStart s p f).flash = s.flash ∧
    (State.springStart s p f).sec = s.sec ∧
    (State.springStart s p f).tel = s.tel ∧
    (State.springStart s p f).chans = s.chans ∧
    (State.springStart s p f).mbxMem = s.mbxMem ∧
    (State.springStart s p f).rings = s.rings ∧
    (State.springStart s p f).hostMem = s.hostMem ∧
    (State.springStart s p f).beds = s.beds ∧
    (State.springStart s p f).lanes = s.lanes ∧
    (State.springStart s p f).now = s.now ∧
    (State.springStart s p f).free = s.free ∧
    (State.springStart s p f).pending = s.pending := by
  simp -implicitDefEqProofs [State.springStart]

@[simp] theorem springCut_frame (s : State) (p : PortId) :
    (State.springCut s p).pins = s.pins ∧
    (State.springCut s p).hub = s.hub ∧
    (State.springCut s p).clk = s.clk ∧
    (State.springCut s p).sluice = s.sluice ∧
    (State.springCut s p).boot = s.boot ∧
    (State.springCut s p).flash = s.flash ∧
    (State.springCut s p).sec = s.sec ∧
    (State.springCut s p).tel = s.tel ∧
    (State.springCut s p).chans = s.chans ∧
    (State.springCut s p).mbxMem = s.mbxMem ∧
    (State.springCut s p).rings = s.rings ∧
    (State.springCut s p).hostMem = s.hostMem ∧
    (State.springCut s p).beds = s.beds ∧
    (State.springCut s p).lanes = s.lanes ∧
    (State.springCut s p).now = s.now ∧
    (State.springCut s p).free = s.free ∧
    (State.springCut s p).pending = s.pending := by
  simp -implicitDefEqProofs [State.springCut]

@[simp] theorem springKick_frame (s : State) (p : PortId) :
    (State.springKick s p).pins = s.pins ∧
    (State.springKick s p).hub = s.hub ∧
    (State.springKick s p).clk = s.clk ∧
    (State.springKick s p).sluice = s.sluice ∧
    (State.springKick s p).boot = s.boot ∧
    (State.springKick s p).flash = s.flash ∧
    (State.springKick s p).sec = s.sec ∧
    (State.springKick s p).tel = s.tel ∧
    (State.springKick s p).chans = s.chans ∧
    (State.springKick s p).mbxMem = s.mbxMem ∧
    (State.springKick s p).rings = s.rings ∧
    (State.springKick s p).hostMem = s.hostMem ∧
    (State.springKick s p).beds = s.beds ∧
    (State.springKick s p).lanes = s.lanes ∧
    (State.springKick s p).now = s.now ∧
    (State.springKick s p).free = s.free ∧
    (State.springKick s p).pending = s.pending := by
  unfold State.springKick; (try dsimp only); (repeat' split) <;> (try simp_all -implicitDefEqProofs)

@[simp] theorem springDue_frame (s : State) (p : PortId) (f : TxFrame) :
    (State.springDue s p f).pins = s.pins ∧
    (State.springDue s p f).hub = s.hub ∧
    (State.springDue s p f).clk = s.clk ∧
    (State.springDue s p f).sluice = s.sluice ∧
    (State.springDue s p f).boot = s.boot ∧
    (State.springDue s p f).flash = s.flash ∧
    (State.springDue s p f).sec = s.sec ∧
    (State.springDue s p f).tel = s.tel ∧
    (State.springDue s p f).chans = s.chans ∧
    (State.springDue s p f).mbxMem = s.mbxMem ∧
    (State.springDue s p f).rings = s.rings ∧
    (State.springDue s p f).hostMem = s.hostMem ∧
    (State.springDue s p f).beds = s.beds ∧
    (State.springDue s p f).lanes = s.lanes ∧
    (State.springDue s p f).now = s.now ∧
    (State.springDue s p f).free = s.free ∧
    (State.springDue s p f).pending = s.pending := by
  simp -implicitDefEqProofs [State.springDue]

@[simp] theorem springUndue_frame (s : State) (p : PortId) (t : FType) :
    (State.springUndue s p t).pins = s.pins ∧
    (State.springUndue s p t).hub = s.hub ∧
    (State.springUndue s p t).clk = s.clk ∧
    (State.springUndue s p t).sluice = s.sluice ∧
    (State.springUndue s p t).boot = s.boot ∧
    (State.springUndue s p t).flash = s.flash ∧
    (State.springUndue s p t).sec = s.sec ∧
    (State.springUndue s p t).tel = s.tel ∧
    (State.springUndue s p t).chans = s.chans ∧
    (State.springUndue s p t).mbxMem = s.mbxMem ∧
    (State.springUndue s p t).rings = s.rings ∧
    (State.springUndue s p t).hostMem = s.hostMem ∧
    (State.springUndue s p t).beds = s.beds ∧
    (State.springUndue s p t).lanes = s.lanes ∧
    (State.springUndue s p t).now = s.now ∧
    (State.springUndue s p t).free = s.free ∧
    (State.springUndue s p t).pending = s.pending := by
  simp -implicitDefEqProofs [State.springUndue]

@[simp] theorem springDiag_frame (s : State) (p : PortId) (bytes : Bytes) :
    (State.springDiag s p bytes).pins = s.pins ∧
    (State.springDiag s p bytes).hub = s.hub ∧
    (State.springDiag s p bytes).clk = s.clk ∧
    (State.springDiag s p bytes).sluice = s.sluice ∧
    (State.springDiag s p bytes).boot = s.boot ∧
    (State.springDiag s p bytes).flash = s.flash ∧
    (State.springDiag s p bytes).sec = s.sec ∧
    (State.springDiag s p bytes).tel = s.tel ∧
    (State.springDiag s p bytes).chans = s.chans ∧
    (State.springDiag s p bytes).mbxMem = s.mbxMem ∧
    (State.springDiag s p bytes).rings = s.rings ∧
    (State.springDiag s p bytes).hostMem = s.hostMem ∧
    (State.springDiag s p bytes).beds = s.beds ∧
    (State.springDiag s p bytes).lanes = s.lanes ∧
    (State.springDiag s p bytes).now = s.now ∧
    (State.springDiag s p bytes).free = s.free ∧
    (State.springDiag s p bytes).pending = s.pending := by
  simp -implicitDefEqProofs [State.springDiag]

@[simp] theorem springDraw_frame (s : State) (p : PortId) :
    (State.springDraw s p).pins = s.pins ∧
    (State.springDraw s p).hub = s.hub ∧
    (State.springDraw s p).clk = s.clk ∧
    (State.springDraw s p).sluice = s.sluice ∧
    (State.springDraw s p).boot = s.boot ∧
    (State.springDraw s p).flash = s.flash ∧
    (State.springDraw s p).sec = s.sec ∧
    (State.springDraw s p).tel = s.tel ∧
    (State.springDraw s p).chans = s.chans ∧
    (State.springDraw s p).mbxMem = s.mbxMem ∧
    (State.springDraw s p).rings = s.rings ∧
    (State.springDraw s p).hostMem = s.hostMem ∧
    (State.springDraw s p).lanes = s.lanes ∧
    (State.springDraw s p).now = s.now ∧
    (State.springDraw s p).free = s.free ∧
    (State.springDraw s p).pending = s.pending := by
  simp -implicitDefEqProofs [State.springDraw]

@[simp] theorem springHead_frame (s : State) (p : PortId) (rep : Bool) :
    (State.springHead s p rep).pins = s.pins ∧
    (State.springHead s p rep).hub = s.hub ∧
    (State.springHead s p rep).clk = s.clk ∧
    (State.springHead s p rep).sluice = s.sluice ∧
    (State.springHead s p rep).boot = s.boot ∧
    (State.springHead s p rep).flash = s.flash ∧
    (State.springHead s p rep).sec = s.sec ∧
    (State.springHead s p rep).tel = s.tel ∧
    (State.springHead s p rep).chans = s.chans ∧
    (State.springHead s p rep).mbxMem = s.mbxMem ∧
    (State.springHead s p rep).rings = s.rings ∧
    (State.springHead s p rep).hostMem = s.hostMem ∧
    (State.springHead s p rep).beds = s.beds ∧
    (State.springHead s p rep).lanes = s.lanes ∧
    (State.springHead s p rep).now = s.now ∧
    (State.springHead s p rep).free = s.free ∧
    (State.springHead s p rep).pending = s.pending := by
  simp -implicitDefEqProofs [State.springHead]

@[simp] theorem springListen_frame (s : State) (p : PortId) (sel : RoleSel) :
    (State.springListen s p sel).pins = s.pins ∧
    (State.springListen s p sel).hub = s.hub ∧
    (State.springListen s p sel).clk = s.clk ∧
    (State.springListen s p sel).sluice = s.sluice ∧
    (State.springListen s p sel).boot = s.boot ∧
    (State.springListen s p sel).flash = s.flash ∧
    (State.springListen s p sel).sec = s.sec ∧
    (State.springListen s p sel).tel = s.tel ∧
    (State.springListen s p sel).chans = s.chans ∧
    (State.springListen s p sel).mbxMem = s.mbxMem ∧
    (State.springListen s p sel).rings = s.rings ∧
    (State.springListen s p sel).hostMem = s.hostMem ∧
    (State.springListen s p sel).lanes = s.lanes ∧
    (State.springListen s p sel).now = s.now ∧
    (State.springListen s p sel).free = s.free ∧
    (State.springListen s p sel).pending = s.pending := by
  unfold State.springListen; (try dsimp only); (repeat' split) <;> (try simp_all -implicitDefEqProofs)

@[simp] theorem springIdle_frame (s : State) (p : PortId) :
    (State.springIdle s p).pins = s.pins ∧
    (State.springIdle s p).hub = s.hub ∧
    (State.springIdle s p).clk = s.clk ∧
    (State.springIdle s p).sluice = s.sluice ∧
    (State.springIdle s p).boot = s.boot ∧
    (State.springIdle s p).flash = s.flash ∧
    (State.springIdle s p).sec = s.sec ∧
    (State.springIdle s p).tel = s.tel ∧
    (State.springIdle s p).chans = s.chans ∧
    (State.springIdle s p).mbxMem = s.mbxMem ∧
    (State.springIdle s p).rings = s.rings ∧
    (State.springIdle s p).hostMem = s.hostMem ∧
    (State.springIdle s p).beds = s.beds ∧
    (State.springIdle s p).lanes = s.lanes ∧
    (State.springIdle s p).now = s.now ∧
    (State.springIdle s p).free = s.free ∧
    (State.springIdle s p).pending = s.pending := by
  simp -implicitDefEqProofs [State.springIdle]

@[simp] theorem usersEnd_frame (s : State) (p : PortId) (c : Loss) :
    (State.usersEnd s p c).hub = s.hub ∧
    (State.usersEnd s p c).clk = s.clk ∧
    (State.usersEnd s p c).sluice = s.sluice ∧
    (State.usersEnd s p c).boot = s.boot ∧
    (State.usersEnd s p c).flash = s.flash ∧
    (State.usersEnd s p c).sec = s.sec ∧
    (State.usersEnd s p c).tel = s.tel ∧
    (State.usersEnd s p c).chans = s.chans ∧
    (State.usersEnd s p c).mbxMem = s.mbxMem ∧
    (State.usersEnd s p c).beds = s.beds ∧
    (State.usersEnd s p c).lanes = s.lanes ∧
    (State.usersEnd s p c).now = s.now ∧
    (State.usersEnd s p c).free = s.free ∧
    (State.usersEnd s p c).pending = s.pending := by
  simp -implicitDefEqProofs [State.usersEnd]

@[simp] theorem springPartner_frame (s : State) (p : PortId) :
    (State.springPartner s p).pins = s.pins ∧
    (State.springPartner s p).hub = s.hub ∧
    (State.springPartner s p).clk = s.clk ∧
    (State.springPartner s p).sluice = s.sluice ∧
    (State.springPartner s p).boot = s.boot ∧
    (State.springPartner s p).flash = s.flash ∧
    (State.springPartner s p).sec = s.sec ∧
    (State.springPartner s p).tel = s.tel ∧
    (State.springPartner s p).chans = s.chans ∧
    (State.springPartner s p).mbxMem = s.mbxMem ∧
    (State.springPartner s p).rings = s.rings ∧
    (State.springPartner s p).hostMem = s.hostMem ∧
    (State.springPartner s p).beds = s.beds ∧
    (State.springPartner s p).lanes = s.lanes ∧
    (State.springPartner s p).now = s.now ∧
    (State.springPartner s p).free = s.free ∧
    (State.springPartner s p).pending = s.pending := by
  simp -implicitDefEqProofs [State.springPartner]

@[simp] theorem springEndSession_frame (s : State) (p : PortId) (c : Loss) :
    (State.springEndSession s p c).hub = s.hub ∧
    (State.springEndSession s p c).clk = s.clk ∧
    (State.springEndSession s p c).sluice = s.sluice ∧
    (State.springEndSession s p c).boot = s.boot ∧
    (State.springEndSession s p c).flash = s.flash ∧
    (State.springEndSession s p c).sec = s.sec ∧
    (State.springEndSession s p c).tel = s.tel ∧
    (State.springEndSession s p c).chans = s.chans ∧
    (State.springEndSession s p c).mbxMem = s.mbxMem ∧
    (State.springEndSession s p c).beds = s.beds ∧
    (State.springEndSession s p c).lanes = s.lanes ∧
    (State.springEndSession s p c).now = s.now ∧
    (State.springEndSession s p c).free = s.free ∧
    (State.springEndSession s p c).pending = s.pending := by
  simp -implicitDefEqProofs [State.springEndSession]

@[simp] theorem springLeave_frame (s : State) (p : PortId) (c : Loss) :
    (State.springLeave s p c).hub = s.hub ∧
    (State.springLeave s p c).clk = s.clk ∧
    (State.springLeave s p c).sluice = s.sluice ∧
    (State.springLeave s p c).boot = s.boot ∧
    (State.springLeave s p c).flash = s.flash ∧
    (State.springLeave s p c).sec = s.sec ∧
    (State.springLeave s p c).tel = s.tel ∧
    (State.springLeave s p c).chans = s.chans ∧
    (State.springLeave s p c).mbxMem = s.mbxMem ∧
    (State.springLeave s p c).beds = s.beds ∧
    (State.springLeave s p c).lanes = s.lanes ∧
    (State.springLeave s p c).now = s.now ∧
    (State.springLeave s p c).free = s.free ∧
    (State.springLeave s p c).pending = s.pending := by
  unfold State.springLeave; (try dsimp only); (repeat' split) <;> (try simp_all -implicitDefEqProofs)

@[simp] theorem springAtListening_frame (s : State) (p : PortId) :
    (State.springAtListening s p).hub = s.hub ∧
    (State.springAtListening s p).clk = s.clk ∧
    (State.springAtListening s p).sluice = s.sluice ∧
    (State.springAtListening s p).boot = s.boot ∧
    (State.springAtListening s p).flash = s.flash ∧
    (State.springAtListening s p).sec = s.sec ∧
    (State.springAtListening s p).tel = s.tel ∧
    (State.springAtListening s p).chans = s.chans ∧
    (State.springAtListening s p).mbxMem = s.mbxMem ∧
    (State.springAtListening s p).lanes = s.lanes ∧
    (State.springAtListening s p).now = s.now ∧
    (State.springAtListening s p).free = s.free ∧
    (State.springAtListening s p).pending = s.pending := by
  unfold State.springAtListening; (try dsimp only); (repeat' split) <;> (try simp_all -implicitDefEqProofs)

@[simp] theorem springOn_frame (s : State) (p : PortId) :
    (State.springOn s p).pins = s.pins ∧
    (State.springOn s p).hub = s.hub ∧
    (State.springOn s p).clk = s.clk ∧
    (State.springOn s p).sluice = s.sluice ∧
    (State.springOn s p).boot = s.boot ∧
    (State.springOn s p).flash = s.flash ∧
    (State.springOn s p).sec = s.sec ∧
    (State.springOn s p).tel = s.tel ∧
    (State.springOn s p).chans = s.chans ∧
    (State.springOn s p).mbxMem = s.mbxMem ∧
    (State.springOn s p).rings = s.rings ∧
    (State.springOn s p).hostMem = s.hostMem ∧
    (State.springOn s p).beds = s.beds ∧
    (State.springOn s p).lanes = s.lanes ∧
    (State.springOn s p).now = s.now ∧
    (State.springOn s p).free = s.free ∧
    (State.springOn s p).pending = s.pending := by
  simp -implicitDefEqProofs [State.springOn]

@[simp] theorem lanesIdle_frame (s : State) (ls : List LaneId) :
    (State.lanesIdle s ls).pins = s.pins ∧
    (State.lanesIdle s ls).hub = s.hub ∧
    (State.lanesIdle s ls).clk = s.clk ∧
    (State.lanesIdle s ls).sluice = s.sluice ∧
    (State.lanesIdle s ls).boot = s.boot ∧
    (State.lanesIdle s ls).flash = s.flash ∧
    (State.lanesIdle s ls).sec = s.sec ∧
    (State.lanesIdle s ls).tel = s.tel ∧
    (State.lanesIdle s ls).chans = s.chans ∧
    (State.lanesIdle s ls).mbxMem = s.mbxMem ∧
    (State.lanesIdle s ls).rings = s.rings ∧
    (State.lanesIdle s ls).hostMem = s.hostMem ∧
    (State.lanesIdle s ls).ports = s.ports ∧
    (State.lanesIdle s ls).beds = s.beds ∧
    (State.lanesIdle s ls).now = s.now ∧
    (State.lanesIdle s ls).free = s.free ∧
    (State.lanesIdle s ls).pending = s.pending := by
  simp -implicitDefEqProofs [State.lanesIdle]

@[simp] theorem hostSet_frame (s : State) (p : PortId) (m : HostMode) (e : Egress) :
    (State.hostSet s p m e).pins = s.pins ∧
    (State.hostSet s p m e).hub = s.hub ∧
    (State.hostSet s p m e).clk = s.clk ∧
    (State.hostSet s p m e).sluice = s.sluice ∧
    (State.hostSet s p m e).boot = s.boot ∧
    (State.hostSet s p m e).flash = s.flash ∧
    (State.hostSet s p m e).sec = s.sec ∧
    (State.hostSet s p m e).tel = s.tel ∧
    (State.hostSet s p m e).chans = s.chans ∧
    (State.hostSet s p m e).mbxMem = s.mbxMem ∧
    (State.hostSet s p m e).rings = s.rings ∧
    (State.hostSet s p m e).hostMem = s.hostMem ∧
    (State.hostSet s p m e).beds = s.beds ∧
    (State.hostSet s p m e).now = s.now ∧
    (State.hostSet s p m e).free = s.free ∧
    (State.hostSet s p m e).pending = s.pending := by
  simp -implicitDefEqProofs [State.hostSet]

@[simp] theorem hostOff_frame (s : State) (p : PortId) :
    (State.hostOff s p).pins = s.pins ∧
    (State.hostOff s p).hub = s.hub ∧
    (State.hostOff s p).clk = s.clk ∧
    (State.hostOff s p).sluice = s.sluice ∧
    (State.hostOff s p).boot = s.boot ∧
    (State.hostOff s p).flash = s.flash ∧
    (State.hostOff s p).sec = s.sec ∧
    (State.hostOff s p).tel = s.tel ∧
    (State.hostOff s p).chans = s.chans ∧
    (State.hostOff s p).mbxMem = s.mbxMem ∧
    (State.hostOff s p).rings = s.rings ∧
    (State.hostOff s p).hostMem = s.hostMem ∧
    (State.hostOff s p).beds = s.beds ∧
    (State.hostOff s p).now = s.now ∧
    (State.hostOff s p).free = s.free ∧
    (State.hostOff s p).pending = s.pending := by
  simp -implicitDefEqProofs [State.hostOff]

@[simp] theorem sampleFlush_frame (s : State) (p : PortId) :
    (State.sampleFlush s p).pins = s.pins ∧
    (State.sampleFlush s p).hub = s.hub ∧
    (State.sampleFlush s p).clk = s.clk ∧
    (State.sampleFlush s p).sluice = s.sluice ∧
    (State.sampleFlush s p).boot = s.boot ∧
    (State.sampleFlush s p).flash = s.flash ∧
    (State.sampleFlush s p).sec = s.sec ∧
    (State.sampleFlush s p).tel = s.tel ∧
    (State.sampleFlush s p).chans = s.chans ∧
    (State.sampleFlush s p).mbxMem = s.mbxMem ∧
    (State.sampleFlush s p).rings = s.rings ∧
    (State.sampleFlush s p).hostMem = s.hostMem ∧
    (State.sampleFlush s p).beds = s.beds ∧
    (State.sampleFlush s p).lanes = s.lanes ∧
    (State.sampleFlush s p).now = s.now ∧
    (State.sampleFlush s p).free = s.free ∧
    (State.sampleFlush s p).pending = s.pending := by
  simp -implicitDefEqProofs [State.sampleFlush]

@[simp] theorem portRest_frame (s : State) (p : PortId) :
    (State.portRest s p).pins = s.pins ∧
    (State.portRest s p).hub = s.hub ∧
    (State.portRest s p).clk = s.clk ∧
    (State.portRest s p).sluice = s.sluice ∧
    (State.portRest s p).boot = s.boot ∧
    (State.portRest s p).flash = s.flash ∧
    (State.portRest s p).sec = s.sec ∧
    (State.portRest s p).tel = s.tel ∧
    (State.portRest s p).chans = s.chans ∧
    (State.portRest s p).mbxMem = s.mbxMem ∧
    (State.portRest s p).rings = s.rings ∧
    (State.portRest s p).hostMem = s.hostMem ∧
    (State.portRest s p).beds = s.beds ∧
    (State.portRest s p).lanes = s.lanes ∧
    (State.portRest s p).now = s.now ∧
    (State.portRest s p).free = s.free ∧
    (State.portRest s p).pending = s.pending := by
  simp -implicitDefEqProofs [State.portRest]

@[simp] theorem linkDown_frame (s : State) (p : PortId) (c : Down) (pairs : BitVec 4) (tc : TCause) (fr : FReason) :
    (State.linkDown s p c pairs tc fr).pins = s.pins ∧
    (State.linkDown s p c pairs tc fr).hub = s.hub ∧
    (State.linkDown s p c pairs tc fr).clk = s.clk ∧
    (State.linkDown s p c pairs tc fr).sluice = s.sluice ∧
    (State.linkDown s p c pairs tc fr).boot = s.boot ∧
    (State.linkDown s p c pairs tc fr).flash = s.flash ∧
    (State.linkDown s p c pairs tc fr).sec = s.sec ∧
    (State.linkDown s p c pairs tc fr).tel = s.tel ∧
    (State.linkDown s p c pairs tc fr).chans = s.chans ∧
    (State.linkDown s p c pairs tc fr).mbxMem = s.mbxMem ∧
    (State.linkDown s p c pairs tc fr).rings = s.rings ∧
    (State.linkDown s p c pairs tc fr).hostMem = s.hostMem ∧
    (State.linkDown s p c pairs tc fr).beds = s.beds ∧
    (State.linkDown s p c pairs tc fr).lanes = s.lanes ∧
    (State.linkDown s p c pairs tc fr).now = s.now ∧
    (State.linkDown s p c pairs tc fr).free = s.free ∧
    (State.linkDown s p c pairs tc fr).pending = s.pending := by
  simp -implicitDefEqProofs [State.linkDown]

@[simp] theorem failAttempt_frame (s : State) (p : PortId) (rung : Rung) (down : Bool) :
    (State.failAttempt s p rung down).pins = s.pins ∧
    (State.failAttempt s p rung down).hub = s.hub ∧
    (State.failAttempt s p rung down).clk = s.clk ∧
    (State.failAttempt s p rung down).sluice = s.sluice ∧
    (State.failAttempt s p rung down).boot = s.boot ∧
    (State.failAttempt s p rung down).flash = s.flash ∧
    (State.failAttempt s p rung down).sec = s.sec ∧
    (State.failAttempt s p rung down).tel = s.tel ∧
    (State.failAttempt s p rung down).chans = s.chans ∧
    (State.failAttempt s p rung down).mbxMem = s.mbxMem ∧
    (State.failAttempt s p rung down).rings = s.rings ∧
    (State.failAttempt s p rung down).hostMem = s.hostMem ∧
    (State.failAttempt s p rung down).beds = s.beds ∧
    (State.failAttempt s p rung down).lanes = s.lanes ∧
    (State.failAttempt s p rung down).now = s.now ∧
    (State.failAttempt s p rung down).free = s.free ∧
    (State.failAttempt s p rung down).pending = s.pending := by
  simp -implicitDefEqProofs [State.failAttempt]

@[simp] theorem countDown_frame (s : State) (p : PortId) (rung : Rung) :
    (State.countDown s p rung).pins = s.pins ∧
    (State.countDown s p rung).hub = s.hub ∧
    (State.countDown s p rung).clk = s.clk ∧
    (State.countDown s p rung).sluice = s.sluice ∧
    (State.countDown s p rung).boot = s.boot ∧
    (State.countDown s p rung).flash = s.flash ∧
    (State.countDown s p rung).sec = s.sec ∧
    (State.countDown s p rung).tel = s.tel ∧
    (State.countDown s p rung).chans = s.chans ∧
    (State.countDown s p rung).mbxMem = s.mbxMem ∧
    (State.countDown s p rung).rings = s.rings ∧
    (State.countDown s p rung).hostMem = s.hostMem ∧
    (State.countDown s p rung).beds = s.beds ∧
    (State.countDown s p rung).lanes = s.lanes ∧
    (State.countDown s p rung).now = s.now ∧
    (State.countDown s p rung).free = s.free ∧
    (State.countDown s p rung).pending = s.pending := by
  simp -implicitDefEqProofs [State.countDown]

@[simp] theorem recause_frame (s : State) (p : PortId) (c : Down) :
    (State.recause s p c).pins = s.pins ∧
    (State.recause s p c).hub = s.hub ∧
    (State.recause s p c).clk = s.clk ∧
    (State.recause s p c).sluice = s.sluice ∧
    (State.recause s p c).boot = s.boot ∧
    (State.recause s p c).flash = s.flash ∧
    (State.recause s p c).sec = s.sec ∧
    (State.recause s p c).tel = s.tel ∧
    (State.recause s p c).chans = s.chans ∧
    (State.recause s p c).mbxMem = s.mbxMem ∧
    (State.recause s p c).rings = s.rings ∧
    (State.recause s p c).hostMem = s.hostMem ∧
    (State.recause s p c).beds = s.beds ∧
    (State.recause s p c).lanes = s.lanes ∧
    (State.recause s p c).now = s.now ∧
    (State.recause s p c).free = s.free ∧
    (State.recause s p c).pending = s.pending := by
  simp -implicitDefEqProofs [State.recause]

@[simp] theorem critEvent_frame (s : State) (p : PortId) (c : Down) :
    (State.critEvent s p c).pins = s.pins ∧
    (State.critEvent s p c).hub = s.hub ∧
    (State.critEvent s p c).clk = s.clk ∧
    (State.critEvent s p c).sluice = s.sluice ∧
    (State.critEvent s p c).boot = s.boot ∧
    (State.critEvent s p c).flash = s.flash ∧
    (State.critEvent s p c).sec = s.sec ∧
    (State.critEvent s p c).tel = s.tel ∧
    (State.critEvent s p c).chans = s.chans ∧
    (State.critEvent s p c).mbxMem = s.mbxMem ∧
    (State.critEvent s p c).rings = s.rings ∧
    (State.critEvent s p c).hostMem = s.hostMem ∧
    (State.critEvent s p c).beds = s.beds ∧
    (State.critEvent s p c).lanes = s.lanes ∧
    (State.critEvent s p c).now = s.now ∧
    (State.critEvent s p c).free = s.free ∧
    (State.critEvent s p c).pending = s.pending := by
  simp -implicitDefEqProofs [State.critEvent]

@[simp] theorem clearRemoved_frame (s : State) (p : PortId) :
    (State.clearRemoved s p).pins = s.pins ∧
    (State.clearRemoved s p).hub = s.hub ∧
    (State.clearRemoved s p).clk = s.clk ∧
    (State.clearRemoved s p).sluice = s.sluice ∧
    (State.clearRemoved s p).boot = s.boot ∧
    (State.clearRemoved s p).flash = s.flash ∧
    (State.clearRemoved s p).sec = s.sec ∧
    (State.clearRemoved s p).tel = s.tel ∧
    (State.clearRemoved s p).chans = s.chans ∧
    (State.clearRemoved s p).mbxMem = s.mbxMem ∧
    (State.clearRemoved s p).rings = s.rings ∧
    (State.clearRemoved s p).hostMem = s.hostMem ∧
    (State.clearRemoved s p).beds = s.beds ∧
    (State.clearRemoved s p).lanes = s.lanes ∧
    (State.clearRemoved s p).now = s.now ∧
    (State.clearRemoved s p).free = s.free ∧
    (State.clearRemoved s p).pending = s.pending := by
  simp -implicitDefEqProofs [State.clearRemoved]

@[simp] theorem c28Start_frame (s : State) (p : PortId) :
    (State.c28Start s p).pins = s.pins ∧
    (State.c28Start s p).hub = s.hub ∧
    (State.c28Start s p).clk = s.clk ∧
    (State.c28Start s p).sluice = s.sluice ∧
    (State.c28Start s p).boot = s.boot ∧
    (State.c28Start s p).flash = s.flash ∧
    (State.c28Start s p).sec = s.sec ∧
    (State.c28Start s p).tel = s.tel ∧
    (State.c28Start s p).chans = s.chans ∧
    (State.c28Start s p).mbxMem = s.mbxMem ∧
    (State.c28Start s p).rings = s.rings ∧
    (State.c28Start s p).hostMem = s.hostMem ∧
    (State.c28Start s p).beds = s.beds ∧
    (State.c28Start s p).lanes = s.lanes ∧
    (State.c28Start s p).now = s.now ∧
    (State.c28Start s p).free = s.free ∧
    (State.c28Start s p).pending = s.pending := by
  simp -implicitDefEqProofs [State.c28Start]

@[simp] theorem toListening_frame (s : State) (p : PortId) :
    (State.toListening s p).hub = s.hub ∧
    (State.toListening s p).clk = s.clk ∧
    (State.toListening s p).sluice = s.sluice ∧
    (State.toListening s p).boot = s.boot ∧
    (State.toListening s p).flash = s.flash ∧
    (State.toListening s p).sec = s.sec ∧
    (State.toListening s p).tel = s.tel ∧
    (State.toListening s p).chans = s.chans ∧
    (State.toListening s p).mbxMem = s.mbxMem ∧
    (State.toListening s p).now = s.now ∧
    (State.toListening s p).free = s.free ∧
    (State.toListening s p).pending = s.pending := by
  simp -implicitDefEqProofs [State.toListening]

@[simp] theorem toDisabled_frame (s : State) (p : PortId) :
    (State.toDisabled s p).pins = s.pins ∧
    (State.toDisabled s p).hub = s.hub ∧
    (State.toDisabled s p).clk = s.clk ∧
    (State.toDisabled s p).sluice = s.sluice ∧
    (State.toDisabled s p).boot = s.boot ∧
    (State.toDisabled s p).flash = s.flash ∧
    (State.toDisabled s p).sec = s.sec ∧
    (State.toDisabled s p).tel = s.tel ∧
    (State.toDisabled s p).chans = s.chans ∧
    (State.toDisabled s p).mbxMem = s.mbxMem ∧
    (State.toDisabled s p).rings = s.rings ∧
    (State.toDisabled s p).hostMem = s.hostMem ∧
    (State.toDisabled s p).beds = s.beds ∧
    (State.toDisabled s p).now = s.now ∧
    (State.toDisabled s p).free = s.free ∧
    (State.toDisabled s p).pending = s.pending := by
  simp -implicitDefEqProofs [State.toDisabled]

@[simp] theorem disableDone_frame (s : State) (p : PortId) :
    (State.disableDone s p).pins = s.pins ∧
    (State.disableDone s p).hub = s.hub ∧
    (State.disableDone s p).clk = s.clk ∧
    (State.disableDone s p).sluice = s.sluice ∧
    (State.disableDone s p).boot = s.boot ∧
    (State.disableDone s p).flash = s.flash ∧
    (State.disableDone s p).sec = s.sec ∧
    (State.disableDone s p).tel = s.tel ∧
    (State.disableDone s p).chans = s.chans ∧
    (State.disableDone s p).mbxMem = s.mbxMem ∧
    (State.disableDone s p).rings = s.rings ∧
    (State.disableDone s p).hostMem = s.hostMem ∧
    (State.disableDone s p).beds = s.beds ∧
    (State.disableDone s p).now = s.now ∧
    (State.disableDone s p).free = s.free ∧
    (State.disableDone s p).pending = s.pending := by
  simp -implicitDefEqProofs [State.disableDone]

@[simp] theorem wakeStart_frame (s : State) (p : PortId) :
    (State.wakeStart s p).pins = s.pins ∧
    (State.wakeStart s p).hub = s.hub ∧
    (State.wakeStart s p).clk = s.clk ∧
    (State.wakeStart s p).sluice = s.sluice ∧
    (State.wakeStart s p).boot = s.boot ∧
    (State.wakeStart s p).flash = s.flash ∧
    (State.wakeStart s p).sec = s.sec ∧
    (State.wakeStart s p).tel = s.tel ∧
    (State.wakeStart s p).chans = s.chans ∧
    (State.wakeStart s p).mbxMem = s.mbxMem ∧
    (State.wakeStart s p).rings = s.rings ∧
    (State.wakeStart s p).hostMem = s.hostMem ∧
    (State.wakeStart s p).beds = s.beds ∧
    (State.wakeStart s p).lanes = s.lanes ∧
    (State.wakeStart s p).now = s.now ∧
    (State.wakeStart s p).free = s.free ∧
    (State.wakeStart s p).pending = s.pending := by
  simp -implicitDefEqProofs [State.wakeStart]

@[simp] theorem toDormant_frame (s : State) (p : PortId) :
    (State.toDormant s p).pins = s.pins ∧
    (State.toDormant s p).hub = s.hub ∧
    (State.toDormant s p).clk = s.clk ∧
    (State.toDormant s p).sluice = s.sluice ∧
    (State.toDormant s p).boot = s.boot ∧
    (State.toDormant s p).flash = s.flash ∧
    (State.toDormant s p).sec = s.sec ∧
    (State.toDormant s p).tel = s.tel ∧
    (State.toDormant s p).chans = s.chans ∧
    (State.toDormant s p).mbxMem = s.mbxMem ∧
    (State.toDormant s p).rings = s.rings ∧
    (State.toDormant s p).hostMem = s.hostMem ∧
    (State.toDormant s p).beds = s.beds ∧
    (State.toDormant s p).now = s.now ∧
    (State.toDormant s p).free = s.free ∧
    (State.toDormant s p).pending = s.pending := by
  simp -implicitDefEqProofs [State.toDormant]

@[simp] theorem leaveDormant_frame (s : State) (p : PortId) (exit : Nat) :
    (State.leaveDormant s p exit).pins = s.pins ∧
    (State.leaveDormant s p exit).hub = s.hub ∧
    (State.leaveDormant s p exit).clk = s.clk ∧
    (State.leaveDormant s p exit).sluice = s.sluice ∧
    (State.leaveDormant s p exit).boot = s.boot ∧
    (State.leaveDormant s p exit).flash = s.flash ∧
    (State.leaveDormant s p exit).sec = s.sec ∧
    (State.leaveDormant s p exit).tel = s.tel ∧
    (State.leaveDormant s p exit).chans = s.chans ∧
    (State.leaveDormant s p exit).mbxMem = s.mbxMem ∧
    (State.leaveDormant s p exit).rings = s.rings ∧
    (State.leaveDormant s p exit).hostMem = s.hostMem ∧
    (State.leaveDormant s p exit).beds = s.beds ∧
    (State.leaveDormant s p exit).lanes = s.lanes ∧
    (State.leaveDormant s p exit).now = s.now ∧
    (State.leaveDormant s p exit).free = s.free ∧
    (State.leaveDormant s p exit).pending = s.pending := by
  simp -implicitDefEqProofs [State.leaveDormant]

@[simp] theorem toFault_frame (s : State) (p : PortId) (r : FReason) :
    (State.toFault s p r).pins = s.pins ∧
    (State.toFault s p r).hub = s.hub ∧
    (State.toFault s p r).clk = s.clk ∧
    (State.toFault s p r).sluice = s.sluice ∧
    (State.toFault s p r).boot = s.boot ∧
    (State.toFault s p r).flash = s.flash ∧
    (State.toFault s p r).sec = s.sec ∧
    (State.toFault s p r).tel = s.tel ∧
    (State.toFault s p r).chans = s.chans ∧
    (State.toFault s p r).mbxMem = s.mbxMem ∧
    (State.toFault s p r).rings = s.rings ∧
    (State.toFault s p r).hostMem = s.hostMem ∧
    (State.toFault s p r).beds = s.beds ∧
    (State.toFault s p r).now = s.now ∧
    (State.toFault s p r).free = s.free ∧
    (State.toFault s p r).pending = s.pending := by
  simp -implicitDefEqProofs [State.toFault]

@[simp] theorem startTraining_frame (s : State) (p : PortId) (kind : TKind) (phase : Phase) (rung : Rung) (origin : Nat) (silent : Bool) (fromData : Bool) :
    (State.startTraining s p kind phase rung origin silent fromData).pins = s.pins ∧
    (State.startTraining s p kind phase rung origin silent fromData).hub = s.hub ∧
    (State.startTraining s p kind phase rung origin silent fromData).clk = s.clk ∧
    (State.startTraining s p kind phase rung origin silent fromData).sluice = s.sluice ∧
    (State.startTraining s p kind phase rung origin silent fromData).boot = s.boot ∧
    (State.startTraining s p kind phase rung origin silent fromData).flash = s.flash ∧
    (State.startTraining s p kind phase rung origin silent fromData).sec = s.sec ∧
    (State.startTraining s p kind phase rung origin silent fromData).tel = s.tel ∧
    (State.startTraining s p kind phase rung origin silent fromData).chans = s.chans ∧
    (State.startTraining s p kind phase rung origin silent fromData).mbxMem = s.mbxMem ∧
    (State.startTraining s p kind phase rung origin silent fromData).rings = s.rings ∧
    (State.startTraining s p kind phase rung origin silent fromData).hostMem = s.hostMem ∧
    (State.startTraining s p kind phase rung origin silent fromData).beds = s.beds ∧
    (State.startTraining s p kind phase rung origin silent fromData).now = s.now ∧
    (State.startTraining s p kind phase rung origin silent fromData).free = s.free ∧
    (State.startTraining s p kind phase rung origin silent fromData).pending = s.pending := by
  simp -implicitDefEqProofs [State.startTraining]

@[simp] theorem noteFail_frame (s : State) (p : PortId) (c : TCause) :
    (State.noteFail s p c).pins = s.pins ∧
    (State.noteFail s p c).hub = s.hub ∧
    (State.noteFail s p c).clk = s.clk ∧
    (State.noteFail s p c).sluice = s.sluice ∧
    (State.noteFail s p c).boot = s.boot ∧
    (State.noteFail s p c).flash = s.flash ∧
    (State.noteFail s p c).sec = s.sec ∧
    (State.noteFail s p c).tel = s.tel ∧
    (State.noteFail s p c).chans = s.chans ∧
    (State.noteFail s p c).mbxMem = s.mbxMem ∧
    (State.noteFail s p c).rings = s.rings ∧
    (State.noteFail s p c).hostMem = s.hostMem ∧
    (State.noteFail s p c).beds = s.beds ∧
    (State.noteFail s p c).lanes = s.lanes ∧
    (State.noteFail s p c).now = s.now ∧
    (State.noteFail s p c).free = s.free ∧
    (State.noteFail s p c).pending = s.pending := by
  simp -implicitDefEqProofs [State.noteFail]

@[simp] theorem fpUnconf_frame (s : State) (p : PortId) :
    (State.fpUnconf s p).pins = s.pins ∧
    (State.fpUnconf s p).hub = s.hub ∧
    (State.fpUnconf s p).clk = s.clk ∧
    (State.fpUnconf s p).sluice = s.sluice ∧
    (State.fpUnconf s p).boot = s.boot ∧
    (State.fpUnconf s p).flash = s.flash ∧
    (State.fpUnconf s p).sec = s.sec ∧
    (State.fpUnconf s p).tel = s.tel ∧
    (State.fpUnconf s p).chans = s.chans ∧
    (State.fpUnconf s p).mbxMem = s.mbxMem ∧
    (State.fpUnconf s p).rings = s.rings ∧
    (State.fpUnconf s p).hostMem = s.hostMem ∧
    (State.fpUnconf s p).beds = s.beds ∧
    (State.fpUnconf s p).lanes = s.lanes ∧
    (State.fpUnconf s p).now = s.now ∧
    (State.fpUnconf s p).free = s.free ∧
    (State.fpUnconf s p).pending = s.pending := by
  simp -implicitDefEqProofs [State.fpUnconf]

@[simp] theorem retrainKind_frame (s : State) (p : PortId) :
    (State.retrainKind s p).2.pins = s.pins ∧
    (State.retrainKind s p).2.hub = s.hub ∧
    (State.retrainKind s p).2.clk = s.clk ∧
    (State.retrainKind s p).2.sluice = s.sluice ∧
    (State.retrainKind s p).2.boot = s.boot ∧
    (State.retrainKind s p).2.flash = s.flash ∧
    (State.retrainKind s p).2.sec = s.sec ∧
    (State.retrainKind s p).2.tel = s.tel ∧
    (State.retrainKind s p).2.chans = s.chans ∧
    (State.retrainKind s p).2.mbxMem = s.mbxMem ∧
    (State.retrainKind s p).2.rings = s.rings ∧
    (State.retrainKind s p).2.hostMem = s.hostMem ∧
    (State.retrainKind s p).2.beds = s.beds ∧
    (State.retrainKind s p).2.lanes = s.lanes ∧
    (State.retrainKind s p).2.now = s.now ∧
    (State.retrainKind s p).2.free = s.free ∧
    (State.retrainKind s p).2.pending = s.pending := by
  unfold State.retrainKind; (try dsimp only); (repeat' split) <;> (try simp_all -implicitDefEqProofs)

@[simp] theorem recover_frame (s : State) (p : PortId) (origin : Nat) :
    (State.recover s p origin).hub = s.hub ∧
    (State.recover s p origin).clk = s.clk ∧
    (State.recover s p origin).sluice = s.sluice ∧
    (State.recover s p origin).boot = s.boot ∧
    (State.recover s p origin).flash = s.flash ∧
    (State.recover s p origin).sec = s.sec ∧
    (State.recover s p origin).tel = s.tel ∧
    (State.recover s p origin).chans = s.chans ∧
    (State.recover s p origin).mbxMem = s.mbxMem ∧
    (State.recover s p origin).now = s.now ∧
    (State.recover s p origin).free = s.free ∧
    (State.recover s p origin).pending = s.pending := by
  unfold State.recover; (try dsimp only); (repeat' split) <;> (try simp_all -implicitDefEqProofs)

@[simp] theorem downRecover_frame (s : State) (p : PortId) (c : Down) :
    (State.downRecover s p c).hub = s.hub ∧
    (State.downRecover s p c).clk = s.clk ∧
    (State.downRecover s p c).sluice = s.sluice ∧
    (State.downRecover s p c).boot = s.boot ∧
    (State.downRecover s p c).flash = s.flash ∧
    (State.downRecover s p c).sec = s.sec ∧
    (State.downRecover s p c).tel = s.tel ∧
    (State.downRecover s p c).chans = s.chans ∧
    (State.downRecover s p c).mbxMem = s.mbxMem ∧
    (State.downRecover s p c).now = s.now ∧
    (State.downRecover s p c).free = s.free ∧
    (State.downRecover s p c).pending = s.pending := by
  simp -implicitDefEqProofs [State.downRecover]

@[simp] theorem sparePair_frame (s : State) (p : PortId) (bad : Pair) :
    (State.sparePair s p bad).pins = s.pins ∧
    (State.sparePair s p bad).hub = s.hub ∧
    (State.sparePair s p bad).clk = s.clk ∧
    (State.sparePair s p bad).sluice = s.sluice ∧
    (State.sparePair s p bad).boot = s.boot ∧
    (State.sparePair s p bad).flash = s.flash ∧
    (State.sparePair s p bad).sec = s.sec ∧
    (State.sparePair s p bad).tel = s.tel ∧
    (State.sparePair s p bad).chans = s.chans ∧
    (State.sparePair s p bad).mbxMem = s.mbxMem ∧
    (State.sparePair s p bad).rings = s.rings ∧
    (State.sparePair s p bad).hostMem = s.hostMem ∧
    (State.sparePair s p bad).beds = s.beds ∧
    (State.sparePair s p bad).now = s.now ∧
    (State.sparePair s p bad).free = s.free ∧
    (State.sparePair s p bad).pending = s.pending := by
  simp -implicitDefEqProofs [State.sparePair]

@[simp] theorem afterTrain_frame (s : State) (p : PortId) :
    (State.afterTrain s p).hub = s.hub ∧
    (State.afterTrain s p).clk = s.clk ∧
    (State.afterTrain s p).sluice = s.sluice ∧
    (State.afterTrain s p).boot = s.boot ∧
    (State.afterTrain s p).flash = s.flash ∧
    (State.afterTrain s p).sec = s.sec ∧
    (State.afterTrain s p).tel = s.tel ∧
    (State.afterTrain s p).chans = s.chans ∧
    (State.afterTrain s p).mbxMem = s.mbxMem ∧
    (State.afterTrain s p).now = s.now ∧
    (State.afterTrain s p).free = s.free ∧
    (State.afterTrain s p).pending = s.pending := by
  unfold State.afterTrain; (try dsimp only); (repeat' split) <;> (try simp_all -implicitDefEqProofs)

@[simp] theorem springAbort_frame (s : State) (p : PortId) (c : TCause) :
    (State.springAbort s p c).pins = s.pins ∧
    (State.springAbort s p c).hub = s.hub ∧
    (State.springAbort s p c).clk = s.clk ∧
    (State.springAbort s p c).sluice = s.sluice ∧
    (State.springAbort s p c).boot = s.boot ∧
    (State.springAbort s p c).flash = s.flash ∧
    (State.springAbort s p c).sec = s.sec ∧
    (State.springAbort s p c).tel = s.tel ∧
    (State.springAbort s p c).chans = s.chans ∧
    (State.springAbort s p c).mbxMem = s.mbxMem ∧
    (State.springAbort s p c).rings = s.rings ∧
    (State.springAbort s p c).hostMem = s.hostMem ∧
    (State.springAbort s p c).beds = s.beds ∧
    (State.springAbort s p c).lanes = s.lanes ∧
    (State.springAbort s p c).now = s.now ∧
    (State.springAbort s p c).free = s.free ∧
    (State.springAbort s p c).pending = s.pending := by
  simp -implicitDefEqProofs [State.springAbort]

@[simp] theorem abortSignal_frame (s : State) (p : PortId) (c : TCause) :
    (State.abortSignal s p c).2.pins = s.pins ∧
    (State.abortSignal s p c).2.hub = s.hub ∧
    (State.abortSignal s p c).2.clk = s.clk ∧
    (State.abortSignal s p c).2.sluice = s.sluice ∧
    (State.abortSignal s p c).2.boot = s.boot ∧
    (State.abortSignal s p c).2.flash = s.flash ∧
    (State.abortSignal s p c).2.sec = s.sec ∧
    (State.abortSignal s p c).2.tel = s.tel ∧
    (State.abortSignal s p c).2.chans = s.chans ∧
    (State.abortSignal s p c).2.mbxMem = s.mbxMem ∧
    (State.abortSignal s p c).2.rings = s.rings ∧
    (State.abortSignal s p c).2.hostMem = s.hostMem ∧
    (State.abortSignal s p c).2.beds = s.beds ∧
    (State.abortSignal s p c).2.lanes = s.lanes ∧
    (State.abortSignal s p c).2.now = s.now ∧
    (State.abortSignal s p c).2.free = s.free ∧
    (State.abortSignal s p c).2.pending = s.pending := by
  unfold State.abortSignal; (try dsimp only); (repeat' split) <;> (try simp_all -implicitDefEqProofs)

@[simp] theorem trainQuit_frame (s : State) (p : PortId) (c : TCause) (own : Bool) (after : After) :
    (State.trainQuit s p c own after).hub = s.hub ∧
    (State.trainQuit s p c own after).clk = s.clk ∧
    (State.trainQuit s p c own after).sluice = s.sluice ∧
    (State.trainQuit s p c own after).boot = s.boot ∧
    (State.trainQuit s p c own after).flash = s.flash ∧
    (State.trainQuit s p c own after).sec = s.sec ∧
    (State.trainQuit s p c own after).tel = s.tel ∧
    (State.trainQuit s p c own after).chans = s.chans ∧
    (State.trainQuit s p c own after).mbxMem = s.mbxMem ∧
    (State.trainQuit s p c own after).now = s.now ∧
    (State.trainQuit s p c own after).free = s.free ∧
    (State.trainQuit s p c own after).pending = s.pending := by
  unfold State.trainQuit; (try dsimp only); (repeat' split) <;> (try simp_all -implicitDefEqProofs)

@[simp] theorem trainFailWith_frame (s : State) (p : PortId) (c : TCause) (own : Bool) (pairs : BitVec 4) :
    (State.trainFailWith s p c own pairs).hub = s.hub ∧
    (State.trainFailWith s p c own pairs).clk = s.clk ∧
    (State.trainFailWith s p c own pairs).sluice = s.sluice ∧
    (State.trainFailWith s p c own pairs).boot = s.boot ∧
    (State.trainFailWith s p c own pairs).flash = s.flash ∧
    (State.trainFailWith s p c own pairs).sec = s.sec ∧
    (State.trainFailWith s p c own pairs).tel = s.tel ∧
    (State.trainFailWith s p c own pairs).chans = s.chans ∧
    (State.trainFailWith s p c own pairs).mbxMem = s.mbxMem ∧
    (State.trainFailWith s p c own pairs).now = s.now ∧
    (State.trainFailWith s p c own pairs).free = s.free ∧
    (State.trainFailWith s p c own pairs).pending = s.pending := by
  unfold State.trainFailWith; (try dsimp only); (repeat' split) <;> (try simp_all -implicitDefEqProofs)

@[simp] theorem trainFail_frame (s : State) (p : PortId) (c : TCause) (own : Bool) :
    (State.trainFail s p c own).hub = s.hub ∧
    (State.trainFail s p c own).clk = s.clk ∧
    (State.trainFail s p c own).sluice = s.sluice ∧
    (State.trainFail s p c own).boot = s.boot ∧
    (State.trainFail s p c own).flash = s.flash ∧
    (State.trainFail s p c own).sec = s.sec ∧
    (State.trainFail s p c own).tel = s.tel ∧
    (State.trainFail s p c own).chans = s.chans ∧
    (State.trainFail s p c own).mbxMem = s.mbxMem ∧
    (State.trainFail s p c own).now = s.now ∧
    (State.trainFail s p c own).free = s.free ∧
    (State.trainFail s p c own).pending = s.pending := by
  unfold State.trainFail; (try dsimp only); (repeat' split) <;> (try simp_all -implicitDefEqProofs)

@[simp] theorem trainFailPairs_frame (s : State) (p : PortId) (pairs : List Pair) :
    (State.trainFailPairs s p pairs).hub = s.hub ∧
    (State.trainFailPairs s p pairs).clk = s.clk ∧
    (State.trainFailPairs s p pairs).sluice = s.sluice ∧
    (State.trainFailPairs s p pairs).boot = s.boot ∧
    (State.trainFailPairs s p pairs).flash = s.flash ∧
    (State.trainFailPairs s p pairs).sec = s.sec ∧
    (State.trainFailPairs s p pairs).tel = s.tel ∧
    (State.trainFailPairs s p pairs).chans = s.chans ∧
    (State.trainFailPairs s p pairs).mbxMem = s.mbxMem ∧
    (State.trainFailPairs s p pairs).now = s.now ∧
    (State.trainFailPairs s p pairs).free = s.free ∧
    (State.trainFailPairs s p pairs).pending = s.pending := by
  simp -implicitDefEqProofs [State.trainFailPairs]

@[simp] theorem peerAbortNow_frame (s : State) (p : PortId) :
    (State.peerAbortNow s p).hub = s.hub ∧
    (State.peerAbortNow s p).clk = s.clk ∧
    (State.peerAbortNow s p).sluice = s.sluice ∧
    (State.peerAbortNow s p).boot = s.boot ∧
    (State.peerAbortNow s p).flash = s.flash ∧
    (State.peerAbortNow s p).sec = s.sec ∧
    (State.peerAbortNow s p).tel = s.tel ∧
    (State.peerAbortNow s p).chans = s.chans ∧
    (State.peerAbortNow s p).mbxMem = s.mbxMem ∧
    (State.peerAbortNow s p).now = s.now ∧
    (State.peerAbortNow s p).free = s.free ∧
    (State.peerAbortNow s p).pending = s.pending := by
  simp -implicitDefEqProofs [State.peerAbortNow]

@[simp] theorem laneEvent_frame (s : State) (p : PortId) (flag : Nat) (lane : Nat) :
    (State.laneEvent s p flag lane).pins = s.pins ∧
    (State.laneEvent s p flag lane).hub = s.hub ∧
    (State.laneEvent s p flag lane).clk = s.clk ∧
    (State.laneEvent s p flag lane).sluice = s.sluice ∧
    (State.laneEvent s p flag lane).boot = s.boot ∧
    (State.laneEvent s p flag lane).flash = s.flash ∧
    (State.laneEvent s p flag lane).sec = s.sec ∧
    (State.laneEvent s p flag lane).tel = s.tel ∧
    (State.laneEvent s p flag lane).chans = s.chans ∧
    (State.laneEvent s p flag lane).mbxMem = s.mbxMem ∧
    (State.laneEvent s p flag lane).rings = s.rings ∧
    (State.laneEvent s p flag lane).hostMem = s.hostMem ∧
    (State.laneEvent s p flag lane).ports = s.ports ∧
    (State.laneEvent s p flag lane).beds = s.beds ∧
    (State.laneEvent s p flag lane).lanes = s.lanes ∧
    (State.laneEvent s p flag lane).now = s.now ∧
    (State.laneEvent s p flag lane).free = s.free ∧
    (State.laneEvent s p flag lane).pending = s.pending := by
  simp -implicitDefEqProofs [State.laneEvent]

@[simp] theorem laneCheck_frame (s : State) (p : PortId) :
    (State.laneCheck s p).pins = s.pins ∧
    (State.laneCheck s p).hub = s.hub ∧
    (State.laneCheck s p).clk = s.clk ∧
    (State.laneCheck s p).sluice = s.sluice ∧
    (State.laneCheck s p).boot = s.boot ∧
    (State.laneCheck s p).flash = s.flash ∧
    (State.laneCheck s p).sec = s.sec ∧
    (State.laneCheck s p).tel = s.tel ∧
    (State.laneCheck s p).chans = s.chans ∧
    (State.laneCheck s p).mbxMem = s.mbxMem ∧
    (State.laneCheck s p).rings = s.rings ∧
    (State.laneCheck s p).hostMem = s.hostMem ∧
    (State.laneCheck s p).beds = s.beds ∧
    (State.laneCheck s p).lanes = s.lanes ∧
    (State.laneCheck s p).now = s.now ∧
    (State.laneCheck s p).free = s.free ∧
    (State.laneCheck s p).pending = s.pending := by
  simp -implicitDefEqProofs [State.laneCheck]

@[simp] theorem fpConfirm_frame (s : State) (p : PortId) :
    (State.fpConfirm s p).pins = s.pins ∧
    (State.fpConfirm s p).hub = s.hub ∧
    (State.fpConfirm s p).clk = s.clk ∧
    (State.fpConfirm s p).sluice = s.sluice ∧
    (State.fpConfirm s p).boot = s.boot ∧
    (State.fpConfirm s p).flash = s.flash ∧
    (State.fpConfirm s p).sec = s.sec ∧
    (State.fpConfirm s p).tel = s.tel ∧
    (State.fpConfirm s p).chans = s.chans ∧
    (State.fpConfirm s p).mbxMem = s.mbxMem ∧
    (State.fpConfirm s p).rings = s.rings ∧
    (State.fpConfirm s p).hostMem = s.hostMem ∧
    (State.fpConfirm s p).beds = s.beds ∧
    (State.fpConfirm s p).lanes = s.lanes ∧
    (State.fpConfirm s p).now = s.now ∧
    (State.fpConfirm s p).free = s.free ∧
    (State.fpConfirm s p).pending = s.pending := by
  unfold State.fpConfirm; (try dsimp only); (repeat' split) <;> (try simp_all -implicitDefEqProofs)

@[simp] theorem toUp_frame (s : State) (p : PortId) :
    (State.toUp s p).pins = s.pins ∧
    (State.toUp s p).hub = s.hub ∧
    (State.toUp s p).clk = s.clk ∧
    (State.toUp s p).sluice = s.sluice ∧
    (State.toUp s p).boot = s.boot ∧
    (State.toUp s p).sec = s.sec ∧
    (State.toUp s p).tel = s.tel ∧
    (State.toUp s p).chans = s.chans ∧
    (State.toUp s p).mbxMem = s.mbxMem ∧
    (State.toUp s p).rings = s.rings ∧
    (State.toUp s p).beds = s.beds ∧
    (State.toUp s p).now = s.now ∧
    (State.toUp s p).pending = s.pending := by
  simp -implicitDefEqProofs [State.toUp]

@[simp] theorem springLostPort_frame (s : State) (p : PortId) :
    (State.springLostPort s p).hub = s.hub ∧
    (State.springLostPort s p).clk = s.clk ∧
    (State.springLostPort s p).sluice = s.sluice ∧
    (State.springLostPort s p).boot = s.boot ∧
    (State.springLostPort s p).flash = s.flash ∧
    (State.springLostPort s p).sec = s.sec ∧
    (State.springLostPort s p).tel = s.tel ∧
    (State.springLostPort s p).chans = s.chans ∧
    (State.springLostPort s p).mbxMem = s.mbxMem ∧
    (State.springLostPort s p).now = s.now ∧
    (State.springLostPort s p).free = s.free ∧
    (State.springLostPort s p).pending = s.pending := by
  simp -implicitDefEqProofs [State.springLostPort]

@[simp] theorem accessFault_frame (s : State) (m : MasterId) (kind : BitVec 3) (addr : Nat) :
    (State.accessFault s m kind addr).pins = s.pins ∧
    (State.accessFault s m kind addr).clk = s.clk ∧
    (State.accessFault s m kind addr).sluice = s.sluice ∧
    (State.accessFault s m kind addr).boot = s.boot ∧
    (State.accessFault s m kind addr).flash = s.flash ∧
    (State.accessFault s m kind addr).sec = s.sec ∧
    (State.accessFault s m kind addr).tel = s.tel ∧
    (State.accessFault s m kind addr).chans = s.chans ∧
    (State.accessFault s m kind addr).mbxMem = s.mbxMem ∧
    (State.accessFault s m kind addr).rings = s.rings ∧
    (State.accessFault s m kind addr).hostMem = s.hostMem ∧
    (State.accessFault s m kind addr).ports = s.ports ∧
    (State.accessFault s m kind addr).beds = s.beds ∧
    (State.accessFault s m kind addr).lanes = s.lanes ∧
    (State.accessFault s m kind addr).now = s.now ∧
    (State.accessFault s m kind addr).free = s.free ∧
    (State.accessFault s m kind addr).pending = s.pending := by
  simp -implicitDefEqProofs [State.accessFault]

@[simp] theorem writeTo_pins (m : MasterId) (a : Nat) (g : State → State) (s : State)
    (hg : (fun t => (g t).pins) = fun t => t.pins) : (s.writeTo m a g).pins = s.pins := by
  have h1 := fun t => congrFun hg t
  unfold State.writeTo
  repeat' split
  all_goals (try simp_all -implicitDefEqProofs)

@[simp] theorem writeTo_clk (m : MasterId) (a : Nat) (g : State → State) (s : State)
    (hg : (fun t => (g t).clk) = fun t => t.clk) : (s.writeTo m a g).clk = s.clk := by
  have h1 := fun t => congrFun hg t
  unfold State.writeTo
  repeat' split
  all_goals (try simp_all -implicitDefEqProofs)

@[simp] theorem writeTo_sluice (m : MasterId) (a : Nat) (g : State → State) (s : State)
    (hg : (fun t => (g t).sluice) = fun t => t.sluice) : (s.writeTo m a g).sluice = s.sluice := by
  have h1 := fun t => congrFun hg t
  unfold State.writeTo
  repeat' split
  all_goals (try simp_all -implicitDefEqProofs)

@[simp] theorem writeTo_boot (m : MasterId) (a : Nat) (g : State → State) (s : State)
    (hg : (fun t => (g t).boot) = fun t => t.boot) : (s.writeTo m a g).boot = s.boot := by
  have h1 := fun t => congrFun hg t
  unfold State.writeTo
  repeat' split
  all_goals (try simp_all -implicitDefEqProofs)

@[simp] theorem writeTo_flash (m : MasterId) (a : Nat) (g : State → State) (s : State)
    (hg : (fun t => (g t).flash) = fun t => t.flash) : (s.writeTo m a g).flash = s.flash := by
  have h1 := fun t => congrFun hg t
  unfold State.writeTo
  repeat' split
  all_goals (try simp_all -implicitDefEqProofs)

@[simp] theorem writeTo_sec (m : MasterId) (a : Nat) (g : State → State) (s : State)
    (hg : (fun t => (g t).sec) = fun t => t.sec) : (s.writeTo m a g).sec = s.sec := by
  have h1 := fun t => congrFun hg t
  unfold State.writeTo
  repeat' split
  all_goals (try simp_all -implicitDefEqProofs)

@[simp] theorem writeTo_tel (m : MasterId) (a : Nat) (g : State → State) (s : State)
    (hg : (fun t => (g t).tel) = fun t => t.tel) : (s.writeTo m a g).tel = s.tel := by
  have h1 := fun t => congrFun hg t
  unfold State.writeTo
  repeat' split
  all_goals (try simp_all -implicitDefEqProofs)

@[simp] theorem writeTo_chans (m : MasterId) (a : Nat) (g : State → State) (s : State)
    (hg : (fun t => (g t).chans) = fun t => t.chans) : (s.writeTo m a g).chans = s.chans := by
  have h1 := fun t => congrFun hg t
  unfold State.writeTo
  repeat' split
  all_goals (try simp_all -implicitDefEqProofs)

@[simp] theorem writeTo_mbxMem (m : MasterId) (a : Nat) (g : State → State) (s : State)
    (hg : (fun t => (g t).mbxMem) = fun t => t.mbxMem) : (s.writeTo m a g).mbxMem = s.mbxMem := by
  have h1 := fun t => congrFun hg t
  unfold State.writeTo
  repeat' split
  all_goals (try simp_all -implicitDefEqProofs)

@[simp] theorem writeTo_rings (m : MasterId) (a : Nat) (g : State → State) (s : State)
    (hg : (fun t => (g t).rings) = fun t => t.rings) : (s.writeTo m a g).rings = s.rings := by
  have h1 := fun t => congrFun hg t
  unfold State.writeTo
  repeat' split
  all_goals (try simp_all -implicitDefEqProofs)

@[simp] theorem writeTo_hostMem (m : MasterId) (a : Nat) (g : State → State) (s : State)
    (hg : (fun t => (g t).hostMem) = fun t => t.hostMem) : (s.writeTo m a g).hostMem = s.hostMem := by
  have h1 := fun t => congrFun hg t
  unfold State.writeTo
  repeat' split
  all_goals (try simp_all -implicitDefEqProofs)

@[simp] theorem writeTo_ports (m : MasterId) (a : Nat) (g : State → State) (s : State)
    (hg : (fun t => (g t).ports) = fun t => t.ports) : (s.writeTo m a g).ports = s.ports := by
  have h1 := fun t => congrFun hg t
  unfold State.writeTo
  repeat' split
  all_goals (try simp_all -implicitDefEqProofs)

@[simp] theorem writeTo_beds (m : MasterId) (a : Nat) (g : State → State) (s : State)
    (hg : (fun t => (g t).beds) = fun t => t.beds) : (s.writeTo m a g).beds = s.beds := by
  have h1 := fun t => congrFun hg t
  unfold State.writeTo
  repeat' split
  all_goals (try simp_all -implicitDefEqProofs)

@[simp] theorem writeTo_lanes (m : MasterId) (a : Nat) (g : State → State) (s : State)
    (hg : (fun t => (g t).lanes) = fun t => t.lanes) : (s.writeTo m a g).lanes = s.lanes := by
  have h1 := fun t => congrFun hg t
  unfold State.writeTo
  repeat' split
  all_goals (try simp_all -implicitDefEqProofs)

@[simp] theorem writeTo_now (m : MasterId) (a : Nat) (g : State → State) (s : State)
    (hg : (fun t => (g t).now) = fun t => t.now) : (s.writeTo m a g).now = s.now := by
  have h1 := fun t => congrFun hg t
  unfold State.writeTo
  repeat' split
  all_goals (try simp_all -implicitDefEqProofs)

@[simp] theorem writeTo_free (m : MasterId) (a : Nat) (g : State → State) (s : State)
    (hg : (fun t => (g t).free) = fun t => t.free) : (s.writeTo m a g).free = s.free := by
  have h1 := fun t => congrFun hg t
  unfold State.writeTo
  repeat' split
  all_goals (try simp_all -implicitDefEqProofs)

@[simp] theorem writeTo_pending (m : MasterId) (a : Nat) (g : State → State) (s : State)
    (hg : (fun t => (g t).pending) = fun t => t.pending) : (s.writeTo m a g).pending = s.pending := by
  have h1 := fun t => congrFun hg t
  unfold State.writeTo
  repeat' split
  all_goals (try simp_all -implicitDefEqProofs)

@[simp] theorem writeAt_pins (m : MasterId) (a : Nat) (v : Word) (g : State → State) (s : State)
    (hg : (fun t => (g t).pins) = fun t => t.pins) : (s.writeAt m a v g).pins = s.pins := by
  have h1 := fun t => congrFun hg t
  unfold State.writeAt
  split
  · simp [State.holdAcc]
  · exact writeTo_pins _ _ _ _ hg

@[simp] theorem writeAt_clk (m : MasterId) (a : Nat) (v : Word) (g : State → State) (s : State)
    (hg : (fun t => (g t).clk) = fun t => t.clk) : (s.writeAt m a v g).clk = s.clk := by
  have h1 := fun t => congrFun hg t
  unfold State.writeAt
  split
  · simp [State.holdAcc]
  · exact writeTo_clk _ _ _ _ hg

@[simp] theorem writeAt_boot (m : MasterId) (a : Nat) (v : Word) (g : State → State) (s : State)
    (hg : (fun t => (g t).boot) = fun t => t.boot) : (s.writeAt m a v g).boot = s.boot := by
  have h1 := fun t => congrFun hg t
  unfold State.writeAt
  split
  · simp [State.holdAcc]
  · exact writeTo_boot _ _ _ _ hg

@[simp] theorem writeAt_flash (m : MasterId) (a : Nat) (v : Word) (g : State → State) (s : State)
    (hg : (fun t => (g t).flash) = fun t => t.flash) : (s.writeAt m a v g).flash = s.flash := by
  have h1 := fun t => congrFun hg t
  unfold State.writeAt
  split
  · simp [State.holdAcc]
  · exact writeTo_flash _ _ _ _ hg

@[simp] theorem writeAt_sec (m : MasterId) (a : Nat) (v : Word) (g : State → State) (s : State)
    (hg : (fun t => (g t).sec) = fun t => t.sec) : (s.writeAt m a v g).sec = s.sec := by
  have h1 := fun t => congrFun hg t
  unfold State.writeAt
  split
  · simp [State.holdAcc]
  · exact writeTo_sec _ _ _ _ hg

@[simp] theorem writeAt_tel (m : MasterId) (a : Nat) (v : Word) (g : State → State) (s : State)
    (hg : (fun t => (g t).tel) = fun t => t.tel) : (s.writeAt m a v g).tel = s.tel := by
  have h1 := fun t => congrFun hg t
  unfold State.writeAt
  split
  · simp [State.holdAcc]
  · exact writeTo_tel _ _ _ _ hg

@[simp] theorem writeAt_chans (m : MasterId) (a : Nat) (v : Word) (g : State → State) (s : State)
    (hg : (fun t => (g t).chans) = fun t => t.chans) : (s.writeAt m a v g).chans = s.chans := by
  have h1 := fun t => congrFun hg t
  unfold State.writeAt
  split
  · simp [State.holdAcc]
  · exact writeTo_chans _ _ _ _ hg

@[simp] theorem writeAt_mbxMem (m : MasterId) (a : Nat) (v : Word) (g : State → State) (s : State)
    (hg : (fun t => (g t).mbxMem) = fun t => t.mbxMem) : (s.writeAt m a v g).mbxMem = s.mbxMem := by
  have h1 := fun t => congrFun hg t
  unfold State.writeAt
  split
  · simp [State.holdAcc]
  · exact writeTo_mbxMem _ _ _ _ hg

@[simp] theorem writeAt_rings (m : MasterId) (a : Nat) (v : Word) (g : State → State) (s : State)
    (hg : (fun t => (g t).rings) = fun t => t.rings) : (s.writeAt m a v g).rings = s.rings := by
  have h1 := fun t => congrFun hg t
  unfold State.writeAt
  split
  · simp [State.holdAcc]
  · exact writeTo_rings _ _ _ _ hg

@[simp] theorem writeAt_hostMem (m : MasterId) (a : Nat) (v : Word) (g : State → State) (s : State)
    (hg : (fun t => (g t).hostMem) = fun t => t.hostMem) : (s.writeAt m a v g).hostMem = s.hostMem := by
  have h1 := fun t => congrFun hg t
  unfold State.writeAt
  split
  · simp [State.holdAcc]
  · exact writeTo_hostMem _ _ _ _ hg

@[simp] theorem writeAt_ports (m : MasterId) (a : Nat) (v : Word) (g : State → State) (s : State)
    (hg : (fun t => (g t).ports) = fun t => t.ports) : (s.writeAt m a v g).ports = s.ports := by
  have h1 := fun t => congrFun hg t
  unfold State.writeAt
  split
  · simp [State.holdAcc]
  · exact writeTo_ports _ _ _ _ hg

@[simp] theorem writeAt_beds (m : MasterId) (a : Nat) (v : Word) (g : State → State) (s : State)
    (hg : (fun t => (g t).beds) = fun t => t.beds) : (s.writeAt m a v g).beds = s.beds := by
  have h1 := fun t => congrFun hg t
  unfold State.writeAt
  split
  · simp [State.holdAcc]
  · exact writeTo_beds _ _ _ _ hg

@[simp] theorem writeAt_lanes (m : MasterId) (a : Nat) (v : Word) (g : State → State) (s : State)
    (hg : (fun t => (g t).lanes) = fun t => t.lanes) : (s.writeAt m a v g).lanes = s.lanes := by
  have h1 := fun t => congrFun hg t
  unfold State.writeAt
  split
  · simp [State.holdAcc]
  · exact writeTo_lanes _ _ _ _ hg

@[simp] theorem writeAt_now (m : MasterId) (a : Nat) (v : Word) (g : State → State) (s : State)
    (hg : (fun t => (g t).now) = fun t => t.now) : (s.writeAt m a v g).now = s.now := by
  have h1 := fun t => congrFun hg t
  unfold State.writeAt
  split
  · simp [State.holdAcc]
  · exact writeTo_now _ _ _ _ hg

@[simp] theorem writeAt_free (m : MasterId) (a : Nat) (v : Word) (g : State → State) (s : State)
    (hg : (fun t => (g t).free) = fun t => t.free) : (s.writeAt m a v g).free = s.free := by
  have h1 := fun t => congrFun hg t
  unfold State.writeAt
  split
  · simp [State.holdAcc]
  · exact writeTo_free _ _ _ _ hg

@[simp] theorem writeAt_pending (m : MasterId) (a : Nat) (v : Word) (g : State → State) (s : State)
    (hg : (fun t => (g t).pending) = fun t => t.pending) : (s.writeAt m a v g).pending = s.pending := by
  have h1 := fun t => congrFun hg t
  unfold State.writeAt
  split
  · simp [State.holdAcc]
  · exact writeTo_pending _ _ _ _ hg

@[simp] theorem readOf_pins (m : MasterId) (a : Nat) (g : State → State) (s : State)
    (hg : (fun t => (g t).pins) = fun t => t.pins) : (s.readOf m a g).pins = s.pins := by
  have h1 := fun t => congrFun hg t
  unfold State.readOf
  repeat' split
  all_goals (try simp_all -implicitDefEqProofs)

@[simp] theorem readOf_clk (m : MasterId) (a : Nat) (g : State → State) (s : State)
    (hg : (fun t => (g t).clk) = fun t => t.clk) : (s.readOf m a g).clk = s.clk := by
  have h1 := fun t => congrFun hg t
  unfold State.readOf
  repeat' split
  all_goals (try simp_all -implicitDefEqProofs)

@[simp] theorem readOf_sluice (m : MasterId) (a : Nat) (g : State → State) (s : State)
    (hg : (fun t => (g t).sluice) = fun t => t.sluice) : (s.readOf m a g).sluice = s.sluice := by
  have h1 := fun t => congrFun hg t
  unfold State.readOf
  repeat' split
  all_goals (try simp_all -implicitDefEqProofs)

@[simp] theorem readOf_boot (m : MasterId) (a : Nat) (g : State → State) (s : State)
    (hg : (fun t => (g t).boot) = fun t => t.boot) : (s.readOf m a g).boot = s.boot := by
  have h1 := fun t => congrFun hg t
  unfold State.readOf
  repeat' split
  all_goals (try simp_all -implicitDefEqProofs)

@[simp] theorem readOf_flash (m : MasterId) (a : Nat) (g : State → State) (s : State)
    (hg : (fun t => (g t).flash) = fun t => t.flash) : (s.readOf m a g).flash = s.flash := by
  have h1 := fun t => congrFun hg t
  unfold State.readOf
  repeat' split
  all_goals (try simp_all -implicitDefEqProofs)

@[simp] theorem readOf_sec (m : MasterId) (a : Nat) (g : State → State) (s : State)
    (hg : (fun t => (g t).sec) = fun t => t.sec) : (s.readOf m a g).sec = s.sec := by
  have h1 := fun t => congrFun hg t
  unfold State.readOf
  repeat' split
  all_goals (try simp_all -implicitDefEqProofs)

@[simp] theorem readOf_tel (m : MasterId) (a : Nat) (g : State → State) (s : State)
    (hg : (fun t => (g t).tel) = fun t => t.tel) : (s.readOf m a g).tel = s.tel := by
  have h1 := fun t => congrFun hg t
  unfold State.readOf
  repeat' split
  all_goals (try simp_all -implicitDefEqProofs)

@[simp] theorem readOf_chans (m : MasterId) (a : Nat) (g : State → State) (s : State)
    (hg : (fun t => (g t).chans) = fun t => t.chans) : (s.readOf m a g).chans = s.chans := by
  have h1 := fun t => congrFun hg t
  unfold State.readOf
  repeat' split
  all_goals (try simp_all -implicitDefEqProofs)

@[simp] theorem readOf_mbxMem (m : MasterId) (a : Nat) (g : State → State) (s : State)
    (hg : (fun t => (g t).mbxMem) = fun t => t.mbxMem) : (s.readOf m a g).mbxMem = s.mbxMem := by
  have h1 := fun t => congrFun hg t
  unfold State.readOf
  repeat' split
  all_goals (try simp_all -implicitDefEqProofs)

@[simp] theorem readOf_rings (m : MasterId) (a : Nat) (g : State → State) (s : State)
    (hg : (fun t => (g t).rings) = fun t => t.rings) : (s.readOf m a g).rings = s.rings := by
  have h1 := fun t => congrFun hg t
  unfold State.readOf
  repeat' split
  all_goals (try simp_all -implicitDefEqProofs)

@[simp] theorem readOf_hostMem (m : MasterId) (a : Nat) (g : State → State) (s : State)
    (hg : (fun t => (g t).hostMem) = fun t => t.hostMem) : (s.readOf m a g).hostMem = s.hostMem := by
  have h1 := fun t => congrFun hg t
  unfold State.readOf
  repeat' split
  all_goals (try simp_all -implicitDefEqProofs)

@[simp] theorem readOf_ports (m : MasterId) (a : Nat) (g : State → State) (s : State)
    (hg : (fun t => (g t).ports) = fun t => t.ports) : (s.readOf m a g).ports = s.ports := by
  have h1 := fun t => congrFun hg t
  unfold State.readOf
  repeat' split
  all_goals (try simp_all -implicitDefEqProofs)

@[simp] theorem readOf_beds (m : MasterId) (a : Nat) (g : State → State) (s : State)
    (hg : (fun t => (g t).beds) = fun t => t.beds) : (s.readOf m a g).beds = s.beds := by
  have h1 := fun t => congrFun hg t
  unfold State.readOf
  repeat' split
  all_goals (try simp_all -implicitDefEqProofs)

@[simp] theorem readOf_lanes (m : MasterId) (a : Nat) (g : State → State) (s : State)
    (hg : (fun t => (g t).lanes) = fun t => t.lanes) : (s.readOf m a g).lanes = s.lanes := by
  have h1 := fun t => congrFun hg t
  unfold State.readOf
  repeat' split
  all_goals (try simp_all -implicitDefEqProofs)

@[simp] theorem readOf_now (m : MasterId) (a : Nat) (g : State → State) (s : State)
    (hg : (fun t => (g t).now) = fun t => t.now) : (s.readOf m a g).now = s.now := by
  have h1 := fun t => congrFun hg t
  unfold State.readOf
  repeat' split
  all_goals (try simp_all -implicitDefEqProofs)

@[simp] theorem readOf_free (m : MasterId) (a : Nat) (g : State → State) (s : State)
    (hg : (fun t => (g t).free) = fun t => t.free) : (s.readOf m a g).free = s.free := by
  have h1 := fun t => congrFun hg t
  unfold State.readOf
  repeat' split
  all_goals (try simp_all -implicitDefEqProofs)

@[simp] theorem readOf_pending (m : MasterId) (a : Nat) (g : State → State) (s : State)
    (hg : (fun t => (g t).pending) = fun t => t.pending) : (s.readOf m a g).pending = s.pending := by
  have h1 := fun t => congrFun hg t
  unfold State.readOf
  repeat' split
  all_goals (try simp_all -implicitDefEqProofs)

@[simp] theorem holdAcc_frame (s : State) (m : MasterId) (addr : Nat) (v : Option Word) :
    (State.holdAcc s m addr v).pins = s.pins ∧
    (State.holdAcc s m addr v).hub = s.hub ∧
    (State.holdAcc s m addr v).clk = s.clk ∧
    (State.holdAcc s m addr v).boot = s.boot ∧
    (State.holdAcc s m addr v).flash = s.flash ∧
    (State.holdAcc s m addr v).sec = s.sec ∧
    (State.holdAcc s m addr v).tel = s.tel ∧
    (State.holdAcc s m addr v).chans = s.chans ∧
    (State.holdAcc s m addr v).mbxMem = s.mbxMem ∧
    (State.holdAcc s m addr v).rings = s.rings ∧
    (State.holdAcc s m addr v).hostMem = s.hostMem ∧
    (State.holdAcc s m addr v).ports = s.ports ∧
    (State.holdAcc s m addr v).beds = s.beds ∧
    (State.holdAcc s m addr v).lanes = s.lanes ∧
    (State.holdAcc s m addr v).now = s.now ∧
    (State.holdAcc s m addr v).free = s.free ∧
    (State.holdAcc s m addr v).pending = s.pending := by
  simp -implicitDefEqProofs [State.holdAcc]

@[simp] theorem alertUpdate_frame (s : State) :
    (State.alertUpdate s).hub = s.hub ∧
    (State.alertUpdate s).clk = s.clk ∧
    (State.alertUpdate s).sluice = s.sluice ∧
    (State.alertUpdate s).boot = s.boot ∧
    (State.alertUpdate s).flash = s.flash ∧
    (State.alertUpdate s).sec = s.sec ∧
    (State.alertUpdate s).tel = s.tel ∧
    (State.alertUpdate s).chans = s.chans ∧
    (State.alertUpdate s).mbxMem = s.mbxMem ∧
    (State.alertUpdate s).rings = s.rings ∧
    (State.alertUpdate s).hostMem = s.hostMem ∧
    (State.alertUpdate s).ports = s.ports ∧
    (State.alertUpdate s).beds = s.beds ∧
    (State.alertUpdate s).lanes = s.lanes ∧
    (State.alertUpdate s).now = s.now ∧
    (State.alertUpdate s).free = s.free ∧
    (State.alertUpdate s).pending = s.pending := by
  simp -implicitDefEqProofs [State.alertUpdate]

@[simp] theorem notify_frame (s : State) (m : MasterId) (c : ChanId) (bell : Bool) :
    (State.notify s m c bell).hub = s.hub ∧
    (State.notify s m c bell).clk = s.clk ∧
    (State.notify s m c bell).sluice = s.sluice ∧
    (State.notify s m c bell).boot = s.boot ∧
    (State.notify s m c bell).flash = s.flash ∧
    (State.notify s m c bell).sec = s.sec ∧
    (State.notify s m c bell).tel = s.tel ∧
    (State.notify s m c bell).mbxMem = s.mbxMem ∧
    (State.notify s m c bell).rings = s.rings ∧
    (State.notify s m c bell).hostMem = s.hostMem ∧
    (State.notify s m c bell).ports = s.ports ∧
    (State.notify s m c bell).beds = s.beds ∧
    (State.notify s m c bell).lanes = s.lanes ∧
    (State.notify s m c bell).now = s.now ∧
    (State.notify s m c bell).free = s.free ∧
    (State.notify s m c bell).pending = s.pending := by
  simp -implicitDefEqProofs [State.notify]

@[simp] theorem chanEnds_frame (s : State) (c : ChanId) (rs : Bool) (rr : Bool) :
    (State.chanEnds s c rs rr).clk = s.clk ∧
    (State.chanEnds s c rs rr).sluice = s.sluice ∧
    (State.chanEnds s c rs rr).boot = s.boot ∧
    (State.chanEnds s c rs rr).flash = s.flash ∧
    (State.chanEnds s c rs rr).tel = s.tel ∧
    (State.chanEnds s c rs rr).mbxMem = s.mbxMem ∧
    (State.chanEnds s c rs rr).beds = s.beds ∧
    (State.chanEnds s c rs rr).now = s.now ∧
    (State.chanEnds s c rs rr).free = s.free ∧
    (State.chanEnds s c rs rr).pending = s.pending := by
  simp -implicitDefEqProofs [State.chanEnds]

@[simp] theorem chanReset_frame (s : State) (ms : List MasterId) (c : ChanId) :
    (State.chanReset s ms c).clk = s.clk ∧
    (State.chanReset s ms c).sluice = s.sluice ∧
    (State.chanReset s ms c).boot = s.boot ∧
    (State.chanReset s ms c).flash = s.flash ∧
    (State.chanReset s ms c).tel = s.tel ∧
    (State.chanReset s ms c).mbxMem = s.mbxMem ∧
    (State.chanReset s ms c).beds = s.beds ∧
    (State.chanReset s ms c).now = s.now ∧
    (State.chanReset s ms c).free = s.free ∧
    (State.chanReset s ms c).pending = s.pending := by
  simp -implicitDefEqProofs [State.chanReset]

@[simp] theorem resetMasters_frame (s : State) (ms : List MasterId) :
    (State.resetMasters s ms).clk = s.clk ∧
    (State.resetMasters s ms).sluice = s.sluice ∧
    (State.resetMasters s ms).boot = s.boot ∧
    (State.resetMasters s ms).flash = s.flash ∧
    (State.resetMasters s ms).tel = s.tel ∧
    (State.resetMasters s ms).mbxMem = s.mbxMem ∧
    (State.resetMasters s ms).beds = s.beds ∧
    (State.resetMasters s ms).now = s.now ∧
    (State.resetMasters s ms).free = s.free ∧
    (State.resetMasters s ms).pending = s.pending := by
  simp -implicitDefEqProofs [State.resetMasters]

@[simp] theorem bindAll_frame (s : State) :
    (State.bindAll s).pins = s.pins ∧
    (State.bindAll s).clk = s.clk ∧
    (State.bindAll s).sluice = s.sluice ∧
    (State.bindAll s).boot = s.boot ∧
    (State.bindAll s).flash = s.flash ∧
    (State.bindAll s).sec = s.sec ∧
    (State.bindAll s).tel = s.tel ∧
    (State.bindAll s).mbxMem = s.mbxMem ∧
    (State.bindAll s).rings = s.rings ∧
    (State.bindAll s).hostMem = s.hostMem ∧
    (State.bindAll s).ports = s.ports ∧
    (State.bindAll s).beds = s.beds ∧
    (State.bindAll s).lanes = s.lanes ∧
    (State.bindAll s).now = s.now ∧
    (State.bindAll s).free = s.free ∧
    (State.bindAll s).pending = s.pending := by
  simp -implicitDefEqProofs [State.bindAll]

@[simp] theorem noticeDone_frame (s : State) (c : ChanId) (result : Byte) :
    (State.noticeDone s c result).clk = s.clk ∧
    (State.noticeDone s c result).sluice = s.sluice ∧
    (State.noticeDone s c result).boot = s.boot ∧
    (State.noticeDone s c result).flash = s.flash ∧
    (State.noticeDone s c result).tel = s.tel ∧
    (State.noticeDone s c result).mbxMem = s.mbxMem ∧
    (State.noticeDone s c result).beds = s.beds ∧
    (State.noticeDone s c result).now = s.now ∧
    (State.noticeDone s c result).free = s.free ∧
    (State.noticeDone s c result).pending = s.pending := by
  simp -implicitDefEqProofs [State.noticeDone]

@[simp] theorem mbxReject_frame (s : State) (c : ChanId) (r : Reject) :
    (State.mbxReject s c r).pins = s.pins ∧
    (State.mbxReject s c r).hub = s.hub ∧
    (State.mbxReject s c r).clk = s.clk ∧
    (State.mbxReject s c r).sluice = s.sluice ∧
    (State.mbxReject s c r).boot = s.boot ∧
    (State.mbxReject s c r).flash = s.flash ∧
    (State.mbxReject s c r).sec = s.sec ∧
    (State.mbxReject s c r).tel = s.tel ∧
    (State.mbxReject s c r).mbxMem = s.mbxMem ∧
    (State.mbxReject s c r).rings = s.rings ∧
    (State.mbxReject s c r).hostMem = s.hostMem ∧
    (State.mbxReject s c r).ports = s.ports ∧
    (State.mbxReject s c r).beds = s.beds ∧
    (State.mbxReject s c r).lanes = s.lanes ∧
    (State.mbxReject s c r).now = s.now ∧
    (State.mbxReject s c r).free = s.free ∧
    (State.mbxReject s c r).pending = s.pending := by
  simp -implicitDefEqProofs [State.mbxReject]

@[simp] theorem latchWake_frame (s : State) (w : WakeSrc) :
    (State.latchWake s w).pins = s.pins ∧
    (State.latchWake s w).hub = s.hub ∧
    (State.latchWake s w).clk = s.clk ∧
    (State.latchWake s w).boot = s.boot ∧
    (State.latchWake s w).flash = s.flash ∧
    (State.latchWake s w).sec = s.sec ∧
    (State.latchWake s w).tel = s.tel ∧
    (State.latchWake s w).chans = s.chans ∧
    (State.latchWake s w).mbxMem = s.mbxMem ∧
    (State.latchWake s w).rings = s.rings ∧
    (State.latchWake s w).hostMem = s.hostMem ∧
    (State.latchWake s w).ports = s.ports ∧
    (State.latchWake s w).beds = s.beds ∧
    (State.latchWake s w).lanes = s.lanes ∧
    (State.latchWake s w).now = s.now ∧
    (State.latchWake s w).free = s.free ∧
    (State.latchWake s w).pending = s.pending := by
  simp -implicitDefEqProofs [State.latchWake]

@[simp] theorem postAccepted_frame (s : State) (c : ChanId) :
    (State.postAccepted s c).clk = s.clk ∧
    (State.postAccepted s c).boot = s.boot ∧
    (State.postAccepted s c).flash = s.flash ∧
    (State.postAccepted s c).tel = s.tel ∧
    (State.postAccepted s c).mbxMem = s.mbxMem ∧
    (State.postAccepted s c).beds = s.beds ∧
    (State.postAccepted s c).now = s.now ∧
    (State.postAccepted s c).free = s.free ∧
    (State.postAccepted s c).pending = s.pending := by
  simp -implicitDefEqProofs [State.postAccepted]

@[simp] theorem post_frame (s : State) (m : MasterId) (c : ChanId) :
    (State.post s m c).clk = s.clk ∧
    (State.post s m c).boot = s.boot ∧
    (State.post s m c).flash = s.flash ∧
    (State.post s m c).tel = s.tel ∧
    (State.post s m c).mbxMem = s.mbxMem ∧
    (State.post s m c).beds = s.beds ∧
    (State.post s m c).now = s.now ∧
    (State.post s m c).free = s.free ∧
    (State.post s m c).pending = s.pending := by
  simp -implicitDefEqProofs [State.post]

@[simp] theorem chanTake_frame (s : State) (isR : Bool) (c : ChanId) :
    (State.chanTake s isR c).pins = s.pins ∧
    (State.chanTake s isR c).hub = s.hub ∧
    (State.chanTake s isR c).clk = s.clk ∧
    (State.chanTake s isR c).sluice = s.sluice ∧
    (State.chanTake s isR c).boot = s.boot ∧
    (State.chanTake s isR c).flash = s.flash ∧
    (State.chanTake s isR c).sec = s.sec ∧
    (State.chanTake s isR c).tel = s.tel ∧
    (State.chanTake s isR c).mbxMem = s.mbxMem ∧
    (State.chanTake s isR c).rings = s.rings ∧
    (State.chanTake s isR c).hostMem = s.hostMem ∧
    (State.chanTake s isR c).ports = s.ports ∧
    (State.chanTake s isR c).beds = s.beds ∧
    (State.chanTake s isR c).lanes = s.lanes ∧
    (State.chanTake s isR c).now = s.now ∧
    (State.chanTake s isR c).free = s.free ∧
    (State.chanTake s isR c).pending = s.pending := by
  simp -implicitDefEqProofs [State.chanTake]

@[simp] theorem chanDone_frame (s : State) (isR : Bool) (c : ChanId) (r : Byte) :
    (State.chanDone s isR c r).clk = s.clk ∧
    (State.chanDone s isR c r).sluice = s.sluice ∧
    (State.chanDone s isR c r).boot = s.boot ∧
    (State.chanDone s isR c r).flash = s.flash ∧
    (State.chanDone s isR c r).tel = s.tel ∧
    (State.chanDone s isR c r).mbxMem = s.mbxMem ∧
    (State.chanDone s isR c r).beds = s.beds ∧
    (State.chanDone s isR c r).now = s.now ∧
    (State.chanDone s isR c r).free = s.free ∧
    (State.chanDone s isR c r).pending = s.pending := by
  simp -implicitDefEqProofs [State.chanDone]

@[simp] theorem bellSet_frame (s : State) (c : ChanId) (v : Word) :
    (State.bellSet s c v).hub = s.hub ∧
    (State.bellSet s c v).clk = s.clk ∧
    (State.bellSet s c v).sluice = s.sluice ∧
    (State.bellSet s c v).boot = s.boot ∧
    (State.bellSet s c v).flash = s.flash ∧
    (State.bellSet s c v).sec = s.sec ∧
    (State.bellSet s c v).tel = s.tel ∧
    (State.bellSet s c v).mbxMem = s.mbxMem ∧
    (State.bellSet s c v).rings = s.rings ∧
    (State.bellSet s c v).hostMem = s.hostMem ∧
    (State.bellSet s c v).ports = s.ports ∧
    (State.bellSet s c v).beds = s.beds ∧
    (State.bellSet s c v).lanes = s.lanes ∧
    (State.bellSet s c v).now = s.now ∧
    (State.bellSet s c v).free = s.free ∧
    (State.bellSet s c v).pending = s.pending := by
  simp -implicitDefEqProofs [State.bellSet]

@[simp] theorem maskSet_frame (s : State) (c : ChanId) (v : Word) :
    (State.maskSet s c v).hub = s.hub ∧
    (State.maskSet s c v).clk = s.clk ∧
    (State.maskSet s c v).sluice = s.sluice ∧
    (State.maskSet s c v).boot = s.boot ∧
    (State.maskSet s c v).flash = s.flash ∧
    (State.maskSet s c v).sec = s.sec ∧
    (State.maskSet s c v).tel = s.tel ∧
    (State.maskSet s c v).mbxMem = s.mbxMem ∧
    (State.maskSet s c v).rings = s.rings ∧
    (State.maskSet s c v).hostMem = s.hostMem ∧
    (State.maskSet s c v).ports = s.ports ∧
    (State.maskSet s c v).beds = s.beds ∧
    (State.maskSet s c v).lanes = s.lanes ∧
    (State.maskSet s c v).now = s.now ∧
    (State.maskSet s c v).free = s.free ∧
    (State.maskSet s c v).pending = s.pending := by
  simp -implicitDefEqProofs [State.maskSet]

@[simp] theorem lockRead_frame (s : State) (ms : List MasterId) (c : ChanId) :
    (State.lockRead s ms c).pins = s.pins ∧
    (State.lockRead s ms c).hub = s.hub ∧
    (State.lockRead s ms c).clk = s.clk ∧
    (State.lockRead s ms c).sluice = s.sluice ∧
    (State.lockRead s ms c).boot = s.boot ∧
    (State.lockRead s ms c).flash = s.flash ∧
    (State.lockRead s ms c).sec = s.sec ∧
    (State.lockRead s ms c).tel = s.tel ∧
    (State.lockRead s ms c).mbxMem = s.mbxMem ∧
    (State.lockRead s ms c).rings = s.rings ∧
    (State.lockRead s ms c).hostMem = s.hostMem ∧
    (State.lockRead s ms c).ports = s.ports ∧
    (State.lockRead s ms c).beds = s.beds ∧
    (State.lockRead s ms c).lanes = s.lanes ∧
    (State.lockRead s ms c).now = s.now ∧
    (State.lockRead s ms c).free = s.free ∧
    (State.lockRead s ms c).pending = s.pending := by
  unfold State.lockRead; (try dsimp only); (repeat' split) <;> (try simp_all -implicitDefEqProofs)

@[simp] theorem flashProgram_frame (s : State) (a : Nat) (bs : Bytes) :
    (State.flashProgram s a bs).pins = s.pins ∧
    (State.flashProgram s a bs).hub = s.hub ∧
    (State.flashProgram s a bs).clk = s.clk ∧
    (State.flashProgram s a bs).sluice = s.sluice ∧
    (State.flashProgram s a bs).boot = s.boot ∧
    (State.flashProgram s a bs).sec = s.sec ∧
    (State.flashProgram s a bs).tel = s.tel ∧
    (State.flashProgram s a bs).chans = s.chans ∧
    (State.flashProgram s a bs).mbxMem = s.mbxMem ∧
    (State.flashProgram s a bs).rings = s.rings ∧
    (State.flashProgram s a bs).hostMem = s.hostMem ∧
    (State.flashProgram s a bs).ports = s.ports ∧
    (State.flashProgram s a bs).beds = s.beds ∧
    (State.flashProgram s a bs).lanes = s.lanes ∧
    (State.flashProgram s a bs).now = s.now ∧
    (State.flashProgram s a bs).pending = s.pending := by
  simp -implicitDefEqProofs [State.flashProgram]

@[simp] theorem logWrite_frame (s : State) (k : LogKind) (reason : Nat) (last : Nat) (detail : Nat) (tick : Tick) :
    (State.logWrite s k reason last detail tick).pins = s.pins ∧
    (State.logWrite s k reason last detail tick).hub = s.hub ∧
    (State.logWrite s k reason last detail tick).clk = s.clk ∧
    (State.logWrite s k reason last detail tick).sluice = s.sluice ∧
    (State.logWrite s k reason last detail tick).boot = s.boot ∧
    (State.logWrite s k reason last detail tick).sec = s.sec ∧
    (State.logWrite s k reason last detail tick).tel = s.tel ∧
    (State.logWrite s k reason last detail tick).chans = s.chans ∧
    (State.logWrite s k reason last detail tick).mbxMem = s.mbxMem ∧
    (State.logWrite s k reason last detail tick).rings = s.rings ∧
    (State.logWrite s k reason last detail tick).hostMem = s.hostMem ∧
    (State.logWrite s k reason last detail tick).ports = s.ports ∧
    (State.logWrite s k reason last detail tick).beds = s.beds ∧
    (State.logWrite s k reason last detail tick).lanes = s.lanes ∧
    (State.logWrite s k reason last detail tick).now = s.now ∧
    (State.logWrite s k reason last detail tick).pending = s.pending := by
  simp -implicitDefEqProofs [State.logWrite]

@[simp] theorem log_frame (s : State) (k : LogKind) (reason : Nat) (last : Nat) (detail : Nat) :
    (State.log s k reason last detail).pins = s.pins ∧
    (State.log s k reason last detail).hub = s.hub ∧
    (State.log s k reason last detail).clk = s.clk ∧
    (State.log s k reason last detail).sluice = s.sluice ∧
    (State.log s k reason last detail).sec = s.sec ∧
    (State.log s k reason last detail).tel = s.tel ∧
    (State.log s k reason last detail).chans = s.chans ∧
    (State.log s k reason last detail).mbxMem = s.mbxMem ∧
    (State.log s k reason last detail).rings = s.rings ∧
    (State.log s k reason last detail).hostMem = s.hostMem ∧
    (State.log s k reason last detail).ports = s.ports ∧
    (State.log s k reason last detail).beds = s.beds ∧
    (State.log s k reason last detail).lanes = s.lanes ∧
    (State.log s k reason last detail).now = s.now ∧
    (State.log s k reason last detail).pending = s.pending := by
  simp -implicitDefEqProofs [State.log]

@[simp] theorem logFlush_frame (s : State) :
    (State.logFlush s).pins = s.pins ∧
    (State.logFlush s).hub = s.hub ∧
    (State.logFlush s).clk = s.clk ∧
    (State.logFlush s).sluice = s.sluice ∧
    (State.logFlush s).sec = s.sec ∧
    (State.logFlush s).tel = s.tel ∧
    (State.logFlush s).chans = s.chans ∧
    (State.logFlush s).mbxMem = s.mbxMem ∧
    (State.logFlush s).rings = s.rings ∧
    (State.logFlush s).hostMem = s.hostMem ∧
    (State.logFlush s).ports = s.ports ∧
    (State.logFlush s).beds = s.beds ∧
    (State.logFlush s).lanes = s.lanes ∧
    (State.logFlush s).now = s.now ∧
    (State.logFlush s).pending = s.pending := by
  simp -implicitDefEqProofs [State.logFlush]

@[simp] theorem bootctlWrite_frame (s : State) (slotB : Bool) :
    (State.bootctlWrite s slotB).pins = s.pins ∧
    (State.bootctlWrite s slotB).hub = s.hub ∧
    (State.bootctlWrite s slotB).clk = s.clk ∧
    (State.bootctlWrite s slotB).sluice = s.sluice ∧
    (State.bootctlWrite s slotB).boot = s.boot ∧
    (State.bootctlWrite s slotB).sec = s.sec ∧
    (State.bootctlWrite s slotB).tel = s.tel ∧
    (State.bootctlWrite s slotB).chans = s.chans ∧
    (State.bootctlWrite s slotB).mbxMem = s.mbxMem ∧
    (State.bootctlWrite s slotB).rings = s.rings ∧
    (State.bootctlWrite s slotB).hostMem = s.hostMem ∧
    (State.bootctlWrite s slotB).ports = s.ports ∧
    (State.bootctlWrite s slotB).beds = s.beds ∧
    (State.bootctlWrite s slotB).lanes = s.lanes ∧
    (State.bootctlWrite s slotB).now = s.now ∧
    (State.bootctlWrite s slotB).free = s.free ∧
    (State.bootctlWrite s slotB).pending = s.pending := by
  simp -implicitDefEqProofs [State.bootctlWrite]

@[simp] theorem slotResult_frame (s : State) (slotB : Bool) (r : SlotRes) :
    (State.slotResult s slotB r).pins = s.pins ∧
    (State.slotResult s slotB r).hub = s.hub ∧
    (State.slotResult s slotB r).clk = s.clk ∧
    (State.slotResult s slotB r).sluice = s.sluice ∧
    (State.slotResult s slotB r).boot = s.boot ∧
    (State.slotResult s slotB r).flash = s.flash ∧
    (State.slotResult s slotB r).tel = s.tel ∧
    (State.slotResult s slotB r).chans = s.chans ∧
    (State.slotResult s slotB r).mbxMem = s.mbxMem ∧
    (State.slotResult s slotB r).rings = s.rings ∧
    (State.slotResult s slotB r).hostMem = s.hostMem ∧
    (State.slotResult s slotB r).ports = s.ports ∧
    (State.slotResult s slotB r).beds = s.beds ∧
    (State.slotResult s slotB r).lanes = s.lanes ∧
    (State.slotResult s slotB r).now = s.now ∧
    (State.slotResult s slotB r).free = s.free ∧
    (State.slotResult s slotB r).pending = s.pending := by
  simp -implicitDefEqProofs [State.slotResult]

@[simp] theorem security_frame (s : State) (kind : Nat) (object : Nat) (cid : Nat) :
    (State.security s kind object cid).pins = s.pins ∧
    (State.security s kind object cid).hub = s.hub ∧
    (State.security s kind object cid).clk = s.clk ∧
    (State.security s kind object cid).sluice = s.sluice ∧
    (State.security s kind object cid).boot = s.boot ∧
    (State.security s kind object cid).flash = s.flash ∧
    (State.security s kind object cid).sec = s.sec ∧
    (State.security s kind object cid).tel = s.tel ∧
    (State.security s kind object cid).chans = s.chans ∧
    (State.security s kind object cid).mbxMem = s.mbxMem ∧
    (State.security s kind object cid).rings = s.rings ∧
    (State.security s kind object cid).hostMem = s.hostMem ∧
    (State.security s kind object cid).ports = s.ports ∧
    (State.security s kind object cid).beds = s.beds ∧
    (State.security s kind object cid).lanes = s.lanes ∧
    (State.security s kind object cid).now = s.now ∧
    (State.security s kind object cid).free = s.free ∧
    (State.security s kind object cid).pending = s.pending := by
  simp -implicitDefEqProofs [State.security]

@[simp] theorem slotEvent_frame (s : State) (r : SlotRes) (cid : Nat) :
    (State.slotEvent s r cid).pins = s.pins ∧
    (State.slotEvent s r cid).hub = s.hub ∧
    (State.slotEvent s r cid).clk = s.clk ∧
    (State.slotEvent s r cid).sluice = s.sluice ∧
    (State.slotEvent s r cid).boot = s.boot ∧
    (State.slotEvent s r cid).flash = s.flash ∧
    (State.slotEvent s r cid).sec = s.sec ∧
    (State.slotEvent s r cid).tel = s.tel ∧
    (State.slotEvent s r cid).chans = s.chans ∧
    (State.slotEvent s r cid).mbxMem = s.mbxMem ∧
    (State.slotEvent s r cid).rings = s.rings ∧
    (State.slotEvent s r cid).hostMem = s.hostMem ∧
    (State.slotEvent s r cid).ports = s.ports ∧
    (State.slotEvent s r cid).beds = s.beds ∧
    (State.slotEvent s r cid).lanes = s.lanes ∧
    (State.slotEvent s r cid).now = s.now ∧
    (State.slotEvent s r cid).free = s.free ∧
    (State.slotEvent s r cid).pending = s.pending := by
  unfold State.slotEvent; (try dsimp only); (repeat' split) <;> (try simp_all -implicitDefEqProofs)

@[simp] theorem verify_frame (s : State) (slotB : Bool) (cid : Nat) :
    (State.verify s slotB cid).2.pins = s.pins ∧
    (State.verify s slotB cid).2.hub = s.hub ∧
    (State.verify s slotB cid).2.clk = s.clk ∧
    (State.verify s slotB cid).2.sluice = s.sluice ∧
    (State.verify s slotB cid).2.boot = s.boot ∧
    (State.verify s slotB cid).2.flash = s.flash ∧
    (State.verify s slotB cid).2.tel = s.tel ∧
    (State.verify s slotB cid).2.chans = s.chans ∧
    (State.verify s slotB cid).2.mbxMem = s.mbxMem ∧
    (State.verify s slotB cid).2.rings = s.rings ∧
    (State.verify s slotB cid).2.hostMem = s.hostMem ∧
    (State.verify s slotB cid).2.ports = s.ports ∧
    (State.verify s slotB cid).2.beds = s.beds ∧
    (State.verify s slotB cid).2.lanes = s.lanes ∧
    (State.verify s slotB cid).2.now = s.now ∧
    (State.verify s slotB cid).2.free = s.free ∧
    (State.verify s slotB cid).2.pending = s.pending := by
  simp -implicitDefEqProofs [State.verify]

@[simp] theorem diagEndQuiet_frame (s : State) (p : PortId) :
    (State.diagEndQuiet s p).pins = s.pins ∧
    (State.diagEndQuiet s p).hub = s.hub ∧
    (State.diagEndQuiet s p).clk = s.clk ∧
    (State.diagEndQuiet s p).sluice = s.sluice ∧
    (State.diagEndQuiet s p).boot = s.boot ∧
    (State.diagEndQuiet s p).flash = s.flash ∧
    (State.diagEndQuiet s p).sec = s.sec ∧
    (State.diagEndQuiet s p).tel = s.tel ∧
    (State.diagEndQuiet s p).chans = s.chans ∧
    (State.diagEndQuiet s p).mbxMem = s.mbxMem ∧
    (State.diagEndQuiet s p).rings = s.rings ∧
    (State.diagEndQuiet s p).hostMem = s.hostMem ∧
    (State.diagEndQuiet s p).beds = s.beds ∧
    (State.diagEndQuiet s p).lanes = s.lanes ∧
    (State.diagEndQuiet s p).now = s.now ∧
    (State.diagEndQuiet s p).free = s.free ∧
    (State.diagEndQuiet s p).pending = s.pending := by
  unfold State.diagEndQuiet; (try dsimp only); (repeat' split) <;> (try simp_all -implicitDefEqProofs)

@[simp] theorem testReturn_frame (s : State) (p : PortId) (prior : PState) :
    (State.testReturn s p prior).hub = s.hub ∧
    (State.testReturn s p prior).clk = s.clk ∧
    (State.testReturn s p prior).sluice = s.sluice ∧
    (State.testReturn s p prior).boot = s.boot ∧
    (State.testReturn s p prior).flash = s.flash ∧
    (State.testReturn s p prior).sec = s.sec ∧
    (State.testReturn s p prior).tel = s.tel ∧
    (State.testReturn s p prior).chans = s.chans ∧
    (State.testReturn s p prior).mbxMem = s.mbxMem ∧
    (State.testReturn s p prior).now = s.now ∧
    (State.testReturn s p prior).free = s.free ∧
    (State.testReturn s p prior).pending = s.pending := by
  simp -implicitDefEqProofs [State.testReturn]

@[simp] theorem diagWrite_frame (s : State) (p : PortId) :
    (State.diagWrite s p).pins = s.pins ∧
    (State.diagWrite s p).hub = s.hub ∧
    (State.diagWrite s p).clk = s.clk ∧
    (State.diagWrite s p).sluice = s.sluice ∧
    (State.diagWrite s p).boot = s.boot ∧
    (State.diagWrite s p).flash = s.flash ∧
    (State.diagWrite s p).sec = s.sec ∧
    (State.diagWrite s p).tel = s.tel ∧
    (State.diagWrite s p).chans = s.chans ∧
    (State.diagWrite s p).mbxMem = s.mbxMem ∧
    (State.diagWrite s p).rings = s.rings ∧
    (State.diagWrite s p).beds = s.beds ∧
    (State.diagWrite s p).lanes = s.lanes ∧
    (State.diagWrite s p).now = s.now ∧
    (State.diagWrite s p).free = s.free ∧
    (State.diagWrite s p).pending = s.pending := by
  unfold State.diagWrite; (try dsimp only); (repeat' split) <;> (try simp_all -implicitDefEqProofs)

@[simp] theorem enterTest_frame (s : State) (p : PortId) :
    (State.enterTest s p).pins = s.pins ∧
    (State.enterTest s p).hub = s.hub ∧
    (State.enterTest s p).clk = s.clk ∧
    (State.enterTest s p).sluice = s.sluice ∧
    (State.enterTest s p).boot = s.boot ∧
    (State.enterTest s p).flash = s.flash ∧
    (State.enterTest s p).sec = s.sec ∧
    (State.enterTest s p).tel = s.tel ∧
    (State.enterTest s p).chans = s.chans ∧
    (State.enterTest s p).mbxMem = s.mbxMem ∧
    (State.enterTest s p).rings = s.rings ∧
    (State.enterTest s p).hostMem = s.hostMem ∧
    (State.enterTest s p).beds = s.beds ∧
    (State.enterTest s p).now = s.now ∧
    (State.enterTest s p).free = s.free ∧
    (State.enterTest s p).pending = s.pending := by
  simp -implicitDefEqProofs [State.enterTest]

@[simp] theorem diagBegin_frame (s : State) (p : PortId) :
    (State.diagBegin s p).hub = s.hub ∧
    (State.diagBegin s p).clk = s.clk ∧
    (State.diagBegin s p).sluice = s.sluice ∧
    (State.diagBegin s p).boot = s.boot ∧
    (State.diagBegin s p).flash = s.flash ∧
    (State.diagBegin s p).sec = s.sec ∧
    (State.diagBegin s p).tel = s.tel ∧
    (State.diagBegin s p).chans = s.chans ∧
    (State.diagBegin s p).mbxMem = s.mbxMem ∧
    (State.diagBegin s p).now = s.now ∧
    (State.diagBegin s p).free = s.free ∧
    (State.diagBegin s p).pending = s.pending := by
  unfold State.diagBegin; (try dsimp only); (repeat' split) <;> (try simp_all -implicitDefEqProofs)

@[simp] theorem diagTurn_frame (s : State) (p : PortId) :
    (State.diagTurn s p).hub = s.hub ∧
    (State.diagTurn s p).clk = s.clk ∧
    (State.diagTurn s p).sluice = s.sluice ∧
    (State.diagTurn s p).boot = s.boot ∧
    (State.diagTurn s p).flash = s.flash ∧
    (State.diagTurn s p).sec = s.sec ∧
    (State.diagTurn s p).tel = s.tel ∧
    (State.diagTurn s p).chans = s.chans ∧
    (State.diagTurn s p).mbxMem = s.mbxMem ∧
    (State.diagTurn s p).now = s.now ∧
    (State.diagTurn s p).free = s.free ∧
    (State.diagTurn s p).pending = s.pending := by
  unfold State.diagTurn; (try dsimp only); (repeat' split) <;> (try simp_all -implicitDefEqProofs)

@[simp] theorem diagNext_frame (x0 : Nat) (x1 : CmdKey) (x2 : BedId) (x3 : State) :
    (State.diagNext x0 x1 x2 x3).hub = x3.hub ∧
    (State.diagNext x0 x1 x2 x3).clk = x3.clk ∧
    (State.diagNext x0 x1 x2 x3).sluice = x3.sluice ∧
    (State.diagNext x0 x1 x2 x3).boot = x3.boot ∧
    (State.diagNext x0 x1 x2 x3).flash = x3.flash ∧
    (State.diagNext x0 x1 x2 x3).sec = x3.sec ∧
    (State.diagNext x0 x1 x2 x3).tel = x3.tel ∧
    (State.diagNext x0 x1 x2 x3).chans = x3.chans ∧
    (State.diagNext x0 x1 x2 x3).mbxMem = x3.mbxMem ∧
    (State.diagNext x0 x1 x2 x3).now = x3.now ∧
    (State.diagNext x0 x1 x2 x3).free = x3.free ∧
    (State.diagNext x0 x1 x2 x3).pending = x3.pending := by
  induction x0 generalizing x1 x2 x3 with
  | zero => simp [State.diagNext]
  | succ n ih => unfold State.diagNext; (try dsimp only); (repeat' split) <;> (try simp_all -implicitDefEqProofs)

@[simp] theorem diagGo_frame (s : State) (k : CmdKey) :
    (State.diagGo s k).hub = s.hub ∧
    (State.diagGo s k).clk = s.clk ∧
    (State.diagGo s k).sluice = s.sluice ∧
    (State.diagGo s k).boot = s.boot ∧
    (State.diagGo s k).flash = s.flash ∧
    (State.diagGo s k).sec = s.sec ∧
    (State.diagGo s k).tel = s.tel ∧
    (State.diagGo s k).chans = s.chans ∧
    (State.diagGo s k).mbxMem = s.mbxMem ∧
    (State.diagGo s k).now = s.now ∧
    (State.diagGo s k).free = s.free ∧
    (State.diagGo s k).pending = s.pending := by
  simp -implicitDefEqProofs [State.diagGo]

@[simp] theorem diagAbort_frame (s : State) (p : PortId) :
    (State.diagAbort s p).hub = s.hub ∧
    (State.diagAbort s p).clk = s.clk ∧
    (State.diagAbort s p).sluice = s.sluice ∧
    (State.diagAbort s p).boot = s.boot ∧
    (State.diagAbort s p).flash = s.flash ∧
    (State.diagAbort s p).sec = s.sec ∧
    (State.diagAbort s p).tel = s.tel ∧
    (State.diagAbort s p).chans = s.chans ∧
    (State.diagAbort s p).mbxMem = s.mbxMem ∧
    (State.diagAbort s p).now = s.now ∧
    (State.diagAbort s p).free = s.free ∧
    (State.diagAbort s p).pending = s.pending := by
  unfold State.diagAbort; (try dsimp only); (repeat' split) <;> (try simp_all -implicitDefEqProofs)

@[simp] theorem diagDrop_frame (s : State) (p : PortId) :
    (State.diagDrop s p).hub = s.hub ∧
    (State.diagDrop s p).clk = s.clk ∧
    (State.diagDrop s p).sluice = s.sluice ∧
    (State.diagDrop s p).boot = s.boot ∧
    (State.diagDrop s p).flash = s.flash ∧
    (State.diagDrop s p).sec = s.sec ∧
    (State.diagDrop s p).tel = s.tel ∧
    (State.diagDrop s p).chans = s.chans ∧
    (State.diagDrop s p).mbxMem = s.mbxMem ∧
    (State.diagDrop s p).now = s.now ∧
    (State.diagDrop s p).free = s.free ∧
    (State.diagDrop s p).pending = s.pending := by
  unfold State.diagDrop; (try dsimp only); (repeat' split) <;> (try simp_all -implicitDefEqProofs)

@[simp] theorem diagDone_frame (s : State) (p : PortId) (st : Byte) :
    (State.diagDone s p st).hub = s.hub ∧
    (State.diagDone s p st).clk = s.clk ∧
    (State.diagDone s p st).sluice = s.sluice ∧
    (State.diagDone s p st).boot = s.boot ∧
    (State.diagDone s p st).flash = s.flash ∧
    (State.diagDone s p st).sec = s.sec ∧
    (State.diagDone s p st).tel = s.tel ∧
    (State.diagDone s p st).chans = s.chans ∧
    (State.diagDone s p st).mbxMem = s.mbxMem ∧
    (State.diagDone s p st).now = s.now ∧
    (State.diagDone s p st).free = s.free ∧
    (State.diagDone s p st).pending = s.pending := by
  unfold State.diagDone; (try dsimp only); (repeat' split) <;> (try simp_all -implicitDefEqProofs)

@[simp] theorem diagLost_frame (s : State) (p : PortId) :
    (State.diagLost s p).hub = s.hub ∧
    (State.diagLost s p).clk = s.clk ∧
    (State.diagLost s p).sluice = s.sluice ∧
    (State.diagLost s p).boot = s.boot ∧
    (State.diagLost s p).flash = s.flash ∧
    (State.diagLost s p).sec = s.sec ∧
    (State.diagLost s p).tel = s.tel ∧
    (State.diagLost s p).chans = s.chans ∧
    (State.diagLost s p).mbxMem = s.mbxMem ∧
    (State.diagLost s p).now = s.now ∧
    (State.diagLost s p).free = s.free ∧
    (State.diagLost s p).pending = s.pending := by
  unfold State.diagLost; (try dsimp only); (repeat' split) <;> (try simp_all -implicitDefEqProofs)

@[simp] theorem grantEnd_frame (s : State) (p : PortId) :
    (State.grantEnd s p).hub = s.hub ∧
    (State.grantEnd s p).clk = s.clk ∧
    (State.grantEnd s p).sluice = s.sluice ∧
    (State.grantEnd s p).boot = s.boot ∧
    (State.grantEnd s p).flash = s.flash ∧
    (State.grantEnd s p).sec = s.sec ∧
    (State.grantEnd s p).tel = s.tel ∧
    (State.grantEnd s p).chans = s.chans ∧
    (State.grantEnd s p).mbxMem = s.mbxMem ∧
    (State.grantEnd s p).now = s.now ∧
    (State.grantEnd s p).free = s.free ∧
    (State.grantEnd s p).pending = s.pending := by
  unfold State.grantEnd; (try dsimp only); (repeat' split) <;> (try simp_all -implicitDefEqProofs)

@[simp] theorem springLose_frame (s : State) (p : PortId) (c : Loss) :
    (State.springLose s p c).hub = s.hub ∧
    (State.springLose s p c).clk = s.clk ∧
    (State.springLose s p c).sluice = s.sluice ∧
    (State.springLose s p c).boot = s.boot ∧
    (State.springLose s p c).flash = s.flash ∧
    (State.springLose s p c).sec = s.sec ∧
    (State.springLose s p c).tel = s.tel ∧
    (State.springLose s p c).chans = s.chans ∧
    (State.springLose s p c).mbxMem = s.mbxMem ∧
    (State.springLose s p c).now = s.now ∧
    (State.springLose s p c).free = s.free ∧
    (State.springLose s p c).pending = s.pending := by
  simp -implicitDefEqProofs [State.springLose]

@[simp] theorem modeAfterTest_frame (s : State) :
    (State.modeAfterTest s).pins = s.pins ∧
    (State.modeAfterTest s).clk = s.clk ∧
    (State.modeAfterTest s).sluice = s.sluice ∧
    (State.modeAfterTest s).boot = s.boot ∧
    (State.modeAfterTest s).flash = s.flash ∧
    (State.modeAfterTest s).sec = s.sec ∧
    (State.modeAfterTest s).tel = s.tel ∧
    (State.modeAfterTest s).chans = s.chans ∧
    (State.modeAfterTest s).mbxMem = s.mbxMem ∧
    (State.modeAfterTest s).rings = s.rings ∧
    (State.modeAfterTest s).hostMem = s.hostMem ∧
    (State.modeAfterTest s).ports = s.ports ∧
    (State.modeAfterTest s).beds = s.beds ∧
    (State.modeAfterTest s).lanes = s.lanes ∧
    (State.modeAfterTest s).now = s.now ∧
    (State.modeAfterTest s).free = s.free ∧
    (State.modeAfterTest s).pending = s.pending := by
  simp -implicitDefEqProofs [State.modeAfterTest]

@[simp] theorem springResume_frame (s : State) (p : PortId) :
    (State.springResume s p).pins = s.pins ∧
    (State.springResume s p).hub = s.hub ∧
    (State.springResume s p).clk = s.clk ∧
    (State.springResume s p).sluice = s.sluice ∧
    (State.springResume s p).boot = s.boot ∧
    (State.springResume s p).flash = s.flash ∧
    (State.springResume s p).sec = s.sec ∧
    (State.springResume s p).tel = s.tel ∧
    (State.springResume s p).chans = s.chans ∧
    (State.springResume s p).mbxMem = s.mbxMem ∧
    (State.springResume s p).rings = s.rings ∧
    (State.springResume s p).hostMem = s.hostMem ∧
    (State.springResume s p).beds = s.beds ∧
    (State.springResume s p).lanes = s.lanes ∧
    (State.springResume s p).now = s.now ∧
    (State.springResume s p).free = s.free ∧
    (State.springResume s p).pending = s.pending := by
  simp -implicitDefEqProofs [State.springResume]

@[simp] theorem bedRelease_frame (s : State) (b : BedId) :
    (State.bedRelease s b).pins = s.pins ∧
    (State.bedRelease s b).hub = s.hub ∧
    (State.bedRelease s b).clk = s.clk ∧
    (State.bedRelease s b).sluice = s.sluice ∧
    (State.bedRelease s b).boot = s.boot ∧
    (State.bedRelease s b).flash = s.flash ∧
    (State.bedRelease s b).sec = s.sec ∧
    (State.bedRelease s b).tel = s.tel ∧
    (State.bedRelease s b).chans = s.chans ∧
    (State.bedRelease s b).mbxMem = s.mbxMem ∧
    (State.bedRelease s b).rings = s.rings ∧
    (State.bedRelease s b).hostMem = s.hostMem ∧
    (State.bedRelease s b).beds = s.beds ∧
    (State.bedRelease s b).now = s.now ∧
    (State.bedRelease s b).free = s.free ∧
    (State.bedRelease s b).pending = s.pending := by
  simp -implicitDefEqProofs [State.bedRelease]

@[simp] theorem calModeEnd_frame (s : State) :
    (State.calModeEnd s).pins = s.pins ∧
    (State.calModeEnd s).clk = s.clk ∧
    (State.calModeEnd s).sluice = s.sluice ∧
    (State.calModeEnd s).boot = s.boot ∧
    (State.calModeEnd s).flash = s.flash ∧
    (State.calModeEnd s).sec = s.sec ∧
    (State.calModeEnd s).tel = s.tel ∧
    (State.calModeEnd s).chans = s.chans ∧
    (State.calModeEnd s).mbxMem = s.mbxMem ∧
    (State.calModeEnd s).rings = s.rings ∧
    (State.calModeEnd s).hostMem = s.hostMem ∧
    (State.calModeEnd s).beds = s.beds ∧
    (State.calModeEnd s).lanes = s.lanes ∧
    (State.calModeEnd s).now = s.now ∧
    (State.calModeEnd s).free = s.free ∧
    (State.calModeEnd s).pending = s.pending := by
  simp -implicitDefEqProofs [State.calModeEnd]

@[simp] theorem runDrop_frame (s : State) (b : BedId) (st : ST) :
    (State.runDrop s b st).pins = s.pins ∧
    (State.runDrop s b st).clk = s.clk ∧
    (State.runDrop s b st).sluice = s.sluice ∧
    (State.runDrop s b st).boot = s.boot ∧
    (State.runDrop s b st).flash = s.flash ∧
    (State.runDrop s b st).sec = s.sec ∧
    (State.runDrop s b st).tel = s.tel ∧
    (State.runDrop s b st).chans = s.chans ∧
    (State.runDrop s b st).mbxMem = s.mbxMem ∧
    (State.runDrop s b st).rings = s.rings ∧
    (State.runDrop s b st).hostMem = s.hostMem ∧
    (State.runDrop s b st).now = s.now ∧
    (State.runDrop s b st).free = s.free ∧
    (State.runDrop s b st).pending = s.pending := by
  unfold State.runDrop; (try dsimp only); (repeat' split) <;> (try simp_all -implicitDefEqProofs)

@[simp] theorem portWipe_frame (s : State) (p : PortId) :
    (State.portWipe s p).hub = s.hub ∧
    (State.portWipe s p).clk = s.clk ∧
    (State.portWipe s p).sluice = s.sluice ∧
    (State.portWipe s p).boot = s.boot ∧
    (State.portWipe s p).flash = s.flash ∧
    (State.portWipe s p).sec = s.sec ∧
    (State.portWipe s p).tel = s.tel ∧
    (State.portWipe s p).chans = s.chans ∧
    (State.portWipe s p).mbxMem = s.mbxMem ∧
    (State.portWipe s p).now = s.now ∧
    (State.portWipe s p).free = s.free ∧
    (State.portWipe s p).pending = s.pending := by
  simp -implicitDefEqProofs [State.portWipe]

@[simp] theorem resetEvent_frame (s : State) (e : Elem) (origin : Nat) (cid : Nat) :
    (State.resetEvent s e origin cid).pins = s.pins ∧
    (State.resetEvent s e origin cid).hub = s.hub ∧
    (State.resetEvent s e origin cid).clk = s.clk ∧
    (State.resetEvent s e origin cid).sluice = s.sluice ∧
    (State.resetEvent s e origin cid).boot = s.boot ∧
    (State.resetEvent s e origin cid).flash = s.flash ∧
    (State.resetEvent s e origin cid).sec = s.sec ∧
    (State.resetEvent s e origin cid).tel = s.tel ∧
    (State.resetEvent s e origin cid).chans = s.chans ∧
    (State.resetEvent s e origin cid).mbxMem = s.mbxMem ∧
    (State.resetEvent s e origin cid).rings = s.rings ∧
    (State.resetEvent s e origin cid).hostMem = s.hostMem ∧
    (State.resetEvent s e origin cid).ports = s.ports ∧
    (State.resetEvent s e origin cid).beds = s.beds ∧
    (State.resetEvent s e origin cid).lanes = s.lanes ∧
    (State.resetEvent s e origin cid).now = s.now ∧
    (State.resetEvent s e origin cid).free = s.free ∧
    (State.resetEvent s e origin cid).pending = s.pending := by
  simp -implicitDefEqProofs [State.resetEvent]

@[simp] theorem resetUnraise_frame (s : State) (q : Elem → Bool) :
    (State.resetUnraise s q).pins = s.pins ∧
    (State.resetUnraise s q).hub = s.hub ∧
    (State.resetUnraise s q).clk = s.clk ∧
    (State.resetUnraise s q).sluice = s.sluice ∧
    (State.resetUnraise s q).boot = s.boot ∧
    (State.resetUnraise s q).flash = s.flash ∧
    (State.resetUnraise s q).sec = s.sec ∧
    (State.resetUnraise s q).tel = s.tel ∧
    (State.resetUnraise s q).chans = s.chans ∧
    (State.resetUnraise s q).mbxMem = s.mbxMem ∧
    (State.resetUnraise s q).rings = s.rings ∧
    (State.resetUnraise s q).hostMem = s.hostMem ∧
    (State.resetUnraise s q).ports = s.ports ∧
    (State.resetUnraise s q).beds = s.beds ∧
    (State.resetUnraise s q).lanes = s.lanes ∧
    (State.resetUnraise s q).now = s.now ∧
    (State.resetUnraise s q).free = s.free ∧
    (State.resetUnraise s q).pending = s.pending := by
  simp -implicitDefEqProofs [State.resetUnraise]

@[simp] theorem portReset_frame (s : State) (p : PortId) (cid : Nat) :
    (State.portReset s p cid).clk = s.clk ∧
    (State.portReset s p cid).sluice = s.sluice ∧
    (State.portReset s p cid).boot = s.boot ∧
    (State.portReset s p cid).flash = s.flash ∧
    (State.portReset s p cid).sec = s.sec ∧
    (State.portReset s p cid).tel = s.tel ∧
    (State.portReset s p cid).chans = s.chans ∧
    (State.portReset s p cid).mbxMem = s.mbxMem ∧
    (State.portReset s p cid).now = s.now ∧
    (State.portReset s p cid).free = s.free ∧
    (State.portReset s p cid).pending = s.pending := by
  simp -implicitDefEqProofs [State.portReset]

@[simp] theorem portResume_frame (s : State) (p : PortId) :
    (State.portResume s p).hub = s.hub ∧
    (State.portResume s p).clk = s.clk ∧
    (State.portResume s p).sluice = s.sluice ∧
    (State.portResume s p).boot = s.boot ∧
    (State.portResume s p).flash = s.flash ∧
    (State.portResume s p).sec = s.sec ∧
    (State.portResume s p).tel = s.tel ∧
    (State.portResume s p).chans = s.chans ∧
    (State.portResume s p).mbxMem = s.mbxMem ∧
    (State.portResume s p).now = s.now ∧
    (State.portResume s p).free = s.free ∧
    (State.portResume s p).pending = s.pending := by
  simp -implicitDefEqProofs [State.portResume]

@[simp] theorem bedReset_frame (s : State) (b : BedId) (origin : Nat) (cid : Nat) :
    (State.bedReset s b origin cid).clk = s.clk ∧
    (State.bedReset s b origin cid).sluice = s.sluice ∧
    (State.bedReset s b origin cid).boot = s.boot ∧
    (State.bedReset s b origin cid).flash = s.flash ∧
    (State.bedReset s b origin cid).tel = s.tel ∧
    (State.bedReset s b origin cid).mbxMem = s.mbxMem ∧
    (State.bedReset s b origin cid).now = s.now ∧
    (State.bedReset s b origin cid).free = s.free ∧
    (State.bedReset s b origin cid).pending = s.pending := by
  simp -implicitDefEqProofs [State.bedReset]

@[simp] theorem famAssign_frame (s : State) (b : BedId) :
    (State.famAssign s b).pins = s.pins ∧
    (State.famAssign s b).hub = s.hub ∧
    (State.famAssign s b).clk = s.clk ∧
    (State.famAssign s b).sluice = s.sluice ∧
    (State.famAssign s b).boot = s.boot ∧
    (State.famAssign s b).flash = s.flash ∧
    (State.famAssign s b).sec = s.sec ∧
    (State.famAssign s b).tel = s.tel ∧
    (State.famAssign s b).chans = s.chans ∧
    (State.famAssign s b).mbxMem = s.mbxMem ∧
    (State.famAssign s b).rings = s.rings ∧
    (State.famAssign s b).hostMem = s.hostMem ∧
    (State.famAssign s b).ports = s.ports ∧
    (State.famAssign s b).lanes = s.lanes ∧
    (State.famAssign s b).now = s.now ∧
    (State.famAssign s b).free = s.free ∧
    (State.famAssign s b).pending = s.pending := by
  simp -implicitDefEqProofs [State.famAssign]

@[simp] theorem bedResume_frame (s : State) (b : BedId) :
    (State.bedResume s b).hub = s.hub ∧
    (State.bedResume s b).clk = s.clk ∧
    (State.bedResume s b).sluice = s.sluice ∧
    (State.bedResume s b).boot = s.boot ∧
    (State.bedResume s b).flash = s.flash ∧
    (State.bedResume s b).sec = s.sec ∧
    (State.bedResume s b).tel = s.tel ∧
    (State.bedResume s b).chans = s.chans ∧
    (State.bedResume s b).mbxMem = s.mbxMem ∧
    (State.bedResume s b).now = s.now ∧
    (State.bedResume s b).free = s.free ∧
    (State.bedResume s b).pending = s.pending := by
  simp -implicitDefEqProofs [State.bedResume]

@[simp] theorem tenderReset_frame (s : State) (b : BedId) :
    (State.tenderReset s b).clk = s.clk ∧
    (State.tenderReset s b).sluice = s.sluice ∧
    (State.tenderReset s b).boot = s.boot ∧
    (State.tenderReset s b).flash = s.flash ∧
    (State.tenderReset s b).tel = s.tel ∧
    (State.tenderReset s b).mbxMem = s.mbxMem ∧
    (State.tenderReset s b).now = s.now ∧
    (State.tenderReset s b).free = s.free ∧
    (State.tenderReset s b).pending = s.pending := by
  simp -implicitDefEqProofs [State.tenderReset]

@[simp] theorem laneReset_frame (s : State) (l : LaneId) (cid : Nat) :
    (State.laneReset s l cid).pins = s.pins ∧
    (State.laneReset s l cid).hub = s.hub ∧
    (State.laneReset s l cid).clk = s.clk ∧
    (State.laneReset s l cid).sluice = s.sluice ∧
    (State.laneReset s l cid).boot = s.boot ∧
    (State.laneReset s l cid).flash = s.flash ∧
    (State.laneReset s l cid).sec = s.sec ∧
    (State.laneReset s l cid).tel = s.tel ∧
    (State.laneReset s l cid).chans = s.chans ∧
    (State.laneReset s l cid).mbxMem = s.mbxMem ∧
    (State.laneReset s l cid).rings = s.rings ∧
    (State.laneReset s l cid).hostMem = s.hostMem ∧
    (State.laneReset s l cid).ports = s.ports ∧
    (State.laneReset s l cid).beds = s.beds ∧
    (State.laneReset s l cid).now = s.now ∧
    (State.laneReset s l cid).free = s.free ∧
    (State.laneReset s l cid).pending = s.pending := by
  simp -implicitDefEqProofs [State.laneReset]

@[simp] theorem abandonBed_frame (s : State) (b : BedId) (byCmd : Bool) :
    (State.abandonBed s b byCmd).pins = s.pins ∧
    (State.abandonBed s b byCmd).clk = s.clk ∧
    (State.abandonBed s b byCmd).sluice = s.sluice ∧
    (State.abandonBed s b byCmd).boot = s.boot ∧
    (State.abandonBed s b byCmd).flash = s.flash ∧
    (State.abandonBed s b byCmd).sec = s.sec ∧
    (State.abandonBed s b byCmd).tel = s.tel ∧
    (State.abandonBed s b byCmd).chans = s.chans ∧
    (State.abandonBed s b byCmd).mbxMem = s.mbxMem ∧
    (State.abandonBed s b byCmd).rings = s.rings ∧
    (State.abandonBed s b byCmd).hostMem = s.hostMem ∧
    (State.abandonBed s b byCmd).now = s.now ∧
    (State.abandonBed s b byCmd).free = s.free ∧
    (State.abandonBed s b byCmd).pending = s.pending := by
  simp -implicitDefEqProofs [State.abandonBed]

@[simp] theorem abandonDiag_frame (s : State) (p : PortId) :
    (State.abandonDiag s p).hub = s.hub ∧
    (State.abandonDiag s p).clk = s.clk ∧
    (State.abandonDiag s p).sluice = s.sluice ∧
    (State.abandonDiag s p).boot = s.boot ∧
    (State.abandonDiag s p).flash = s.flash ∧
    (State.abandonDiag s p).sec = s.sec ∧
    (State.abandonDiag s p).tel = s.tel ∧
    (State.abandonDiag s p).chans = s.chans ∧
    (State.abandonDiag s p).mbxMem = s.mbxMem ∧
    (State.abandonDiag s p).now = s.now ∧
    (State.abandonDiag s p).free = s.free ∧
    (State.abandonDiag s p).pending = s.pending := by
  unfold State.abandonDiag; (try dsimp only); (repeat' split) <;> (try simp_all -implicitDefEqProofs)

@[simp] theorem abandonUsers_frame (s : State) (p : PortId) :
    (State.abandonUsers s p).pins = s.pins ∧
    (State.abandonUsers s p).hub = s.hub ∧
    (State.abandonUsers s p).clk = s.clk ∧
    (State.abandonUsers s p).sluice = s.sluice ∧
    (State.abandonUsers s p).boot = s.boot ∧
    (State.abandonUsers s p).flash = s.flash ∧
    (State.abandonUsers s p).sec = s.sec ∧
    (State.abandonUsers s p).tel = s.tel ∧
    (State.abandonUsers s p).chans = s.chans ∧
    (State.abandonUsers s p).mbxMem = s.mbxMem ∧
    (State.abandonUsers s p).rings = s.rings ∧
    (State.abandonUsers s p).hostMem = s.hostMem ∧
    (State.abandonUsers s p).beds = s.beds ∧
    (State.abandonUsers s p).lanes = s.lanes ∧
    (State.abandonUsers s p).now = s.now ∧
    (State.abandonUsers s p).free = s.free ∧
    (State.abandonUsers s p).pending = s.pending := by
  simp -implicitDefEqProofs [State.abandonUsers]

@[simp] theorem abandonDevice_frame (s : State) :
    (State.abandonDevice s).pins = s.pins ∧
    (State.abandonDevice s).hub = s.hub ∧
    (State.abandonDevice s).sluice = s.sluice ∧
    (State.abandonDevice s).boot = s.boot ∧
    (State.abandonDevice s).sec = s.sec ∧
    (State.abandonDevice s).tel = s.tel ∧
    (State.abandonDevice s).chans = s.chans ∧
    (State.abandonDevice s).mbxMem = s.mbxMem ∧
    (State.abandonDevice s).rings = s.rings ∧
    (State.abandonDevice s).hostMem = s.hostMem ∧
    (State.abandonDevice s).ports = s.ports ∧
    (State.abandonDevice s).beds = s.beds ∧
    (State.abandonDevice s).lanes = s.lanes ∧
    (State.abandonDevice s).now = s.now ∧
    (State.abandonDevice s).free = s.free ∧
    (State.abandonDevice s).pending = s.pending := by
  simp -implicitDefEqProofs [State.abandonDevice]

@[simp] theorem abandon_frame (s : State) :
    (State.abandon s).sluice = s.sluice ∧
    (State.abandon s).boot = s.boot ∧
    (State.abandon s).sec = s.sec ∧
    (State.abandon s).tel = s.tel ∧
    (State.abandon s).chans = s.chans ∧
    (State.abandon s).mbxMem = s.mbxMem ∧
    (State.abandon s).now = s.now ∧
    (State.abandon s).free = s.free ∧
    (State.abandon s).pending = s.pending := by
  simp -implicitDefEqProofs [State.abandon]

@[simp] theorem logCut_frame (s : State) (ops : List Nat) :
    (State.logCut s ops).pins = s.pins ∧
    (State.logCut s ops).hub = s.hub ∧
    (State.logCut s ops).clk = s.clk ∧
    (State.logCut s ops).sluice = s.sluice ∧
    (State.logCut s ops).sec = s.sec ∧
    (State.logCut s ops).tel = s.tel ∧
    (State.logCut s ops).chans = s.chans ∧
    (State.logCut s ops).mbxMem = s.mbxMem ∧
    (State.logCut s ops).rings = s.rings ∧
    (State.logCut s ops).hostMem = s.hostMem ∧
    (State.logCut s ops).ports = s.ports ∧
    (State.logCut s ops).beds = s.beds ∧
    (State.logCut s ops).lanes = s.lanes ∧
    (State.logCut s ops).now = s.now ∧
    (State.logCut s ops).pending = s.pending := by
  simp -implicitDefEqProofs [State.logCut]

@[simp] theorem flrPf0_frame (s : State) :
    (State.flrPf0 s).sluice = s.sluice ∧
    (State.flrPf0 s).tel = s.tel ∧
    (State.flrPf0 s).mbxMem = s.mbxMem ∧
    (State.flrPf0 s).now = s.now ∧
    (State.flrPf0 s).pending = s.pending := by
  simp -implicitDefEqProofs [State.flrPf0]

@[simp] theorem flrPf1_frame (s : State) :
    (State.flrPf1 s).clk = s.clk ∧
    (State.flrPf1 s).sluice = s.sluice ∧
    (State.flrPf1 s).boot = s.boot ∧
    (State.flrPf1 s).flash = s.flash ∧
    (State.flrPf1 s).mbxMem = s.mbxMem ∧
    (State.flrPf1 s).beds = s.beds ∧
    (State.flrPf1 s).now = s.now ∧
    (State.flrPf1 s).free = s.free ∧
    (State.flrPf1 s).pending = s.pending := by
  simp -implicitDefEqProofs [State.flrPf1]

@[simp] theorem startBegin_frame (s : State) (retry : Bool) :
    (State.startBegin s retry).sluice = s.sluice ∧
    (State.startBegin s retry).flash = s.flash ∧
    (State.startBegin s retry).sec = s.sec ∧
    (State.startBegin s retry).tel = s.tel ∧
    (State.startBegin s retry).chans = s.chans ∧
    (State.startBegin s retry).mbxMem = s.mbxMem ∧
    (State.startBegin s retry).rings = s.rings ∧
    (State.startBegin s retry).hostMem = s.hostMem ∧
    (State.startBegin s retry).lanes = s.lanes ∧
    (State.startBegin s retry).now = s.now ∧
    (State.startBegin s retry).free = s.free ∧
    (State.startBegin s retry).pending = s.pending := by
  simp -implicitDefEqProofs [State.startBegin]

@[simp] theorem deviceReset_frame (s : State) (retry : Bool) :
    (State.deviceReset s retry).mbxMem = s.mbxMem ∧
    (State.deviceReset s retry).now = s.now ∧
    (State.deviceReset s retry).pending = s.pending := by
  simp -implicitDefEqProofs [State.deviceReset]

@[simp] theorem testMode_frame (s : State) :
    (State.testMode s).pins = s.pins ∧
    (State.testMode s).clk = s.clk ∧
    (State.testMode s).sluice = s.sluice ∧
    (State.testMode s).boot = s.boot ∧
    (State.testMode s).flash = s.flash ∧
    (State.testMode s).sec = s.sec ∧
    (State.testMode s).tel = s.tel ∧
    (State.testMode s).chans = s.chans ∧
    (State.testMode s).mbxMem = s.mbxMem ∧
    (State.testMode s).rings = s.rings ∧
    (State.testMode s).hostMem = s.hostMem ∧
    (State.testMode s).ports = s.ports ∧
    (State.testMode s).beds = s.beds ∧
    (State.testMode s).lanes = s.lanes ∧
    (State.testMode s).now = s.now ∧
    (State.testMode s).free = s.free ∧
    (State.testMode s).pending = s.pending := by
  simp -implicitDefEqProofs [State.testMode]

@[simp] theorem bedIsolate_frame (s : State) (b : BedId) :
    (State.bedIsolate s b).pins = s.pins ∧
    (State.bedIsolate s b).hub = s.hub ∧
    (State.bedIsolate s b).clk = s.clk ∧
    (State.bedIsolate s b).sluice = s.sluice ∧
    (State.bedIsolate s b).boot = s.boot ∧
    (State.bedIsolate s b).flash = s.flash ∧
    (State.bedIsolate s b).sec = s.sec ∧
    (State.bedIsolate s b).tel = s.tel ∧
    (State.bedIsolate s b).chans = s.chans ∧
    (State.bedIsolate s b).mbxMem = s.mbxMem ∧
    (State.bedIsolate s b).rings = s.rings ∧
    (State.bedIsolate s b).hostMem = s.hostMem ∧
    (State.bedIsolate s b).beds = s.beds ∧
    (State.bedIsolate s b).lanes = s.lanes ∧
    (State.bedIsolate s b).now = s.now ∧
    (State.bedIsolate s b).free = s.free ∧
    (State.bedIsolate s b).pending = s.pending := by
  simp -implicitDefEqProofs [State.bedIsolate]

@[simp] theorem bedMute_frame (s : State) (b : BedId) :
    (State.bedMute s b).hub = s.hub ∧
    (State.bedMute s b).clk = s.clk ∧
    (State.bedMute s b).sluice = s.sluice ∧
    (State.bedMute s b).boot = s.boot ∧
    (State.bedMute s b).flash = s.flash ∧
    (State.bedMute s b).sec = s.sec ∧
    (State.bedMute s b).tel = s.tel ∧
    (State.bedMute s b).chans = s.chans ∧
    (State.bedMute s b).mbxMem = s.mbxMem ∧
    (State.bedMute s b).now = s.now ∧
    (State.bedMute s b).free = s.free ∧
    (State.bedMute s b).pending = s.pending := by
  simp -implicitDefEqProofs [State.bedMute]

@[simp] theorem calBegin_frame (s : State) (b : BedId) (key : Option CmdKey) (g : BitVec 4) (whole : Bool) :
    (State.calBegin s b key g whole).hub = s.hub ∧
    (State.calBegin s b key g whole).clk = s.clk ∧
    (State.calBegin s b key g whole).sluice = s.sluice ∧
    (State.calBegin s b key g whole).boot = s.boot ∧
    (State.calBegin s b key g whole).flash = s.flash ∧
    (State.calBegin s b key g whole).sec = s.sec ∧
    (State.calBegin s b key g whole).tel = s.tel ∧
    (State.calBegin s b key g whole).chans = s.chans ∧
    (State.calBegin s b key g whole).mbxMem = s.mbxMem ∧
    (State.calBegin s b key g whole).now = s.now ∧
    (State.calBegin s b key g whole).free = s.free ∧
    (State.calBegin s b key g whole).pending = s.pending := by
  simp -implicitDefEqProofs [State.calBegin]

@[simp] theorem calModeGo_frame (s : State) :
    (State.calModeGo s).pins = s.pins ∧
    (State.calModeGo s).clk = s.clk ∧
    (State.calModeGo s).sluice = s.sluice ∧
    (State.calModeGo s).boot = s.boot ∧
    (State.calModeGo s).flash = s.flash ∧
    (State.calModeGo s).sec = s.sec ∧
    (State.calModeGo s).tel = s.tel ∧
    (State.calModeGo s).chans = s.chans ∧
    (State.calModeGo s).mbxMem = s.mbxMem ∧
    (State.calModeGo s).rings = s.rings ∧
    (State.calModeGo s).hostMem = s.hostMem ∧
    (State.calModeGo s).ports = s.ports ∧
    (State.calModeGo s).beds = s.beds ∧
    (State.calModeGo s).lanes = s.lanes ∧
    (State.calModeGo s).now = s.now ∧
    (State.calModeGo s).free = s.free ∧
    (State.calModeGo s).pending = s.pending := by
  simp -implicitDefEqProofs [State.calModeGo]

@[simp] theorem calResult_frame (s : State) (b : BedId) (r : CalRun) (pass : BitVec 4) (block : Bytes) :
    (State.calResult s b r pass block).pins = s.pins ∧
    (State.calResult s b r pass block).hub = s.hub ∧
    (State.calResult s b r pass block).clk = s.clk ∧
    (State.calResult s b r pass block).sluice = s.sluice ∧
    (State.calResult s b r pass block).boot = s.boot ∧
    (State.calResult s b r pass block).flash = s.flash ∧
    (State.calResult s b r pass block).sec = s.sec ∧
    (State.calResult s b r pass block).tel = s.tel ∧
    (State.calResult s b r pass block).chans = s.chans ∧
    (State.calResult s b r pass block).mbxMem = s.mbxMem ∧
    (State.calResult s b r pass block).rings = s.rings ∧
    (State.calResult s b r pass block).hostMem = s.hostMem ∧
    (State.calResult s b r pass block).ports = s.ports ∧
    (State.calResult s b r pass block).lanes = s.lanes ∧
    (State.calResult s b r pass block).now = s.now ∧
    (State.calResult s b r pass block).free = s.free ∧
    (State.calResult s b r pass block).pending = s.pending := by
  simp -implicitDefEqProofs [State.calResult]

@[simp] theorem calTarget_frame (s : State) (b : BedId) (r : CalRun) :
    (State.calTarget s b r).pins = s.pins ∧
    (State.calTarget s b r).hub = s.hub ∧
    (State.calTarget s b r).clk = s.clk ∧
    (State.calTarget s b r).sluice = s.sluice ∧
    (State.calTarget s b r).boot = s.boot ∧
    (State.calTarget s b r).flash = s.flash ∧
    (State.calTarget s b r).sec = s.sec ∧
    (State.calTarget s b r).tel = s.tel ∧
    (State.calTarget s b r).chans = s.chans ∧
    (State.calTarget s b r).mbxMem = s.mbxMem ∧
    (State.calTarget s b r).rings = s.rings ∧
    (State.calTarget s b r).hostMem = s.hostMem ∧
    (State.calTarget s b r).ports = s.ports ∧
    (State.calTarget s b r).beds = s.beds ∧
    (State.calTarget s b r).lanes = s.lanes ∧
    (State.calTarget s b r).now = s.now ∧
    (State.calTarget s b r).free = s.free ∧
    (State.calTarget s b r).pending = s.pending := by
  unfold State.calTarget; (try dsimp only); (repeat' split) <;> (try simp_all -implicitDefEqProofs)

@[simp] theorem calErase_frame (s : State) (slot : Bool) (body : Bytes) :
    (State.calErase s slot body).pins = s.pins ∧
    (State.calErase s slot body).hub = s.hub ∧
    (State.calErase s slot body).clk = s.clk ∧
    (State.calErase s slot body).sluice = s.sluice ∧
    (State.calErase s slot body).boot = s.boot ∧
    (State.calErase s slot body).sec = s.sec ∧
    (State.calErase s slot body).tel = s.tel ∧
    (State.calErase s slot body).chans = s.chans ∧
    (State.calErase s slot body).mbxMem = s.mbxMem ∧
    (State.calErase s slot body).rings = s.rings ∧
    (State.calErase s slot body).hostMem = s.hostMem ∧
    (State.calErase s slot body).ports = s.ports ∧
    (State.calErase s slot body).beds = s.beds ∧
    (State.calErase s slot body).lanes = s.lanes ∧
    (State.calErase s slot body).now = s.now ∧
    (State.calErase s slot body).free = s.free ∧
    (State.calErase s slot body).pending = s.pending := by
  simp -implicitDefEqProofs [State.calErase]

@[simp] theorem calStoreBegin_frame (s : State) (key : Option CmdKey) :
    (State.calStoreBegin s key).pins = s.pins ∧
    (State.calStoreBegin s key).hub = s.hub ∧
    (State.calStoreBegin s key).clk = s.clk ∧
    (State.calStoreBegin s key).sluice = s.sluice ∧
    (State.calStoreBegin s key).boot = s.boot ∧
    (State.calStoreBegin s key).sec = s.sec ∧
    (State.calStoreBegin s key).tel = s.tel ∧
    (State.calStoreBegin s key).chans = s.chans ∧
    (State.calStoreBegin s key).mbxMem = s.mbxMem ∧
    (State.calStoreBegin s key).rings = s.rings ∧
    (State.calStoreBegin s key).hostMem = s.hostMem ∧
    (State.calStoreBegin s key).ports = s.ports ∧
    (State.calStoreBegin s key).beds = s.beds ∧
    (State.calStoreBegin s key).lanes = s.lanes ∧
    (State.calStoreBegin s key).now = s.now ∧
    (State.calStoreBegin s key).free = s.free ∧
    (State.calStoreBegin s key).pending = s.pending := by
  simp -implicitDefEqProofs [State.calStoreBegin]

@[simp] theorem calStored_frame (s : State) (c : CalStore) :
    (State.calStored s c).pins = s.pins ∧
    (State.calStored s c).hub = s.hub ∧
    (State.calStored s c).clk = s.clk ∧
    (State.calStored s c).sluice = s.sluice ∧
    (State.calStored s c).boot = s.boot ∧
    (State.calStored s c).flash = s.flash ∧
    (State.calStored s c).sec = s.sec ∧
    (State.calStored s c).tel = s.tel ∧
    (State.calStored s c).chans = s.chans ∧
    (State.calStored s c).mbxMem = s.mbxMem ∧
    (State.calStored s c).rings = s.rings ∧
    (State.calStored s c).hostMem = s.hostMem ∧
    (State.calStored s c).ports = s.ports ∧
    (State.calStored s c).lanes = s.lanes ∧
    (State.calStored s c).now = s.now ∧
    (State.calStored s c).free = s.free ∧
    (State.calStored s c).pending = s.pending := by
  simp -implicitDefEqProofs [State.calStored]

@[simp] theorem calDigestWrite_frame (s : State) (c : CalStore) :
    (State.calDigestWrite s c).2.pins = s.pins ∧
    (State.calDigestWrite s c).2.hub = s.hub ∧
    (State.calDigestWrite s c).2.clk = s.clk ∧
    (State.calDigestWrite s c).2.sluice = s.sluice ∧
    (State.calDigestWrite s c).2.boot = s.boot ∧
    (State.calDigestWrite s c).2.sec = s.sec ∧
    (State.calDigestWrite s c).2.tel = s.tel ∧
    (State.calDigestWrite s c).2.chans = s.chans ∧
    (State.calDigestWrite s c).2.mbxMem = s.mbxMem ∧
    (State.calDigestWrite s c).2.rings = s.rings ∧
    (State.calDigestWrite s c).2.hostMem = s.hostMem ∧
    (State.calDigestWrite s c).2.ports = s.ports ∧
    (State.calDigestWrite s c).2.lanes = s.lanes ∧
    (State.calDigestWrite s c).2.now = s.now ∧
    (State.calDigestWrite s c).2.free = s.free ∧
    (State.calDigestWrite s c).2.pending = s.pending := by
  unfold State.calDigestWrite; (try dsimp only); (repeat' split) <;> (try simp_all -implicitDefEqProofs)

@[simp] theorem tornCalLog_frame (s : State) (k : Bool) :
    (State.tornCalLog s k).pins = s.pins ∧
    (State.tornCalLog s k).hub = s.hub ∧
    (State.tornCalLog s k).clk = s.clk ∧
    (State.tornCalLog s k).sluice = s.sluice ∧
    (State.tornCalLog s k).sec = s.sec ∧
    (State.tornCalLog s k).tel = s.tel ∧
    (State.tornCalLog s k).chans = s.chans ∧
    (State.tornCalLog s k).mbxMem = s.mbxMem ∧
    (State.tornCalLog s k).rings = s.rings ∧
    (State.tornCalLog s k).hostMem = s.hostMem ∧
    (State.tornCalLog s k).ports = s.ports ∧
    (State.tornCalLog s k).beds = s.beds ∧
    (State.tornCalLog s k).lanes = s.lanes ∧
    (State.tornCalLog s k).now = s.now ∧
    (State.tornCalLog s k).pending = s.pending := by
  simp -implicitDefEqProofs [State.tornCalLog]

@[simp] theorem calTake_frame (s : State) (k : Bool) (other : Bool) :
    (State.calTake s k other).pins = s.pins ∧
    (State.calTake s k other).hub = s.hub ∧
    (State.calTake s k other).clk = s.clk ∧
    (State.calTake s k other).sluice = s.sluice ∧
    (State.calTake s k other).boot = s.boot ∧
    (State.calTake s k other).flash = s.flash ∧
    (State.calTake s k other).sec = s.sec ∧
    (State.calTake s k other).tel = s.tel ∧
    (State.calTake s k other).chans = s.chans ∧
    (State.calTake s k other).mbxMem = s.mbxMem ∧
    (State.calTake s k other).rings = s.rings ∧
    (State.calTake s k other).hostMem = s.hostMem ∧
    (State.calTake s k other).ports = s.ports ∧
    (State.calTake s k other).lanes = s.lanes ∧
    (State.calTake s k other).now = s.now ∧
    (State.calTake s k other).free = s.free ∧
    (State.calTake s k other).pending = s.pending := by
  simp -implicitDefEqProofs [State.calTake]

@[simp] theorem calSelect_frame (s : State) :
    (State.calSelect s).pins = s.pins ∧
    (State.calSelect s).hub = s.hub ∧
    (State.calSelect s).clk = s.clk ∧
    (State.calSelect s).sluice = s.sluice ∧
    (State.calSelect s).sec = s.sec ∧
    (State.calSelect s).tel = s.tel ∧
    (State.calSelect s).chans = s.chans ∧
    (State.calSelect s).mbxMem = s.mbxMem ∧
    (State.calSelect s).rings = s.rings ∧
    (State.calSelect s).hostMem = s.hostMem ∧
    (State.calSelect s).ports = s.ports ∧
    (State.calSelect s).lanes = s.lanes ∧
    (State.calSelect s).now = s.now ∧
    (State.calSelect s).pending = s.pending := by
  simp -implicitDefEqProofs [State.calSelect]

@[simp] theorem bistBegin_frame (s : State) (b : BedId) (key : Option CmdKey) (kinds : List BKind) :
    (State.bistBegin s b key kinds).hub = s.hub ∧
    (State.bistBegin s b key kinds).clk = s.clk ∧
    (State.bistBegin s b key kinds).sluice = s.sluice ∧
    (State.bistBegin s b key kinds).boot = s.boot ∧
    (State.bistBegin s b key kinds).flash = s.flash ∧
    (State.bistBegin s b key kinds).sec = s.sec ∧
    (State.bistBegin s b key kinds).tel = s.tel ∧
    (State.bistBegin s b key kinds).chans = s.chans ∧
    (State.bistBegin s b key kinds).mbxMem = s.mbxMem ∧
    (State.bistBegin s b key kinds).now = s.now ∧
    (State.bistBegin s b key kinds).free = s.free ∧
    (State.bistBegin s b key kinds).pending = s.pending := by
  simp -implicitDefEqProofs [State.bistBegin]

@[simp] theorem kindStop_frame (s : State) (b : BedId) (r : BistRun) (k : BKind) (rest : List BKind) (v : Verdict) (alloc : List Word) :
    (State.kindStop s b r k rest v alloc).pins = s.pins ∧
    (State.kindStop s b r k rest v alloc).hub = s.hub ∧
    (State.kindStop s b r k rest v alloc).clk = s.clk ∧
    (State.kindStop s b r k rest v alloc).sluice = s.sluice ∧
    (State.kindStop s b r k rest v alloc).boot = s.boot ∧
    (State.kindStop s b r k rest v alloc).flash = s.flash ∧
    (State.kindStop s b r k rest v alloc).sec = s.sec ∧
    (State.kindStop s b r k rest v alloc).tel = s.tel ∧
    (State.kindStop s b r k rest v alloc).chans = s.chans ∧
    (State.kindStop s b r k rest v alloc).mbxMem = s.mbxMem ∧
    (State.kindStop s b r k rest v alloc).rings = s.rings ∧
    (State.kindStop s b r k rest v alloc).hostMem = s.hostMem ∧
    (State.kindStop s b r k rest v alloc).ports = s.ports ∧
    (State.kindStop s b r k rest v alloc).lanes = s.lanes ∧
    (State.kindStop s b r k rest v alloc).now = s.now ∧
    (State.kindStop s b r k rest v alloc).free = s.free ∧
    (State.kindStop s b r k rest v alloc).pending = s.pending := by
  simp -implicitDefEqProofs [State.kindStop]

@[simp] theorem bistReturn_frame (s : State) (b : BedId) (r : BistRun) :
    (State.bistReturn s b r).pins = s.pins ∧
    (State.bistReturn s b r).clk = s.clk ∧
    (State.bistReturn s b r).sluice = s.sluice ∧
    (State.bistReturn s b r).boot = s.boot ∧
    (State.bistReturn s b r).flash = s.flash ∧
    (State.bistReturn s b r).sec = s.sec ∧
    (State.bistReturn s b r).tel = s.tel ∧
    (State.bistReturn s b r).chans = s.chans ∧
    (State.bistReturn s b r).mbxMem = s.mbxMem ∧
    (State.bistReturn s b r).rings = s.rings ∧
    (State.bistReturn s b r).hostMem = s.hostMem ∧
    (State.bistReturn s b r).now = s.now ∧
    (State.bistReturn s b r).free = s.free ∧
    (State.bistReturn s b r).pending = s.pending := by
  unfold State.bistReturn; (try dsimp only); (repeat' split) <;> (try simp_all -implicitDefEqProofs)

@[simp] theorem closeLink_frame (s : State) (p : PortId) (code : LState) (after : After) (own : Bool) :
    (State.closeLink s p code after own).pins = s.pins ∧
    (State.closeLink s p code after own).hub = s.hub ∧
    (State.closeLink s p code after own).clk = s.clk ∧
    (State.closeLink s p code after own).sluice = s.sluice ∧
    (State.closeLink s p code after own).boot = s.boot ∧
    (State.closeLink s p code after own).flash = s.flash ∧
    (State.closeLink s p code after own).sec = s.sec ∧
    (State.closeLink s p code after own).tel = s.tel ∧
    (State.closeLink s p code after own).chans = s.chans ∧
    (State.closeLink s p code after own).mbxMem = s.mbxMem ∧
    (State.closeLink s p code after own).rings = s.rings ∧
    (State.closeLink s p code after own).hostMem = s.hostMem ∧
    (State.closeLink s p code after own).beds = s.beds ∧
    (State.closeLink s p code after own).lanes = s.lanes ∧
    (State.closeLink s p code after own).now = s.now ∧
    (State.closeLink s p code after own).free = s.free ∧
    (State.closeLink s p code after own).pending = s.pending := by
  simp -implicitDefEqProofs [State.closeLink]

@[simp] theorem stillWake_frame (s : State) (p : PortId) (w : WakeBy) :
    (State.stillWake s p w).pins = s.pins ∧
    (State.stillWake s p w).hub = s.hub ∧
    (State.stillWake s p w).clk = s.clk ∧
    (State.stillWake s p w).sluice = s.sluice ∧
    (State.stillWake s p w).boot = s.boot ∧
    (State.stillWake s p w).flash = s.flash ∧
    (State.stillWake s p w).sec = s.sec ∧
    (State.stillWake s p w).tel = s.tel ∧
    (State.stillWake s p w).chans = s.chans ∧
    (State.stillWake s p w).mbxMem = s.mbxMem ∧
    (State.stillWake s p w).rings = s.rings ∧
    (State.stillWake s p w).hostMem = s.hostMem ∧
    (State.stillWake s p w).beds = s.beds ∧
    (State.stillWake s p w).lanes = s.lanes ∧
    (State.stillWake s p w).now = s.now ∧
    (State.stillWake s p w).free = s.free ∧
    (State.stillWake s p w).pending = s.pending := by
  simp -implicitDefEqProofs [State.stillWake]

@[simp] theorem wakeFor_frame (s : State) (p : PortId) (j : WakeJob) :
    (State.wakeFor s p j).pins = s.pins ∧
    (State.wakeFor s p j).hub = s.hub ∧
    (State.wakeFor s p j).clk = s.clk ∧
    (State.wakeFor s p j).sluice = s.sluice ∧
    (State.wakeFor s p j).boot = s.boot ∧
    (State.wakeFor s p j).flash = s.flash ∧
    (State.wakeFor s p j).sec = s.sec ∧
    (State.wakeFor s p j).tel = s.tel ∧
    (State.wakeFor s p j).chans = s.chans ∧
    (State.wakeFor s p j).mbxMem = s.mbxMem ∧
    (State.wakeFor s p j).rings = s.rings ∧
    (State.wakeFor s p j).hostMem = s.hostMem ∧
    (State.wakeFor s p j).beds = s.beds ∧
    (State.wakeFor s p j).lanes = s.lanes ∧
    (State.wakeFor s p j).now = s.now ∧
    (State.wakeFor s p j).free = s.free ∧
    (State.wakeFor s p j).pending = s.pending := by
  simp -implicitDefEqProofs [State.wakeFor]

@[simp] theorem closeWish_frame (s : State) (p : PortId) (code : LState) (r : Rung) (after : After) (own : Bool) :
    (State.closeWish s p code r after own).pins = s.pins ∧
    (State.closeWish s p code r after own).hub = s.hub ∧
    (State.closeWish s p code r after own).clk = s.clk ∧
    (State.closeWish s p code r after own).sluice = s.sluice ∧
    (State.closeWish s p code r after own).boot = s.boot ∧
    (State.closeWish s p code r after own).flash = s.flash ∧
    (State.closeWish s p code r after own).sec = s.sec ∧
    (State.closeWish s p code r after own).tel = s.tel ∧
    (State.closeWish s p code r after own).chans = s.chans ∧
    (State.closeWish s p code r after own).mbxMem = s.mbxMem ∧
    (State.closeWish s p code r after own).rings = s.rings ∧
    (State.closeWish s p code r after own).hostMem = s.hostMem ∧
    (State.closeWish s p code r after own).beds = s.beds ∧
    (State.closeWish s p code r after own).lanes = s.lanes ∧
    (State.closeWish s p code r after own).now = s.now ∧
    (State.closeWish s p code r after own).free = s.free ∧
    (State.closeWish s p code r after own).pending = s.pending := by
  simp -implicitDefEqProofs [State.closeWish]

@[simp] theorem retrainDecide_frame (s : State) (p : PortId) :
    (State.retrainDecide s p).pins = s.pins ∧
    (State.retrainDecide s p).hub = s.hub ∧
    (State.retrainDecide s p).clk = s.clk ∧
    (State.retrainDecide s p).sluice = s.sluice ∧
    (State.retrainDecide s p).boot = s.boot ∧
    (State.retrainDecide s p).flash = s.flash ∧
    (State.retrainDecide s p).sec = s.sec ∧
    (State.retrainDecide s p).tel = s.tel ∧
    (State.retrainDecide s p).chans = s.chans ∧
    (State.retrainDecide s p).mbxMem = s.mbxMem ∧
    (State.retrainDecide s p).rings = s.rings ∧
    (State.retrainDecide s p).hostMem = s.hostMem ∧
    (State.retrainDecide s p).beds = s.beds ∧
    (State.retrainDecide s p).lanes = s.lanes ∧
    (State.retrainDecide s p).now = s.now ∧
    (State.retrainDecide s p).free = s.free ∧
    (State.retrainDecide s p).pending = s.pending := by
  unfold State.retrainDecide; (try dsimp only); (repeat' split) <;> (try simp_all -implicitDefEqProofs)

@[simp] theorem retrainAsk_frame (s : State) (p : PortId) :
    (State.retrainAsk s p).pins = s.pins ∧
    (State.retrainAsk s p).hub = s.hub ∧
    (State.retrainAsk s p).clk = s.clk ∧
    (State.retrainAsk s p).sluice = s.sluice ∧
    (State.retrainAsk s p).boot = s.boot ∧
    (State.retrainAsk s p).flash = s.flash ∧
    (State.retrainAsk s p).sec = s.sec ∧
    (State.retrainAsk s p).tel = s.tel ∧
    (State.retrainAsk s p).chans = s.chans ∧
    (State.retrainAsk s p).mbxMem = s.mbxMem ∧
    (State.retrainAsk s p).rings = s.rings ∧
    (State.retrainAsk s p).hostMem = s.hostMem ∧
    (State.retrainAsk s p).beds = s.beds ∧
    (State.retrainAsk s p).lanes = s.lanes ∧
    (State.retrainAsk s p).now = s.now ∧
    (State.retrainAsk s p).free = s.free ∧
    (State.retrainAsk s p).pending = s.pending := by
  simp -implicitDefEqProofs [State.retrainAsk]

@[simp] theorem peerClose_frame (s : State) (p : PortId) :
    (State.peerClose s p).pins = s.pins ∧
    (State.peerClose s p).hub = s.hub ∧
    (State.peerClose s p).clk = s.clk ∧
    (State.peerClose s p).sluice = s.sluice ∧
    (State.peerClose s p).boot = s.boot ∧
    (State.peerClose s p).flash = s.flash ∧
    (State.peerClose s p).sec = s.sec ∧
    (State.peerClose s p).tel = s.tel ∧
    (State.peerClose s p).chans = s.chans ∧
    (State.peerClose s p).mbxMem = s.mbxMem ∧
    (State.peerClose s p).rings = s.rings ∧
    (State.peerClose s p).hostMem = s.hostMem ∧
    (State.peerClose s p).beds = s.beds ∧
    (State.peerClose s p).now = s.now ∧
    (State.peerClose s p).free = s.free ∧
    (State.peerClose s p).pending = s.pending := by
  simp -implicitDefEqProofs [State.peerClose]

@[simp] theorem critDown_frame (s : State) (p : PortId) (c : Down) :
    (State.critDown s p c).hub = s.hub ∧
    (State.critDown s p c).clk = s.clk ∧
    (State.critDown s p c).sluice = s.sluice ∧
    (State.critDown s p c).boot = s.boot ∧
    (State.critDown s p c).flash = s.flash ∧
    (State.critDown s p c).sec = s.sec ∧
    (State.critDown s p c).tel = s.tel ∧
    (State.critDown s p c).chans = s.chans ∧
    (State.critDown s p c).mbxMem = s.mbxMem ∧
    (State.critDown s p c).now = s.now ∧
    (State.critDown s p c).free = s.free ∧
    (State.critDown s p c).pending = s.pending := by
  unfold State.critDown; (try dsimp only); (repeat' split) <;> (try simp_all -implicitDefEqProofs)

@[simp] theorem standardStop_frame (s : State) (p : PortId) :
    (State.standardStop s p).hub = s.hub ∧
    (State.standardStop s p).clk = s.clk ∧
    (State.standardStop s p).sluice = s.sluice ∧
    (State.standardStop s p).boot = s.boot ∧
    (State.standardStop s p).flash = s.flash ∧
    (State.standardStop s p).sec = s.sec ∧
    (State.standardStop s p).tel = s.tel ∧
    (State.standardStop s p).chans = s.chans ∧
    (State.standardStop s p).mbxMem = s.mbxMem ∧
    (State.standardStop s p).now = s.now ∧
    (State.standardStop s p).free = s.free ∧
    (State.standardStop s p).pending = s.pending := by
  simp -implicitDefEqProofs [State.standardStop]

@[simp] theorem clauseRetrain_frame (s : State) (p : PortId) :
    (State.clauseRetrain s p).pins = s.pins ∧
    (State.clauseRetrain s p).hub = s.hub ∧
    (State.clauseRetrain s p).clk = s.clk ∧
    (State.clauseRetrain s p).sluice = s.sluice ∧
    (State.clauseRetrain s p).boot = s.boot ∧
    (State.clauseRetrain s p).flash = s.flash ∧
    (State.clauseRetrain s p).sec = s.sec ∧
    (State.clauseRetrain s p).tel = s.tel ∧
    (State.clauseRetrain s p).chans = s.chans ∧
    (State.clauseRetrain s p).mbxMem = s.mbxMem ∧
    (State.clauseRetrain s p).rings = s.rings ∧
    (State.clauseRetrain s p).hostMem = s.hostMem ∧
    (State.clauseRetrain s p).beds = s.beds ∧
    (State.clauseRetrain s p).now = s.now ∧
    (State.clauseRetrain s p).free = s.free ∧
    (State.clauseRetrain s p).pending = s.pending := by
  simp -implicitDefEqProofs [State.clauseRetrain]

@[simp] theorem dormantUp_frame (s : State) (p : PortId) :
    (State.dormantUp s p).pins = s.pins ∧
    (State.dormantUp s p).hub = s.hub ∧
    (State.dormantUp s p).clk = s.clk ∧
    (State.dormantUp s p).sluice = s.sluice ∧
    (State.dormantUp s p).boot = s.boot ∧
    (State.dormantUp s p).sec = s.sec ∧
    (State.dormantUp s p).tel = s.tel ∧
    (State.dormantUp s p).chans = s.chans ∧
    (State.dormantUp s p).mbxMem = s.mbxMem ∧
    (State.dormantUp s p).rings = s.rings ∧
    (State.dormantUp s p).beds = s.beds ∧
    (State.dormantUp s p).now = s.now ∧
    (State.dormantUp s p).pending = s.pending := by
  simp -implicitDefEqProofs [State.dormantUp]

@[simp] theorem localAbort_frame (s : State) (p : PortId) (after : After) (down : Bool) :
    (State.localAbort s p after down).hub = s.hub ∧
    (State.localAbort s p after down).clk = s.clk ∧
    (State.localAbort s p after down).sluice = s.sluice ∧
    (State.localAbort s p after down).boot = s.boot ∧
    (State.localAbort s p after down).flash = s.flash ∧
    (State.localAbort s p after down).sec = s.sec ∧
    (State.localAbort s p after down).tel = s.tel ∧
    (State.localAbort s p after down).chans = s.chans ∧
    (State.localAbort s p after down).mbxMem = s.mbxMem ∧
    (State.localAbort s p after down).now = s.now ∧
    (State.localAbort s p after down).free = s.free ∧
    (State.localAbort s p after down).pending = s.pending := by
  simp -implicitDefEqProofs [State.localAbort]

@[simp] theorem noticeOver_frame (s : State) (p : PortId) :
    (State.noticeOver s p).hub = s.hub ∧
    (State.noticeOver s p).clk = s.clk ∧
    (State.noticeOver s p).sluice = s.sluice ∧
    (State.noticeOver s p).boot = s.boot ∧
    (State.noticeOver s p).flash = s.flash ∧
    (State.noticeOver s p).sec = s.sec ∧
    (State.noticeOver s p).tel = s.tel ∧
    (State.noticeOver s p).chans = s.chans ∧
    (State.noticeOver s p).mbxMem = s.mbxMem ∧
    (State.noticeOver s p).now = s.now ∧
    (State.noticeOver s p).free = s.free ∧
    (State.noticeOver s p).pending = s.pending := by
  unfold State.noticeOver; (try dsimp only); (repeat' split) <;> (try simp_all -implicitDefEqProofs)

@[simp] theorem dormantEnter_frame (s : State) (p : PortId) :
    (State.dormantEnter s p).hub = s.hub ∧
    (State.dormantEnter s p).clk = s.clk ∧
    (State.dormantEnter s p).sluice = s.sluice ∧
    (State.dormantEnter s p).boot = s.boot ∧
    (State.dormantEnter s p).sec = s.sec ∧
    (State.dormantEnter s p).tel = s.tel ∧
    (State.dormantEnter s p).chans = s.chans ∧
    (State.dormantEnter s p).mbxMem = s.mbxMem ∧
    (State.dormantEnter s p).now = s.now ∧
    (State.dormantEnter s p).pending = s.pending := by
  unfold State.dormantEnter; (try dsimp only); (repeat' split) <;> (try simp_all -implicitDefEqProofs)

@[simp] theorem wakeTrain_frame (s : State) (p : PortId) (rung : Rung) (role : Role) :
    (State.wakeTrain s p rung role).pins = s.pins ∧
    (State.wakeTrain s p rung role).hub = s.hub ∧
    (State.wakeTrain s p rung role).clk = s.clk ∧
    (State.wakeTrain s p rung role).sluice = s.sluice ∧
    (State.wakeTrain s p rung role).boot = s.boot ∧
    (State.wakeTrain s p rung role).flash = s.flash ∧
    (State.wakeTrain s p rung role).sec = s.sec ∧
    (State.wakeTrain s p rung role).tel = s.tel ∧
    (State.wakeTrain s p rung role).chans = s.chans ∧
    (State.wakeTrain s p rung role).mbxMem = s.mbxMem ∧
    (State.wakeTrain s p rung role).rings = s.rings ∧
    (State.wakeTrain s p rung role).hostMem = s.hostMem ∧
    (State.wakeTrain s p rung role).beds = s.beds ∧
    (State.wakeTrain s p rung role).now = s.now ∧
    (State.wakeTrain s p rung role).free = s.free ∧
    (State.wakeTrain s p rung role).pending = s.pending := by
  simp -implicitDefEqProofs [State.wakeTrain]

@[simp] theorem wakeReadyAct_frame (s : State) (p : PortId) (digest : Bytes) :
    (State.wakeReadyAct s p digest).hub = s.hub ∧
    (State.wakeReadyAct s p digest).clk = s.clk ∧
    (State.wakeReadyAct s p digest).sluice = s.sluice ∧
    (State.wakeReadyAct s p digest).boot = s.boot ∧
    (State.wakeReadyAct s p digest).flash = s.flash ∧
    (State.wakeReadyAct s p digest).sec = s.sec ∧
    (State.wakeReadyAct s p digest).tel = s.tel ∧
    (State.wakeReadyAct s p digest).chans = s.chans ∧
    (State.wakeReadyAct s p digest).mbxMem = s.mbxMem ∧
    (State.wakeReadyAct s p digest).now = s.now ∧
    (State.wakeReadyAct s p digest).free = s.free ∧
    (State.wakeReadyAct s p digest).pending = s.pending := by
  simp -implicitDefEqProofs [State.wakeReadyAct]

@[simp] theorem wakeGoTake_frame (s : State) (p : PortId) (rung : Rung) :
    (State.wakeGoTake s p rung).hub = s.hub ∧
    (State.wakeGoTake s p rung).clk = s.clk ∧
    (State.wakeGoTake s p rung).sluice = s.sluice ∧
    (State.wakeGoTake s p rung).boot = s.boot ∧
    (State.wakeGoTake s p rung).flash = s.flash ∧
    (State.wakeGoTake s p rung).sec = s.sec ∧
    (State.wakeGoTake s p rung).tel = s.tel ∧
    (State.wakeGoTake s p rung).chans = s.chans ∧
    (State.wakeGoTake s p rung).mbxMem = s.mbxMem ∧
    (State.wakeGoTake s p rung).now = s.now ∧
    (State.wakeGoTake s p rung).free = s.free ∧
    (State.wakeGoTake s p rung).pending = s.pending := by
  simp -implicitDefEqProofs [State.wakeGoTake]

@[simp] theorem loopDrop_frame (s : State) (p : PortId) :
    (State.loopDrop s p).pins = s.pins ∧
    (State.loopDrop s p).hub = s.hub ∧
    (State.loopDrop s p).clk = s.clk ∧
    (State.loopDrop s p).sluice = s.sluice ∧
    (State.loopDrop s p).boot = s.boot ∧
    (State.loopDrop s p).flash = s.flash ∧
    (State.loopDrop s p).sec = s.sec ∧
    (State.loopDrop s p).tel = s.tel ∧
    (State.loopDrop s p).chans = s.chans ∧
    (State.loopDrop s p).mbxMem = s.mbxMem ∧
    (State.loopDrop s p).rings = s.rings ∧
    (State.loopDrop s p).hostMem = s.hostMem ∧
    (State.loopDrop s p).beds = s.beds ∧
    (State.loopDrop s p).lanes = s.lanes ∧
    (State.loopDrop s p).now = s.now ∧
    (State.loopDrop s p).free = s.free ∧
    (State.loopDrop s p).pending = s.pending := by
  simp -implicitDefEqProofs [State.loopDrop]

@[simp] theorem loopEnter_frame (s : State) (p : PortId) (side : Byte) (kind : Byte) (rung : Rung) :
    (State.loopEnter s p side kind rung).pins = s.pins ∧
    (State.loopEnter s p side kind rung).hub = s.hub ∧
    (State.loopEnter s p side kind rung).clk = s.clk ∧
    (State.loopEnter s p side kind rung).sluice = s.sluice ∧
    (State.loopEnter s p side kind rung).boot = s.boot ∧
    (State.loopEnter s p side kind rung).flash = s.flash ∧
    (State.loopEnter s p side kind rung).sec = s.sec ∧
    (State.loopEnter s p side kind rung).tel = s.tel ∧
    (State.loopEnter s p side kind rung).chans = s.chans ∧
    (State.loopEnter s p side kind rung).mbxMem = s.mbxMem ∧
    (State.loopEnter s p side kind rung).rings = s.rings ∧
    (State.loopEnter s p side kind rung).hostMem = s.hostMem ∧
    (State.loopEnter s p side kind rung).beds = s.beds ∧
    (State.loopEnter s p side kind rung).now = s.now ∧
    (State.loopEnter s p side kind rung).free = s.free ∧
    (State.loopEnter s p side kind rung).pending = s.pending := by
  simp -implicitDefEqProofs [State.loopEnter]

@[simp] theorem loopLeave_frame (s : State) (p : PortId) :
    (State.loopLeave s p).hub = s.hub ∧
    (State.loopLeave s p).clk = s.clk ∧
    (State.loopLeave s p).sluice = s.sluice ∧
    (State.loopLeave s p).boot = s.boot ∧
    (State.loopLeave s p).flash = s.flash ∧
    (State.loopLeave s p).sec = s.sec ∧
    (State.loopLeave s p).tel = s.tel ∧
    (State.loopLeave s p).chans = s.chans ∧
    (State.loopLeave s p).mbxMem = s.mbxMem ∧
    (State.loopLeave s p).now = s.now ∧
    (State.loopLeave s p).free = s.free ∧
    (State.loopLeave s p).pending = s.pending := by
  unfold State.loopLeave; (try dsimp only); (repeat' split) <;> (try simp_all -implicitDefEqProofs)

@[simp] theorem disableUp_frame (s : State) (p : PortId) :
    (State.disableUp s p).pins = s.pins ∧
    (State.disableUp s p).hub = s.hub ∧
    (State.disableUp s p).clk = s.clk ∧
    (State.disableUp s p).sluice = s.sluice ∧
    (State.disableUp s p).boot = s.boot ∧
    (State.disableUp s p).flash = s.flash ∧
    (State.disableUp s p).sec = s.sec ∧
    (State.disableUp s p).tel = s.tel ∧
    (State.disableUp s p).chans = s.chans ∧
    (State.disableUp s p).mbxMem = s.mbxMem ∧
    (State.disableUp s p).rings = s.rings ∧
    (State.disableUp s p).hostMem = s.hostMem ∧
    (State.disableUp s p).beds = s.beds ∧
    (State.disableUp s p).now = s.now ∧
    (State.disableUp s p).free = s.free ∧
    (State.disableUp s p).pending = s.pending := by
  simp -implicitDefEqProofs [State.disableUp]

@[simp] theorem disable_frame (s : State) (p : PortId) :
    (State.disable s p).hub = s.hub ∧
    (State.disable s p).clk = s.clk ∧
    (State.disable s p).sluice = s.sluice ∧
    (State.disable s p).boot = s.boot ∧
    (State.disable s p).flash = s.flash ∧
    (State.disable s p).sec = s.sec ∧
    (State.disable s p).tel = s.tel ∧
    (State.disable s p).chans = s.chans ∧
    (State.disable s p).mbxMem = s.mbxMem ∧
    (State.disable s p).now = s.now ∧
    (State.disable s p).free = s.free ∧
    (State.disable s p).pending = s.pending := by
  unfold State.disable; (try dsimp only); (repeat' split) <;> (try simp_all -implicitDefEqProofs)

@[simp] theorem writeEvent_frame (s : State) (r : RingId) (e : Event) :
    (State.writeEvent s r e).hub = s.hub ∧
    (State.writeEvent s r e).clk = s.clk ∧
    (State.writeEvent s r e).sluice = s.sluice ∧
    (State.writeEvent s r e).boot = s.boot ∧
    (State.writeEvent s r e).flash = s.flash ∧
    (State.writeEvent s r e).sec = s.sec ∧
    (State.writeEvent s r e).tel = s.tel ∧
    (State.writeEvent s r e).chans = s.chans ∧
    (State.writeEvent s r e).mbxMem = s.mbxMem ∧
    (State.writeEvent s r e).ports = s.ports ∧
    (State.writeEvent s r e).beds = s.beds ∧
    (State.writeEvent s r e).lanes = s.lanes ∧
    (State.writeEvent s r e).now = s.now ∧
    (State.writeEvent s r e).free = s.free ∧
    (State.writeEvent s r e).pending = s.pending := by
  simp -implicitDefEqProofs [State.writeEvent]

@[simp] theorem eventToRing_frame (s : State) (r : RingId) (e : Event) :
    (State.eventToRing s r e).hub = s.hub ∧
    (State.eventToRing s r e).clk = s.clk ∧
    (State.eventToRing s r e).sluice = s.sluice ∧
    (State.eventToRing s r e).boot = s.boot ∧
    (State.eventToRing s r e).flash = s.flash ∧
    (State.eventToRing s r e).sec = s.sec ∧
    (State.eventToRing s r e).tel = s.tel ∧
    (State.eventToRing s r e).chans = s.chans ∧
    (State.eventToRing s r e).mbxMem = s.mbxMem ∧
    (State.eventToRing s r e).ports = s.ports ∧
    (State.eventToRing s r e).beds = s.beds ∧
    (State.eventToRing s r e).lanes = s.lanes ∧
    (State.eventToRing s r e).now = s.now ∧
    (State.eventToRing s r e).free = s.free ∧
    (State.eventToRing s r e).pending = s.pending := by
  simp -implicitDefEqProofs [State.eventToRing]

@[simp] theorem storeDrain_frame (x0 : Nat) (x1 : RingId) (x2 : State) :
    (State.storeDrain x0 x1 x2).hub = x2.hub ∧
    (State.storeDrain x0 x1 x2).clk = x2.clk ∧
    (State.storeDrain x0 x1 x2).sluice = x2.sluice ∧
    (State.storeDrain x0 x1 x2).boot = x2.boot ∧
    (State.storeDrain x0 x1 x2).flash = x2.flash ∧
    (State.storeDrain x0 x1 x2).sec = x2.sec ∧
    (State.storeDrain x0 x1 x2).tel = x2.tel ∧
    (State.storeDrain x0 x1 x2).chans = x2.chans ∧
    (State.storeDrain x0 x1 x2).mbxMem = x2.mbxMem ∧
    (State.storeDrain x0 x1 x2).ports = x2.ports ∧
    (State.storeDrain x0 x1 x2).beds = x2.beds ∧
    (State.storeDrain x0 x1 x2).lanes = x2.lanes ∧
    (State.storeDrain x0 x1 x2).now = x2.now ∧
    (State.storeDrain x0 x1 x2).free = x2.free ∧
    (State.storeDrain x0 x1 x2).pending = x2.pending := by
  induction x0 generalizing x1 x2 with
  | zero => simp [State.storeDrain]
  | succ n ih => unfold State.storeDrain; (try dsimp only); (repeat' split) <;> (try simp_all -implicitDefEqProofs)

@[simp] theorem holdEvent_frame (s : State) (e : Event) :
    (State.holdEvent s e).pins = s.pins ∧
    (State.holdEvent s e).hub = s.hub ∧
    (State.holdEvent s e).clk = s.clk ∧
    (State.holdEvent s e).sluice = s.sluice ∧
    (State.holdEvent s e).boot = s.boot ∧
    (State.holdEvent s e).flash = s.flash ∧
    (State.holdEvent s e).sec = s.sec ∧
    (State.holdEvent s e).tel = s.tel ∧
    (State.holdEvent s e).chans = s.chans ∧
    (State.holdEvent s e).mbxMem = s.mbxMem ∧
    (State.holdEvent s e).rings = s.rings ∧
    (State.holdEvent s e).hostMem = s.hostMem ∧
    (State.holdEvent s e).ports = s.ports ∧
    (State.holdEvent s e).beds = s.beds ∧
    (State.holdEvent s e).lanes = s.lanes ∧
    (State.holdEvent s e).now = s.now ∧
    (State.holdEvent s e).free = s.free ∧
    (State.holdEvent s e).pending = s.pending := by
  simp -implicitDefEqProofs [State.holdEvent]

@[simp] theorem routeEvent_frame (s : State) (e : Event) :
    (State.routeEvent s e).hub = s.hub ∧
    (State.routeEvent s e).clk = s.clk ∧
    (State.routeEvent s e).sluice = s.sluice ∧
    (State.routeEvent s e).boot = s.boot ∧
    (State.routeEvent s e).flash = s.flash ∧
    (State.routeEvent s e).sec = s.sec ∧
    (State.routeEvent s e).tel = s.tel ∧
    (State.routeEvent s e).chans = s.chans ∧
    (State.routeEvent s e).mbxMem = s.mbxMem ∧
    (State.routeEvent s e).ports = s.ports ∧
    (State.routeEvent s e).beds = s.beds ∧
    (State.routeEvent s e).lanes = s.lanes ∧
    (State.routeEvent s e).now = s.now ∧
    (State.routeEvent s e).free = s.free ∧
    (State.routeEvent s e).pending = s.pending := by
  unfold State.routeEvent; (try dsimp only); (repeat' split) <;> (try simp_all -implicitDefEqProofs)

@[simp] theorem releaseEvent_frame (t : State) (e : Event) :
    (State.releaseEvent t e).hub = t.hub ∧
    (State.releaseEvent t e).clk = t.clk ∧
    (State.releaseEvent t e).sluice = t.sluice ∧
    (State.releaseEvent t e).boot = t.boot ∧
    (State.releaseEvent t e).flash = t.flash ∧
    (State.releaseEvent t e).sec = t.sec ∧
    (State.releaseEvent t e).tel = t.tel ∧
    (State.releaseEvent t e).chans = t.chans ∧
    (State.releaseEvent t e).mbxMem = t.mbxMem ∧
    (State.releaseEvent t e).ports = t.ports ∧
    (State.releaseEvent t e).beds = t.beds ∧
    (State.releaseEvent t e).lanes = t.lanes ∧
    (State.releaseEvent t e).now = t.now ∧
    (State.releaseEvent t e).free = t.free ∧
    (State.releaseEvent t e).pending = t.pending := by
  unfold State.releaseEvent; (try dsimp only); (repeat' split) <;> (try simp_all -implicitDefEqProofs)

@[simp] theorem releaseHeld_frame (s : State) :
    (State.releaseHeld s).hub = s.hub ∧
    (State.releaseHeld s).clk = s.clk ∧
    (State.releaseHeld s).sluice = s.sluice ∧
    (State.releaseHeld s).boot = s.boot ∧
    (State.releaseHeld s).flash = s.flash ∧
    (State.releaseHeld s).sec = s.sec ∧
    (State.releaseHeld s).tel = s.tel ∧
    (State.releaseHeld s).chans = s.chans ∧
    (State.releaseHeld s).mbxMem = s.mbxMem ∧
    (State.releaseHeld s).ports = s.ports ∧
    (State.releaseHeld s).beds = s.beds ∧
    (State.releaseHeld s).lanes = s.lanes ∧
    (State.releaseHeld s).now = s.now ∧
    (State.releaseHeld s).free = s.free ∧
    (State.releaseHeld s).pending = s.pending := by
  simp -implicitDefEqProofs [State.releaseHeld]

@[simp] theorem ringOn_frame (s : State) (r : RingId) (cfg : Word) :
    (State.ringOn s r cfg).clk = s.clk ∧
    (State.ringOn s r cfg).sluice = s.sluice ∧
    (State.ringOn s r cfg).boot = s.boot ∧
    (State.ringOn s r cfg).flash = s.flash ∧
    (State.ringOn s r cfg).sec = s.sec ∧
    (State.ringOn s r cfg).chans = s.chans ∧
    (State.ringOn s r cfg).mbxMem = s.mbxMem ∧
    (State.ringOn s r cfg).ports = s.ports ∧
    (State.ringOn s r cfg).beds = s.beds ∧
    (State.ringOn s r cfg).lanes = s.lanes ∧
    (State.ringOn s r cfg).now = s.now ∧
    (State.ringOn s r cfg).free = s.free ∧
    (State.ringOn s r cfg).pending = s.pending := by
  simp -implicitDefEqProofs [State.ringOn]

@[simp] theorem orphanTx_frame (s : State) (r : RingId) :
    (State.orphanTx s r).pins = s.pins ∧
    (State.orphanTx s r).hub = s.hub ∧
    (State.orphanTx s r).clk = s.clk ∧
    (State.orphanTx s r).sluice = s.sluice ∧
    (State.orphanTx s r).boot = s.boot ∧
    (State.orphanTx s r).flash = s.flash ∧
    (State.orphanTx s r).sec = s.sec ∧
    (State.orphanTx s r).tel = s.tel ∧
    (State.orphanTx s r).chans = s.chans ∧
    (State.orphanTx s r).mbxMem = s.mbxMem ∧
    (State.orphanTx s r).rings = s.rings ∧
    (State.orphanTx s r).hostMem = s.hostMem ∧
    (State.orphanTx s r).beds = s.beds ∧
    (State.orphanTx s r).lanes = s.lanes ∧
    (State.orphanTx s r).now = s.now ∧
    (State.orphanTx s r).free = s.free ∧
    (State.orphanTx s r).pending = s.pending := by
  simp -implicitDefEqProofs [State.orphanTx]

@[simp] theorem ringOff_frame (s : State) (r : RingId) (cfg : Word) :
    (State.ringOff s r cfg).pins = s.pins ∧
    (State.ringOff s r cfg).hub = s.hub ∧
    (State.ringOff s r cfg).clk = s.clk ∧
    (State.ringOff s r cfg).sluice = s.sluice ∧
    (State.ringOff s r cfg).boot = s.boot ∧
    (State.ringOff s r cfg).flash = s.flash ∧
    (State.ringOff s r cfg).sec = s.sec ∧
    (State.ringOff s r cfg).tel = s.tel ∧
    (State.ringOff s r cfg).chans = s.chans ∧
    (State.ringOff s r cfg).mbxMem = s.mbxMem ∧
    (State.ringOff s r cfg).hostMem = s.hostMem ∧
    (State.ringOff s r cfg).beds = s.beds ∧
    (State.ringOff s r cfg).lanes = s.lanes ∧
    (State.ringOff s r cfg).now = s.now ∧
    (State.ringOff s r cfg).free = s.free ∧
    (State.ringOff s r cfg).pending = s.pending := by
  simp -implicitDefEqProofs [State.ringOff]

@[simp] theorem ringCfg_frame (s : State) (r : RingId) (v : Word) :
    (State.ringCfg s r v).clk = s.clk ∧
    (State.ringCfg s r v).sluice = s.sluice ∧
    (State.ringCfg s r v).boot = s.boot ∧
    (State.ringCfg s r v).flash = s.flash ∧
    (State.ringCfg s r v).sec = s.sec ∧
    (State.ringCfg s r v).chans = s.chans ∧
    (State.ringCfg s r v).mbxMem = s.mbxMem ∧
    (State.ringCfg s r v).beds = s.beds ∧
    (State.ringCfg s r v).lanes = s.lanes ∧
    (State.ringCfg s r v).now = s.now ∧
    (State.ringCfg s r v).free = s.free ∧
    (State.ringCfg s r v).pending = s.pending := by
  simp -implicitDefEqProofs [State.ringCfg]

@[simp] theorem bellAct_frame (s : State) (r : RingId) (v : Word) :
    (State.bellAct s r v).hub = s.hub ∧
    (State.bellAct s r v).clk = s.clk ∧
    (State.bellAct s r v).sluice = s.sluice ∧
    (State.bellAct s r v).boot = s.boot ∧
    (State.bellAct s r v).flash = s.flash ∧
    (State.bellAct s r v).sec = s.sec ∧
    (State.bellAct s r v).tel = s.tel ∧
    (State.bellAct s r v).chans = s.chans ∧
    (State.bellAct s r v).mbxMem = s.mbxMem ∧
    (State.bellAct s r v).ports = s.ports ∧
    (State.bellAct s r v).lanes = s.lanes ∧
    (State.bellAct s r v).now = s.now ∧
    (State.bellAct s r v).free = s.free ∧
    (State.bellAct s r v).pending = s.pending := by
  simp -implicitDefEqProofs [State.bellAct]

@[simp] theorem bellWrite_frame (s : State) (r : RingId) (v : Word) :
    (State.bellWrite s r v).clk = s.clk ∧
    (State.bellWrite s r v).boot = s.boot ∧
    (State.bellWrite s r v).flash = s.flash ∧
    (State.bellWrite s r v).sec = s.sec ∧
    (State.bellWrite s r v).tel = s.tel ∧
    (State.bellWrite s r v).chans = s.chans ∧
    (State.bellWrite s r v).mbxMem = s.mbxMem ∧
    (State.bellWrite s r v).ports = s.ports ∧
    (State.bellWrite s r v).lanes = s.lanes ∧
    (State.bellWrite s r v).now = s.now ∧
    (State.bellWrite s r v).free = s.free ∧
    (State.bellWrite s r v).pending = s.pending := by
  simp -implicitDefEqProofs [State.bellWrite]

@[simp] theorem bellFlush_frame (s : State) (r : RingId) :
    (State.bellFlush s r).hub = s.hub ∧
    (State.bellFlush s r).clk = s.clk ∧
    (State.bellFlush s r).sluice = s.sluice ∧
    (State.bellFlush s r).boot = s.boot ∧
    (State.bellFlush s r).flash = s.flash ∧
    (State.bellFlush s r).sec = s.sec ∧
    (State.bellFlush s r).tel = s.tel ∧
    (State.bellFlush s r).chans = s.chans ∧
    (State.bellFlush s r).mbxMem = s.mbxMem ∧
    (State.bellFlush s r).ports = s.ports ∧
    (State.bellFlush s r).lanes = s.lanes ∧
    (State.bellFlush s r).now = s.now ∧
    (State.bellFlush s r).free = s.free ∧
    (State.bellFlush s r).pending = s.pending := by
  unfold State.bellFlush; (try dsimp only); (repeat' split) <;> (try simp_all -implicitDefEqProofs)

@[simp] theorem bellsFlush_frame (s : State) :
    (State.bellsFlush s).hub = s.hub ∧
    (State.bellsFlush s).clk = s.clk ∧
    (State.bellsFlush s).sluice = s.sluice ∧
    (State.bellsFlush s).boot = s.boot ∧
    (State.bellsFlush s).flash = s.flash ∧
    (State.bellsFlush s).sec = s.sec ∧
    (State.bellsFlush s).tel = s.tel ∧
    (State.bellsFlush s).chans = s.chans ∧
    (State.bellsFlush s).mbxMem = s.mbxMem ∧
    (State.bellsFlush s).ports = s.ports ∧
    (State.bellsFlush s).lanes = s.lanes ∧
    (State.bellsFlush s).now = s.now ∧
    (State.bellsFlush s).free = s.free ∧
    (State.bellsFlush s).pending = s.pending := by
  simp -implicitDefEqProofs [State.bellsFlush]

@[simp] theorem completeRec_frame (s : State) (r : CmdRec) :
    (State.completeRec s r).hub = s.hub ∧
    (State.completeRec s r).clk = s.clk ∧
    (State.completeRec s r).sluice = s.sluice ∧
    (State.completeRec s r).boot = s.boot ∧
    (State.completeRec s r).flash = s.flash ∧
    (State.completeRec s r).sec = s.sec ∧
    (State.completeRec s r).tel = s.tel ∧
    (State.completeRec s r).chans = s.chans ∧
    (State.completeRec s r).mbxMem = s.mbxMem ∧
    (State.completeRec s r).ports = s.ports ∧
    (State.completeRec s r).beds = s.beds ∧
    (State.completeRec s r).lanes = s.lanes ∧
    (State.completeRec s r).now = s.now ∧
    (State.completeRec s r).free = s.free ∧
    (State.completeRec s r).pending = s.pending := by
  simp -implicitDefEqProofs [State.completeRec]

@[simp] theorem completeWhere_frame (s : State) (q : CmdRec → Bool) :
    (State.completeWhere s q).hub = s.hub ∧
    (State.completeWhere s q).clk = s.clk ∧
    (State.completeWhere s q).sluice = s.sluice ∧
    (State.completeWhere s q).boot = s.boot ∧
    (State.completeWhere s q).flash = s.flash ∧
    (State.completeWhere s q).sec = s.sec ∧
    (State.completeWhere s q).tel = s.tel ∧
    (State.completeWhere s q).chans = s.chans ∧
    (State.completeWhere s q).mbxMem = s.mbxMem ∧
    (State.completeWhere s q).ports = s.ports ∧
    (State.completeWhere s q).beds = s.beds ∧
    (State.completeWhere s q).lanes = s.lanes ∧
    (State.completeWhere s q).now = s.now ∧
    (State.completeWhere s q).free = s.free ∧
    (State.completeWhere s q).pending = s.pending := by
  unfold State.completeWhere; (try dsimp only); (repeat' split) <;> (try simp_all -implicitDefEqProofs)

@[simp] theorem completeKey_frame (s : State) (k : CmdKey) :
    (State.completeKey s k).hub = s.hub ∧
    (State.completeKey s k).clk = s.clk ∧
    (State.completeKey s k).sluice = s.sluice ∧
    (State.completeKey s k).boot = s.boot ∧
    (State.completeKey s k).flash = s.flash ∧
    (State.completeKey s k).sec = s.sec ∧
    (State.completeKey s k).tel = s.tel ∧
    (State.completeKey s k).chans = s.chans ∧
    (State.completeKey s k).mbxMem = s.mbxMem ∧
    (State.completeKey s k).ports = s.ports ∧
    (State.completeKey s k).beds = s.beds ∧
    (State.completeKey s k).lanes = s.lanes ∧
    (State.completeKey s k).now = s.now ∧
    (State.completeKey s k).free = s.free ∧
    (State.completeKey s k).pending = s.pending := by
  simp -implicitDefEqProofs [State.completeKey]

@[simp] theorem ensureRec_frame (s : State) (h : CmdHdr) (o : Op) :
    (State.ensureRec s h o).pins = s.pins ∧
    (State.ensureRec s h o).hub = s.hub ∧
    (State.ensureRec s h o).clk = s.clk ∧
    (State.ensureRec s h o).sluice = s.sluice ∧
    (State.ensureRec s h o).boot = s.boot ∧
    (State.ensureRec s h o).flash = s.flash ∧
    (State.ensureRec s h o).sec = s.sec ∧
    (State.ensureRec s h o).tel = s.tel ∧
    (State.ensureRec s h o).chans = s.chans ∧
    (State.ensureRec s h o).mbxMem = s.mbxMem ∧
    (State.ensureRec s h o).rings = s.rings ∧
    (State.ensureRec s h o).hostMem = s.hostMem ∧
    (State.ensureRec s h o).ports = s.ports ∧
    (State.ensureRec s h o).beds = s.beds ∧
    (State.ensureRec s h o).lanes = s.lanes ∧
    (State.ensureRec s h o).now = s.now ∧
    (State.ensureRec s h o).free = s.free ∧
    (State.ensureRec s h o).pending = s.pending := by
  simp -implicitDefEqProofs [State.ensureRec]

@[simp] theorem fpEmpty_frame (s : State) (p : PortId) :
    (State.fpEmpty s p).pins = s.pins ∧
    (State.fpEmpty s p).hub = s.hub ∧
    (State.fpEmpty s p).clk = s.clk ∧
    (State.fpEmpty s p).sluice = s.sluice ∧
    (State.fpEmpty s p).boot = s.boot ∧
    (State.fpEmpty s p).flash = s.flash ∧
    (State.fpEmpty s p).sec = s.sec ∧
    (State.fpEmpty s p).tel = s.tel ∧
    (State.fpEmpty s p).chans = s.chans ∧
    (State.fpEmpty s p).mbxMem = s.mbxMem ∧
    (State.fpEmpty s p).rings = s.rings ∧
    (State.fpEmpty s p).hostMem = s.hostMem ∧
    (State.fpEmpty s p).beds = s.beds ∧
    (State.fpEmpty s p).lanes = s.lanes ∧
    (State.fpEmpty s p).now = s.now ∧
    (State.fpEmpty s p).free = s.free ∧
    (State.fpEmpty s p).pending = s.pending := by
  simp -implicitDefEqProofs [State.fpEmpty]

@[simp] theorem springEnable_frame (s : State) (p : PortId) (en : Bool) :
    (State.springEnable s p en).hub = s.hub ∧
    (State.springEnable s p en).clk = s.clk ∧
    (State.springEnable s p en).sluice = s.sluice ∧
    (State.springEnable s p en).boot = s.boot ∧
    (State.springEnable s p en).flash = s.flash ∧
    (State.springEnable s p en).sec = s.sec ∧
    (State.springEnable s p en).tel = s.tel ∧
    (State.springEnable s p en).chans = s.chans ∧
    (State.springEnable s p en).mbxMem = s.mbxMem ∧
    (State.springEnable s p en).now = s.now ∧
    (State.springEnable s p en).free = s.free ∧
    (State.springEnable s p en).pending = s.pending := by
  simp -implicitDefEqProofs [State.springEnable]

@[simp] theorem linkctlWrite_frame (s : State) (p : PortId) (v : Word) :
    (State.linkctlWrite s p v).hub = s.hub ∧
    (State.linkctlWrite s p v).clk = s.clk ∧
    (State.linkctlWrite s p v).sluice = s.sluice ∧
    (State.linkctlWrite s p v).boot = s.boot ∧
    (State.linkctlWrite s p v).flash = s.flash ∧
    (State.linkctlWrite s p v).sec = s.sec ∧
    (State.linkctlWrite s p v).tel = s.tel ∧
    (State.linkctlWrite s p v).chans = s.chans ∧
    (State.linkctlWrite s p v).mbxMem = s.mbxMem ∧
    (State.linkctlWrite s p v).now = s.now ∧
    (State.linkctlWrite s p v).free = s.free ∧
    (State.linkctlWrite s p v).pending = s.pending := by
  simp -implicitDefEqProofs [State.linkctlWrite]

@[simp] theorem trainctlWrite_frame (s : State) (p : PortId) (v : Word) :
    (State.trainctlWrite s p v).pins = s.pins ∧
    (State.trainctlWrite s p v).hub = s.hub ∧
    (State.trainctlWrite s p v).clk = s.clk ∧
    (State.trainctlWrite s p v).sluice = s.sluice ∧
    (State.trainctlWrite s p v).boot = s.boot ∧
    (State.trainctlWrite s p v).flash = s.flash ∧
    (State.trainctlWrite s p v).sec = s.sec ∧
    (State.trainctlWrite s p v).tel = s.tel ∧
    (State.trainctlWrite s p v).chans = s.chans ∧
    (State.trainctlWrite s p v).mbxMem = s.mbxMem ∧
    (State.trainctlWrite s p v).rings = s.rings ∧
    (State.trainctlWrite s p v).hostMem = s.hostMem ∧
    (State.trainctlWrite s p v).beds = s.beds ∧
    (State.trainctlWrite s p v).lanes = s.lanes ∧
    (State.trainctlWrite s p v).now = s.now ∧
    (State.trainctlWrite s p v).free = s.free ∧
    (State.trainctlWrite s p v).pending = s.pending := by
  simp -implicitDefEqProofs [State.trainctlWrite]

@[simp] theorem decctlWrite_frame (s : State) (p : PortId) (v : Word) :
    (State.decctlWrite s p v).pins = s.pins ∧
    (State.decctlWrite s p v).hub = s.hub ∧
    (State.decctlWrite s p v).clk = s.clk ∧
    (State.decctlWrite s p v).sluice = s.sluice ∧
    (State.decctlWrite s p v).boot = s.boot ∧
    (State.decctlWrite s p v).flash = s.flash ∧
    (State.decctlWrite s p v).sec = s.sec ∧
    (State.decctlWrite s p v).tel = s.tel ∧
    (State.decctlWrite s p v).chans = s.chans ∧
    (State.decctlWrite s p v).mbxMem = s.mbxMem ∧
    (State.decctlWrite s p v).rings = s.rings ∧
    (State.decctlWrite s p v).hostMem = s.hostMem ∧
    (State.decctlWrite s p v).beds = s.beds ∧
    (State.decctlWrite s p v).lanes = s.lanes ∧
    (State.decctlWrite s p v).now = s.now ∧
    (State.decctlWrite s p v).free = s.free ∧
    (State.decctlWrite s p v).pending = s.pending := by
  simp -implicitDefEqProofs [State.decctlWrite]

@[simp] theorem stillctlWrite_frame (s : State) (p : PortId) (v : Word) :
    (State.stillctlWrite s p v).pins = s.pins ∧
    (State.stillctlWrite s p v).hub = s.hub ∧
    (State.stillctlWrite s p v).clk = s.clk ∧
    (State.stillctlWrite s p v).sluice = s.sluice ∧
    (State.stillctlWrite s p v).boot = s.boot ∧
    (State.stillctlWrite s p v).flash = s.flash ∧
    (State.stillctlWrite s p v).sec = s.sec ∧
    (State.stillctlWrite s p v).tel = s.tel ∧
    (State.stillctlWrite s p v).chans = s.chans ∧
    (State.stillctlWrite s p v).mbxMem = s.mbxMem ∧
    (State.stillctlWrite s p v).rings = s.rings ∧
    (State.stillctlWrite s p v).hostMem = s.hostMem ∧
    (State.stillctlWrite s p v).beds = s.beds ∧
    (State.stillctlWrite s p v).lanes = s.lanes ∧
    (State.stillctlWrite s p v).now = s.now ∧
    (State.stillctlWrite s p v).free = s.free ∧
    (State.stillctlWrite s p v).pending = s.pending := by
  simp -implicitDefEqProofs [State.stillctlWrite]

@[simp] theorem fpctlWrite_frame (s : State) (p : PortId) (v : Word) :
    (State.fpctlWrite s p v).pins = s.pins ∧
    (State.fpctlWrite s p v).hub = s.hub ∧
    (State.fpctlWrite s p v).clk = s.clk ∧
    (State.fpctlWrite s p v).sluice = s.sluice ∧
    (State.fpctlWrite s p v).boot = s.boot ∧
    (State.fpctlWrite s p v).flash = s.flash ∧
    (State.fpctlWrite s p v).sec = s.sec ∧
    (State.fpctlWrite s p v).tel = s.tel ∧
    (State.fpctlWrite s p v).chans = s.chans ∧
    (State.fpctlWrite s p v).mbxMem = s.mbxMem ∧
    (State.fpctlWrite s p v).rings = s.rings ∧
    (State.fpctlWrite s p v).hostMem = s.hostMem ∧
    (State.fpctlWrite s p v).beds = s.beds ∧
    (State.fpctlWrite s p v).lanes = s.lanes ∧
    (State.fpctlWrite s p v).now = s.now ∧
    (State.fpctlWrite s p v).free = s.free ∧
    (State.fpctlWrite s p v).pending = s.pending := by
  simp -implicitDefEqProofs [State.fpctlWrite]

@[simp] theorem springctlWrite_frame (s : State) (p : PortId) (v : Word) :
    (State.springctlWrite s p v).pins = s.pins ∧
    (State.springctlWrite s p v).hub = s.hub ∧
    (State.springctlWrite s p v).clk = s.clk ∧
    (State.springctlWrite s p v).sluice = s.sluice ∧
    (State.springctlWrite s p v).boot = s.boot ∧
    (State.springctlWrite s p v).flash = s.flash ∧
    (State.springctlWrite s p v).sec = s.sec ∧
    (State.springctlWrite s p v).tel = s.tel ∧
    (State.springctlWrite s p v).chans = s.chans ∧
    (State.springctlWrite s p v).mbxMem = s.mbxMem ∧
    (State.springctlWrite s p v).rings = s.rings ∧
    (State.springctlWrite s p v).hostMem = s.hostMem ∧
    (State.springctlWrite s p v).beds = s.beds ∧
    (State.springctlWrite s p v).lanes = s.lanes ∧
    (State.springctlWrite s p v).now = s.now ∧
    (State.springctlWrite s p v).free = s.free ∧
    (State.springctlWrite s p v).pending = s.pending := by
  simp -implicitDefEqProofs [State.springctlWrite]

@[simp] theorem dshiftWrite_frame (s : State) (p : PortId) (v : Word) :
    (State.dshiftWrite s p v).pins = s.pins ∧
    (State.dshiftWrite s p v).hub = s.hub ∧
    (State.dshiftWrite s p v).clk = s.clk ∧
    (State.dshiftWrite s p v).sluice = s.sluice ∧
    (State.dshiftWrite s p v).boot = s.boot ∧
    (State.dshiftWrite s p v).flash = s.flash ∧
    (State.dshiftWrite s p v).sec = s.sec ∧
    (State.dshiftWrite s p v).tel = s.tel ∧
    (State.dshiftWrite s p v).chans = s.chans ∧
    (State.dshiftWrite s p v).mbxMem = s.mbxMem ∧
    (State.dshiftWrite s p v).rings = s.rings ∧
    (State.dshiftWrite s p v).hostMem = s.hostMem ∧
    (State.dshiftWrite s p v).beds = s.beds ∧
    (State.dshiftWrite s p v).lanes = s.lanes ∧
    (State.dshiftWrite s p v).now = s.now ∧
    (State.dshiftWrite s p v).free = s.free ∧
    (State.dshiftWrite s p v).pending = s.pending := by
  simp -implicitDefEqProofs [State.dshiftWrite]

@[simp] theorem txeqWrite_frame (s : State) (l : LaneId) (v : Word) :
    (State.txeqWrite s l v).pins = s.pins ∧
    (State.txeqWrite s l v).hub = s.hub ∧
    (State.txeqWrite s l v).clk = s.clk ∧
    (State.txeqWrite s l v).sluice = s.sluice ∧
    (State.txeqWrite s l v).boot = s.boot ∧
    (State.txeqWrite s l v).flash = s.flash ∧
    (State.txeqWrite s l v).sec = s.sec ∧
    (State.txeqWrite s l v).tel = s.tel ∧
    (State.txeqWrite s l v).chans = s.chans ∧
    (State.txeqWrite s l v).mbxMem = s.mbxMem ∧
    (State.txeqWrite s l v).rings = s.rings ∧
    (State.txeqWrite s l v).hostMem = s.hostMem ∧
    (State.txeqWrite s l v).ports = s.ports ∧
    (State.txeqWrite s l v).beds = s.beds ∧
    (State.txeqWrite s l v).now = s.now ∧
    (State.txeqWrite s l v).free = s.free ∧
    (State.txeqWrite s l v).pending = s.pending := by
  simp -implicitDefEqProofs [State.txeqWrite]

@[simp] theorem fuseWrite_frame (s : State) (b : BedId) (v : Word) :
    (State.fuseWrite s b v).pins = s.pins ∧
    (State.fuseWrite s b v).hub = s.hub ∧
    (State.fuseWrite s b v).clk = s.clk ∧
    (State.fuseWrite s b v).sluice = s.sluice ∧
    (State.fuseWrite s b v).boot = s.boot ∧
    (State.fuseWrite s b v).flash = s.flash ∧
    (State.fuseWrite s b v).sec = s.sec ∧
    (State.fuseWrite s b v).tel = s.tel ∧
    (State.fuseWrite s b v).chans = s.chans ∧
    (State.fuseWrite s b v).mbxMem = s.mbxMem ∧
    (State.fuseWrite s b v).rings = s.rings ∧
    (State.fuseWrite s b v).hostMem = s.hostMem ∧
    (State.fuseWrite s b v).ports = s.ports ∧
    (State.fuseWrite s b v).lanes = s.lanes ∧
    (State.fuseWrite s b v).now = s.now ∧
    (State.fuseWrite s b v).free = s.free ∧
    (State.fuseWrite s b v).pending = s.pending := by
  simp -implicitDefEqProofs [State.fuseWrite]

@[simp] theorem flashCtl_frame (s : State) (m : MasterId) (v : Word) :
    (State.flashCtl s m v).pins = s.pins ∧
    (State.flashCtl s m v).hub = s.hub ∧
    (State.flashCtl s m v).clk = s.clk ∧
    (State.flashCtl s m v).sluice = s.sluice ∧
    (State.flashCtl s m v).boot = s.boot ∧
    (State.flashCtl s m v).sec = s.sec ∧
    (State.flashCtl s m v).tel = s.tel ∧
    (State.flashCtl s m v).chans = s.chans ∧
    (State.flashCtl s m v).mbxMem = s.mbxMem ∧
    (State.flashCtl s m v).rings = s.rings ∧
    (State.flashCtl s m v).hostMem = s.hostMem ∧
    (State.flashCtl s m v).ports = s.ports ∧
    (State.flashCtl s m v).beds = s.beds ∧
    (State.flashCtl s m v).lanes = s.lanes ∧
    (State.flashCtl s m v).now = s.now ∧
    (State.flashCtl s m v).free = s.free ∧
    (State.flashCtl s m v).pending = s.pending := by
  simp -implicitDefEqProofs [State.flashCtl]

@[simp] theorem chanWrite_frame (s : State) (m : MasterId) (c : ChanId) (o : Nat) (v : Word) :
    (State.chanWrite s m c o v).clk = s.clk ∧
    (State.chanWrite s m c o v).boot = s.boot ∧
    (State.chanWrite s m c o v).flash = s.flash ∧
    (State.chanWrite s m c o v).tel = s.tel ∧
    (State.chanWrite s m c o v).mbxMem = s.mbxMem ∧
    (State.chanWrite s m c o v).beds = s.beds ∧
    (State.chanWrite s m c o v).now = s.now ∧
    (State.chanWrite s m c o v).free = s.free ∧
    (State.chanWrite s m c o v).pending = s.pending := by
  simp -implicitDefEqProofs [State.chanWrite]

@[simp] theorem mbxWrite_frame (s : State) (m : MasterId) (a : Nat) (v : Word) :
    (State.mbxWrite s m a v).clk = s.clk ∧
    (State.mbxWrite s m a v).boot = s.boot ∧
    (State.mbxWrite s m a v).flash = s.flash ∧
    (State.mbxWrite s m a v).tel = s.tel ∧
    (State.mbxWrite s m a v).beds = s.beds ∧
    (State.mbxWrite s m a v).now = s.now ∧
    (State.mbxWrite s m a v).free = s.free ∧
    (State.mbxWrite s m a v).pending = s.pending := by
  simp -implicitDefEqProofs [State.mbxWrite]

@[simp] theorem hubWrite_frame (s : State) (a : Nat) (v : Word) :
    (State.hubWrite s a v).boot = s.boot ∧
    (State.hubWrite s a v).flash = s.flash ∧
    (State.hubWrite s a v).sec = s.sec ∧
    (State.hubWrite s a v).tel = s.tel ∧
    (State.hubWrite s a v).chans = s.chans ∧
    (State.hubWrite s a v).mbxMem = s.mbxMem ∧
    (State.hubWrite s a v).rings = s.rings ∧
    (State.hubWrite s a v).hostMem = s.hostMem ∧
    (State.hubWrite s a v).ports = s.ports ∧
    (State.hubWrite s a v).beds = s.beds ∧
    (State.hubWrite s a v).lanes = s.lanes ∧
    (State.hubWrite s a v).now = s.now ∧
    (State.hubWrite s a v).free = s.free ∧
    (State.hubWrite s a v).pending = s.pending := by
  simp -implicitDefEqProofs [State.hubWrite]

@[simp] theorem ringWrite_frame (s : State) (a : Nat) (v : Word) :
    (State.ringWrite s a v).clk = s.clk ∧
    (State.ringWrite s a v).sluice = s.sluice ∧
    (State.ringWrite s a v).boot = s.boot ∧
    (State.ringWrite s a v).flash = s.flash ∧
    (State.ringWrite s a v).sec = s.sec ∧
    (State.ringWrite s a v).chans = s.chans ∧
    (State.ringWrite s a v).mbxMem = s.mbxMem ∧
    (State.ringWrite s a v).beds = s.beds ∧
    (State.ringWrite s a v).lanes = s.lanes ∧
    (State.ringWrite s a v).now = s.now ∧
    (State.ringWrite s a v).free = s.free ∧
    (State.ringWrite s a v).pending = s.pending := by
  simp -implicitDefEqProofs [State.ringWrite]

@[simp] theorem flashRegWrite_frame (s : State) (m : MasterId) (a : Nat) (v : Word) :
    (State.flashRegWrite s m a v).pins = s.pins ∧
    (State.flashRegWrite s m a v).hub = s.hub ∧
    (State.flashRegWrite s m a v).clk = s.clk ∧
    (State.flashRegWrite s m a v).sluice = s.sluice ∧
    (State.flashRegWrite s m a v).boot = s.boot ∧
    (State.flashRegWrite s m a v).sec = s.sec ∧
    (State.flashRegWrite s m a v).tel = s.tel ∧
    (State.flashRegWrite s m a v).chans = s.chans ∧
    (State.flashRegWrite s m a v).mbxMem = s.mbxMem ∧
    (State.flashRegWrite s m a v).rings = s.rings ∧
    (State.flashRegWrite s m a v).hostMem = s.hostMem ∧
    (State.flashRegWrite s m a v).ports = s.ports ∧
    (State.flashRegWrite s m a v).beds = s.beds ∧
    (State.flashRegWrite s m a v).lanes = s.lanes ∧
    (State.flashRegWrite s m a v).now = s.now ∧
    (State.flashRegWrite s m a v).free = s.free ∧
    (State.flashRegWrite s m a v).pending = s.pending := by
  simp -implicitDefEqProofs [State.flashRegWrite]

@[simp] theorem bedWrite_frame (s : State) (b : BedId) (o : Nat) (v : Word) :
    (State.bedWrite s b o v).pins = s.pins ∧
    (State.bedWrite s b o v).hub = s.hub ∧
    (State.bedWrite s b o v).clk = s.clk ∧
    (State.bedWrite s b o v).sluice = s.sluice ∧
    (State.bedWrite s b o v).boot = s.boot ∧
    (State.bedWrite s b o v).flash = s.flash ∧
    (State.bedWrite s b o v).sec = s.sec ∧
    (State.bedWrite s b o v).tel = s.tel ∧
    (State.bedWrite s b o v).chans = s.chans ∧
    (State.bedWrite s b o v).mbxMem = s.mbxMem ∧
    (State.bedWrite s b o v).rings = s.rings ∧
    (State.bedWrite s b o v).hostMem = s.hostMem ∧
    (State.bedWrite s b o v).ports = s.ports ∧
    (State.bedWrite s b o v).lanes = s.lanes ∧
    (State.bedWrite s b o v).now = s.now ∧
    (State.bedWrite s b o v).free = s.free ∧
    (State.bedWrite s b o v).pending = s.pending := by
  simp -implicitDefEqProofs [State.bedWrite]

@[simp] theorem portWrite_frame (s : State) (p : PortId) (o : Nat) (v : Word) :
    (State.portWrite s p o v).hub = s.hub ∧
    (State.portWrite s p o v).clk = s.clk ∧
    (State.portWrite s p o v).sluice = s.sluice ∧
    (State.portWrite s p o v).boot = s.boot ∧
    (State.portWrite s p o v).flash = s.flash ∧
    (State.portWrite s p o v).sec = s.sec ∧
    (State.portWrite s p o v).tel = s.tel ∧
    (State.portWrite s p o v).chans = s.chans ∧
    (State.portWrite s p o v).mbxMem = s.mbxMem ∧
    (State.portWrite s p o v).now = s.now ∧
    (State.portWrite s p o v).free = s.free ∧
    (State.portWrite s p o v).pending = s.pending := by
  simp -implicitDefEqProofs [State.portWrite]

@[simp] theorem laneWrite_frame (s : State) (l : LaneId) (o : Nat) (v : Word) :
    (State.laneWrite s l o v).pins = s.pins ∧
    (State.laneWrite s l o v).hub = s.hub ∧
    (State.laneWrite s l o v).clk = s.clk ∧
    (State.laneWrite s l o v).sluice = s.sluice ∧
    (State.laneWrite s l o v).boot = s.boot ∧
    (State.laneWrite s l o v).flash = s.flash ∧
    (State.laneWrite s l o v).sec = s.sec ∧
    (State.laneWrite s l o v).tel = s.tel ∧
    (State.laneWrite s l o v).chans = s.chans ∧
    (State.laneWrite s l o v).mbxMem = s.mbxMem ∧
    (State.laneWrite s l o v).rings = s.rings ∧
    (State.laneWrite s l o v).hostMem = s.hostMem ∧
    (State.laneWrite s l o v).ports = s.ports ∧
    (State.laneWrite s l o v).beds = s.beds ∧
    (State.laneWrite s l o v).now = s.now ∧
    (State.laneWrite s l o v).free = s.free ∧
    (State.laneWrite s l o v).pending = s.pending := by
  simp -implicitDefEqProofs [State.laneWrite]

@[simp] theorem regWrite_frame (s : State) (m : MasterId) (a : Nat) (v : Word) :
    (State.regWrite s m a v).boot = s.boot ∧
    (State.regWrite s m a v).now = s.now ∧
    (State.regWrite s m a v).free = s.free ∧
    (State.regWrite s m a v).pending = s.pending := by
  unfold State.regWrite; (try dsimp only); (repeat' split) <;> (try simp_all -implicitDefEqProofs)

@[simp] theorem doneNext_pins (k : CmdKey) (e : Elem) (g : State → State) (s : State)
    (hg : (fun t => (g t).pins) = fun t => t.pins) : (s.doneNext k e g).pins = s.pins := by
  have h1 := fun t => congrFun hg t
  unfold State.doneNext
  repeat' split
  all_goals (try simp_all -implicitDefEqProofs)

@[simp] theorem doneNext_hub (k : CmdKey) (e : Elem) (g : State → State) (s : State)
    (hg : (fun t => (g t).hub) = fun t => t.hub) : (s.doneNext k e g).hub = s.hub := by
  have h1 := fun t => congrFun hg t
  unfold State.doneNext
  repeat' split
  all_goals (try simp_all -implicitDefEqProofs)

@[simp] theorem doneNext_clk (k : CmdKey) (e : Elem) (g : State → State) (s : State)
    (hg : (fun t => (g t).clk) = fun t => t.clk) : (s.doneNext k e g).clk = s.clk := by
  have h1 := fun t => congrFun hg t
  unfold State.doneNext
  repeat' split
  all_goals (try simp_all -implicitDefEqProofs)

@[simp] theorem doneNext_sluice (k : CmdKey) (e : Elem) (g : State → State) (s : State)
    (hg : (fun t => (g t).sluice) = fun t => t.sluice) : (s.doneNext k e g).sluice = s.sluice := by
  have h1 := fun t => congrFun hg t
  unfold State.doneNext
  repeat' split
  all_goals (try simp_all -implicitDefEqProofs)

@[simp] theorem doneNext_boot (k : CmdKey) (e : Elem) (g : State → State) (s : State)
    (hg : (fun t => (g t).boot) = fun t => t.boot) : (s.doneNext k e g).boot = s.boot := by
  have h1 := fun t => congrFun hg t
  unfold State.doneNext
  repeat' split
  all_goals (try simp_all -implicitDefEqProofs)

@[simp] theorem doneNext_flash (k : CmdKey) (e : Elem) (g : State → State) (s : State)
    (hg : (fun t => (g t).flash) = fun t => t.flash) : (s.doneNext k e g).flash = s.flash := by
  have h1 := fun t => congrFun hg t
  unfold State.doneNext
  repeat' split
  all_goals (try simp_all -implicitDefEqProofs)

@[simp] theorem doneNext_sec (k : CmdKey) (e : Elem) (g : State → State) (s : State)
    (hg : (fun t => (g t).sec) = fun t => t.sec) : (s.doneNext k e g).sec = s.sec := by
  have h1 := fun t => congrFun hg t
  unfold State.doneNext
  repeat' split
  all_goals (try simp_all -implicitDefEqProofs)

@[simp] theorem doneNext_tel (k : CmdKey) (e : Elem) (g : State → State) (s : State)
    (hg : (fun t => (g t).tel) = fun t => t.tel) : (s.doneNext k e g).tel = s.tel := by
  have h1 := fun t => congrFun hg t
  unfold State.doneNext
  repeat' split
  all_goals (try simp_all -implicitDefEqProofs)

@[simp] theorem doneNext_chans (k : CmdKey) (e : Elem) (g : State → State) (s : State)
    (hg : (fun t => (g t).chans) = fun t => t.chans) : (s.doneNext k e g).chans = s.chans := by
  have h1 := fun t => congrFun hg t
  unfold State.doneNext
  repeat' split
  all_goals (try simp_all -implicitDefEqProofs)

@[simp] theorem doneNext_mbxMem (k : CmdKey) (e : Elem) (g : State → State) (s : State)
    (hg : (fun t => (g t).mbxMem) = fun t => t.mbxMem) : (s.doneNext k e g).mbxMem = s.mbxMem := by
  have h1 := fun t => congrFun hg t
  unfold State.doneNext
  repeat' split
  all_goals (try simp_all -implicitDefEqProofs)

@[simp] theorem doneNext_rings (k : CmdKey) (e : Elem) (g : State → State) (s : State)
    (hg : (fun t => (g t).rings) = fun t => t.rings) : (s.doneNext k e g).rings = s.rings := by
  have h1 := fun t => congrFun hg t
  unfold State.doneNext
  repeat' split
  all_goals (try simp_all -implicitDefEqProofs)

@[simp] theorem doneNext_hostMem (k : CmdKey) (e : Elem) (g : State → State) (s : State)
    (hg : (fun t => (g t).hostMem) = fun t => t.hostMem) : (s.doneNext k e g).hostMem = s.hostMem := by
  have h1 := fun t => congrFun hg t
  unfold State.doneNext
  repeat' split
  all_goals (try simp_all -implicitDefEqProofs)

@[simp] theorem doneNext_ports (k : CmdKey) (e : Elem) (g : State → State) (s : State)
    (hg : (fun t => (g t).ports) = fun t => t.ports) : (s.doneNext k e g).ports = s.ports := by
  have h1 := fun t => congrFun hg t
  unfold State.doneNext
  repeat' split
  all_goals (try simp_all -implicitDefEqProofs)

@[simp] theorem doneNext_beds (k : CmdKey) (e : Elem) (g : State → State) (s : State)
    (hg : (fun t => (g t).beds) = fun t => t.beds) : (s.doneNext k e g).beds = s.beds := by
  have h1 := fun t => congrFun hg t
  unfold State.doneNext
  repeat' split
  all_goals (try simp_all -implicitDefEqProofs)

@[simp] theorem doneNext_lanes (k : CmdKey) (e : Elem) (g : State → State) (s : State)
    (hg : (fun t => (g t).lanes) = fun t => t.lanes) : (s.doneNext k e g).lanes = s.lanes := by
  have h1 := fun t => congrFun hg t
  unfold State.doneNext
  repeat' split
  all_goals (try simp_all -implicitDefEqProofs)

@[simp] theorem doneNext_now (k : CmdKey) (e : Elem) (g : State → State) (s : State)
    (hg : (fun t => (g t).now) = fun t => t.now) : (s.doneNext k e g).now = s.now := by
  have h1 := fun t => congrFun hg t
  unfold State.doneNext
  repeat' split
  all_goals (try simp_all -implicitDefEqProofs)

@[simp] theorem doneNext_free (k : CmdKey) (e : Elem) (g : State → State) (s : State)
    (hg : (fun t => (g t).free) = fun t => t.free) : (s.doneNext k e g).free = s.free := by
  have h1 := fun t => congrFun hg t
  unfold State.doneNext
  repeat' split
  all_goals (try simp_all -implicitDefEqProofs)

@[simp] theorem doneNext_pending (k : CmdKey) (e : Elem) (g : State → State) (s : State)
    (hg : (fun t => (g t).pending) = fun t => t.pending) : (s.doneNext k e g).pending = s.pending := by
  have h1 := fun t => congrFun hg t
  unfold State.doneNext
  repeat' split
  all_goals (try simp_all -implicitDefEqProofs)

@[simp] theorem onPort_pins (e : Elem) (g : PortId → State → State) (s : State)
    (hg : (fun p t => (g p t).pins) = fun (_ : PortId) t => t.pins) : (onPort e g s).pins = s.pins := by
  have h1 := fun p t => congrFun (congrFun hg p) t
  unfold onPort
  repeat' split
  all_goals (try simp_all -implicitDefEqProofs)

@[simp] theorem onPort_hub (e : Elem) (g : PortId → State → State) (s : State)
    (hg : (fun p t => (g p t).hub) = fun (_ : PortId) t => t.hub) : (onPort e g s).hub = s.hub := by
  have h1 := fun p t => congrFun (congrFun hg p) t
  unfold onPort
  repeat' split
  all_goals (try simp_all -implicitDefEqProofs)

@[simp] theorem onPort_clk (e : Elem) (g : PortId → State → State) (s : State)
    (hg : (fun p t => (g p t).clk) = fun (_ : PortId) t => t.clk) : (onPort e g s).clk = s.clk := by
  have h1 := fun p t => congrFun (congrFun hg p) t
  unfold onPort
  repeat' split
  all_goals (try simp_all -implicitDefEqProofs)

@[simp] theorem onPort_sluice (e : Elem) (g : PortId → State → State) (s : State)
    (hg : (fun p t => (g p t).sluice) = fun (_ : PortId) t => t.sluice) : (onPort e g s).sluice = s.sluice := by
  have h1 := fun p t => congrFun (congrFun hg p) t
  unfold onPort
  repeat' split
  all_goals (try simp_all -implicitDefEqProofs)

@[simp] theorem onPort_boot (e : Elem) (g : PortId → State → State) (s : State)
    (hg : (fun p t => (g p t).boot) = fun (_ : PortId) t => t.boot) : (onPort e g s).boot = s.boot := by
  have h1 := fun p t => congrFun (congrFun hg p) t
  unfold onPort
  repeat' split
  all_goals (try simp_all -implicitDefEqProofs)

@[simp] theorem onPort_flash (e : Elem) (g : PortId → State → State) (s : State)
    (hg : (fun p t => (g p t).flash) = fun (_ : PortId) t => t.flash) : (onPort e g s).flash = s.flash := by
  have h1 := fun p t => congrFun (congrFun hg p) t
  unfold onPort
  repeat' split
  all_goals (try simp_all -implicitDefEqProofs)

@[simp] theorem onPort_sec (e : Elem) (g : PortId → State → State) (s : State)
    (hg : (fun p t => (g p t).sec) = fun (_ : PortId) t => t.sec) : (onPort e g s).sec = s.sec := by
  have h1 := fun p t => congrFun (congrFun hg p) t
  unfold onPort
  repeat' split
  all_goals (try simp_all -implicitDefEqProofs)

@[simp] theorem onPort_tel (e : Elem) (g : PortId → State → State) (s : State)
    (hg : (fun p t => (g p t).tel) = fun (_ : PortId) t => t.tel) : (onPort e g s).tel = s.tel := by
  have h1 := fun p t => congrFun (congrFun hg p) t
  unfold onPort
  repeat' split
  all_goals (try simp_all -implicitDefEqProofs)

@[simp] theorem onPort_chans (e : Elem) (g : PortId → State → State) (s : State)
    (hg : (fun p t => (g p t).chans) = fun (_ : PortId) t => t.chans) : (onPort e g s).chans = s.chans := by
  have h1 := fun p t => congrFun (congrFun hg p) t
  unfold onPort
  repeat' split
  all_goals (try simp_all -implicitDefEqProofs)

@[simp] theorem onPort_mbxMem (e : Elem) (g : PortId → State → State) (s : State)
    (hg : (fun p t => (g p t).mbxMem) = fun (_ : PortId) t => t.mbxMem) : (onPort e g s).mbxMem = s.mbxMem := by
  have h1 := fun p t => congrFun (congrFun hg p) t
  unfold onPort
  repeat' split
  all_goals (try simp_all -implicitDefEqProofs)

@[simp] theorem onPort_rings (e : Elem) (g : PortId → State → State) (s : State)
    (hg : (fun p t => (g p t).rings) = fun (_ : PortId) t => t.rings) : (onPort e g s).rings = s.rings := by
  have h1 := fun p t => congrFun (congrFun hg p) t
  unfold onPort
  repeat' split
  all_goals (try simp_all -implicitDefEqProofs)

@[simp] theorem onPort_hostMem (e : Elem) (g : PortId → State → State) (s : State)
    (hg : (fun p t => (g p t).hostMem) = fun (_ : PortId) t => t.hostMem) : (onPort e g s).hostMem = s.hostMem := by
  have h1 := fun p t => congrFun (congrFun hg p) t
  unfold onPort
  repeat' split
  all_goals (try simp_all -implicitDefEqProofs)

@[simp] theorem onPort_ports (e : Elem) (g : PortId → State → State) (s : State)
    (hg : (fun p t => (g p t).ports) = fun (_ : PortId) t => t.ports) : (onPort e g s).ports = s.ports := by
  have h1 := fun p t => congrFun (congrFun hg p) t
  unfold onPort
  repeat' split
  all_goals (try simp_all -implicitDefEqProofs)

@[simp] theorem onPort_beds (e : Elem) (g : PortId → State → State) (s : State)
    (hg : (fun p t => (g p t).beds) = fun (_ : PortId) t => t.beds) : (onPort e g s).beds = s.beds := by
  have h1 := fun p t => congrFun (congrFun hg p) t
  unfold onPort
  repeat' split
  all_goals (try simp_all -implicitDefEqProofs)

@[simp] theorem onPort_lanes (e : Elem) (g : PortId → State → State) (s : State)
    (hg : (fun p t => (g p t).lanes) = fun (_ : PortId) t => t.lanes) : (onPort e g s).lanes = s.lanes := by
  have h1 := fun p t => congrFun (congrFun hg p) t
  unfold onPort
  repeat' split
  all_goals (try simp_all -implicitDefEqProofs)

@[simp] theorem onPort_now (e : Elem) (g : PortId → State → State) (s : State)
    (hg : (fun p t => (g p t).now) = fun (_ : PortId) t => t.now) : (onPort e g s).now = s.now := by
  have h1 := fun p t => congrFun (congrFun hg p) t
  unfold onPort
  repeat' split
  all_goals (try simp_all -implicitDefEqProofs)

@[simp] theorem onPort_free (e : Elem) (g : PortId → State → State) (s : State)
    (hg : (fun p t => (g p t).free) = fun (_ : PortId) t => t.free) : (onPort e g s).free = s.free := by
  have h1 := fun p t => congrFun (congrFun hg p) t
  unfold onPort
  repeat' split
  all_goals (try simp_all -implicitDefEqProofs)

@[simp] theorem onPort_pending (e : Elem) (g : PortId → State → State) (s : State)
    (hg : (fun p t => (g p t).pending) = fun (_ : PortId) t => t.pending) : (onPort e g s).pending = s.pending := by
  have h1 := fun p t => congrFun (congrFun hg p) t
  unfold onPort
  repeat' split
  all_goals (try simp_all -implicitDefEqProofs)

@[simp] theorem writeIn_pins (m : MasterId) (a : Nat) (v : Word) (g : Word → State → State) (s : State)
    (hg : (fun w t => (g w t).pins) = fun (_ : Word) t => t.pins) : (s.writeIn m a v g).pins = s.pins := by
  have h1 := fun w => congrFun hg w
  unfold State.writeIn
  rw [inNextTick_pins _ _ (h1 _)]; rfl

@[simp] theorem writeIn_clk (m : MasterId) (a : Nat) (v : Word) (g : Word → State → State) (s : State)
    (hg : (fun w t => (g w t).clk) = fun (_ : Word) t => t.clk) : (s.writeIn m a v g).clk = s.clk := by
  have h1 := fun w => congrFun hg w
  unfold State.writeIn
  rw [inNextTick_clk _ _ (h1 _)]; rfl

@[simp] theorem writeIn_sluice (m : MasterId) (a : Nat) (v : Word) (g : Word → State → State) (s : State)
    (hg : (fun w t => (g w t).sluice) = fun (_ : Word) t => t.sluice) : (s.writeIn m a v g).sluice = s.sluice := by
  have h1 := fun w => congrFun hg w
  unfold State.writeIn
  rw [inNextTick_sluice _ _ (h1 _)]; rfl

@[simp] theorem writeIn_boot (m : MasterId) (a : Nat) (v : Word) (g : Word → State → State) (s : State)
    (hg : (fun w t => (g w t).boot) = fun (_ : Word) t => t.boot) : (s.writeIn m a v g).boot = s.boot := by
  have h1 := fun w => congrFun hg w
  unfold State.writeIn
  rw [inNextTick_boot _ _ (h1 _)]; rfl

@[simp] theorem writeIn_flash (m : MasterId) (a : Nat) (v : Word) (g : Word → State → State) (s : State)
    (hg : (fun w t => (g w t).flash) = fun (_ : Word) t => t.flash) : (s.writeIn m a v g).flash = s.flash := by
  have h1 := fun w => congrFun hg w
  unfold State.writeIn
  rw [inNextTick_flash _ _ (h1 _)]; rfl

@[simp] theorem writeIn_sec (m : MasterId) (a : Nat) (v : Word) (g : Word → State → State) (s : State)
    (hg : (fun w t => (g w t).sec) = fun (_ : Word) t => t.sec) : (s.writeIn m a v g).sec = s.sec := by
  have h1 := fun w => congrFun hg w
  unfold State.writeIn
  rw [inNextTick_sec _ _ (h1 _)]; rfl

@[simp] theorem writeIn_tel (m : MasterId) (a : Nat) (v : Word) (g : Word → State → State) (s : State)
    (hg : (fun w t => (g w t).tel) = fun (_ : Word) t => t.tel) : (s.writeIn m a v g).tel = s.tel := by
  have h1 := fun w => congrFun hg w
  unfold State.writeIn
  rw [inNextTick_tel _ _ (h1 _)]; rfl

@[simp] theorem writeIn_chans (m : MasterId) (a : Nat) (v : Word) (g : Word → State → State) (s : State)
    (hg : (fun w t => (g w t).chans) = fun (_ : Word) t => t.chans) : (s.writeIn m a v g).chans = s.chans := by
  have h1 := fun w => congrFun hg w
  unfold State.writeIn
  rw [inNextTick_chans _ _ (h1 _)]; rfl

@[simp] theorem writeIn_mbxMem (m : MasterId) (a : Nat) (v : Word) (g : Word → State → State) (s : State)
    (hg : (fun w t => (g w t).mbxMem) = fun (_ : Word) t => t.mbxMem) : (s.writeIn m a v g).mbxMem = s.mbxMem := by
  have h1 := fun w => congrFun hg w
  unfold State.writeIn
  rw [inNextTick_mbxMem _ _ (h1 _)]; rfl

@[simp] theorem writeIn_rings (m : MasterId) (a : Nat) (v : Word) (g : Word → State → State) (s : State)
    (hg : (fun w t => (g w t).rings) = fun (_ : Word) t => t.rings) : (s.writeIn m a v g).rings = s.rings := by
  have h1 := fun w => congrFun hg w
  unfold State.writeIn
  rw [inNextTick_rings _ _ (h1 _)]; rfl

@[simp] theorem writeIn_hostMem (m : MasterId) (a : Nat) (v : Word) (g : Word → State → State) (s : State)
    (hg : (fun w t => (g w t).hostMem) = fun (_ : Word) t => t.hostMem) : (s.writeIn m a v g).hostMem = s.hostMem := by
  have h1 := fun w => congrFun hg w
  unfold State.writeIn
  rw [inNextTick_hostMem _ _ (h1 _)]; rfl

@[simp] theorem writeIn_ports (m : MasterId) (a : Nat) (v : Word) (g : Word → State → State) (s : State)
    (hg : (fun w t => (g w t).ports) = fun (_ : Word) t => t.ports) : (s.writeIn m a v g).ports = s.ports := by
  have h1 := fun w => congrFun hg w
  unfold State.writeIn
  rw [inNextTick_ports _ _ (h1 _)]; rfl

@[simp] theorem writeIn_beds (m : MasterId) (a : Nat) (v : Word) (g : Word → State → State) (s : State)
    (hg : (fun w t => (g w t).beds) = fun (_ : Word) t => t.beds) : (s.writeIn m a v g).beds = s.beds := by
  have h1 := fun w => congrFun hg w
  unfold State.writeIn
  rw [inNextTick_beds _ _ (h1 _)]; rfl

@[simp] theorem writeIn_lanes (m : MasterId) (a : Nat) (v : Word) (g : Word → State → State) (s : State)
    (hg : (fun w t => (g w t).lanes) = fun (_ : Word) t => t.lanes) : (s.writeIn m a v g).lanes = s.lanes := by
  have h1 := fun w => congrFun hg w
  unfold State.writeIn
  rw [inNextTick_lanes _ _ (h1 _)]; rfl

@[simp] theorem writeIn_now (m : MasterId) (a : Nat) (v : Word) (g : Word → State → State) (s : State)
    (hg : (fun w t => (g w t).now) = fun (_ : Word) t => t.now) : (s.writeIn m a v g).now = s.now := by
  have h1 := fun w => congrFun hg w
  unfold State.writeIn
  rfl

@[simp] theorem writeIn_free (m : MasterId) (a : Nat) (v : Word) (g : Word → State → State) (s : State)
    (hg : (fun w t => (g w t).free) = fun (_ : Word) t => t.free) : (s.writeIn m a v g).free = s.free := by
  have h1 := fun w => congrFun hg w
  unfold State.writeIn
  rw [inNextTick_free _ _ (h1 _)]; rfl

@[simp] theorem writeIn_pending (m : MasterId) (a : Nat) (v : Word) (g : Word → State → State) (s : State)
    (hg : (fun w t => (g w t).pending) = fun (_ : Word) t => t.pending) : (s.writeIn m a v g).pending = s.pending := by
  have h1 := fun w => congrFun hg w
  unfold State.writeIn
  rw [inNextTick_pending _ _ (h1 _)]; rfl

@[simp] theorem actAll_pins (k : CmdKey) (pw bs : Bool) (g : CmdKey → Nat → Elem → State → State) (es : List Elem) (s : State)
    (hg : (fun k i e t => (g k i e t).pins) = fun (_ : CmdKey) (_ : Nat) (_ : Elem) t => t.pins) : (s.actAll k pw bs g es).pins = s.pins := by
  have h1 := fun k i e t => congrFun (congrFun (congrFun (congrFun hg k) i) e) t
  refine forAll_pins _ _ _ ?_
  funext x t
  split
  · exact (by simp)
  · exact h1 ..

@[simp] theorem actAll_hub (k : CmdKey) (pw bs : Bool) (g : CmdKey → Nat → Elem → State → State) (es : List Elem) (s : State)
    (hg : (fun k i e t => (g k i e t).hub) = fun (_ : CmdKey) (_ : Nat) (_ : Elem) t => t.hub) : (s.actAll k pw bs g es).hub = s.hub := by
  have h1 := fun k i e t => congrFun (congrFun (congrFun (congrFun hg k) i) e) t
  refine forAll_hub _ _ _ ?_
  funext x t
  split
  · exact (by simp)
  · exact h1 ..

@[simp] theorem actAll_clk (k : CmdKey) (pw bs : Bool) (g : CmdKey → Nat → Elem → State → State) (es : List Elem) (s : State)
    (hg : (fun k i e t => (g k i e t).clk) = fun (_ : CmdKey) (_ : Nat) (_ : Elem) t => t.clk) : (s.actAll k pw bs g es).clk = s.clk := by
  have h1 := fun k i e t => congrFun (congrFun (congrFun (congrFun hg k) i) e) t
  refine forAll_clk _ _ _ ?_
  funext x t
  split
  · exact (by simp)
  · exact h1 ..

@[simp] theorem actAll_sluice (k : CmdKey) (pw bs : Bool) (g : CmdKey → Nat → Elem → State → State) (es : List Elem) (s : State)
    (hg : (fun k i e t => (g k i e t).sluice) = fun (_ : CmdKey) (_ : Nat) (_ : Elem) t => t.sluice) : (s.actAll k pw bs g es).sluice = s.sluice := by
  have h1 := fun k i e t => congrFun (congrFun (congrFun (congrFun hg k) i) e) t
  refine forAll_sluice _ _ _ ?_
  funext x t
  split
  · exact (by simp)
  · exact h1 ..

@[simp] theorem actAll_boot (k : CmdKey) (pw bs : Bool) (g : CmdKey → Nat → Elem → State → State) (es : List Elem) (s : State)
    (hg : (fun k i e t => (g k i e t).boot) = fun (_ : CmdKey) (_ : Nat) (_ : Elem) t => t.boot) : (s.actAll k pw bs g es).boot = s.boot := by
  have h1 := fun k i e t => congrFun (congrFun (congrFun (congrFun hg k) i) e) t
  refine forAll_boot _ _ _ ?_
  funext x t
  split
  · exact (by simp)
  · exact h1 ..

@[simp] theorem actAll_flash (k : CmdKey) (pw bs : Bool) (g : CmdKey → Nat → Elem → State → State) (es : List Elem) (s : State)
    (hg : (fun k i e t => (g k i e t).flash) = fun (_ : CmdKey) (_ : Nat) (_ : Elem) t => t.flash) : (s.actAll k pw bs g es).flash = s.flash := by
  have h1 := fun k i e t => congrFun (congrFun (congrFun (congrFun hg k) i) e) t
  refine forAll_flash _ _ _ ?_
  funext x t
  split
  · exact (by simp)
  · exact h1 ..

@[simp] theorem actAll_sec (k : CmdKey) (pw bs : Bool) (g : CmdKey → Nat → Elem → State → State) (es : List Elem) (s : State)
    (hg : (fun k i e t => (g k i e t).sec) = fun (_ : CmdKey) (_ : Nat) (_ : Elem) t => t.sec) : (s.actAll k pw bs g es).sec = s.sec := by
  have h1 := fun k i e t => congrFun (congrFun (congrFun (congrFun hg k) i) e) t
  refine forAll_sec _ _ _ ?_
  funext x t
  split
  · exact (by simp)
  · exact h1 ..

@[simp] theorem actAll_tel (k : CmdKey) (pw bs : Bool) (g : CmdKey → Nat → Elem → State → State) (es : List Elem) (s : State)
    (hg : (fun k i e t => (g k i e t).tel) = fun (_ : CmdKey) (_ : Nat) (_ : Elem) t => t.tel) : (s.actAll k pw bs g es).tel = s.tel := by
  have h1 := fun k i e t => congrFun (congrFun (congrFun (congrFun hg k) i) e) t
  refine forAll_tel _ _ _ ?_
  funext x t
  split
  · exact (by simp)
  · exact h1 ..

@[simp] theorem actAll_chans (k : CmdKey) (pw bs : Bool) (g : CmdKey → Nat → Elem → State → State) (es : List Elem) (s : State)
    (hg : (fun k i e t => (g k i e t).chans) = fun (_ : CmdKey) (_ : Nat) (_ : Elem) t => t.chans) : (s.actAll k pw bs g es).chans = s.chans := by
  have h1 := fun k i e t => congrFun (congrFun (congrFun (congrFun hg k) i) e) t
  refine forAll_chans _ _ _ ?_
  funext x t
  split
  · exact (by simp)
  · exact h1 ..

@[simp] theorem actAll_mbxMem (k : CmdKey) (pw bs : Bool) (g : CmdKey → Nat → Elem → State → State) (es : List Elem) (s : State)
    (hg : (fun k i e t => (g k i e t).mbxMem) = fun (_ : CmdKey) (_ : Nat) (_ : Elem) t => t.mbxMem) : (s.actAll k pw bs g es).mbxMem = s.mbxMem := by
  have h1 := fun k i e t => congrFun (congrFun (congrFun (congrFun hg k) i) e) t
  refine forAll_mbxMem _ _ _ ?_
  funext x t
  split
  · exact (by simp)
  · exact h1 ..

@[simp] theorem actAll_rings (k : CmdKey) (pw bs : Bool) (g : CmdKey → Nat → Elem → State → State) (es : List Elem) (s : State)
    (hg : (fun k i e t => (g k i e t).rings) = fun (_ : CmdKey) (_ : Nat) (_ : Elem) t => t.rings) : (s.actAll k pw bs g es).rings = s.rings := by
  have h1 := fun k i e t => congrFun (congrFun (congrFun (congrFun hg k) i) e) t
  refine forAll_rings _ _ _ ?_
  funext x t
  split
  · exact (by simp)
  · exact h1 ..

@[simp] theorem actAll_hostMem (k : CmdKey) (pw bs : Bool) (g : CmdKey → Nat → Elem → State → State) (es : List Elem) (s : State)
    (hg : (fun k i e t => (g k i e t).hostMem) = fun (_ : CmdKey) (_ : Nat) (_ : Elem) t => t.hostMem) : (s.actAll k pw bs g es).hostMem = s.hostMem := by
  have h1 := fun k i e t => congrFun (congrFun (congrFun (congrFun hg k) i) e) t
  refine forAll_hostMem _ _ _ ?_
  funext x t
  split
  · exact (by simp)
  · exact h1 ..

@[simp] theorem actAll_ports (k : CmdKey) (pw bs : Bool) (g : CmdKey → Nat → Elem → State → State) (es : List Elem) (s : State)
    (hg : (fun k i e t => (g k i e t).ports) = fun (_ : CmdKey) (_ : Nat) (_ : Elem) t => t.ports) : (s.actAll k pw bs g es).ports = s.ports := by
  have h1 := fun k i e t => congrFun (congrFun (congrFun (congrFun hg k) i) e) t
  refine forAll_ports _ _ _ ?_
  funext x t
  split
  · exact (by simp)
  · exact h1 ..

@[simp] theorem actAll_beds (k : CmdKey) (pw bs : Bool) (g : CmdKey → Nat → Elem → State → State) (es : List Elem) (s : State)
    (hg : (fun k i e t => (g k i e t).beds) = fun (_ : CmdKey) (_ : Nat) (_ : Elem) t => t.beds) : (s.actAll k pw bs g es).beds = s.beds := by
  have h1 := fun k i e t => congrFun (congrFun (congrFun (congrFun hg k) i) e) t
  refine forAll_beds _ _ _ ?_
  funext x t
  split
  · exact (by simp)
  · exact h1 ..

@[simp] theorem actAll_lanes (k : CmdKey) (pw bs : Bool) (g : CmdKey → Nat → Elem → State → State) (es : List Elem) (s : State)
    (hg : (fun k i e t => (g k i e t).lanes) = fun (_ : CmdKey) (_ : Nat) (_ : Elem) t => t.lanes) : (s.actAll k pw bs g es).lanes = s.lanes := by
  have h1 := fun k i e t => congrFun (congrFun (congrFun (congrFun hg k) i) e) t
  refine forAll_lanes _ _ _ ?_
  funext x t
  split
  · exact (by simp)
  · exact h1 ..

@[simp] theorem actAll_now (k : CmdKey) (pw bs : Bool) (g : CmdKey → Nat → Elem → State → State) (es : List Elem) (s : State)
    (hg : (fun k i e t => (g k i e t).now) = fun (_ : CmdKey) (_ : Nat) (_ : Elem) t => t.now) : (s.actAll k pw bs g es).now = s.now := by
  have h1 := fun k i e t => congrFun (congrFun (congrFun (congrFun hg k) i) e) t
  refine forAll_now _ _ _ ?_
  funext x t
  split
  · exact (by simp)
  · exact h1 ..

@[simp] theorem actAll_free (k : CmdKey) (pw bs : Bool) (g : CmdKey → Nat → Elem → State → State) (es : List Elem) (s : State)
    (hg : (fun k i e t => (g k i e t).free) = fun (_ : CmdKey) (_ : Nat) (_ : Elem) t => t.free) : (s.actAll k pw bs g es).free = s.free := by
  have h1 := fun k i e t => congrFun (congrFun (congrFun (congrFun hg k) i) e) t
  refine forAll_free _ _ _ ?_
  funext x t
  split
  · exact (by simp)
  · exact h1 ..

@[simp] theorem actAll_pending (k : CmdKey) (pw bs : Bool) (g : CmdKey → Nat → Elem → State → State) (es : List Elem) (s : State)
    (hg : (fun k i e t => (g k i e t).pending) = fun (_ : CmdKey) (_ : Nat) (_ : Elem) t => t.pending) : (s.actAll k pw bs g es).pending = s.pending := by
  have h1 := fun k i e t => congrFun (congrFun (congrFun (congrFun hg k) i) e) t
  refine forAll_pending _ _ _ ?_
  funext x t
  split
  · exact (by simp)
  · exact h1 ..

@[simp] theorem runCmd_pins (h : CmdHdr) (o : Op) (ok pw bs : Bool) (g : CmdKey → Nat → Elem → State → State) (s : State)
    (hg : (fun k i e t => (g k i e t).pins) = fun (_ : CmdKey) (_ : Nat) (_ : Elem) t => t.pins) : (s.runCmd h o ok pw bs g).pins = s.pins := by
  have h1 := fun k i e t => congrFun (congrFun (congrFun (congrFun hg k) i) e) t
  unfold State.runCmd
  (try dsimp only)
  repeat' split
  · rfl
  · simp
  · rw [actAll_pins _ _ _ _ _ _ hg]; simp

@[simp] theorem runCmd_hub (h : CmdHdr) (o : Op) (ok pw bs : Bool) (g : CmdKey → Nat → Elem → State → State) (s : State)
    (hg : (fun k i e t => (g k i e t).hub) = fun (_ : CmdKey) (_ : Nat) (_ : Elem) t => t.hub) : (s.runCmd h o ok pw bs g).hub = s.hub := by
  have h1 := fun k i e t => congrFun (congrFun (congrFun (congrFun hg k) i) e) t
  unfold State.runCmd
  (try dsimp only)
  repeat' split
  · rfl
  · simp
  · rw [actAll_hub _ _ _ _ _ _ hg]; simp

@[simp] theorem runCmd_clk (h : CmdHdr) (o : Op) (ok pw bs : Bool) (g : CmdKey → Nat → Elem → State → State) (s : State)
    (hg : (fun k i e t => (g k i e t).clk) = fun (_ : CmdKey) (_ : Nat) (_ : Elem) t => t.clk) : (s.runCmd h o ok pw bs g).clk = s.clk := by
  have h1 := fun k i e t => congrFun (congrFun (congrFun (congrFun hg k) i) e) t
  unfold State.runCmd
  (try dsimp only)
  repeat' split
  · rfl
  · simp
  · rw [actAll_clk _ _ _ _ _ _ hg]; simp

@[simp] theorem runCmd_sluice (h : CmdHdr) (o : Op) (ok pw bs : Bool) (g : CmdKey → Nat → Elem → State → State) (s : State)
    (hg : (fun k i e t => (g k i e t).sluice) = fun (_ : CmdKey) (_ : Nat) (_ : Elem) t => t.sluice) : (s.runCmd h o ok pw bs g).sluice = s.sluice := by
  have h1 := fun k i e t => congrFun (congrFun (congrFun (congrFun hg k) i) e) t
  unfold State.runCmd
  (try dsimp only)
  repeat' split
  · rfl
  · simp
  · rw [actAll_sluice _ _ _ _ _ _ hg]; simp

@[simp] theorem runCmd_boot (h : CmdHdr) (o : Op) (ok pw bs : Bool) (g : CmdKey → Nat → Elem → State → State) (s : State)
    (hg : (fun k i e t => (g k i e t).boot) = fun (_ : CmdKey) (_ : Nat) (_ : Elem) t => t.boot) : (s.runCmd h o ok pw bs g).boot = s.boot := by
  have h1 := fun k i e t => congrFun (congrFun (congrFun (congrFun hg k) i) e) t
  unfold State.runCmd
  (try dsimp only)
  repeat' split
  · rfl
  · simp
  · rw [actAll_boot _ _ _ _ _ _ hg]; simp

@[simp] theorem runCmd_flash (h : CmdHdr) (o : Op) (ok pw bs : Bool) (g : CmdKey → Nat → Elem → State → State) (s : State)
    (hg : (fun k i e t => (g k i e t).flash) = fun (_ : CmdKey) (_ : Nat) (_ : Elem) t => t.flash) : (s.runCmd h o ok pw bs g).flash = s.flash := by
  have h1 := fun k i e t => congrFun (congrFun (congrFun (congrFun hg k) i) e) t
  unfold State.runCmd
  (try dsimp only)
  repeat' split
  · rfl
  · simp
  · rw [actAll_flash _ _ _ _ _ _ hg]; simp

@[simp] theorem runCmd_sec (h : CmdHdr) (o : Op) (ok pw bs : Bool) (g : CmdKey → Nat → Elem → State → State) (s : State)
    (hg : (fun k i e t => (g k i e t).sec) = fun (_ : CmdKey) (_ : Nat) (_ : Elem) t => t.sec) : (s.runCmd h o ok pw bs g).sec = s.sec := by
  have h1 := fun k i e t => congrFun (congrFun (congrFun (congrFun hg k) i) e) t
  unfold State.runCmd
  (try dsimp only)
  repeat' split
  · rfl
  · simp
  · rw [actAll_sec _ _ _ _ _ _ hg]; simp

@[simp] theorem runCmd_tel (h : CmdHdr) (o : Op) (ok pw bs : Bool) (g : CmdKey → Nat → Elem → State → State) (s : State)
    (hg : (fun k i e t => (g k i e t).tel) = fun (_ : CmdKey) (_ : Nat) (_ : Elem) t => t.tel) : (s.runCmd h o ok pw bs g).tel = s.tel := by
  have h1 := fun k i e t => congrFun (congrFun (congrFun (congrFun hg k) i) e) t
  unfold State.runCmd
  (try dsimp only)
  repeat' split
  · rfl
  · simp
  · rw [actAll_tel _ _ _ _ _ _ hg]; simp

@[simp] theorem runCmd_chans (h : CmdHdr) (o : Op) (ok pw bs : Bool) (g : CmdKey → Nat → Elem → State → State) (s : State)
    (hg : (fun k i e t => (g k i e t).chans) = fun (_ : CmdKey) (_ : Nat) (_ : Elem) t => t.chans) : (s.runCmd h o ok pw bs g).chans = s.chans := by
  have h1 := fun k i e t => congrFun (congrFun (congrFun (congrFun hg k) i) e) t
  unfold State.runCmd
  (try dsimp only)
  repeat' split
  · rfl
  · simp
  · rw [actAll_chans _ _ _ _ _ _ hg]; simp

@[simp] theorem runCmd_mbxMem (h : CmdHdr) (o : Op) (ok pw bs : Bool) (g : CmdKey → Nat → Elem → State → State) (s : State)
    (hg : (fun k i e t => (g k i e t).mbxMem) = fun (_ : CmdKey) (_ : Nat) (_ : Elem) t => t.mbxMem) : (s.runCmd h o ok pw bs g).mbxMem = s.mbxMem := by
  have h1 := fun k i e t => congrFun (congrFun (congrFun (congrFun hg k) i) e) t
  unfold State.runCmd
  (try dsimp only)
  repeat' split
  · rfl
  · simp
  · rw [actAll_mbxMem _ _ _ _ _ _ hg]; simp

@[simp] theorem runCmd_rings (h : CmdHdr) (o : Op) (ok pw bs : Bool) (g : CmdKey → Nat → Elem → State → State) (s : State)
    (hg : (fun k i e t => (g k i e t).rings) = fun (_ : CmdKey) (_ : Nat) (_ : Elem) t => t.rings) : (s.runCmd h o ok pw bs g).rings = s.rings := by
  have h1 := fun k i e t => congrFun (congrFun (congrFun (congrFun hg k) i) e) t
  unfold State.runCmd
  (try dsimp only)
  repeat' split
  · rfl
  · simp
  · rw [actAll_rings _ _ _ _ _ _ hg]; simp

@[simp] theorem runCmd_hostMem (h : CmdHdr) (o : Op) (ok pw bs : Bool) (g : CmdKey → Nat → Elem → State → State) (s : State)
    (hg : (fun k i e t => (g k i e t).hostMem) = fun (_ : CmdKey) (_ : Nat) (_ : Elem) t => t.hostMem) : (s.runCmd h o ok pw bs g).hostMem = s.hostMem := by
  have h1 := fun k i e t => congrFun (congrFun (congrFun (congrFun hg k) i) e) t
  unfold State.runCmd
  (try dsimp only)
  repeat' split
  · rfl
  · simp
  · rw [actAll_hostMem _ _ _ _ _ _ hg]; simp

@[simp] theorem runCmd_ports (h : CmdHdr) (o : Op) (ok pw bs : Bool) (g : CmdKey → Nat → Elem → State → State) (s : State)
    (hg : (fun k i e t => (g k i e t).ports) = fun (_ : CmdKey) (_ : Nat) (_ : Elem) t => t.ports) : (s.runCmd h o ok pw bs g).ports = s.ports := by
  have h1 := fun k i e t => congrFun (congrFun (congrFun (congrFun hg k) i) e) t
  unfold State.runCmd
  (try dsimp only)
  repeat' split
  · rfl
  · simp
  · rw [actAll_ports _ _ _ _ _ _ hg]; simp

@[simp] theorem runCmd_beds (h : CmdHdr) (o : Op) (ok pw bs : Bool) (g : CmdKey → Nat → Elem → State → State) (s : State)
    (hg : (fun k i e t => (g k i e t).beds) = fun (_ : CmdKey) (_ : Nat) (_ : Elem) t => t.beds) : (s.runCmd h o ok pw bs g).beds = s.beds := by
  have h1 := fun k i e t => congrFun (congrFun (congrFun (congrFun hg k) i) e) t
  unfold State.runCmd
  (try dsimp only)
  repeat' split
  · rfl
  · simp
  · rw [actAll_beds _ _ _ _ _ _ hg]; simp

@[simp] theorem runCmd_lanes (h : CmdHdr) (o : Op) (ok pw bs : Bool) (g : CmdKey → Nat → Elem → State → State) (s : State)
    (hg : (fun k i e t => (g k i e t).lanes) = fun (_ : CmdKey) (_ : Nat) (_ : Elem) t => t.lanes) : (s.runCmd h o ok pw bs g).lanes = s.lanes := by
  have h1 := fun k i e t => congrFun (congrFun (congrFun (congrFun hg k) i) e) t
  unfold State.runCmd
  (try dsimp only)
  repeat' split
  · rfl
  · simp
  · rw [actAll_lanes _ _ _ _ _ _ hg]; simp

@[simp] theorem runCmd_now (h : CmdHdr) (o : Op) (ok pw bs : Bool) (g : CmdKey → Nat → Elem → State → State) (s : State)
    (hg : (fun k i e t => (g k i e t).now) = fun (_ : CmdKey) (_ : Nat) (_ : Elem) t => t.now) : (s.runCmd h o ok pw bs g).now = s.now := by
  have h1 := fun k i e t => congrFun (congrFun (congrFun (congrFun hg k) i) e) t
  unfold State.runCmd
  (try dsimp only)
  repeat' split
  · rfl
  · simp
  · rw [actAll_now _ _ _ _ _ _ hg]; simp

@[simp] theorem runCmd_free (h : CmdHdr) (o : Op) (ok pw bs : Bool) (g : CmdKey → Nat → Elem → State → State) (s : State)
    (hg : (fun k i e t => (g k i e t).free) = fun (_ : CmdKey) (_ : Nat) (_ : Elem) t => t.free) : (s.runCmd h o ok pw bs g).free = s.free := by
  have h1 := fun k i e t => congrFun (congrFun (congrFun (congrFun hg k) i) e) t
  unfold State.runCmd
  (try dsimp only)
  repeat' split
  · rfl
  · simp
  · rw [actAll_free _ _ _ _ _ _ hg]; simp

@[simp] theorem runCmd_pending (h : CmdHdr) (o : Op) (ok pw bs : Bool) (g : CmdKey → Nat → Elem → State → State) (s : State)
    (hg : (fun k i e t => (g k i e t).pending) = fun (_ : CmdKey) (_ : Nat) (_ : Elem) t => t.pending) : (s.runCmd h o ok pw bs g).pending = s.pending := by
  have h1 := fun k i e t => congrFun (congrFun (congrFun (congrFun hg k) i) e) t
  unfold State.runCmd
  (try dsimp only)
  repeat' split
  · rfl
  · simp
  · rw [actAll_pending _ _ _ _ _ _ hg]; simp

@[simp] theorem noteWrite_frame (s : State) (m : MasterId) (a : Nat) (v : Word) :
    (State.noteWrite s m a v).pins = s.pins ∧
    (State.noteWrite s m a v).clk = s.clk ∧
    (State.noteWrite s m a v).sluice = s.sluice ∧
    (State.noteWrite s m a v).boot = s.boot ∧
    (State.noteWrite s m a v).flash = s.flash ∧
    (State.noteWrite s m a v).sec = s.sec ∧
    (State.noteWrite s m a v).tel = s.tel ∧
    (State.noteWrite s m a v).chans = s.chans ∧
    (State.noteWrite s m a v).mbxMem = s.mbxMem ∧
    (State.noteWrite s m a v).rings = s.rings ∧
    (State.noteWrite s m a v).hostMem = s.hostMem ∧
    (State.noteWrite s m a v).ports = s.ports ∧
    (State.noteWrite s m a v).beds = s.beds ∧
    (State.noteWrite s m a v).lanes = s.lanes ∧
    (State.noteWrite s m a v).now = s.now ∧
    (State.noteWrite s m a v).free = s.free ∧
    (State.noteWrite s m a v).pending = s.pending := by
  simp -implicitDefEqProofs [State.noteWrite]

@[simp] theorem regWriteAt_frame (s : State) (m : MasterId) (a : Nat) (v : Word) :
    (State.regWriteAt s m a v).boot = s.boot ∧
    (State.regWriteAt s m a v).now = s.now ∧
    (State.regWriteAt s m a v).free = s.free ∧
    (State.regWriteAt s m a v).pending = s.pending := by
  unfold State.regWriteAt; (try dsimp only); (repeat' split) <;> (try simp_all -implicitDefEqProofs)

@[simp] theorem cmdWrite_frame (s : State) (p : PortId) (o : Nat) (v : Word) :
    (State.cmdWrite s p o v).boot = s.boot ∧
    (State.cmdWrite s p o v).now = s.now ∧
    (State.cmdWrite s p o v).free = s.free ∧
    (State.cmdWrite s p o v).pending = s.pending := by
  simp -implicitDefEqProofs [State.cmdWrite]

@[simp] theorem cmdWriteIf_frame (s : State) (b : Bool) (p : PortId) (o : Nat) (v : Word) :
    (State.cmdWriteIf s b p o v).boot = s.boot ∧
    (State.cmdWriteIf s b p o v).now = s.now ∧
    (State.cmdWriteIf s b p o v).free = s.free ∧
    (State.cmdWriteIf s b p o v).pending = s.pending := by
  simp -implicitDefEqProofs [State.cmdWriteIf]

@[simp] theorem portConfig_frame (s : State) (p : PortId) (select : Byte) (linkctl : Word) (trainctl : Word) (decctl : Word) (stillctl : Word) (fpctl : Word) :
    (State.portConfig s p select linkctl trainctl decctl stillctl fpctl).boot = s.boot ∧
    (State.portConfig s p select linkctl trainctl decctl stillctl fpctl).now = s.now ∧
    (State.portConfig s p select linkctl trainctl decctl stillctl fpctl).free = s.free ∧
    (State.portConfig s p select linkctl trainctl decctl stillctl fpctl).pending = s.pending := by
  simp -implicitDefEqProofs [State.portConfig]

@[simp] theorem enablePort_frame (s : State) (k : CmdKey) (p : PortId) :
    (State.enablePort s k p).hub = s.hub ∧
    (State.enablePort s k p).clk = s.clk ∧
    (State.enablePort s k p).sluice = s.sluice ∧
    (State.enablePort s k p).boot = s.boot ∧
    (State.enablePort s k p).flash = s.flash ∧
    (State.enablePort s k p).sec = s.sec ∧
    (State.enablePort s k p).tel = s.tel ∧
    (State.enablePort s k p).chans = s.chans ∧
    (State.enablePort s k p).mbxMem = s.mbxMem ∧
    (State.enablePort s k p).now = s.now ∧
    (State.enablePort s k p).free = s.free ∧
    (State.enablePort s k p).pending = s.pending := by
  unfold State.enablePort; (try dsimp only); (repeat' split) <;> (try simp_all -implicitDefEqProofs)

@[simp] theorem disablePort_frame (s : State) (k : CmdKey) (p : PortId) :
    (State.disablePort s k p).hub = s.hub ∧
    (State.disablePort s k p).clk = s.clk ∧
    (State.disablePort s k p).sluice = s.sluice ∧
    (State.disablePort s k p).boot = s.boot ∧
    (State.disablePort s k p).flash = s.flash ∧
    (State.disablePort s k p).sec = s.sec ∧
    (State.disablePort s k p).tel = s.tel ∧
    (State.disablePort s k p).chans = s.chans ∧
    (State.disablePort s k p).mbxMem = s.mbxMem ∧
    (State.disablePort s k p).now = s.now ∧
    (State.disablePort s k p).free = s.free ∧
    (State.disablePort s k p).pending = s.pending := by
  simp -implicitDefEqProofs [State.disablePort]

@[simp] theorem retrainPort_frame (s : State) (k : CmdKey) (p : PortId) :
    (State.retrainPort s k p).hub = s.hub ∧
    (State.retrainPort s k p).clk = s.clk ∧
    (State.retrainPort s k p).sluice = s.sluice ∧
    (State.retrainPort s k p).boot = s.boot ∧
    (State.retrainPort s k p).flash = s.flash ∧
    (State.retrainPort s k p).sec = s.sec ∧
    (State.retrainPort s k p).tel = s.tel ∧
    (State.retrainPort s k p).chans = s.chans ∧
    (State.retrainPort s k p).mbxMem = s.mbxMem ∧
    (State.retrainPort s k p).now = s.now ∧
    (State.retrainPort s k p).free = s.free ∧
    (State.retrainPort s k p).pending = s.pending := by
  unfold State.retrainPort; (try dsimp only); (repeat' split) <;> (try simp_all -implicitDefEqProofs)

@[simp] theorem resetElem_frame (s : State) (k : CmdKey) (e : Elem) :
    (State.resetElem s k e).mbxMem = s.mbxMem ∧
    (State.resetElem s k e).now = s.now ∧
    (State.resetElem s k e).pending = s.pending := by
  unfold State.resetElem; (try dsimp only); (repeat' split) <;> (try simp_all -implicitDefEqProofs)

@[simp] theorem resetEnd_frame (s : State) (e : Elem) :
    (State.resetEnd s e).hub = s.hub ∧
    (State.resetEnd s e).clk = s.clk ∧
    (State.resetEnd s e).sluice = s.sluice ∧
    (State.resetEnd s e).boot = s.boot ∧
    (State.resetEnd s e).flash = s.flash ∧
    (State.resetEnd s e).sec = s.sec ∧
    (State.resetEnd s e).tel = s.tel ∧
    (State.resetEnd s e).chans = s.chans ∧
    (State.resetEnd s e).mbxMem = s.mbxMem ∧
    (State.resetEnd s e).now = s.now ∧
    (State.resetEnd s e).free = s.free ∧
    (State.resetEnd s e).pending = s.pending := by
  unfold State.resetEnd; (try dsimp only); (repeat' split) <;> (try simp_all -implicitDefEqProofs)

@[simp] theorem suspCheck_frame (s : State) (p : PortId) :
    (State.suspCheck s p).pins = s.pins ∧
    (State.suspCheck s p).hub = s.hub ∧
    (State.suspCheck s p).clk = s.clk ∧
    (State.suspCheck s p).sluice = s.sluice ∧
    (State.suspCheck s p).boot = s.boot ∧
    (State.suspCheck s p).flash = s.flash ∧
    (State.suspCheck s p).sec = s.sec ∧
    (State.suspCheck s p).tel = s.tel ∧
    (State.suspCheck s p).chans = s.chans ∧
    (State.suspCheck s p).mbxMem = s.mbxMem ∧
    (State.suspCheck s p).rings = s.rings ∧
    (State.suspCheck s p).hostMem = s.hostMem ∧
    (State.suspCheck s p).beds = s.beds ∧
    (State.suspCheck s p).lanes = s.lanes ∧
    (State.suspCheck s p).now = s.now ∧
    (State.suspCheck s p).free = s.free ∧
    (State.suspCheck s p).pending = s.pending := by
  unfold State.suspCheck; (try dsimp only); (repeat' split) <;> (try simp_all -implicitDefEqProofs)

@[simp] theorem framingLost_frame (s : State) (p : PortId) :
    (State.framingLost s p).hub = s.hub ∧
    (State.framingLost s p).clk = s.clk ∧
    (State.framingLost s p).sluice = s.sluice ∧
    (State.framingLost s p).boot = s.boot ∧
    (State.framingLost s p).flash = s.flash ∧
    (State.framingLost s p).sec = s.sec ∧
    (State.framingLost s p).tel = s.tel ∧
    (State.framingLost s p).chans = s.chans ∧
    (State.framingLost s p).mbxMem = s.mbxMem ∧
    (State.framingLost s p).now = s.now ∧
    (State.framingLost s p).free = s.free ∧
    (State.framingLost s p).pending = s.pending := by
  unfold State.framingLost; (try dsimp only); (repeat' split) <;> (try simp_all -implicitDefEqProofs)

@[simp] theorem spareUndo_frame (s : State) (p : PortId) :
    (State.spareUndo s p).pins = s.pins ∧
    (State.spareUndo s p).hub = s.hub ∧
    (State.spareUndo s p).clk = s.clk ∧
    (State.spareUndo s p).sluice = s.sluice ∧
    (State.spareUndo s p).boot = s.boot ∧
    (State.spareUndo s p).flash = s.flash ∧
    (State.spareUndo s p).sec = s.sec ∧
    (State.spareUndo s p).tel = s.tel ∧
    (State.spareUndo s p).chans = s.chans ∧
    (State.spareUndo s p).mbxMem = s.mbxMem ∧
    (State.spareUndo s p).rings = s.rings ∧
    (State.spareUndo s p).hostMem = s.hostMem ∧
    (State.spareUndo s p).beds = s.beds ∧
    (State.spareUndo s p).lanes = s.lanes ∧
    (State.spareUndo s p).now = s.now ∧
    (State.spareUndo s p).free = s.free ∧
    (State.spareUndo s p).pending = s.pending := by
  simp -implicitDefEqProofs [State.spareUndo]

@[simp] theorem lockGone_frame (s : State) (p : PortId) :
    (State.lockGone s p).hub = s.hub ∧
    (State.lockGone s p).clk = s.clk ∧
    (State.lockGone s p).sluice = s.sluice ∧
    (State.lockGone s p).boot = s.boot ∧
    (State.lockGone s p).flash = s.flash ∧
    (State.lockGone s p).sec = s.sec ∧
    (State.lockGone s p).tel = s.tel ∧
    (State.lockGone s p).chans = s.chans ∧
    (State.lockGone s p).mbxMem = s.mbxMem ∧
    (State.lockGone s p).now = s.now ∧
    (State.lockGone s p).free = s.free ∧
    (State.lockGone s p).pending = s.pending := by
  simp -implicitDefEqProofs [State.lockGone]

@[simp] theorem lockGain_frame (s : State) (p : PortId) (pair : Pair) (ident : Pair) (inv : Bool) :
    (State.lockGain s p pair ident inv).hub = s.hub ∧
    (State.lockGain s p pair ident inv).clk = s.clk ∧
    (State.lockGain s p pair ident inv).sluice = s.sluice ∧
    (State.lockGain s p pair ident inv).boot = s.boot ∧
    (State.lockGain s p pair ident inv).flash = s.flash ∧
    (State.lockGain s p pair ident inv).sec = s.sec ∧
    (State.lockGain s p pair ident inv).tel = s.tel ∧
    (State.lockGain s p pair ident inv).chans = s.chans ∧
    (State.lockGain s p pair ident inv).mbxMem = s.mbxMem ∧
    (State.lockGain s p pair ident inv).now = s.now ∧
    (State.lockGain s p pair ident inv).free = s.free ∧
    (State.lockGain s p pair ident inv).pending = s.pending := by
  unfold State.lockGain; (try dsimp only); (repeat' split) <;> (try simp_all -implicitDefEqProofs)

@[simp] theorem lockLoss_frame (s : State) (p : PortId) (pair : Pair) (vs : List RxPt) :
    (State.lockLoss s p pair vs).hub = s.hub ∧
    (State.lockLoss s p pair vs).clk = s.clk ∧
    (State.lockLoss s p pair vs).sluice = s.sluice ∧
    (State.lockLoss s p pair vs).boot = s.boot ∧
    (State.lockLoss s p pair vs).flash = s.flash ∧
    (State.lockLoss s p pair vs).sec = s.sec ∧
    (State.lockLoss s p pair vs).tel = s.tel ∧
    (State.lockLoss s p pair vs).chans = s.chans ∧
    (State.lockLoss s p pair vs).mbxMem = s.mbxMem ∧
    (State.lockLoss s p pair vs).now = s.now ∧
    (State.lockLoss s p pair vs).free = s.free ∧
    (State.lockLoss s p pair vs).pending = s.pending := by
  unfold State.lockLoss; (try dsimp only); (repeat' split) <;> (try simp_all -implicitDefEqProofs)

@[simp] theorem pairDown_frame (s : State) (p : PortId) (pairs : List Pair) :
    (State.pairDown s p pairs).hub = s.hub ∧
    (State.pairDown s p pairs).clk = s.clk ∧
    (State.pairDown s p pairs).sluice = s.sluice ∧
    (State.pairDown s p pairs).boot = s.boot ∧
    (State.pairDown s p pairs).flash = s.flash ∧
    (State.pairDown s p pairs).sec = s.sec ∧
    (State.pairDown s p pairs).tel = s.tel ∧
    (State.pairDown s p pairs).chans = s.chans ∧
    (State.pairDown s p pairs).mbxMem = s.mbxMem ∧
    (State.pairDown s p pairs).now = s.now ∧
    (State.pairDown s p pairs).free = s.free ∧
    (State.pairDown s p pairs).pending = s.pending := by
  simp -implicitDefEqProofs [State.pairDown]

@[simp] theorem pairFailed_frame (s : State) (p : PortId) (pairs : List Pair) :
    (State.pairFailed s p pairs).hub = s.hub ∧
    (State.pairFailed s p pairs).clk = s.clk ∧
    (State.pairFailed s p pairs).sluice = s.sluice ∧
    (State.pairFailed s p pairs).boot = s.boot ∧
    (State.pairFailed s p pairs).flash = s.flash ∧
    (State.pairFailed s p pairs).sec = s.sec ∧
    (State.pairFailed s p pairs).tel = s.tel ∧
    (State.pairFailed s p pairs).chans = s.chans ∧
    (State.pairFailed s p pairs).mbxMem = s.mbxMem ∧
    (State.pairFailed s p pairs).now = s.now ∧
    (State.pairFailed s p pairs).free = s.free ∧
    (State.pairFailed s p pairs).pending = s.pending := by
  unfold State.pairFailed; (try dsimp only); (repeat' split) <;> (try simp_all -implicitDefEqProofs)

@[simp] theorem trainSpare_frame (s : State) (p : PortId) (pair : Pair) :
    (State.trainSpare s p pair).pins = s.pins ∧
    (State.trainSpare s p pair).hub = s.hub ∧
    (State.trainSpare s p pair).clk = s.clk ∧
    (State.trainSpare s p pair).sluice = s.sluice ∧
    (State.trainSpare s p pair).boot = s.boot ∧
    (State.trainSpare s p pair).flash = s.flash ∧
    (State.trainSpare s p pair).sec = s.sec ∧
    (State.trainSpare s p pair).tel = s.tel ∧
    (State.trainSpare s p pair).chans = s.chans ∧
    (State.trainSpare s p pair).mbxMem = s.mbxMem ∧
    (State.trainSpare s p pair).rings = s.rings ∧
    (State.trainSpare s p pair).hostMem = s.hostMem ∧
    (State.trainSpare s p pair).beds = s.beds ∧
    (State.trainSpare s p pair).now = s.now ∧
    (State.trainSpare s p pair).free = s.free ∧
    (State.trainSpare s p pair).pending = s.pending := by
  simp -implicitDefEqProofs [State.trainSpare]

@[simp] theorem pairFailTrain_frame (s : State) (p : PortId) (pair : Pair) :
    (State.pairFailTrain s p pair).hub = s.hub ∧
    (State.pairFailTrain s p pair).clk = s.clk ∧
    (State.pairFailTrain s p pair).sluice = s.sluice ∧
    (State.pairFailTrain s p pair).boot = s.boot ∧
    (State.pairFailTrain s p pair).flash = s.flash ∧
    (State.pairFailTrain s p pair).sec = s.sec ∧
    (State.pairFailTrain s p pair).tel = s.tel ∧
    (State.pairFailTrain s p pair).chans = s.chans ∧
    (State.pairFailTrain s p pair).mbxMem = s.mbxMem ∧
    (State.pairFailTrain s p pair).now = s.now ∧
    (State.pairFailTrain s p pair).free = s.free ∧
    (State.pairFailTrain s p pair).pending = s.pending := by
  unfold State.pairFailTrain; (try dsimp only); (repeat' split) <;> (try simp_all -implicitDefEqProofs)

@[simp] theorem countMapped_frame (s : State) (p : PortId) (x : Nat × Nat × Nat) :
    (State.countMapped s p x).pins = s.pins ∧
    (State.countMapped s p x).hub = s.hub ∧
    (State.countMapped s p x).clk = s.clk ∧
    (State.countMapped s p x).sluice = s.sluice ∧
    (State.countMapped s p x).boot = s.boot ∧
    (State.countMapped s p x).flash = s.flash ∧
    (State.countMapped s p x).sec = s.sec ∧
    (State.countMapped s p x).tel = s.tel ∧
    (State.countMapped s p x).chans = s.chans ∧
    (State.countMapped s p x).mbxMem = s.mbxMem ∧
    (State.countMapped s p x).rings = s.rings ∧
    (State.countMapped s p x).hostMem = s.hostMem ∧
    (State.countMapped s p x).ports = s.ports ∧
    (State.countMapped s p x).beds = s.beds ∧
    (State.countMapped s p x).now = s.now ∧
    (State.countMapped s p x).free = s.free ∧
    (State.countMapped s p x).pending = s.pending := by
  unfold State.countMapped; (try dsimp only); (repeat' split) <;> (try simp_all -implicitDefEqProofs)

@[simp] theorem ingressTake_frame (s : State) (p : PortId) (bs : List HostBlk) :
    (State.ingressTake s p bs).pins = s.pins ∧
    (State.ingressTake s p bs).hub = s.hub ∧
    (State.ingressTake s p bs).clk = s.clk ∧
    (State.ingressTake s p bs).sluice = s.sluice ∧
    (State.ingressTake s p bs).boot = s.boot ∧
    (State.ingressTake s p bs).flash = s.flash ∧
    (State.ingressTake s p bs).sec = s.sec ∧
    (State.ingressTake s p bs).tel = s.tel ∧
    (State.ingressTake s p bs).chans = s.chans ∧
    (State.ingressTake s p bs).mbxMem = s.mbxMem ∧
    (State.ingressTake s p bs).rings = s.rings ∧
    (State.ingressTake s p bs).hostMem = s.hostMem ∧
    (State.ingressTake s p bs).beds = s.beds ∧
    (State.ingressTake s p bs).now = s.now ∧
    (State.ingressTake s p bs).free = s.free ∧
    (State.ingressTake s p bs).pending = s.pending := by
  unfold State.ingressTake; (try dsimp only); (repeat' split) <;> (try simp_all -implicitDefEqProofs)

@[simp] theorem wakeLoop_frame (s : State) (p : PortId) :
    (State.wakeLoop s p).pins = s.pins ∧
    (State.wakeLoop s p).hub = s.hub ∧
    (State.wakeLoop s p).clk = s.clk ∧
    (State.wakeLoop s p).sluice = s.sluice ∧
    (State.wakeLoop s p).boot = s.boot ∧
    (State.wakeLoop s p).flash = s.flash ∧
    (State.wakeLoop s p).sec = s.sec ∧
    (State.wakeLoop s p).tel = s.tel ∧
    (State.wakeLoop s p).chans = s.chans ∧
    (State.wakeLoop s p).mbxMem = s.mbxMem ∧
    (State.wakeLoop s p).rings = s.rings ∧
    (State.wakeLoop s p).hostMem = s.hostMem ∧
    (State.wakeLoop s p).beds = s.beds ∧
    (State.wakeLoop s p).now = s.now ∧
    (State.wakeLoop s p).free = s.free ∧
    (State.wakeLoop s p).pending = s.pending := by
  unfold State.wakeLoop; (try dsimp only); (repeat' split) <;> (try simp_all -implicitDefEqProofs)

@[simp] theorem dataUp_frame (s : State) (p : PortId) :
    (State.dataUp s p).pins = s.pins ∧
    (State.dataUp s p).hub = s.hub ∧
    (State.dataUp s p).clk = s.clk ∧
    (State.dataUp s p).sluice = s.sluice ∧
    (State.dataUp s p).boot = s.boot ∧
    (State.dataUp s p).sec = s.sec ∧
    (State.dataUp s p).tel = s.tel ∧
    (State.dataUp s p).chans = s.chans ∧
    (State.dataUp s p).mbxMem = s.mbxMem ∧
    (State.dataUp s p).rings = s.rings ∧
    (State.dataUp s p).beds = s.beds ∧
    (State.dataUp s p).now = s.now ∧
    (State.dataUp s p).pending = s.pending := by
  unfold State.dataUp; (try dsimp only); (repeat' split) <;> (try simp_all -implicitDefEqProofs)

@[simp] theorem wakeJobDo_frame (s : State) (p : PortId) :
    (State.wakeJobDo s p).hub = s.hub ∧
    (State.wakeJobDo s p).clk = s.clk ∧
    (State.wakeJobDo s p).sluice = s.sluice ∧
    (State.wakeJobDo s p).boot = s.boot ∧
    (State.wakeJobDo s p).sec = s.sec ∧
    (State.wakeJobDo s p).tel = s.tel ∧
    (State.wakeJobDo s p).chans = s.chans ∧
    (State.wakeJobDo s p).mbxMem = s.mbxMem ∧
    (State.wakeJobDo s p).now = s.now ∧
    (State.wakeJobDo s p).pending = s.pending := by
  unfold State.wakeJobDo; (try dsimp only); (repeat' split) <;> (try simp_all -implicitDefEqProofs)

@[simp] theorem spareGroup_frame (s : State) (p : PortId) :
    (State.spareGroup s p).pins = s.pins ∧
    (State.spareGroup s p).hub = s.hub ∧
    (State.spareGroup s p).clk = s.clk ∧
    (State.spareGroup s p).sluice = s.sluice ∧
    (State.spareGroup s p).boot = s.boot ∧
    (State.spareGroup s p).flash = s.flash ∧
    (State.spareGroup s p).sec = s.sec ∧
    (State.spareGroup s p).tel = s.tel ∧
    (State.spareGroup s p).chans = s.chans ∧
    (State.spareGroup s p).mbxMem = s.mbxMem ∧
    (State.spareGroup s p).rings = s.rings ∧
    (State.spareGroup s p).hostMem = s.hostMem ∧
    (State.spareGroup s p).beds = s.beds ∧
    (State.spareGroup s p).lanes = s.lanes ∧
    (State.spareGroup s p).now = s.now ∧
    (State.spareGroup s p).free = s.free ∧
    (State.spareGroup s p).pending = s.pending := by
  simp -implicitDefEqProofs [State.spareGroup]

@[simp] theorem waitedEnd_frame (s : State) (p : PortId) :
    (State.waitedEnd s p).pins = s.pins ∧
    (State.waitedEnd s p).hub = s.hub ∧
    (State.waitedEnd s p).clk = s.clk ∧
    (State.waitedEnd s p).sluice = s.sluice ∧
    (State.waitedEnd s p).boot = s.boot ∧
    (State.waitedEnd s p).flash = s.flash ∧
    (State.waitedEnd s p).sec = s.sec ∧
    (State.waitedEnd s p).tel = s.tel ∧
    (State.waitedEnd s p).chans = s.chans ∧
    (State.waitedEnd s p).mbxMem = s.mbxMem ∧
    (State.waitedEnd s p).rings = s.rings ∧
    (State.waitedEnd s p).hostMem = s.hostMem ∧
    (State.waitedEnd s p).beds = s.beds ∧
    (State.waitedEnd s p).lanes = s.lanes ∧
    (State.waitedEnd s p).now = s.now ∧
    (State.waitedEnd s p).free = s.free ∧
    (State.waitedEnd s p).pending = s.pending := by
  unfold State.waitedEnd; (try dsimp only); (repeat' split) <;> (try simp_all -implicitDefEqProofs)

@[simp] theorem formGroup_frame (s : State) (p : PortId) (blocks : List HostBlk) :
    (State.formGroup s p blocks).hub = s.hub ∧
    (State.formGroup s p blocks).clk = s.clk ∧
    (State.formGroup s p blocks).sluice = s.sluice ∧
    (State.formGroup s p blocks).boot = s.boot ∧
    (State.formGroup s p blocks).sec = s.sec ∧
    (State.formGroup s p blocks).tel = s.tel ∧
    (State.formGroup s p blocks).chans = s.chans ∧
    (State.formGroup s p blocks).mbxMem = s.mbxMem ∧
    (State.formGroup s p blocks).now = s.now ∧
    (State.formGroup s p blocks).pending = s.pending := by
  simp -implicitDefEqProofs [State.formGroup]

@[simp] theorem msgTake_frame (s : State) (p : PortId) (typ : Nat) (msg : Nat) :
    (State.msgTake s p typ msg).pins = s.pins ∧
    (State.msgTake s p typ msg).hub = s.hub ∧
    (State.msgTake s p typ msg).clk = s.clk ∧
    (State.msgTake s p typ msg).sluice = s.sluice ∧
    (State.msgTake s p typ msg).boot = s.boot ∧
    (State.msgTake s p typ msg).flash = s.flash ∧
    (State.msgTake s p typ msg).sec = s.sec ∧
    (State.msgTake s p typ msg).tel = s.tel ∧
    (State.msgTake s p typ msg).chans = s.chans ∧
    (State.msgTake s p typ msg).mbxMem = s.mbxMem ∧
    (State.msgTake s p typ msg).rings = s.rings ∧
    (State.msgTake s p typ msg).hostMem = s.hostMem ∧
    (State.msgTake s p typ msg).beds = s.beds ∧
    (State.msgTake s p typ msg).lanes = s.lanes ∧
    (State.msgTake s p typ msg).now = s.now ∧
    (State.msgTake s p typ msg).free = s.free ∧
    (State.msgTake s p typ msg).pending = s.pending := by
  simp -implicitDefEqProofs [State.msgTake]

@[simp] theorem oamMsg_frame (s : State) (p : PortId) (o : BitVec 198) :
    (State.oamMsg s p o).pins = s.pins ∧
    (State.oamMsg s p o).hub = s.hub ∧
    (State.oamMsg s p o).clk = s.clk ∧
    (State.oamMsg s p o).sluice = s.sluice ∧
    (State.oamMsg s p o).boot = s.boot ∧
    (State.oamMsg s p o).flash = s.flash ∧
    (State.oamMsg s p o).sec = s.sec ∧
    (State.oamMsg s p o).tel = s.tel ∧
    (State.oamMsg s p o).chans = s.chans ∧
    (State.oamMsg s p o).mbxMem = s.mbxMem ∧
    (State.oamMsg s p o).rings = s.rings ∧
    (State.oamMsg s p o).hostMem = s.hostMem ∧
    (State.oamMsg s p o).beds = s.beds ∧
    (State.oamMsg s p o).lanes = s.lanes ∧
    (State.oamMsg s p o).now = s.now ∧
    (State.oamMsg s p o).free = s.free ∧
    (State.oamMsg s p o).pending = s.pending := by
  simp -implicitDefEqProofs [State.oamMsg]

@[simp] theorem stillEnter_frame (s : State) (p : PortId) :
    (State.stillEnter s p).pins = s.pins ∧
    (State.stillEnter s p).hub = s.hub ∧
    (State.stillEnter s p).clk = s.clk ∧
    (State.stillEnter s p).sluice = s.sluice ∧
    (State.stillEnter s p).boot = s.boot ∧
    (State.stillEnter s p).flash = s.flash ∧
    (State.stillEnter s p).sec = s.sec ∧
    (State.stillEnter s p).tel = s.tel ∧
    (State.stillEnter s p).chans = s.chans ∧
    (State.stillEnter s p).mbxMem = s.mbxMem ∧
    (State.stillEnter s p).rings = s.rings ∧
    (State.stillEnter s p).hostMem = s.hostMem ∧
    (State.stillEnter s p).beds = s.beds ∧
    (State.stillEnter s p).lanes = s.lanes ∧
    (State.stillEnter s p).now = s.now ∧
    (State.stillEnter s p).free = s.free ∧
    (State.stillEnter s p).pending = s.pending := by
  simp -implicitDefEqProofs [State.stillEnter]

@[simp] theorem closeDownTake_frame (s : State) (p : PortId) :
    (State.closeDownTake s p).pins = s.pins ∧
    (State.closeDownTake s p).hub = s.hub ∧
    (State.closeDownTake s p).clk = s.clk ∧
    (State.closeDownTake s p).sluice = s.sluice ∧
    (State.closeDownTake s p).boot = s.boot ∧
    (State.closeDownTake s p).sec = s.sec ∧
    (State.closeDownTake s p).tel = s.tel ∧
    (State.closeDownTake s p).chans = s.chans ∧
    (State.closeDownTake s p).mbxMem = s.mbxMem ∧
    (State.closeDownTake s p).rings = s.rings ∧
    (State.closeDownTake s p).beds = s.beds ∧
    (State.closeDownTake s p).now = s.now ∧
    (State.closeDownTake s p).pending = s.pending := by
  simp -implicitDefEqProofs [State.closeDownTake]

@[simp] theorem closeTake_frame (s : State) (p : PortId) (o : BitVec 198) :
    (State.closeTake s p o).pins = s.pins ∧
    (State.closeTake s p o).hub = s.hub ∧
    (State.closeTake s p o).clk = s.clk ∧
    (State.closeTake s p o).sluice = s.sluice ∧
    (State.closeTake s p o).boot = s.boot ∧
    (State.closeTake s p o).sec = s.sec ∧
    (State.closeTake s p o).tel = s.tel ∧
    (State.closeTake s p o).chans = s.chans ∧
    (State.closeTake s p o).mbxMem = s.mbxMem ∧
    (State.closeTake s p o).rings = s.rings ∧
    (State.closeTake s p o).beds = s.beds ∧
    (State.closeTake s p o).now = s.now ∧
    (State.closeTake s p o).pending = s.pending := by
  unfold State.closeTake; (try dsimp only); (repeat' split) <;> (try simp_all -implicitDefEqProofs)

@[simp] theorem rungTake_frame (s : State) (p : PortId) (r : Rung) :
    (State.rungTake s p r).pins = s.pins ∧
    (State.rungTake s p r).hub = s.hub ∧
    (State.rungTake s p r).clk = s.clk ∧
    (State.rungTake s p r).sluice = s.sluice ∧
    (State.rungTake s p r).boot = s.boot ∧
    (State.rungTake s p r).flash = s.flash ∧
    (State.rungTake s p r).sec = s.sec ∧
    (State.rungTake s p r).tel = s.tel ∧
    (State.rungTake s p r).chans = s.chans ∧
    (State.rungTake s p r).mbxMem = s.mbxMem ∧
    (State.rungTake s p r).rings = s.rings ∧
    (State.rungTake s p r).hostMem = s.hostMem ∧
    (State.rungTake s p r).beds = s.beds ∧
    (State.rungTake s p r).lanes = s.lanes ∧
    (State.rungTake s p r).now = s.now ∧
    (State.rungTake s p r).free = s.free ∧
    (State.rungTake s p r).pending = s.pending := by
  simp -implicitDefEqProofs [State.rungTake]

@[simp] theorem stillDecide_frame (s : State) (p : PortId) :
    (State.stillDecide s p).pins = s.pins ∧
    (State.stillDecide s p).hub = s.hub ∧
    (State.stillDecide s p).clk = s.clk ∧
    (State.stillDecide s p).sluice = s.sluice ∧
    (State.stillDecide s p).boot = s.boot ∧
    (State.stillDecide s p).flash = s.flash ∧
    (State.stillDecide s p).sec = s.sec ∧
    (State.stillDecide s p).tel = s.tel ∧
    (State.stillDecide s p).chans = s.chans ∧
    (State.stillDecide s p).mbxMem = s.mbxMem ∧
    (State.stillDecide s p).rings = s.rings ∧
    (State.stillDecide s p).hostMem = s.hostMem ∧
    (State.stillDecide s p).beds = s.beds ∧
    (State.stillDecide s p).lanes = s.lanes ∧
    (State.stillDecide s p).now = s.now ∧
    (State.stillDecide s p).free = s.free ∧
    (State.stillDecide s p).pending = s.pending := by
  simp -implicitDefEqProofs [State.stillDecide]

@[simp] theorem spareTake_frame (s : State) (p : PortId) (named : Pair) :
    (State.spareTake s p named).hub = s.hub ∧
    (State.spareTake s p named).clk = s.clk ∧
    (State.spareTake s p named).sluice = s.sluice ∧
    (State.spareTake s p named).boot = s.boot ∧
    (State.spareTake s p named).flash = s.flash ∧
    (State.spareTake s p named).sec = s.sec ∧
    (State.spareTake s p named).tel = s.tel ∧
    (State.spareTake s p named).chans = s.chans ∧
    (State.spareTake s p named).mbxMem = s.mbxMem ∧
    (State.spareTake s p named).now = s.now ∧
    (State.spareTake s p named).free = s.free ∧
    (State.spareTake s p named).pending = s.pending := by
  simp -implicitDefEqProofs [State.spareTake]

@[simp] theorem oamAct_frame (s : State) (p : PortId) (o : BitVec 198) :
    (State.oamAct s p o).hub = s.hub ∧
    (State.oamAct s p o).clk = s.clk ∧
    (State.oamAct s p o).sluice = s.sluice ∧
    (State.oamAct s p o).boot = s.boot ∧
    (State.oamAct s p o).sec = s.sec ∧
    (State.oamAct s p o).tel = s.tel ∧
    (State.oamAct s p o).chans = s.chans ∧
    (State.oamAct s p o).mbxMem = s.mbxMem ∧
    (State.oamAct s p o).now = s.now ∧
    (State.oamAct s p o).pending = s.pending := by
  simp -implicitDefEqProofs [State.oamAct]

@[simp] theorem oamValidTake_frame (s : State) (p : PortId) (o : BitVec 198) :
    (State.oamValidTake s p o).hub = s.hub ∧
    (State.oamValidTake s p o).clk = s.clk ∧
    (State.oamValidTake s p o).sluice = s.sluice ∧
    (State.oamValidTake s p o).boot = s.boot ∧
    (State.oamValidTake s p o).sec = s.sec ∧
    (State.oamValidTake s p o).tel = s.tel ∧
    (State.oamValidTake s p o).chans = s.chans ∧
    (State.oamValidTake s p o).mbxMem = s.mbxMem ∧
    (State.oamValidTake s p o).now = s.now ∧
    (State.oamValidTake s p o).pending = s.pending := by
  simp -implicitDefEqProofs [State.oamValidTake]

@[simp] theorem oamBad_frame (s : State) (p : PortId) :
    (State.oamBad s p).hub = s.hub ∧
    (State.oamBad s p).clk = s.clk ∧
    (State.oamBad s p).sluice = s.sluice ∧
    (State.oamBad s p).boot = s.boot ∧
    (State.oamBad s p).flash = s.flash ∧
    (State.oamBad s p).sec = s.sec ∧
    (State.oamBad s p).tel = s.tel ∧
    (State.oamBad s p).chans = s.chans ∧
    (State.oamBad s p).mbxMem = s.mbxMem ∧
    (State.oamBad s p).now = s.now ∧
    (State.oamBad s p).free = s.free ∧
    (State.oamBad s p).pending = s.pending := by
  simp -implicitDefEqProofs [State.oamBad]

@[simp] theorem sectionCount_frame (s : State) (p : PortId) (unc : Bool) (flushed : Bool) (bits : Nat) (iters : Nat) (marked : Nat) :
    (State.sectionCount s p unc flushed bits iters marked).pins = s.pins ∧
    (State.sectionCount s p unc flushed bits iters marked).hub = s.hub ∧
    (State.sectionCount s p unc flushed bits iters marked).clk = s.clk ∧
    (State.sectionCount s p unc flushed bits iters marked).sluice = s.sluice ∧
    (State.sectionCount s p unc flushed bits iters marked).boot = s.boot ∧
    (State.sectionCount s p unc flushed bits iters marked).flash = s.flash ∧
    (State.sectionCount s p unc flushed bits iters marked).sec = s.sec ∧
    (State.sectionCount s p unc flushed bits iters marked).tel = s.tel ∧
    (State.sectionCount s p unc flushed bits iters marked).chans = s.chans ∧
    (State.sectionCount s p unc flushed bits iters marked).mbxMem = s.mbxMem ∧
    (State.sectionCount s p unc flushed bits iters marked).rings = s.rings ∧
    (State.sectionCount s p unc flushed bits iters marked).hostMem = s.hostMem ∧
    (State.sectionCount s p unc flushed bits iters marked).beds = s.beds ∧
    (State.sectionCount s p unc flushed bits iters marked).lanes = s.lanes ∧
    (State.sectionCount s p unc flushed bits iters marked).now = s.now ∧
    (State.sectionCount s p unc flushed bits iters marked).free = s.free ∧
    (State.sectionCount s p unc flushed bits iters marked).pending = s.pending := by
  simp -implicitDefEqProofs [State.sectionCount]

@[simp] theorem sectionOut_frame (s : State) (p : PortId) (o : SecObs) :
    (State.sectionOut s p o).hub = s.hub ∧
    (State.sectionOut s p o).clk = s.clk ∧
    (State.sectionOut s p o).sluice = s.sluice ∧
    (State.sectionOut s p o).boot = s.boot ∧
    (State.sectionOut s p o).flash = s.flash ∧
    (State.sectionOut s p o).sec = s.sec ∧
    (State.sectionOut s p o).tel = s.tel ∧
    (State.sectionOut s p o).chans = s.chans ∧
    (State.sectionOut s p o).mbxMem = s.mbxMem ∧
    (State.sectionOut s p o).now = s.now ∧
    (State.sectionOut s p o).free = s.free ∧
    (State.sectionOut s p o).pending = s.pending := by
  simp -implicitDefEqProofs [State.sectionOut]

@[simp] theorem marginAsk_frame (s : State) (p : PortId) :
    (State.marginAsk s p).pins = s.pins ∧
    (State.marginAsk s p).hub = s.hub ∧
    (State.marginAsk s p).clk = s.clk ∧
    (State.marginAsk s p).sluice = s.sluice ∧
    (State.marginAsk s p).boot = s.boot ∧
    (State.marginAsk s p).flash = s.flash ∧
    (State.marginAsk s p).sec = s.sec ∧
    (State.marginAsk s p).tel = s.tel ∧
    (State.marginAsk s p).chans = s.chans ∧
    (State.marginAsk s p).mbxMem = s.mbxMem ∧
    (State.marginAsk s p).rings = s.rings ∧
    (State.marginAsk s p).hostMem = s.hostMem ∧
    (State.marginAsk s p).beds = s.beds ∧
    (State.marginAsk s p).lanes = s.lanes ∧
    (State.marginAsk s p).now = s.now ∧
    (State.marginAsk s p).free = s.free ∧
    (State.marginAsk s p).pending = s.pending := by
  simp -implicitDefEqProofs [State.marginAsk]

@[simp] theorem degradeEvent_frame (s : State) (p : PortId) (flag : Nat) (cause : Nat) (margin : Nat) (unc : Nat) :
    (State.degradeEvent s p flag cause margin unc).pins = s.pins ∧
    (State.degradeEvent s p flag cause margin unc).hub = s.hub ∧
    (State.degradeEvent s p flag cause margin unc).clk = s.clk ∧
    (State.degradeEvent s p flag cause margin unc).sluice = s.sluice ∧
    (State.degradeEvent s p flag cause margin unc).boot = s.boot ∧
    (State.degradeEvent s p flag cause margin unc).flash = s.flash ∧
    (State.degradeEvent s p flag cause margin unc).sec = s.sec ∧
    (State.degradeEvent s p flag cause margin unc).tel = s.tel ∧
    (State.degradeEvent s p flag cause margin unc).chans = s.chans ∧
    (State.degradeEvent s p flag cause margin unc).mbxMem = s.mbxMem ∧
    (State.degradeEvent s p flag cause margin unc).rings = s.rings ∧
    (State.degradeEvent s p flag cause margin unc).hostMem = s.hostMem ∧
    (State.degradeEvent s p flag cause margin unc).ports = s.ports ∧
    (State.degradeEvent s p flag cause margin unc).beds = s.beds ∧
    (State.degradeEvent s p flag cause margin unc).lanes = s.lanes ∧
    (State.degradeEvent s p flag cause margin unc).now = s.now ∧
    (State.degradeEvent s p flag cause margin unc).free = s.free ∧
    (State.degradeEvent s p flag cause margin unc).pending = s.pending := by
  simp -implicitDefEqProofs [State.degradeEvent]

@[simp] theorem quietBegin_frame (s : State) (p : PortId) :
    (State.quietBegin s p).pins = s.pins ∧
    (State.quietBegin s p).hub = s.hub ∧
    (State.quietBegin s p).clk = s.clk ∧
    (State.quietBegin s p).sluice = s.sluice ∧
    (State.quietBegin s p).boot = s.boot ∧
    (State.quietBegin s p).flash = s.flash ∧
    (State.quietBegin s p).sec = s.sec ∧
    (State.quietBegin s p).tel = s.tel ∧
    (State.quietBegin s p).chans = s.chans ∧
    (State.quietBegin s p).mbxMem = s.mbxMem ∧
    (State.quietBegin s p).rings = s.rings ∧
    (State.quietBegin s p).hostMem = s.hostMem ∧
    (State.quietBegin s p).beds = s.beds ∧
    (State.quietBegin s p).lanes = s.lanes ∧
    (State.quietBegin s p).now = s.now ∧
    (State.quietBegin s p).free = s.free ∧
    (State.quietBegin s p).pending = s.pending := by
  simp -implicitDefEqProofs [State.quietBegin]

@[simp] theorem stillLeft_frame (s : State) (p : PortId) :
    (State.stillLeft s p).pins = s.pins ∧
    (State.stillLeft s p).hub = s.hub ∧
    (State.stillLeft s p).clk = s.clk ∧
    (State.stillLeft s p).sluice = s.sluice ∧
    (State.stillLeft s p).boot = s.boot ∧
    (State.stillLeft s p).flash = s.flash ∧
    (State.stillLeft s p).sec = s.sec ∧
    (State.stillLeft s p).tel = s.tel ∧
    (State.stillLeft s p).chans = s.chans ∧
    (State.stillLeft s p).mbxMem = s.mbxMem ∧
    (State.stillLeft s p).rings = s.rings ∧
    (State.stillLeft s p).hostMem = s.hostMem ∧
    (State.stillLeft s p).beds = s.beds ∧
    (State.stillLeft s p).lanes = s.lanes ∧
    (State.stillLeft s p).now = s.now ∧
    (State.stillLeft s p).free = s.free ∧
    (State.stillLeft s p).pending = s.pending := by
  simp -implicitDefEqProofs [State.stillLeft]

@[simp] theorem afterRetrain_frame (s : State) (p : PortId) :
    (State.afterRetrain s p).hub = s.hub ∧
    (State.afterRetrain s p).clk = s.clk ∧
    (State.afterRetrain s p).sluice = s.sluice ∧
    (State.afterRetrain s p).boot = s.boot ∧
    (State.afterRetrain s p).flash = s.flash ∧
    (State.afterRetrain s p).sec = s.sec ∧
    (State.afterRetrain s p).tel = s.tel ∧
    (State.afterRetrain s p).chans = s.chans ∧
    (State.afterRetrain s p).mbxMem = s.mbxMem ∧
    (State.afterRetrain s p).now = s.now ∧
    (State.afterRetrain s p).free = s.free ∧
    (State.afterRetrain s p).pending = s.pending := by
  unfold State.afterRetrain; (try dsimp only); (repeat' split) <;> (try simp_all -implicitDefEqProofs)

@[simp] theorem afterRung_frame (s : State) (p : PortId) :
    (State.afterRung s p).hub = s.hub ∧
    (State.afterRung s p).clk = s.clk ∧
    (State.afterRung s p).sluice = s.sluice ∧
    (State.afterRung s p).boot = s.boot ∧
    (State.afterRung s p).flash = s.flash ∧
    (State.afterRung s p).sec = s.sec ∧
    (State.afterRung s p).tel = s.tel ∧
    (State.afterRung s p).chans = s.chans ∧
    (State.afterRung s p).mbxMem = s.mbxMem ∧
    (State.afterRung s p).now = s.now ∧
    (State.afterRung s p).free = s.free ∧
    (State.afterRung s p).pending = s.pending := by
  simp -implicitDefEqProofs [State.afterRung]

@[simp] theorem lateEnd_frame (s : State) (p : PortId) :
    (State.lateEnd s p).hub = s.hub ∧
    (State.lateEnd s p).clk = s.clk ∧
    (State.lateEnd s p).sluice = s.sluice ∧
    (State.lateEnd s p).boot = s.boot ∧
    (State.lateEnd s p).sec = s.sec ∧
    (State.lateEnd s p).tel = s.tel ∧
    (State.lateEnd s p).chans = s.chans ∧
    (State.lateEnd s p).mbxMem = s.mbxMem ∧
    (State.lateEnd s p).now = s.now ∧
    (State.lateEnd s p).pending = s.pending := by
  unfold State.lateEnd; (try dsimp only); (repeat' split) <;> (try simp_all -implicitDefEqProofs)

@[simp] theorem spareEnd_frame (s : State) (p : PortId) :
    (State.spareEnd s p).pins = s.pins ∧
    (State.spareEnd s p).hub = s.hub ∧
    (State.spareEnd s p).clk = s.clk ∧
    (State.spareEnd s p).sluice = s.sluice ∧
    (State.spareEnd s p).boot = s.boot ∧
    (State.spareEnd s p).flash = s.flash ∧
    (State.spareEnd s p).sec = s.sec ∧
    (State.spareEnd s p).tel = s.tel ∧
    (State.spareEnd s p).chans = s.chans ∧
    (State.spareEnd s p).mbxMem = s.mbxMem ∧
    (State.spareEnd s p).rings = s.rings ∧
    (State.spareEnd s p).hostMem = s.hostMem ∧
    (State.spareEnd s p).beds = s.beds ∧
    (State.spareEnd s p).lanes = s.lanes ∧
    (State.spareEnd s p).now = s.now ∧
    (State.spareEnd s p).free = s.free ∧
    (State.spareEnd s p).pending = s.pending := by
  simp -implicitDefEqProofs [State.spareEnd]

@[simp] theorem phaseChange_frame (s : State) (p : PortId) :
    (State.phaseChange s p).pins = s.pins ∧
    (State.phaseChange s p).hub = s.hub ∧
    (State.phaseChange s p).clk = s.clk ∧
    (State.phaseChange s p).sluice = s.sluice ∧
    (State.phaseChange s p).boot = s.boot ∧
    (State.phaseChange s p).flash = s.flash ∧
    (State.phaseChange s p).sec = s.sec ∧
    (State.phaseChange s p).tel = s.tel ∧
    (State.phaseChange s p).chans = s.chans ∧
    (State.phaseChange s p).mbxMem = s.mbxMem ∧
    (State.phaseChange s p).rings = s.rings ∧
    (State.phaseChange s p).hostMem = s.hostMem ∧
    (State.phaseChange s p).beds = s.beds ∧
    (State.phaseChange s p).lanes = s.lanes ∧
    (State.phaseChange s p).now = s.now ∧
    (State.phaseChange s p).free = s.free ∧
    (State.phaseChange s p).pending = s.pending := by
  simp -implicitDefEqProofs [State.phaseChange]

@[simp] theorem swStep_frame (s : State) (p : PortId) :
    (State.swStep s p).pins = s.pins ∧
    (State.swStep s p).hub = s.hub ∧
    (State.swStep s p).clk = s.clk ∧
    (State.swStep s p).sluice = s.sluice ∧
    (State.swStep s p).boot = s.boot ∧
    (State.swStep s p).flash = s.flash ∧
    (State.swStep s p).sec = s.sec ∧
    (State.swStep s p).tel = s.tel ∧
    (State.swStep s p).chans = s.chans ∧
    (State.swStep s p).mbxMem = s.mbxMem ∧
    (State.swStep s p).rings = s.rings ∧
    (State.swStep s p).hostMem = s.hostMem ∧
    (State.swStep s p).beds = s.beds ∧
    (State.swStep s p).lanes = s.lanes ∧
    (State.swStep s p).now = s.now ∧
    (State.swStep s p).free = s.free ∧
    (State.swStep s p).pending = s.pending := by
  unfold State.swStep; (try dsimp only); (repeat' split) <;> (try simp_all -implicitDefEqProofs)

@[simp] theorem abortStep_frame (s : State) (p : PortId) :
    (State.abortStep s p).hub = s.hub ∧
    (State.abortStep s p).clk = s.clk ∧
    (State.abortStep s p).sluice = s.sluice ∧
    (State.abortStep s p).boot = s.boot ∧
    (State.abortStep s p).flash = s.flash ∧
    (State.abortStep s p).sec = s.sec ∧
    (State.abortStep s p).tel = s.tel ∧
    (State.abortStep s p).chans = s.chans ∧
    (State.abortStep s p).mbxMem = s.mbxMem ∧
    (State.abortStep s p).now = s.now ∧
    (State.abortStep s p).free = s.free ∧
    (State.abortStep s p).pending = s.pending := by
  simp -implicitDefEqProofs [State.abortStep]

@[simp] theorem trainForm_frame (s : State) (p : PortId) :
    (State.trainForm s p).hub = s.hub ∧
    (State.trainForm s p).clk = s.clk ∧
    (State.trainForm s p).sluice = s.sluice ∧
    (State.trainForm s p).boot = s.boot ∧
    (State.trainForm s p).flash = s.flash ∧
    (State.trainForm s p).sec = s.sec ∧
    (State.trainForm s p).tel = s.tel ∧
    (State.trainForm s p).chans = s.chans ∧
    (State.trainForm s p).mbxMem = s.mbxMem ∧
    (State.trainForm s p).now = s.now ∧
    (State.trainForm s p).free = s.free ∧
    (State.trainForm s p).pending = s.pending := by
  simp -implicitDefEqProofs [State.trainForm]

@[simp] theorem trainGroup_frame (s : State) (p : PortId) :
    (State.trainGroup s p).hub = s.hub ∧
    (State.trainGroup s p).clk = s.clk ∧
    (State.trainGroup s p).sluice = s.sluice ∧
    (State.trainGroup s p).boot = s.boot ∧
    (State.trainGroup s p).flash = s.flash ∧
    (State.trainGroup s p).sec = s.sec ∧
    (State.trainGroup s p).tel = s.tel ∧
    (State.trainGroup s p).chans = s.chans ∧
    (State.trainGroup s p).mbxMem = s.mbxMem ∧
    (State.trainGroup s p).now = s.now ∧
    (State.trainGroup s p).free = s.free ∧
    (State.trainGroup s p).pending = s.pending := by
  simp -implicitDefEqProofs [State.trainGroup]

@[simp] theorem stillGroup_frame (s : State) (p : PortId) :
    (State.stillGroup s p).pins = s.pins ∧
    (State.stillGroup s p).hub = s.hub ∧
    (State.stillGroup s p).clk = s.clk ∧
    (State.stillGroup s p).sluice = s.sluice ∧
    (State.stillGroup s p).boot = s.boot ∧
    (State.stillGroup s p).flash = s.flash ∧
    (State.stillGroup s p).sec = s.sec ∧
    (State.stillGroup s p).tel = s.tel ∧
    (State.stillGroup s p).chans = s.chans ∧
    (State.stillGroup s p).mbxMem = s.mbxMem ∧
    (State.stillGroup s p).rings = s.rings ∧
    (State.stillGroup s p).hostMem = s.hostMem ∧
    (State.stillGroup s p).beds = s.beds ∧
    (State.stillGroup s p).lanes = s.lanes ∧
    (State.stillGroup s p).now = s.now ∧
    (State.stillGroup s p).free = s.free ∧
    (State.stillGroup s p).pending = s.pending := by
  unfold State.stillGroup; (try dsimp only); (repeat' split) <;> (try simp_all -implicitDefEqProofs)

@[simp] theorem headLead_frame (s : State) (p : PortId) :
    (State.headLead s p).pins = s.pins ∧
    (State.headLead s p).hub = s.hub ∧
    (State.headLead s p).clk = s.clk ∧
    (State.headLead s p).sluice = s.sluice ∧
    (State.headLead s p).boot = s.boot ∧
    (State.headLead s p).flash = s.flash ∧
    (State.headLead s p).sec = s.sec ∧
    (State.headLead s p).tel = s.tel ∧
    (State.headLead s p).chans = s.chans ∧
    (State.headLead s p).mbxMem = s.mbxMem ∧
    (State.headLead s p).rings = s.rings ∧
    (State.headLead s p).hostMem = s.hostMem ∧
    (State.headLead s p).beds = s.beds ∧
    (State.headLead s p).lanes = s.lanes ∧
    (State.headLead s p).now = s.now ∧
    (State.headLead s p).free = s.free ∧
    (State.headLead s p).pending = s.pending := by
  simp -implicitDefEqProofs [State.headLead]

@[simp] theorem mapCheck_frame (s : State) (p : PortId) :
    (State.mapCheck s p).pins = s.pins ∧
    (State.mapCheck s p).hub = s.hub ∧
    (State.mapCheck s p).clk = s.clk ∧
    (State.mapCheck s p).sluice = s.sluice ∧
    (State.mapCheck s p).boot = s.boot ∧
    (State.mapCheck s p).flash = s.flash ∧
    (State.mapCheck s p).sec = s.sec ∧
    (State.mapCheck s p).tel = s.tel ∧
    (State.mapCheck s p).chans = s.chans ∧
    (State.mapCheck s p).mbxMem = s.mbxMem ∧
    (State.mapCheck s p).rings = s.rings ∧
    (State.mapCheck s p).hostMem = s.hostMem ∧
    (State.mapCheck s p).beds = s.beds ∧
    (State.mapCheck s p).lanes = s.lanes ∧
    (State.mapCheck s p).now = s.now ∧
    (State.mapCheck s p).free = s.free ∧
    (State.mapCheck s p).pending = s.pending := by
  unfold State.mapCheck; (try dsimp only); (repeat' split) <;> (try simp_all -implicitDefEqProofs)

@[simp] theorem readyTiming_frame (s : State) (p : PortId) (o : ReadyObs) :
    (State.readyTiming s p o).hub = s.hub ∧
    (State.readyTiming s p o).clk = s.clk ∧
    (State.readyTiming s p o).sluice = s.sluice ∧
    (State.readyTiming s p o).boot = s.boot ∧
    (State.readyTiming s p o).flash = s.flash ∧
    (State.readyTiming s p o).sec = s.sec ∧
    (State.readyTiming s p o).tel = s.tel ∧
    (State.readyTiming s p o).chans = s.chans ∧
    (State.readyTiming s p o).mbxMem = s.mbxMem ∧
    (State.readyTiming s p o).now = s.now ∧
    (State.readyTiming s p o).free = s.free ∧
    (State.readyTiming s p o).pending = s.pending := by
  simp -implicitDefEqProofs [State.readyTiming]

@[simp] theorem readyRamp_frame (s : State) (p : PortId) (o : ReadyObs) :
    (State.readyRamp s p o).pins = s.pins ∧
    (State.readyRamp s p o).hub = s.hub ∧
    (State.readyRamp s p o).clk = s.clk ∧
    (State.readyRamp s p o).sluice = s.sluice ∧
    (State.readyRamp s p o).boot = s.boot ∧
    (State.readyRamp s p o).flash = s.flash ∧
    (State.readyRamp s p o).sec = s.sec ∧
    (State.readyRamp s p o).tel = s.tel ∧
    (State.readyRamp s p o).chans = s.chans ∧
    (State.readyRamp s p o).mbxMem = s.mbxMem ∧
    (State.readyRamp s p o).rings = s.rings ∧
    (State.readyRamp s p o).hostMem = s.hostMem ∧
    (State.readyRamp s p o).beds = s.beds ∧
    (State.readyRamp s p o).lanes = s.lanes ∧
    (State.readyRamp s p o).now = s.now ∧
    (State.readyRamp s p o).free = s.free ∧
    (State.readyRamp s p o).pending = s.pending := by
  simp -implicitDefEqProofs [State.readyRamp]

@[simp] theorem warmSeed_frame (s : State) (p : PortId) :
    (State.warmSeed s p).hub = s.hub ∧
    (State.warmSeed s p).clk = s.clk ∧
    (State.warmSeed s p).sluice = s.sluice ∧
    (State.warmSeed s p).boot = s.boot ∧
    (State.warmSeed s p).flash = s.flash ∧
    (State.warmSeed s p).sec = s.sec ∧
    (State.warmSeed s p).tel = s.tel ∧
    (State.warmSeed s p).chans = s.chans ∧
    (State.warmSeed s p).mbxMem = s.mbxMem ∧
    (State.warmSeed s p).now = s.now ∧
    (State.warmSeed s p).free = s.free ∧
    (State.warmSeed s p).pending = s.pending := by
  simp -implicitDefEqProofs [State.warmSeed]

@[simp] theorem adoptKind_frame (s : State) (p : PortId) (k : TKind) :
    (State.adoptKind s p k).hub = s.hub ∧
    (State.adoptKind s p k).clk = s.clk ∧
    (State.adoptKind s p k).sluice = s.sluice ∧
    (State.adoptKind s p k).boot = s.boot ∧
    (State.adoptKind s p k).flash = s.flash ∧
    (State.adoptKind s p k).sec = s.sec ∧
    (State.adoptKind s p k).tel = s.tel ∧
    (State.adoptKind s p k).chans = s.chans ∧
    (State.adoptKind s p k).mbxMem = s.mbxMem ∧
    (State.adoptKind s p k).now = s.now ∧
    (State.adoptKind s p k).free = s.free ∧
    (State.adoptKind s p k).pending = s.pending := by
  simp -implicitDefEqProofs [State.adoptKind]

@[simp] theorem tailSpare_frame (s : State) (p : PortId) (named : Pair) (three : Bool) :
    (State.tailSpare s p named three).hub = s.hub ∧
    (State.tailSpare s p named three).clk = s.clk ∧
    (State.tailSpare s p named three).sluice = s.sluice ∧
    (State.tailSpare s p named three).boot = s.boot ∧
    (State.tailSpare s p named three).flash = s.flash ∧
    (State.tailSpare s p named three).sec = s.sec ∧
    (State.tailSpare s p named three).tel = s.tel ∧
    (State.tailSpare s p named three).chans = s.chans ∧
    (State.tailSpare s p named three).mbxMem = s.mbxMem ∧
    (State.tailSpare s p named three).now = s.now ∧
    (State.tailSpare s p named three).free = s.free ∧
    (State.tailSpare s p named three).pending = s.pending := by
  unfold State.tailSpare; (try dsimp only); (repeat' split) <;> (try simp_all -implicitDefEqProofs)

@[simp] theorem tifGoOn_frame (s : State) (p : PortId) (f : BitVec 512) :
    (State.tifGoOn s p f).pins = s.pins ∧
    (State.tifGoOn s p f).hub = s.hub ∧
    (State.tifGoOn s p f).clk = s.clk ∧
    (State.tifGoOn s p f).sluice = s.sluice ∧
    (State.tifGoOn s p f).boot = s.boot ∧
    (State.tifGoOn s p f).flash = s.flash ∧
    (State.tifGoOn s p f).sec = s.sec ∧
    (State.tifGoOn s p f).tel = s.tel ∧
    (State.tifGoOn s p f).chans = s.chans ∧
    (State.tifGoOn s p f).mbxMem = s.mbxMem ∧
    (State.tifGoOn s p f).rings = s.rings ∧
    (State.tifGoOn s p f).hostMem = s.hostMem ∧
    (State.tifGoOn s p f).beds = s.beds ∧
    (State.tifGoOn s p f).lanes = s.lanes ∧
    (State.tifGoOn s p f).now = s.now ∧
    (State.tifGoOn s p f).free = s.free ∧
    (State.tifGoOn s p f).pending = s.pending := by
  simp -implicitDefEqProofs [State.tifGoOn]

@[simp] theorem headReport_frame (s : State) (p : PortId) (f : BitVec 512) :
    (State.headReport s p f).hub = s.hub ∧
    (State.headReport s p f).clk = s.clk ∧
    (State.headReport s p f).sluice = s.sluice ∧
    (State.headReport s p f).boot = s.boot ∧
    (State.headReport s p f).flash = s.flash ∧
    (State.headReport s p f).sec = s.sec ∧
    (State.headReport s p f).tel = s.tel ∧
    (State.headReport s p f).chans = s.chans ∧
    (State.headReport s p f).mbxMem = s.mbxMem ∧
    (State.headReport s p f).now = s.now ∧
    (State.headReport s p f).free = s.free ∧
    (State.headReport s p f).pending = s.pending := by
  simp -implicitDefEqProofs [State.headReport]

@[simp] theorem tifAbort_frame (s : State) (p : PortId) (k : TKind) :
    (State.tifAbort s p k).hub = s.hub ∧
    (State.tifAbort s p k).clk = s.clk ∧
    (State.tifAbort s p k).sluice = s.sluice ∧
    (State.tifAbort s p k).boot = s.boot ∧
    (State.tifAbort s p k).flash = s.flash ∧
    (State.tifAbort s p k).sec = s.sec ∧
    (State.tifAbort s p k).tel = s.tel ∧
    (State.tifAbort s p k).chans = s.chans ∧
    (State.tifAbort s p k).mbxMem = s.mbxMem ∧
    (State.tifAbort s p k).now = s.now ∧
    (State.tifAbort s p k).free = s.free ∧
    (State.tifAbort s p k).pending = s.pending := by
  simp -implicitDefEqProofs [State.tifAbort]

@[simp] theorem tifTrain_frame (s : State) (p : PortId) (f : BitVec 512) :
    (State.tifTrain s p f).hub = s.hub ∧
    (State.tifTrain s p f).clk = s.clk ∧
    (State.tifTrain s p f).sluice = s.sluice ∧
    (State.tifTrain s p f).boot = s.boot ∧
    (State.tifTrain s p f).flash = s.flash ∧
    (State.tifTrain s p f).sec = s.sec ∧
    (State.tifTrain s p f).tel = s.tel ∧
    (State.tifTrain s p f).chans = s.chans ∧
    (State.tifTrain s p f).mbxMem = s.mbxMem ∧
    (State.tifTrain s p f).now = s.now ∧
    (State.tifTrain s p f).free = s.free ∧
    (State.tifTrain s p f).pending = s.pending := by
  simp -implicitDefEqProofs [State.tifTrain]

@[simp] theorem tifStill_frame (s : State) (p : PortId) (f : BitVec 512) :
    (State.tifStill s p f).pins = s.pins ∧
    (State.tifStill s p f).hub = s.hub ∧
    (State.tifStill s p f).clk = s.clk ∧
    (State.tifStill s p f).sluice = s.sluice ∧
    (State.tifStill s p f).boot = s.boot ∧
    (State.tifStill s p f).flash = s.flash ∧
    (State.tifStill s p f).sec = s.sec ∧
    (State.tifStill s p f).tel = s.tel ∧
    (State.tifStill s p f).chans = s.chans ∧
    (State.tifStill s p f).mbxMem = s.mbxMem ∧
    (State.tifStill s p f).rings = s.rings ∧
    (State.tifStill s p f).hostMem = s.hostMem ∧
    (State.tifStill s p f).beds = s.beds ∧
    (State.tifStill s p f).lanes = s.lanes ∧
    (State.tifStill s p f).now = s.now ∧
    (State.tifStill s p f).free = s.free ∧
    (State.tifStill s p f).pending = s.pending := by
  simp -implicitDefEqProofs [State.tifStill]

@[simp] theorem headTif_frame (s : State) (p : PortId) (f : BitVec 512) :
    (State.headTif s p f).hub = s.hub ∧
    (State.headTif s p f).clk = s.clk ∧
    (State.headTif s p f).sluice = s.sluice ∧
    (State.headTif s p f).boot = s.boot ∧
    (State.headTif s p f).flash = s.flash ∧
    (State.headTif s p f).sec = s.sec ∧
    (State.headTif s p f).tel = s.tel ∧
    (State.headTif s p f).chans = s.chans ∧
    (State.headTif s p f).mbxMem = s.mbxMem ∧
    (State.headTif s p f).now = s.now ∧
    (State.headTif s p f).free = s.free ∧
    (State.headTif s p f).pending = s.pending := by
  simp -implicitDefEqProofs [State.headTif]

@[simp] theorem handshakeFail_frame (s : State) (p : PortId) :
    (State.handshakeFail s p).hub = s.hub ∧
    (State.handshakeFail s p).clk = s.clk ∧
    (State.handshakeFail s p).sluice = s.sluice ∧
    (State.handshakeFail s p).boot = s.boot ∧
    (State.handshakeFail s p).flash = s.flash ∧
    (State.handshakeFail s p).sec = s.sec ∧
    (State.handshakeFail s p).tel = s.tel ∧
    (State.handshakeFail s p).chans = s.chans ∧
    (State.handshakeFail s p).mbxMem = s.mbxMem ∧
    (State.handshakeFail s p).now = s.now ∧
    (State.handshakeFail s p).free = s.free ∧
    (State.handshakeFail s p).pending = s.pending := by
  simp -implicitDefEqProofs [State.handshakeFail]

@[simp] theorem lineLpi_frame (s : State) (p : PortId) (rx : Bool) (enter : Bool) :
    (State.lineLpi s p rx enter).pins = s.pins ∧
    (State.lineLpi s p rx enter).hub = s.hub ∧
    (State.lineLpi s p rx enter).clk = s.clk ∧
    (State.lineLpi s p rx enter).sluice = s.sluice ∧
    (State.lineLpi s p rx enter).boot = s.boot ∧
    (State.lineLpi s p rx enter).flash = s.flash ∧
    (State.lineLpi s p rx enter).sec = s.sec ∧
    (State.lineLpi s p rx enter).tel = s.tel ∧
    (State.lineLpi s p rx enter).chans = s.chans ∧
    (State.lineLpi s p rx enter).mbxMem = s.mbxMem ∧
    (State.lineLpi s p rx enter).rings = s.rings ∧
    (State.lineLpi s p rx enter).hostMem = s.hostMem ∧
    (State.lineLpi s p rx enter).beds = s.beds ∧
    (State.lineLpi s p rx enter).lanes = s.lanes ∧
    (State.lineLpi s p rx enter).free = s.free ∧
    (State.lineLpi s p rx enter).pending = s.pending := by
  simp -implicitDefEqProofs [State.lineLpi]

@[simp] theorem nonLpi_frame (s : State) (p : PortId) (frame : Bool) :
    (State.nonLpi s p frame).pins = s.pins ∧
    (State.nonLpi s p frame).hub = s.hub ∧
    (State.nonLpi s p frame).clk = s.clk ∧
    (State.nonLpi s p frame).sluice = s.sluice ∧
    (State.nonLpi s p frame).boot = s.boot ∧
    (State.nonLpi s p frame).flash = s.flash ∧
    (State.nonLpi s p frame).sec = s.sec ∧
    (State.nonLpi s p frame).tel = s.tel ∧
    (State.nonLpi s p frame).chans = s.chans ∧
    (State.nonLpi s p frame).mbxMem = s.mbxMem ∧
    (State.nonLpi s p frame).rings = s.rings ∧
    (State.nonLpi s p frame).hostMem = s.hostMem ∧
    (State.nonLpi s p frame).beds = s.beds ∧
    (State.nonLpi s p frame).lanes = s.lanes ∧
    (State.nonLpi s p frame).free = s.free ∧
    (State.nonLpi s p frame).pending = s.pending := by
  simp -implicitDefEqProofs [State.nonLpi]

@[simp] theorem stillLost_frame (s : State) (p : PortId) :
    (State.stillLost s p).hub = s.hub ∧
    (State.stillLost s p).clk = s.clk ∧
    (State.stillLost s p).sluice = s.sluice ∧
    (State.stillLost s p).boot = s.boot ∧
    (State.stillLost s p).flash = s.flash ∧
    (State.stillLost s p).sec = s.sec ∧
    (State.stillLost s p).tel = s.tel ∧
    (State.stillLost s p).chans = s.chans ∧
    (State.stillLost s p).mbxMem = s.mbxMem ∧
    (State.stillLost s p).now = s.now ∧
    (State.stillLost s p).free = s.free ∧
    (State.stillLost s p).pending = s.pending := by
  unfold State.stillLost; (try dsimp only); (repeat' split) <;> (try simp_all -implicitDefEqProofs)

@[simp] theorem laneLostPort_frame (s : State) (p : PortId) (l : LaneId) (cause : BitVec 3) :
    (State.laneLostPort s p l cause).pins = s.pins ∧
    (State.laneLostPort s p l cause).hub = s.hub ∧
    (State.laneLostPort s p l cause).clk = s.clk ∧
    (State.laneLostPort s p l cause).sluice = s.sluice ∧
    (State.laneLostPort s p l cause).boot = s.boot ∧
    (State.laneLostPort s p l cause).flash = s.flash ∧
    (State.laneLostPort s p l cause).sec = s.sec ∧
    (State.laneLostPort s p l cause).tel = s.tel ∧
    (State.laneLostPort s p l cause).chans = s.chans ∧
    (State.laneLostPort s p l cause).mbxMem = s.mbxMem ∧
    (State.laneLostPort s p l cause).rings = s.rings ∧
    (State.laneLostPort s p l cause).hostMem = s.hostMem ∧
    (State.laneLostPort s p l cause).beds = s.beds ∧
    (State.laneLostPort s p l cause).lanes = s.lanes ∧
    (State.laneLostPort s p l cause).free = s.free ∧
    (State.laneLostPort s p l cause).pending = s.pending := by
  simp -implicitDefEqProofs [State.laneLostPort]

@[simp] theorem laneLost_frame (s : State) (l : LaneId) (cause : BitVec 3) :
    (State.laneLost s l cause).pins = s.pins ∧
    (State.laneLost s l cause).hub = s.hub ∧
    (State.laneLost s l cause).clk = s.clk ∧
    (State.laneLost s l cause).sluice = s.sluice ∧
    (State.laneLost s l cause).boot = s.boot ∧
    (State.laneLost s l cause).flash = s.flash ∧
    (State.laneLost s l cause).sec = s.sec ∧
    (State.laneLost s l cause).tel = s.tel ∧
    (State.laneLost s l cause).chans = s.chans ∧
    (State.laneLost s l cause).mbxMem = s.mbxMem ∧
    (State.laneLost s l cause).rings = s.rings ∧
    (State.laneLost s l cause).hostMem = s.hostMem ∧
    (State.laneLost s l cause).beds = s.beds ∧
    (State.laneLost s l cause).free = s.free ∧
    (State.laneLost s l cause).pending = s.pending := by
  simp -implicitDefEqProofs [State.laneLost]

@[simp] theorem laneGainedPort_frame (s : State) (p : PortId) (l : LaneId) :
    (State.laneGainedPort s p l).pins = s.pins ∧
    (State.laneGainedPort s p l).hub = s.hub ∧
    (State.laneGainedPort s p l).clk = s.clk ∧
    (State.laneGainedPort s p l).sluice = s.sluice ∧
    (State.laneGainedPort s p l).boot = s.boot ∧
    (State.laneGainedPort s p l).flash = s.flash ∧
    (State.laneGainedPort s p l).sec = s.sec ∧
    (State.laneGainedPort s p l).tel = s.tel ∧
    (State.laneGainedPort s p l).chans = s.chans ∧
    (State.laneGainedPort s p l).mbxMem = s.mbxMem ∧
    (State.laneGainedPort s p l).rings = s.rings ∧
    (State.laneGainedPort s p l).hostMem = s.hostMem ∧
    (State.laneGainedPort s p l).beds = s.beds ∧
    (State.laneGainedPort s p l).lanes = s.lanes ∧
    (State.laneGainedPort s p l).now = s.now ∧
    (State.laneGainedPort s p l).free = s.free ∧
    (State.laneGainedPort s p l).pending = s.pending := by
  simp -implicitDefEqProofs [State.laneGainedPort]

@[simp] theorem giveLanes_frame (s : State) (o : PortId) (taken : List (Fin 32)) (keep0 : Bool) :
    (State.giveLanes s o taken keep0).hub = s.hub ∧
    (State.giveLanes s o taken keep0).clk = s.clk ∧
    (State.giveLanes s o taken keep0).sluice = s.sluice ∧
    (State.giveLanes s o taken keep0).boot = s.boot ∧
    (State.giveLanes s o taken keep0).flash = s.flash ∧
    (State.giveLanes s o taken keep0).sec = s.sec ∧
    (State.giveLanes s o taken keep0).tel = s.tel ∧
    (State.giveLanes s o taken keep0).chans = s.chans ∧
    (State.giveLanes s o taken keep0).mbxMem = s.mbxMem ∧
    (State.giveLanes s o taken keep0).now = s.now ∧
    (State.giveLanes s o taken keep0).free = s.free ∧
    (State.giveLanes s o taken keep0).pending = s.pending := by
  simp -implicitDefEqProofs [State.giveLanes]

@[simp] theorem loadTxeq_frame (s : State) (p : PortId) :
    (State.loadTxeq s p).pins = s.pins ∧
    (State.loadTxeq s p).hub = s.hub ∧
    (State.loadTxeq s p).clk = s.clk ∧
    (State.loadTxeq s p).sluice = s.sluice ∧
    (State.loadTxeq s p).boot = s.boot ∧
    (State.loadTxeq s p).flash = s.flash ∧
    (State.loadTxeq s p).sec = s.sec ∧
    (State.loadTxeq s p).tel = s.tel ∧
    (State.loadTxeq s p).chans = s.chans ∧
    (State.loadTxeq s p).mbxMem = s.mbxMem ∧
    (State.loadTxeq s p).rings = s.rings ∧
    (State.loadTxeq s p).hostMem = s.hostMem ∧
    (State.loadTxeq s p).ports = s.ports ∧
    (State.loadTxeq s p).beds = s.beds ∧
    (State.loadTxeq s p).now = s.now ∧
    (State.loadTxeq s p).free = s.free ∧
    (State.loadTxeq s p).pending = s.pending := by
  simp -implicitDefEqProofs [State.loadTxeq]

@[simp] theorem laneRelist_frame (s : State) (p : PortId) (old : Word) :
    (State.laneRelist s p old).hub = s.hub ∧
    (State.laneRelist s p old).clk = s.clk ∧
    (State.laneRelist s p old).sluice = s.sluice ∧
    (State.laneRelist s p old).boot = s.boot ∧
    (State.laneRelist s p old).flash = s.flash ∧
    (State.laneRelist s p old).sec = s.sec ∧
    (State.laneRelist s p old).tel = s.tel ∧
    (State.laneRelist s p old).chans = s.chans ∧
    (State.laneRelist s p old).mbxMem = s.mbxMem ∧
    (State.laneRelist s p old).now = s.now ∧
    (State.laneRelist s p old).free = s.free ∧
    (State.laneRelist s p old).pending = s.pending := by
  simp -implicitDefEqProofs [State.laneRelist]

@[simp] theorem laneApply_frame (s : State) (p : PortId) (c : PortCfg) :
    (State.laneApply s p c).hub = s.hub ∧
    (State.laneApply s p c).clk = s.clk ∧
    (State.laneApply s p c).sluice = s.sluice ∧
    (State.laneApply s p c).boot = s.boot ∧
    (State.laneApply s p c).flash = s.flash ∧
    (State.laneApply s p c).sec = s.sec ∧
    (State.laneApply s p c).tel = s.tel ∧
    (State.laneApply s p c).chans = s.chans ∧
    (State.laneApply s p c).mbxMem = s.mbxMem ∧
    (State.laneApply s p c).now = s.now ∧
    (State.laneApply s p c).free = s.free ∧
    (State.laneApply s p c).pending = s.pending := by
  simp -implicitDefEqProofs [State.laneApply]

@[simp] theorem laneConfig_frame (s : State) (k : CmdKey) (p : PortId) (e : Option LaneCfg) :
    (State.laneConfig s k p e).hub = s.hub ∧
    (State.laneConfig s k p e).clk = s.clk ∧
    (State.laneConfig s k p e).sluice = s.sluice ∧
    (State.laneConfig s k p e).boot = s.boot ∧
    (State.laneConfig s k p e).flash = s.flash ∧
    (State.laneConfig s k p e).sec = s.sec ∧
    (State.laneConfig s k p e).tel = s.tel ∧
    (State.laneConfig s k p e).chans = s.chans ∧
    (State.laneConfig s k p e).mbxMem = s.mbxMem ∧
    (State.laneConfig s k p e).now = s.now ∧
    (State.laneConfig s k p e).free = s.free ∧
    (State.laneConfig s k p e).pending = s.pending := by
  unfold State.laneConfig; (try dsimp only); (repeat' split) <;> (try simp_all -implicitDefEqProofs)

@[simp] theorem loopOn_frame (s : State) (k : CmdKey) (p : PortId) (side : Byte) (kind : Byte) (rung : Byte) :
    (State.loopOn s k p side kind rung).pins = s.pins ∧
    (State.loopOn s k p side kind rung).hub = s.hub ∧
    (State.loopOn s k p side kind rung).clk = s.clk ∧
    (State.loopOn s k p side kind rung).sluice = s.sluice ∧
    (State.loopOn s k p side kind rung).boot = s.boot ∧
    (State.loopOn s k p side kind rung).flash = s.flash ∧
    (State.loopOn s k p side kind rung).sec = s.sec ∧
    (State.loopOn s k p side kind rung).tel = s.tel ∧
    (State.loopOn s k p side kind rung).chans = s.chans ∧
    (State.loopOn s k p side kind rung).mbxMem = s.mbxMem ∧
    (State.loopOn s k p side kind rung).rings = s.rings ∧
    (State.loopOn s k p side kind rung).hostMem = s.hostMem ∧
    (State.loopOn s k p side kind rung).beds = s.beds ∧
    (State.loopOn s k p side kind rung).free = s.free ∧
    (State.loopOn s k p side kind rung).pending = s.pending := by
  simp -implicitDefEqProofs [State.loopOn]

@[simp] theorem loopOff_frame (s : State) (k : CmdKey) (p : PortId) (side : Byte) (kind : Byte) :
    (State.loopOff s k p side kind).hub = s.hub ∧
    (State.loopOff s k p side kind).clk = s.clk ∧
    (State.loopOff s k p side kind).sluice = s.sluice ∧
    (State.loopOff s k p side kind).boot = s.boot ∧
    (State.loopOff s k p side kind).flash = s.flash ∧
    (State.loopOff s k p side kind).sec = s.sec ∧
    (State.loopOff s k p side kind).tel = s.tel ∧
    (State.loopOff s k p side kind).chans = s.chans ∧
    (State.loopOff s k p side kind).mbxMem = s.mbxMem ∧
    (State.loopOff s k p side kind).now = s.now ∧
    (State.loopOff s k p side kind).free = s.free ∧
    (State.loopOff s k p side kind).pending = s.pending := by
  unfold State.loopOff; (try dsimp only); (repeat' split) <;> (try simp_all -implicitDefEqProofs)

@[simp] theorem windowOver_frame (s : State) (p : PortId) :
    (State.windowOver s p).pins = s.pins ∧
    (State.windowOver s p).hub = s.hub ∧
    (State.windowOver s p).clk = s.clk ∧
    (State.windowOver s p).sluice = s.sluice ∧
    (State.windowOver s p).boot = s.boot ∧
    (State.windowOver s p).flash = s.flash ∧
    (State.windowOver s p).sec = s.sec ∧
    (State.windowOver s p).tel = s.tel ∧
    (State.windowOver s p).chans = s.chans ∧
    (State.windowOver s p).mbxMem = s.mbxMem ∧
    (State.windowOver s p).rings = s.rings ∧
    (State.windowOver s p).hostMem = s.hostMem ∧
    (State.windowOver s p).beds = s.beds ∧
    (State.windowOver s p).lanes = s.lanes ∧
    (State.windowOver s p).now = s.now ∧
    (State.windowOver s p).free = s.free ∧
    (State.windowOver s p).pending = s.pending := by
  simp -implicitDefEqProofs [State.windowOver]

@[simp] theorem clauseFail_frame (s : State) (p : PortId) :
    (State.clauseFail s p).hub = s.hub ∧
    (State.clauseFail s p).clk = s.clk ∧
    (State.clauseFail s p).sluice = s.sluice ∧
    (State.clauseFail s p).boot = s.boot ∧
    (State.clauseFail s p).flash = s.flash ∧
    (State.clauseFail s p).sec = s.sec ∧
    (State.clauseFail s p).tel = s.tel ∧
    (State.clauseFail s p).chans = s.chans ∧
    (State.clauseFail s p).mbxMem = s.mbxMem ∧
    (State.clauseFail s p).now = s.now ∧
    (State.clauseFail s p).free = s.free ∧
    (State.clauseFail s p).pending = s.pending := by
  simp -implicitDefEqProofs [State.clauseFail]

@[simp] theorem rxFail_frame (s : State) (p : PortId) (i : Nat) :
    (State.rxFail s p i).pins = s.pins ∧
    (State.rxFail s p i).hub = s.hub ∧
    (State.rxFail s p i).clk = s.clk ∧
    (State.rxFail s p i).sluice = s.sluice ∧
    (State.rxFail s p i).boot = s.boot ∧
    (State.rxFail s p i).flash = s.flash ∧
    (State.rxFail s p i).sec = s.sec ∧
    (State.rxFail s p i).tel = s.tel ∧
    (State.rxFail s p i).chans = s.chans ∧
    (State.rxFail s p i).mbxMem = s.mbxMem ∧
    (State.rxFail s p i).rings = s.rings ∧
    (State.rxFail s p i).hostMem = s.hostMem ∧
    (State.rxFail s p i).beds = s.beds ∧
    (State.rxFail s p i).lanes = s.lanes ∧
    (State.rxFail s p i).now = s.now ∧
    (State.rxFail s p i).free = s.free ∧
    (State.rxFail s p i).pending = s.pending := by
  simp -implicitDefEqProofs [State.rxFail]

@[simp] theorem rxTake_frame (s : State) (p : PortId) :
    (State.rxTake s p).pins = s.pins ∧
    (State.rxTake s p).hub = s.hub ∧
    (State.rxTake s p).clk = s.clk ∧
    (State.rxTake s p).sluice = s.sluice ∧
    (State.rxTake s p).boot = s.boot ∧
    (State.rxTake s p).flash = s.flash ∧
    (State.rxTake s p).sec = s.sec ∧
    (State.rxTake s p).tel = s.tel ∧
    (State.rxTake s p).chans = s.chans ∧
    (State.rxTake s p).mbxMem = s.mbxMem ∧
    (State.rxTake s p).rings = s.rings ∧
    (State.rxTake s p).hostMem = s.hostMem ∧
    (State.rxTake s p).lanes = s.lanes ∧
    (State.rxTake s p).now = s.now ∧
    (State.rxTake s p).free = s.free ∧
    (State.rxTake s p).pending = s.pending := by
  simp -implicitDefEqProofs [State.rxTake]

@[simp] theorem ackTo_frame (s : State) (p : PortId) (n : BitVec 4) :
    (State.ackTo s p n).pins = s.pins ∧
    (State.ackTo s p n).hub = s.hub ∧
    (State.ackTo s p n).clk = s.clk ∧
    (State.ackTo s p n).sluice = s.sluice ∧
    (State.ackTo s p n).boot = s.boot ∧
    (State.ackTo s p n).flash = s.flash ∧
    (State.ackTo s p n).sec = s.sec ∧
    (State.ackTo s p n).tel = s.tel ∧
    (State.ackTo s p n).chans = s.chans ∧
    (State.ackTo s p n).mbxMem = s.mbxMem ∧
    (State.ackTo s p n).rings = s.rings ∧
    (State.ackTo s p n).hostMem = s.hostMem ∧
    (State.ackTo s p n).beds = s.beds ∧
    (State.ackTo s p n).lanes = s.lanes ∧
    (State.ackTo s p n).now = s.now ∧
    (State.ackTo s p n).free = s.free ∧
    (State.ackTo s p n).pending = s.pending := by
  simp -implicitDefEqProofs [State.ackTo]

@[simp] theorem seqTake_frame (s : State) (p : PortId) :
    (State.seqTake s p).pins = s.pins ∧
    (State.seqTake s p).hub = s.hub ∧
    (State.seqTake s p).clk = s.clk ∧
    (State.seqTake s p).sluice = s.sluice ∧
    (State.seqTake s p).boot = s.boot ∧
    (State.seqTake s p).flash = s.flash ∧
    (State.seqTake s p).sec = s.sec ∧
    (State.seqTake s p).tel = s.tel ∧
    (State.seqTake s p).chans = s.chans ∧
    (State.seqTake s p).mbxMem = s.mbxMem ∧
    (State.seqTake s p).rings = s.rings ∧
    (State.seqTake s p).hostMem = s.hostMem ∧
    (State.seqTake s p).beds = s.beds ∧
    (State.seqTake s p).lanes = s.lanes ∧
    (State.seqTake s p).now = s.now ∧
    (State.seqTake s p).free = s.free ∧
    (State.seqTake s p).pending = s.pending := by
  simp -implicitDefEqProofs [State.seqTake]

@[simp] theorem ackWritten_frame (s : State) (p : PortId) :
    (State.ackWritten s p).pins = s.pins ∧
    (State.ackWritten s p).hub = s.hub ∧
    (State.ackWritten s p).clk = s.clk ∧
    (State.ackWritten s p).sluice = s.sluice ∧
    (State.ackWritten s p).boot = s.boot ∧
    (State.ackWritten s p).flash = s.flash ∧
    (State.ackWritten s p).sec = s.sec ∧
    (State.ackWritten s p).tel = s.tel ∧
    (State.ackWritten s p).chans = s.chans ∧
    (State.ackWritten s p).mbxMem = s.mbxMem ∧
    (State.ackWritten s p).rings = s.rings ∧
    (State.ackWritten s p).hostMem = s.hostMem ∧
    (State.ackWritten s p).beds = s.beds ∧
    (State.ackWritten s p).lanes = s.lanes ∧
    (State.ackWritten s p).now = s.now ∧
    (State.ackWritten s p).free = s.free ∧
    (State.ackWritten s p).pending = s.pending := by
  unfold State.ackWritten; (try dsimp only); (repeat' split) <;> (try simp_all -implicitDefEqProofs)

@[simp] theorem usersBad_frame (s : State) (p : PortId) :
    (State.usersBad s p).hub = s.hub ∧
    (State.usersBad s p).clk = s.clk ∧
    (State.usersBad s p).sluice = s.sluice ∧
    (State.usersBad s p).boot = s.boot ∧
    (State.usersBad s p).flash = s.flash ∧
    (State.usersBad s p).sec = s.sec ∧
    (State.usersBad s p).tel = s.tel ∧
    (State.usersBad s p).chans = s.chans ∧
    (State.usersBad s p).mbxMem = s.mbxMem ∧
    (State.usersBad s p).beds = s.beds ∧
    (State.usersBad s p).lanes = s.lanes ∧
    (State.usersBad s p).now = s.now ∧
    (State.usersBad s p).free = s.free ∧
    (State.usersBad s p).pending = s.pending := by
  simp -implicitDefEqProofs [State.usersBad]

@[simp] theorem ackOne_frame (p : PortId) (f : TxFrame) (s : State) :
    (State.ackOne p f s).hub = s.hub ∧
    (State.ackOne p f s).clk = s.clk ∧
    (State.ackOne p f s).sluice = s.sluice ∧
    (State.ackOne p f s).boot = s.boot ∧
    (State.ackOne p f s).flash = s.flash ∧
    (State.ackOne p f s).sec = s.sec ∧
    (State.ackOne p f s).tel = s.tel ∧
    (State.ackOne p f s).chans = s.chans ∧
    (State.ackOne p f s).mbxMem = s.mbxMem ∧
    (State.ackOne p f s).now = s.now ∧
    (State.ackOne p f s).free = s.free ∧
    (State.ackOne p f s).pending = s.pending := by
  unfold State.ackOne; (try dsimp only); (repeat' split) <;> (try simp_all -implicitDefEqProofs)

@[simp] theorem springAck_frame (s : State) (p : PortId) (h : BitVec 72) :
    (State.springAck s p h).hub = s.hub ∧
    (State.springAck s p h).clk = s.clk ∧
    (State.springAck s p h).sluice = s.sluice ∧
    (State.springAck s p h).boot = s.boot ∧
    (State.springAck s p h).flash = s.flash ∧
    (State.springAck s p h).sec = s.sec ∧
    (State.springAck s p h).tel = s.tel ∧
    (State.springAck s p h).chans = s.chans ∧
    (State.springAck s p h).mbxMem = s.mbxMem ∧
    (State.springAck s p h).now = s.now ∧
    (State.springAck s p h).free = s.free ∧
    (State.springAck s p h).pending = s.pending := by
  unfold State.springAck; (try dsimp only); (repeat' split) <;> (try simp_all -implicitDefEqProofs)

@[simp] theorem hsTrain_frame (s : State) (p : PortId) (rung : Rung) (warm : Bool) :
    (State.hsTrain s p rung warm).pins = s.pins ∧
    (State.hsTrain s p rung warm).hub = s.hub ∧
    (State.hsTrain s p rung warm).clk = s.clk ∧
    (State.hsTrain s p rung warm).sluice = s.sluice ∧
    (State.hsTrain s p rung warm).boot = s.boot ∧
    (State.hsTrain s p rung warm).flash = s.flash ∧
    (State.hsTrain s p rung warm).sec = s.sec ∧
    (State.hsTrain s p rung warm).tel = s.tel ∧
    (State.hsTrain s p rung warm).chans = s.chans ∧
    (State.hsTrain s p rung warm).mbxMem = s.mbxMem ∧
    (State.hsTrain s p rung warm).rings = s.rings ∧
    (State.hsTrain s p rung warm).hostMem = s.hostMem ∧
    (State.hsTrain s p rung warm).beds = s.beds ∧
    (State.hsTrain s p rung warm).now = s.now ∧
    (State.hsTrain s p rung warm).free = s.free ∧
    (State.hsTrain s p rung warm).pending = s.pending := by
  simp -implicitDefEqProofs [State.hsTrain]

@[simp] theorem hsNoCh_frame (s : State) (p : PortId) :
    (State.hsNoCh s p).pins = s.pins ∧
    (State.hsNoCh s p).hub = s.hub ∧
    (State.hsNoCh s p).clk = s.clk ∧
    (State.hsNoCh s p).sluice = s.sluice ∧
    (State.hsNoCh s p).boot = s.boot ∧
    (State.hsNoCh s p).flash = s.flash ∧
    (State.hsNoCh s p).sec = s.sec ∧
    (State.hsNoCh s p).tel = s.tel ∧
    (State.hsNoCh s p).chans = s.chans ∧
    (State.hsNoCh s p).mbxMem = s.mbxMem ∧
    (State.hsNoCh s p).rings = s.rings ∧
    (State.hsNoCh s p).hostMem = s.hostMem ∧
    (State.hsNoCh s p).beds = s.beds ∧
    (State.hsNoCh s p).lanes = s.lanes ∧
    (State.hsNoCh s p).now = s.now ∧
    (State.hsNoCh s p).free = s.free ∧
    (State.hsNoCh s p).pending = s.pending := by
  simp -implicitDefEqProofs [State.hsNoCh]

@[simp] theorem hsHead_frame (s : State) (p : PortId) :
    (State.hsHead s p).pins = s.pins ∧
    (State.hsHead s p).hub = s.hub ∧
    (State.hsHead s p).clk = s.clk ∧
    (State.hsHead s p).sluice = s.sluice ∧
    (State.hsHead s p).boot = s.boot ∧
    (State.hsHead s p).flash = s.flash ∧
    (State.hsHead s p).sec = s.sec ∧
    (State.hsHead s p).tel = s.tel ∧
    (State.hsHead s p).chans = s.chans ∧
    (State.hsHead s p).mbxMem = s.mbxMem ∧
    (State.hsHead s p).rings = s.rings ∧
    (State.hsHead s p).hostMem = s.hostMem ∧
    (State.hsHead s p).beds = s.beds ∧
    (State.hsHead s p).now = s.now ∧
    (State.hsHead s p).free = s.free ∧
    (State.hsHead s p).pending = s.pending := by
  unfold State.hsHead; (try dsimp only); (repeat' split) <;> (try simp_all -implicitDefEqProofs)

@[simp] theorem rxReserved_frame (s : State) (p : PortId) (h : BitVec 72) :
    (State.rxReserved s p h).pins = s.pins ∧
    (State.rxReserved s p h).hub = s.hub ∧
    (State.rxReserved s p h).clk = s.clk ∧
    (State.rxReserved s p h).sluice = s.sluice ∧
    (State.rxReserved s p h).boot = s.boot ∧
    (State.rxReserved s p h).flash = s.flash ∧
    (State.rxReserved s p h).sec = s.sec ∧
    (State.rxReserved s p h).tel = s.tel ∧
    (State.rxReserved s p h).chans = s.chans ∧
    (State.rxReserved s p h).mbxMem = s.mbxMem ∧
    (State.rxReserved s p h).rings = s.rings ∧
    (State.rxReserved s p h).hostMem = s.hostMem ∧
    (State.rxReserved s p h).lanes = s.lanes ∧
    (State.rxReserved s p h).now = s.now ∧
    (State.rxReserved s p h).free = s.free ∧
    (State.rxReserved s p h).pending = s.pending := by
  simp -implicitDefEqProofs [State.rxReserved]

@[simp] theorem rxQuiet_frame (s : State) (p : PortId) (h : BitVec 72) :
    (State.rxQuiet s p h).pins = s.pins ∧
    (State.rxQuiet s p h).hub = s.hub ∧
    (State.rxQuiet s p h).clk = s.clk ∧
    (State.rxQuiet s p h).sluice = s.sluice ∧
    (State.rxQuiet s p h).boot = s.boot ∧
    (State.rxQuiet s p h).flash = s.flash ∧
    (State.rxQuiet s p h).sec = s.sec ∧
    (State.rxQuiet s p h).tel = s.tel ∧
    (State.rxQuiet s p h).chans = s.chans ∧
    (State.rxQuiet s p h).mbxMem = s.mbxMem ∧
    (State.rxQuiet s p h).rings = s.rings ∧
    (State.rxQuiet s p h).hostMem = s.hostMem ∧
    (State.rxQuiet s p h).lanes = s.lanes ∧
    (State.rxQuiet s p h).now = s.now ∧
    (State.rxQuiet s p h).free = s.free ∧
    (State.rxQuiet s p h).pending = s.pending := by
  simp -implicitDefEqProofs [State.rxQuiet]

@[simp] theorem rxByHeader_frame (s : State) (p : PortId) (h : BitVec 72) :
    (State.rxByHeader s p h).pins = s.pins ∧
    (State.rxByHeader s p h).hub = s.hub ∧
    (State.rxByHeader s p h).clk = s.clk ∧
    (State.rxByHeader s p h).sluice = s.sluice ∧
    (State.rxByHeader s p h).boot = s.boot ∧
    (State.rxByHeader s p h).flash = s.flash ∧
    (State.rxByHeader s p h).sec = s.sec ∧
    (State.rxByHeader s p h).tel = s.tel ∧
    (State.rxByHeader s p h).chans = s.chans ∧
    (State.rxByHeader s p h).mbxMem = s.mbxMem ∧
    (State.rxByHeader s p h).rings = s.rings ∧
    (State.rxByHeader s p h).hostMem = s.hostMem ∧
    (State.rxByHeader s p h).lanes = s.lanes ∧
    (State.rxByHeader s p h).now = s.now ∧
    (State.rxByHeader s p h).free = s.free ∧
    (State.rxByHeader s p h).pending = s.pending := by
  simp -implicitDefEqProofs [State.rxByHeader]

@[simp] theorem springSelect_frame (s : State) (p : PortId) :
    (State.springSelect s p).pins = s.pins ∧
    (State.springSelect s p).hub = s.hub ∧
    (State.springSelect s p).clk = s.clk ∧
    (State.springSelect s p).sluice = s.sluice ∧
    (State.springSelect s p).boot = s.boot ∧
    (State.springSelect s p).flash = s.flash ∧
    (State.springSelect s p).sec = s.sec ∧
    (State.springSelect s p).tel = s.tel ∧
    (State.springSelect s p).chans = s.chans ∧
    (State.springSelect s p).mbxMem = s.mbxMem ∧
    (State.springSelect s p).rings = s.rings ∧
    (State.springSelect s p).hostMem = s.hostMem ∧
    (State.springSelect s p).beds = s.beds ∧
    (State.springSelect s p).lanes = s.lanes ∧
    (State.springSelect s p).now = s.now ∧
    (State.springSelect s p).free = s.free ∧
    (State.springSelect s p).pending = s.pending := by
  simp -implicitDefEqProofs [State.springSelect]

@[simp] theorem c28Abandon_frame (s : State) (p : PortId) (id : BitVec 64) :
    (State.c28Abandon s p id).pins = s.pins ∧
    (State.c28Abandon s p id).hub = s.hub ∧
    (State.c28Abandon s p id).clk = s.clk ∧
    (State.c28Abandon s p id).sluice = s.sluice ∧
    (State.c28Abandon s p id).boot = s.boot ∧
    (State.c28Abandon s p id).flash = s.flash ∧
    (State.c28Abandon s p id).sec = s.sec ∧
    (State.c28Abandon s p id).tel = s.tel ∧
    (State.c28Abandon s p id).chans = s.chans ∧
    (State.c28Abandon s p id).mbxMem = s.mbxMem ∧
    (State.c28Abandon s p id).rings = s.rings ∧
    (State.c28Abandon s p id).hostMem = s.hostMem ∧
    (State.c28Abandon s p id).beds = s.beds ∧
    (State.c28Abandon s p id).lanes = s.lanes ∧
    (State.c28Abandon s p id).now = s.now ∧
    (State.c28Abandon s p id).free = s.free ∧
    (State.c28Abandon s p id).pending = s.pending := by
  simp -implicitDefEqProofs [State.c28Abandon]

@[simp] theorem springRestart_frame (s : State) (p : PortId) :
    (State.springRestart s p).hub = s.hub ∧
    (State.springRestart s p).clk = s.clk ∧
    (State.springRestart s p).sluice = s.sluice ∧
    (State.springRestart s p).boot = s.boot ∧
    (State.springRestart s p).flash = s.flash ∧
    (State.springRestart s p).sec = s.sec ∧
    (State.springRestart s p).tel = s.tel ∧
    (State.springRestart s p).chans = s.chans ∧
    (State.springRestart s p).mbxMem = s.mbxMem ∧
    (State.springRestart s p).now = s.now ∧
    (State.springRestart s p).free = s.free ∧
    (State.springRestart s p).pending = s.pending := by
  simp -implicitDefEqProofs [State.springRestart]

@[simp] theorem c28Undo_frame (s : State) (p : PortId) (id : BitVec 64) :
    (State.c28Undo s p id).pins = s.pins ∧
    (State.c28Undo s p id).hub = s.hub ∧
    (State.c28Undo s p id).clk = s.clk ∧
    (State.c28Undo s p id).sluice = s.sluice ∧
    (State.c28Undo s p id).boot = s.boot ∧
    (State.c28Undo s p id).flash = s.flash ∧
    (State.c28Undo s p id).sec = s.sec ∧
    (State.c28Undo s p id).tel = s.tel ∧
    (State.c28Undo s p id).chans = s.chans ∧
    (State.c28Undo s p id).mbxMem = s.mbxMem ∧
    (State.c28Undo s p id).rings = s.rings ∧
    (State.c28Undo s p id).hostMem = s.hostMem ∧
    (State.c28Undo s p id).beds = s.beds ∧
    (State.c28Undo s p id).now = s.now ∧
    (State.c28Undo s p id).free = s.free ∧
    (State.c28Undo s p id).pending = s.pending := by
  simp -implicitDefEqProofs [State.c28Undo]

@[simp] theorem capTake_frame (s0 : State) (p : PortId) (cap : Bytes) :
    (State.capTake s0 p cap).hub = s0.hub ∧
    (State.capTake s0 p cap).clk = s0.clk ∧
    (State.capTake s0 p cap).sluice = s0.sluice ∧
    (State.capTake s0 p cap).boot = s0.boot ∧
    (State.capTake s0 p cap).flash = s0.flash ∧
    (State.capTake s0 p cap).sec = s0.sec ∧
    (State.capTake s0 p cap).tel = s0.tel ∧
    (State.capTake s0 p cap).chans = s0.chans ∧
    (State.capTake s0 p cap).mbxMem = s0.mbxMem ∧
    (State.capTake s0 p cap).now = s0.now ∧
    (State.capTake s0 p cap).free = s0.free ∧
    (State.capTake s0 p cap).pending = s0.pending := by
  simp -implicitDefEqProofs [State.capTake]

@[simp] theorem selectWarm_frame (s : State) (p : PortId) (rung : Rung) :
    (State.selectWarm s p rung).hub = s.hub ∧
    (State.selectWarm s p rung).clk = s.clk ∧
    (State.selectWarm s p rung).sluice = s.sluice ∧
    (State.selectWarm s p rung).boot = s.boot ∧
    (State.selectWarm s p rung).flash = s.flash ∧
    (State.selectWarm s p rung).sec = s.sec ∧
    (State.selectWarm s p rung).tel = s.tel ∧
    (State.selectWarm s p rung).chans = s.chans ∧
    (State.selectWarm s p rung).mbxMem = s.mbxMem ∧
    (State.selectWarm s p rung).now = s.now ∧
    (State.selectWarm s p rung).free = s.free ∧
    (State.selectWarm s p rung).pending = s.pending := by
  simp -implicitDefEqProofs [State.selectWarm]

@[simp] theorem selectAct_frame (s : State) (p : PortId) (pay : Bytes) :
    (State.selectAct s p pay).hub = s.hub ∧
    (State.selectAct s p pay).clk = s.clk ∧
    (State.selectAct s p pay).sluice = s.sluice ∧
    (State.selectAct s p pay).boot = s.boot ∧
    (State.selectAct s p pay).flash = s.flash ∧
    (State.selectAct s p pay).sec = s.sec ∧
    (State.selectAct s p pay).tel = s.tel ∧
    (State.selectAct s p pay).chans = s.chans ∧
    (State.selectAct s p pay).mbxMem = s.mbxMem ∧
    (State.selectAct s p pay).now = s.now ∧
    (State.selectAct s p pay).free = s.free ∧
    (State.selectAct s p pay).pending = s.pending := by
  simp -implicitDefEqProofs [State.selectAct]

@[simp] theorem selectTake_frame (s : State) (p : PortId) (pay : Bytes) :
    (State.selectTake s p pay).hub = s.hub ∧
    (State.selectTake s p pay).clk = s.clk ∧
    (State.selectTake s p pay).sluice = s.sluice ∧
    (State.selectTake s p pay).boot = s.boot ∧
    (State.selectTake s p pay).flash = s.flash ∧
    (State.selectTake s p pay).sec = s.sec ∧
    (State.selectTake s p pay).tel = s.tel ∧
    (State.selectTake s p pay).chans = s.chans ∧
    (State.selectTake s p pay).mbxMem = s.mbxMem ∧
    (State.selectTake s p pay).now = s.now ∧
    (State.selectTake s p pay).free = s.free ∧
    (State.selectTake s p pay).pending = s.pending := by
  simp -implicitDefEqProofs [State.selectTake]

@[simp] theorem stepTake_frame (s : State) (p : PortId) (pay : Bytes) :
    (State.stepTake s p pay).hub = s.hub ∧
    (State.stepTake s p pay).clk = s.clk ∧
    (State.stepTake s p pay).sluice = s.sluice ∧
    (State.stepTake s p pay).boot = s.boot ∧
    (State.stepTake s p pay).flash = s.flash ∧
    (State.stepTake s p pay).sec = s.sec ∧
    (State.stepTake s p pay).tel = s.tel ∧
    (State.stepTake s p pay).chans = s.chans ∧
    (State.stepTake s p pay).mbxMem = s.mbxMem ∧
    (State.stepTake s p pay).now = s.now ∧
    (State.stepTake s p pay).free = s.free ∧
    (State.stepTake s p pay).pending = s.pending := by
  simp -implicitDefEqProofs [State.stepTake]

@[simp] theorem userRefuse_frame (s : State) (p : PortId) :
    (State.userRefuse s p).pins = s.pins ∧
    (State.userRefuse s p).hub = s.hub ∧
    (State.userRefuse s p).clk = s.clk ∧
    (State.userRefuse s p).sluice = s.sluice ∧
    (State.userRefuse s p).boot = s.boot ∧
    (State.userRefuse s p).flash = s.flash ∧
    (State.userRefuse s p).sec = s.sec ∧
    (State.userRefuse s p).tel = s.tel ∧
    (State.userRefuse s p).chans = s.chans ∧
    (State.userRefuse s p).mbxMem = s.mbxMem ∧
    (State.userRefuse s p).rings = s.rings ∧
    (State.userRefuse s p).hostMem = s.hostMem ∧
    (State.userRefuse s p).beds = s.beds ∧
    (State.userRefuse s p).lanes = s.lanes ∧
    (State.userRefuse s p).now = s.now ∧
    (State.userRefuse s p).free = s.free ∧
    (State.userRefuse s p).pending = s.pending := by
  simp -implicitDefEqProofs [State.userRefuse]

@[simp] theorem latchUser_frame (s : State) :
    (State.latchUser s).pins = s.pins ∧
    (State.latchUser s).hub = s.hub ∧
    (State.latchUser s).clk = s.clk ∧
    (State.latchUser s).boot = s.boot ∧
    (State.latchUser s).flash = s.flash ∧
    (State.latchUser s).sec = s.sec ∧
    (State.latchUser s).tel = s.tel ∧
    (State.latchUser s).chans = s.chans ∧
    (State.latchUser s).mbxMem = s.mbxMem ∧
    (State.latchUser s).rings = s.rings ∧
    (State.latchUser s).hostMem = s.hostMem ∧
    (State.latchUser s).ports = s.ports ∧
    (State.latchUser s).beds = s.beds ∧
    (State.latchUser s).lanes = s.lanes ∧
    (State.latchUser s).now = s.now ∧
    (State.latchUser s).free = s.free ∧
    (State.latchUser s).pending = s.pending := by
  simp -implicitDefEqProofs [State.latchUser]

@[simp] theorem userTake_frame (s : State) (p : PortId) (u : UserRx) :
    (State.userTake s p u).pins = s.pins ∧
    (State.userTake s p u).hub = s.hub ∧
    (State.userTake s p u).clk = s.clk ∧
    (State.userTake s p u).boot = s.boot ∧
    (State.userTake s p u).flash = s.flash ∧
    (State.userTake s p u).sec = s.sec ∧
    (State.userTake s p u).tel = s.tel ∧
    (State.userTake s p u).chans = s.chans ∧
    (State.userTake s p u).mbxMem = s.mbxMem ∧
    (State.userTake s p u).rings = s.rings ∧
    (State.userTake s p u).hostMem = s.hostMem ∧
    (State.userTake s p u).lanes = s.lanes ∧
    (State.userTake s p u).now = s.now ∧
    (State.userTake s p u).free = s.free ∧
    (State.userTake s p u).pending = s.pending := by
  simp -implicitDefEqProofs [State.userTake]

@[simp] theorem needBed_frame (s : State) (b : BedId) :
    (State.needBed s b).pins = s.pins ∧
    (State.needBed s b).hub = s.hub ∧
    (State.needBed s b).clk = s.clk ∧
    (State.needBed s b).sluice = s.sluice ∧
    (State.needBed s b).boot = s.boot ∧
    (State.needBed s b).flash = s.flash ∧
    (State.needBed s b).sec = s.sec ∧
    (State.needBed s b).tel = s.tel ∧
    (State.needBed s b).chans = s.chans ∧
    (State.needBed s b).mbxMem = s.mbxMem ∧
    (State.needBed s b).rings = s.rings ∧
    (State.needBed s b).hostMem = s.hostMem ∧
    (State.needBed s b).ports = s.ports ∧
    (State.needBed s b).lanes = s.lanes ∧
    (State.needBed s b).now = s.now ∧
    (State.needBed s b).free = s.free ∧
    (State.needBed s b).pending = s.pending := by
  simp -implicitDefEqProofs [State.needBed]

@[simp] theorem wakeGoOn_frame (p : PortId) (s : State) :
    (State.wakeGoOn p s).hub = s.hub ∧
    (State.wakeGoOn p s).clk = s.clk ∧
    (State.wakeGoOn p s).sluice = s.sluice ∧
    (State.wakeGoOn p s).boot = s.boot ∧
    (State.wakeGoOn p s).flash = s.flash ∧
    (State.wakeGoOn p s).sec = s.sec ∧
    (State.wakeGoOn p s).tel = s.tel ∧
    (State.wakeGoOn p s).chans = s.chans ∧
    (State.wakeGoOn p s).mbxMem = s.mbxMem ∧
    (State.wakeGoOn p s).now = s.now ∧
    (State.wakeGoOn p s).free = s.free ∧
    (State.wakeGoOn p s).pending = s.pending := by
  unfold State.wakeGoOn; (try dsimp only); (repeat' split) <;> (try simp_all -implicitDefEqProofs)

@[simp] theorem wakeCause_frame (s : State) (p : PortId) (held : Option Bytes) :
    (State.wakeCause s p held).hub = s.hub ∧
    (State.wakeCause s p held).clk = s.clk ∧
    (State.wakeCause s p held).boot = s.boot ∧
    (State.wakeCause s p held).flash = s.flash ∧
    (State.wakeCause s p held).sec = s.sec ∧
    (State.wakeCause s p held).tel = s.tel ∧
    (State.wakeCause s p held).chans = s.chans ∧
    (State.wakeCause s p held).mbxMem = s.mbxMem ∧
    (State.wakeCause s p held).now = s.now ∧
    (State.wakeCause s p held).free = s.free ∧
    (State.wakeCause s p held).pending = s.pending := by
  simp -implicitDefEqProofs [State.wakeCause]

@[simp] theorem retainSave_frame (s : State) (d : Dom) :
    (State.retainSave s d).pins = s.pins ∧
    (State.retainSave s d).clk = s.clk ∧
    (State.retainSave s d).sluice = s.sluice ∧
    (State.retainSave s d).boot = s.boot ∧
    (State.retainSave s d).flash = s.flash ∧
    (State.retainSave s d).sec = s.sec ∧
    (State.retainSave s d).tel = s.tel ∧
    (State.retainSave s d).chans = s.chans ∧
    (State.retainSave s d).mbxMem = s.mbxMem ∧
    (State.retainSave s d).rings = s.rings ∧
    (State.retainSave s d).hostMem = s.hostMem ∧
    (State.retainSave s d).ports = s.ports ∧
    (State.retainSave s d).beds = s.beds ∧
    (State.retainSave s d).lanes = s.lanes ∧
    (State.retainSave s d).now = s.now ∧
    (State.retainSave s d).free = s.free ∧
    (State.retainSave s d).pending = s.pending := by
  simp -implicitDefEqProofs [State.retainSave]

@[simp] theorem retainRestore_frame (s : State) (d : Dom) :
    (State.retainRestore s d).boot = s.boot ∧
    (State.retainRestore s d).now = s.now ∧
    (State.retainRestore s d).free = s.free ∧
    (State.retainRestore s d).pending = s.pending := by
  simp -implicitDefEqProofs [State.retainRestore]

@[simp] theorem bedGate_frame (s : State) (b : BedId) :
    (State.bedGate s b).pins = s.pins ∧
    (State.bedGate s b).clk = s.clk ∧
    (State.bedGate s b).sluice = s.sluice ∧
    (State.bedGate s b).boot = s.boot ∧
    (State.bedGate s b).flash = s.flash ∧
    (State.bedGate s b).sec = s.sec ∧
    (State.bedGate s b).tel = s.tel ∧
    (State.bedGate s b).chans = s.chans ∧
    (State.bedGate s b).mbxMem = s.mbxMem ∧
    (State.bedGate s b).rings = s.rings ∧
    (State.bedGate s b).hostMem = s.hostMem ∧
    (State.bedGate s b).now = s.now ∧
    (State.bedGate s b).free = s.free ∧
    (State.bedGate s b).pending = s.pending := by
  simp -implicitDefEqProofs [State.bedGate]

@[simp] theorem bedUp_frame (s : State) (b : BedId) :
    (State.bedUp s b).boot = s.boot ∧
    (State.bedUp s b).now = s.now ∧
    (State.bedUp s b).free = s.free ∧
    (State.bedUp s b).pending = s.pending := by
  simp -implicitDefEqProofs [State.bedUp]

@[simp] theorem hubGate_frame (s : State) :
    (State.hubGate s).pins = s.pins ∧
    (State.hubGate s).clk = s.clk ∧
    (State.hubGate s).boot = s.boot ∧
    (State.hubGate s).sec = s.sec ∧
    (State.hubGate s).tel = s.tel ∧
    (State.hubGate s).chans = s.chans ∧
    (State.hubGate s).mbxMem = s.mbxMem ∧
    (State.hubGate s).rings = s.rings ∧
    (State.hubGate s).hostMem = s.hostMem ∧
    (State.hubGate s).ports = s.ports ∧
    (State.hubGate s).beds = s.beds ∧
    (State.hubGate s).lanes = s.lanes ∧
    (State.hubGate s).now = s.now ∧
    (State.hubGate s).free = s.free ∧
    (State.hubGate s).pending = s.pending := by
  simp -implicitDefEqProofs [State.hubGate]

@[simp] theorem activeDone_frame (s : State) :
    (State.activeDone s).pins = s.pins ∧
    (State.activeDone s).clk = s.clk ∧
    (State.activeDone s).sluice = s.sluice ∧
    (State.activeDone s).boot = s.boot ∧
    (State.activeDone s).flash = s.flash ∧
    (State.activeDone s).sec = s.sec ∧
    (State.activeDone s).tel = s.tel ∧
    (State.activeDone s).chans = s.chans ∧
    (State.activeDone s).mbxMem = s.mbxMem ∧
    (State.activeDone s).rings = s.rings ∧
    (State.activeDone s).hostMem = s.hostMem ∧
    (State.activeDone s).ports = s.ports ∧
    (State.activeDone s).beds = s.beds ∧
    (State.activeDone s).lanes = s.lanes ∧
    (State.activeDone s).now = s.now ∧
    (State.activeDone s).free = s.free ∧
    (State.activeDone s).pending = s.pending := by
  simp -implicitDefEqProofs [State.activeDone]

@[simp] theorem postFlush_frame (s : State) (c : ChanId) :
    (State.postFlush s c).hub = s.hub ∧
    (State.postFlush s c).clk = s.clk ∧
    (State.postFlush s c).sluice = s.sluice ∧
    (State.postFlush s c).boot = s.boot ∧
    (State.postFlush s c).flash = s.flash ∧
    (State.postFlush s c).sec = s.sec ∧
    (State.postFlush s c).tel = s.tel ∧
    (State.postFlush s c).mbxMem = s.mbxMem ∧
    (State.postFlush s c).rings = s.rings ∧
    (State.postFlush s c).hostMem = s.hostMem ∧
    (State.postFlush s c).ports = s.ports ∧
    (State.postFlush s c).beds = s.beds ∧
    (State.postFlush s c).lanes = s.lanes ∧
    (State.postFlush s c).now = s.now ∧
    (State.postFlush s c).free = s.free ∧
    (State.postFlush s c).pending = s.pending := by
  simp -implicitDefEqProofs [State.postFlush]

@[simp] theorem userFlush_frame (s : State) (b : BedId) :
    (State.userFlush s b).pins = s.pins ∧
    (State.userFlush s b).hub = s.hub ∧
    (State.userFlush s b).clk = s.clk ∧
    (State.userFlush s b).sluice = s.sluice ∧
    (State.userFlush s b).boot = s.boot ∧
    (State.userFlush s b).flash = s.flash ∧
    (State.userFlush s b).sec = s.sec ∧
    (State.userFlush s b).tel = s.tel ∧
    (State.userFlush s b).chans = s.chans ∧
    (State.userFlush s b).mbxMem = s.mbxMem ∧
    (State.userFlush s b).rings = s.rings ∧
    (State.userFlush s b).hostMem = s.hostMem ∧
    (State.userFlush s b).ports = s.ports ∧
    (State.userFlush s b).lanes = s.lanes ∧
    (State.userFlush s b).now = s.now ∧
    (State.userFlush s b).free = s.free ∧
    (State.userFlush s b).pending = s.pending := by
  unfold State.userFlush; (try dsimp only); (repeat' split) <;> (try simp_all -implicitDefEqProofs)

@[simp] theorem wakeFlush_frame (s : State) (p : PortId) :
    (State.wakeFlush s p).hub = s.hub ∧
    (State.wakeFlush s p).clk = s.clk ∧
    (State.wakeFlush s p).sluice = s.sluice ∧
    (State.wakeFlush s p).boot = s.boot ∧
    (State.wakeFlush s p).flash = s.flash ∧
    (State.wakeFlush s p).sec = s.sec ∧
    (State.wakeFlush s p).tel = s.tel ∧
    (State.wakeFlush s p).chans = s.chans ∧
    (State.wakeFlush s p).mbxMem = s.mbxMem ∧
    (State.wakeFlush s p).now = s.now ∧
    (State.wakeFlush s p).free = s.free ∧
    (State.wakeFlush s p).pending = s.pending := by
  simp -implicitDefEqProofs [State.wakeFlush]

@[simp] theorem latchedAct_frame (s : State) :
    (State.latchedAct s).hub = s.hub ∧
    (State.latchedAct s).clk = s.clk ∧
    (State.latchedAct s).boot = s.boot ∧
    (State.latchedAct s).flash = s.flash ∧
    (State.latchedAct s).sec = s.sec ∧
    (State.latchedAct s).tel = s.tel ∧
    (State.latchedAct s).mbxMem = s.mbxMem ∧
    (State.latchedAct s).now = s.now ∧
    (State.latchedAct s).free = s.free ∧
    (State.latchedAct s).pending = s.pending := by
  simp -implicitDefEqProofs [State.latchedAct]

@[simp] theorem heldDrop_frame (s : State) (d : Dom) :
    (State.heldDrop s d).pins = s.pins ∧
    (State.heldDrop s d).clk = s.clk ∧
    (State.heldDrop s d).boot = s.boot ∧
    (State.heldDrop s d).flash = s.flash ∧
    (State.heldDrop s d).sec = s.sec ∧
    (State.heldDrop s d).tel = s.tel ∧
    (State.heldDrop s d).chans = s.chans ∧
    (State.heldDrop s d).mbxMem = s.mbxMem ∧
    (State.heldDrop s d).rings = s.rings ∧
    (State.heldDrop s d).hostMem = s.hostMem ∧
    (State.heldDrop s d).ports = s.ports ∧
    (State.heldDrop s d).beds = s.beds ∧
    (State.heldDrop s d).lanes = s.lanes ∧
    (State.heldDrop s d).now = s.now ∧
    (State.heldDrop s d).free = s.free ∧
    (State.heldDrop s d).pending = s.pending := by
  simp -implicitDefEqProofs [State.heldDrop]

@[simp] theorem heldOne_frame (s : State) (x : MasterId × Nat × Option Word) :
    (State.heldOne s x).boot = s.boot ∧
    (State.heldOne s x).now = s.now ∧
    (State.heldOne s x).free = s.free ∧
    (State.heldOne s x).pending = s.pending := by
  unfold State.heldOne; (try dsimp only); (repeat' split) <;> (try simp_all -implicitDefEqProofs)

@[simp] theorem heldServe_frame (s : State) :
    (State.heldServe s).boot = s.boot ∧
    (State.heldServe s).now = s.now ∧
    (State.heldServe s).free = s.free ∧
    (State.heldServe s).pending = s.pending := by
  unfold State.heldServe; (try dsimp only); (repeat' split) <;> (try simp_all -implicitDefEqProofs)

@[simp] theorem reqFail_frame (s : State) (q : SReq) (blk : Byte) (reason : Nat) :
    (State.reqFail s q blk reason).boot = s.boot ∧
    (State.reqFail s q blk reason).now = s.now ∧
    (State.reqFail s q blk reason).free = s.free ∧
    (State.reqFail s q blk reason).pending = s.pending := by
  unfold State.reqFail; (try dsimp only); (repeat' split) <;> (try simp_all -implicitDefEqProofs)

@[simp] theorem decideReq_frame (s : State) (q : SReq) :
    (State.decideReq s q).pins = s.pins ∧
    (State.decideReq s q).clk = s.clk ∧
    (State.decideReq s q).sluice = s.sluice ∧
    (State.decideReq s q).boot = s.boot ∧
    (State.decideReq s q).flash = s.flash ∧
    (State.decideReq s q).sec = s.sec ∧
    (State.decideReq s q).tel = s.tel ∧
    (State.decideReq s q).chans = s.chans ∧
    (State.decideReq s q).mbxMem = s.mbxMem ∧
    (State.decideReq s q).rings = s.rings ∧
    (State.decideReq s q).hostMem = s.hostMem ∧
    (State.decideReq s q).ports = s.ports ∧
    (State.decideReq s q).beds = s.beds ∧
    (State.decideReq s q).lanes = s.lanes ∧
    (State.decideReq s q).now = s.now ∧
    (State.decideReq s q).free = s.free ∧
    (State.decideReq s q).pending = s.pending := by
  unfold State.decideReq; (try dsimp only); (repeat' split) <;> (try simp_all -implicitDefEqProofs)

@[simp] theorem blockAnswer_frame (s : State) (q : SReq) (blk : Byte) :
    (State.blockAnswer s q blk).boot = s.boot ∧
    (State.blockAnswer s q blk).now = s.now ∧
    (State.blockAnswer s q blk).free = s.free ∧
    (State.blockAnswer s q blk).pending = s.pending := by
  unfold State.blockAnswer; (try dsimp only); (repeat' split) <;> (try simp_all -implicitDefEqProofs)

@[simp] theorem blockAnswers_frame (s : State) (blk : Byte) :
    (State.blockAnswers s blk).boot = s.boot ∧
    (State.blockAnswers s blk).now = s.now ∧
    (State.blockAnswers s blk).free = s.free ∧
    (State.blockAnswers s blk).pending = s.pending := by
  simp -implicitDefEqProofs [State.blockAnswers]

@[simp] theorem dormantReq_frame (s : State) (k : CmdKey) :
    (State.dormantReq s k).boot = s.boot ∧
    (State.dormantReq s k).now = s.now ∧
    (State.dormantReq s k).free = s.free ∧
    (State.dormantReq s k).pending = s.pending := by
  simp -implicitDefEqProofs [State.dormantReq]

@[simp] theorem calRunCheck_frame (s : State) :
    (State.calRunCheck s).pins = s.pins ∧
    (State.calRunCheck s).clk = s.clk ∧
    (State.calRunCheck s).sluice = s.sluice ∧
    (State.calRunCheck s).boot = s.boot ∧
    (State.calRunCheck s).flash = s.flash ∧
    (State.calRunCheck s).sec = s.sec ∧
    (State.calRunCheck s).tel = s.tel ∧
    (State.calRunCheck s).chans = s.chans ∧
    (State.calRunCheck s).mbxMem = s.mbxMem ∧
    (State.calRunCheck s).rings = s.rings ∧
    (State.calRunCheck s).hostMem = s.hostMem ∧
    (State.calRunCheck s).ports = s.ports ∧
    (State.calRunCheck s).beds = s.beds ∧
    (State.calRunCheck s).lanes = s.lanes ∧
    (State.calRunCheck s).now = s.now ∧
    (State.calRunCheck s).free = s.free ∧
    (State.calRunCheck s).pending = s.pending := by
  simp -implicitDefEqProofs [State.calRunCheck]

@[simp] theorem calRunGo_frame (s0 : State) :
    (State.calRunGo s0).clk = s0.clk ∧
    (State.calRunGo s0).sluice = s0.sluice ∧
    (State.calRunGo s0).boot = s0.boot ∧
    (State.calRunGo s0).flash = s0.flash ∧
    (State.calRunGo s0).sec = s0.sec ∧
    (State.calRunGo s0).tel = s0.tel ∧
    (State.calRunGo s0).chans = s0.chans ∧
    (State.calRunGo s0).mbxMem = s0.mbxMem ∧
    (State.calRunGo s0).now = s0.now ∧
    (State.calRunGo s0).free = s0.free ∧
    (State.calRunGo s0).pending = s0.pending := by
  unfold State.calRunGo; (try dsimp only); (repeat' split) <;> (try simp_all -implicitDefEqProofs)

@[simp] theorem bedReady_frame (s : State) (b : BedId) :
    (State.bedReady s b).clk = s.clk ∧
    (State.bedReady s b).sluice = s.sluice ∧
    (State.bedReady s b).boot = s.boot ∧
    (State.bedReady s b).flash = s.flash ∧
    (State.bedReady s b).sec = s.sec ∧
    (State.bedReady s b).tel = s.tel ∧
    (State.bedReady s b).chans = s.chans ∧
    (State.bedReady s b).mbxMem = s.mbxMem ∧
    (State.bedReady s b).now = s.now ∧
    (State.bedReady s b).free = s.free ∧
    (State.bedReady s b).pending = s.pending := by
  simp -implicitDefEqProofs [State.bedReady]

@[simp] theorem restartAs_frame (s : State) (mode : DevMode) :
    (State.restartAs s mode).sluice = s.sluice ∧
    (State.restartAs s mode).flash = s.flash ∧
    (State.restartAs s mode).sec = s.sec ∧
    (State.restartAs s mode).tel = s.tel ∧
    (State.restartAs s mode).chans = s.chans ∧
    (State.restartAs s mode).mbxMem = s.mbxMem ∧
    (State.restartAs s mode).rings = s.rings ∧
    (State.restartAs s mode).hostMem = s.hostMem ∧
    (State.restartAs s mode).lanes = s.lanes ∧
    (State.restartAs s mode).now = s.now ∧
    (State.restartAs s mode).free = s.free ∧
    (State.restartAs s mode).pending = s.pending := by
  simp -implicitDefEqProofs [State.restartAs]

@[simp] theorem bedCut_frame (s : State) (b : BedId) :
    (State.bedCut s b).pins = s.pins ∧
    (State.bedCut s b).clk = s.clk ∧
    (State.bedCut s b).sluice = s.sluice ∧
    (State.bedCut s b).boot = s.boot ∧
    (State.bedCut s b).flash = s.flash ∧
    (State.bedCut s b).sec = s.sec ∧
    (State.bedCut s b).tel = s.tel ∧
    (State.bedCut s b).chans = s.chans ∧
    (State.bedCut s b).mbxMem = s.mbxMem ∧
    (State.bedCut s b).rings = s.rings ∧
    (State.bedCut s b).hostMem = s.hostMem ∧
    (State.bedCut s b).now = s.now ∧
    (State.bedCut s b).free = s.free ∧
    (State.bedCut s b).pending = s.pending := by
  simp -implicitDefEqProofs [State.bedCut]

@[simp] theorem coresRestart_frame (s : State) (mode : DevMode) :
    (State.coresRestart s mode).sluice = s.sluice ∧
    (State.coresRestart s mode).flash = s.flash ∧
    (State.coresRestart s mode).tel = s.tel ∧
    (State.coresRestart s mode).mbxMem = s.mbxMem ∧
    (State.coresRestart s mode).now = s.now ∧
    (State.coresRestart s mode).free = s.free ∧
    (State.coresRestart s mode).pending = s.pending := by
  simp -implicitDefEqProofs [State.coresRestart]

@[simp] theorem hotReset_frame (s : State) :
    (State.hotReset s).sluice = s.sluice ∧
    (State.hotReset s).mbxMem = s.mbxMem ∧
    (State.hotReset s).now = s.now ∧
    (State.hotReset s).pending = s.pending := by
  simp -implicitDefEqProofs [State.hotReset]

@[simp] theorem startFail_frame (s : State) (r : Reason) :
    (State.startFail s r).hub = s.hub ∧
    (State.startFail s r).clk = s.clk ∧
    (State.startFail s r).sluice = s.sluice ∧
    (State.startFail s r).sec = s.sec ∧
    (State.startFail s r).tel = s.tel ∧
    (State.startFail s r).chans = s.chans ∧
    (State.startFail s r).mbxMem = s.mbxMem ∧
    (State.startFail s r).rings = s.rings ∧
    (State.startFail s r).hostMem = s.hostMem ∧
    (State.startFail s r).beds = s.beds ∧
    (State.startFail s r).lanes = s.lanes ∧
    (State.startFail s r).now = s.now ∧
    (State.startFail s r).pending = s.pending := by
  simp -implicitDefEqProofs [State.startFail]

@[simp] theorem startLate_frame (s : State) :
    (State.startLate s).hub = s.hub ∧
    (State.startLate s).clk = s.clk ∧
    (State.startLate s).sluice = s.sluice ∧
    (State.startLate s).sec = s.sec ∧
    (State.startLate s).tel = s.tel ∧
    (State.startLate s).chans = s.chans ∧
    (State.startLate s).mbxMem = s.mbxMem ∧
    (State.startLate s).rings = s.rings ∧
    (State.startLate s).hostMem = s.hostMem ∧
    (State.startLate s).beds = s.beds ∧
    (State.startLate s).lanes = s.lanes ∧
    (State.startLate s).now = s.now ∧
    (State.startLate s).pending = s.pending := by
  simp -implicitDefEqProofs [State.startLate]

@[simp] theorem lateUndo_frame (s : State) :
    (State.lateUndo s).pins = s.pins ∧
    (State.lateUndo s).hub = s.hub ∧
    (State.lateUndo s).clk = s.clk ∧
    (State.lateUndo s).sluice = s.sluice ∧
    (State.lateUndo s).flash = s.flash ∧
    (State.lateUndo s).sec = s.sec ∧
    (State.lateUndo s).tel = s.tel ∧
    (State.lateUndo s).chans = s.chans ∧
    (State.lateUndo s).mbxMem = s.mbxMem ∧
    (State.lateUndo s).rings = s.rings ∧
    (State.lateUndo s).hostMem = s.hostMem ∧
    (State.lateUndo s).beds = s.beds ∧
    (State.lateUndo s).lanes = s.lanes ∧
    (State.lateUndo s).now = s.now ∧
    (State.lateUndo s).free = s.free ∧
    (State.lateUndo s).pending = s.pending := by
  unfold State.lateUndo; (try dsimp only); (repeat' split) <;> (try simp_all -implicitDefEqProofs)

@[simp] theorem refBack_frame (s : State) :
    (State.refBack s).pins = s.pins ∧
    (State.refBack s).hub = s.hub ∧
    (State.refBack s).clk = s.clk ∧
    (State.refBack s).sluice = s.sluice ∧
    (State.refBack s).sec = s.sec ∧
    (State.refBack s).tel = s.tel ∧
    (State.refBack s).chans = s.chans ∧
    (State.refBack s).mbxMem = s.mbxMem ∧
    (State.refBack s).rings = s.rings ∧
    (State.refBack s).hostMem = s.hostMem ∧
    (State.refBack s).ports = s.ports ∧
    (State.refBack s).beds = s.beds ∧
    (State.refBack s).lanes = s.lanes ∧
    (State.refBack s).now = s.now ∧
    (State.refBack s).pending = s.pending := by
  simp -implicitDefEqProofs [State.refBack]

@[simp] theorem stageTo_frame (s : State) (n : Nat) :
    (State.stageTo s n).pins = s.pins ∧
    (State.stageTo s n).hub = s.hub ∧
    (State.stageTo s n).clk = s.clk ∧
    (State.stageTo s n).sluice = s.sluice ∧
    (State.stageTo s n).flash = s.flash ∧
    (State.stageTo s n).sec = s.sec ∧
    (State.stageTo s n).tel = s.tel ∧
    (State.stageTo s n).chans = s.chans ∧
    (State.stageTo s n).mbxMem = s.mbxMem ∧
    (State.stageTo s n).rings = s.rings ∧
    (State.stageTo s n).hostMem = s.hostMem ∧
    (State.stageTo s n).ports = s.ports ∧
    (State.stageTo s n).beds = s.beds ∧
    (State.stageTo s n).lanes = s.lanes ∧
    (State.stageTo s n).now = s.now ∧
    (State.stageTo s n).free = s.free ∧
    (State.stageTo s n).pending = s.pending := by
  simp -implicitDefEqProofs [State.stageTo]

@[simp] theorem stage1End_frame (s : State) :
    (State.stage1End s).hub = s.hub ∧
    (State.stage1End s).clk = s.clk ∧
    (State.stage1End s).sluice = s.sluice ∧
    (State.stage1End s).flash = s.flash ∧
    (State.stage1End s).sec = s.sec ∧
    (State.stage1End s).tel = s.tel ∧
    (State.stage1End s).chans = s.chans ∧
    (State.stage1End s).mbxMem = s.mbxMem ∧
    (State.stage1End s).rings = s.rings ∧
    (State.stage1End s).hostMem = s.hostMem ∧
    (State.stage1End s).ports = s.ports ∧
    (State.stage1End s).beds = s.beds ∧
    (State.stage1End s).lanes = s.lanes ∧
    (State.stage1End s).now = s.now ∧
    (State.stage1End s).free = s.free ∧
    (State.stage1End s).pending = s.pending := by
  simp -implicitDefEqProofs [State.stage1End]

@[simp] theorem flashFound_frame (s : State) :
    (State.flashFound s).pins = s.pins ∧
    (State.flashFound s).hub = s.hub ∧
    (State.flashFound s).clk = s.clk ∧
    (State.flashFound s).sluice = s.sluice ∧
    (State.flashFound s).sec = s.sec ∧
    (State.flashFound s).tel = s.tel ∧
    (State.flashFound s).chans = s.chans ∧
    (State.flashFound s).mbxMem = s.mbxMem ∧
    (State.flashFound s).rings = s.rings ∧
    (State.flashFound s).hostMem = s.hostMem ∧
    (State.flashFound s).ports = s.ports ∧
    (State.flashFound s).beds = s.beds ∧
    (State.flashFound s).lanes = s.lanes ∧
    (State.flashFound s).now = s.now ∧
    (State.flashFound s).pending = s.pending := by
  simp -implicitDefEqProofs [State.flashFound]

@[simp] theorem stage2End_frame (s : State) (o : StageObs) :
    (State.stage2End s o).hub = s.hub ∧
    (State.stage2End s o).clk = s.clk ∧
    (State.stage2End s o).sluice = s.sluice ∧
    (State.stage2End s o).sec = s.sec ∧
    (State.stage2End s o).tel = s.tel ∧
    (State.stage2End s o).chans = s.chans ∧
    (State.stage2End s o).mbxMem = s.mbxMem ∧
    (State.stage2End s o).rings = s.rings ∧
    (State.stage2End s o).hostMem = s.hostMem ∧
    (State.stage2End s o).beds = s.beds ∧
    (State.stage2End s o).lanes = s.lanes ∧
    (State.stage2End s o).now = s.now ∧
    (State.stage2End s o).pending = s.pending := by
  simp -implicitDefEqProofs [State.stage2End]

@[simp] theorem stage3End_frame (s : State) :
    (State.stage3End s).hub = s.hub ∧
    (State.stage3End s).clk = s.clk ∧
    (State.stage3End s).sluice = s.sluice ∧
    (State.stage3End s).tel = s.tel ∧
    (State.stage3End s).chans = s.chans ∧
    (State.stage3End s).mbxMem = s.mbxMem ∧
    (State.stage3End s).rings = s.rings ∧
    (State.stage3End s).hostMem = s.hostMem ∧
    (State.stage3End s).beds = s.beds ∧
    (State.stage3End s).lanes = s.lanes ∧
    (State.stage3End s).now = s.now ∧
    (State.stage3End s).pending = s.pending := by
  simp -implicitDefEqProofs [State.stage3End]

@[simp] theorem enterSeedbed_frame (s : State) :
    (State.enterSeedbed s).clk = s.clk ∧
    (State.enterSeedbed s).sluice = s.sluice ∧
    (State.enterSeedbed s).sec = s.sec ∧
    (State.enterSeedbed s).tel = s.tel ∧
    (State.enterSeedbed s).mbxMem = s.mbxMem ∧
    (State.enterSeedbed s).rings = s.rings ∧
    (State.enterSeedbed s).hostMem = s.hostMem ∧
    (State.enterSeedbed s).ports = s.ports ∧
    (State.enterSeedbed s).beds = s.beds ∧
    (State.enterSeedbed s).lanes = s.lanes ∧
    (State.enterSeedbed s).now = s.now ∧
    (State.enterSeedbed s).pending = s.pending := by
  simp -implicitDefEqProofs [State.enterSeedbed]

@[simp] theorem stage4End_frame (s : State) :
    (State.stage4End s).clk = s.clk ∧
    (State.stage4End s).sluice = s.sluice ∧
    (State.stage4End s).tel = s.tel ∧
    (State.stage4End s).mbxMem = s.mbxMem ∧
    (State.stage4End s).rings = s.rings ∧
    (State.stage4End s).hostMem = s.hostMem ∧
    (State.stage4End s).beds = s.beds ∧
    (State.stage4End s).lanes = s.lanes ∧
    (State.stage4End s).now = s.now ∧
    (State.stage4End s).pending = s.pending := by
  simp -implicitDefEqProofs [State.stage4End]

@[simp] theorem slotTake_frame (s : State) (slotB : Bool) :
    (State.slotTake s slotB).clk = s.clk ∧
    (State.slotTake s slotB).sluice = s.sluice ∧
    (State.slotTake s slotB).flash = s.flash ∧
    (State.slotTake s slotB).sec = s.sec ∧
    (State.slotTake s slotB).tel = s.tel ∧
    (State.slotTake s slotB).mbxMem = s.mbxMem ∧
    (State.slotTake s slotB).rings = s.rings ∧
    (State.slotTake s slotB).hostMem = s.hostMem ∧
    (State.slotTake s slotB).ports = s.ports ∧
    (State.slotTake s slotB).beds = s.beds ∧
    (State.slotTake s slotB).lanes = s.lanes ∧
    (State.slotTake s slotB).now = s.now ∧
    (State.slotTake s slotB).free = s.free ∧
    (State.slotTake s slotB).pending = s.pending := by
  simp -implicitDefEqProofs [State.slotTake]

@[simp] theorem stage5End_frame (s : State) :
    (State.stage5End s).clk = s.clk ∧
    (State.stage5End s).sluice = s.sluice ∧
    (State.stage5End s).tel = s.tel ∧
    (State.stage5End s).mbxMem = s.mbxMem ∧
    (State.stage5End s).rings = s.rings ∧
    (State.stage5End s).hostMem = s.hostMem ∧
    (State.stage5End s).beds = s.beds ∧
    (State.stage5End s).lanes = s.lanes ∧
    (State.stage5End s).now = s.now ∧
    (State.stage5End s).pending = s.pending := by
  simp -implicitDefEqProofs [State.stage5End]

@[simp] theorem stage6End_frame (s : State) :
    (State.stage6End s).pins = s.pins ∧
    (State.stage6End s).hub = s.hub ∧
    (State.stage6End s).clk = s.clk ∧
    (State.stage6End s).sluice = s.sluice ∧
    (State.stage6End s).flash = s.flash ∧
    (State.stage6End s).sec = s.sec ∧
    (State.stage6End s).tel = s.tel ∧
    (State.stage6End s).chans = s.chans ∧
    (State.stage6End s).mbxMem = s.mbxMem ∧
    (State.stage6End s).rings = s.rings ∧
    (State.stage6End s).hostMem = s.hostMem ∧
    (State.stage6End s).ports = s.ports ∧
    (State.stage6End s).lanes = s.lanes ∧
    (State.stage6End s).now = s.now ∧
    (State.stage6End s).free = s.free ∧
    (State.stage6End s).pending = s.pending := by
  simp -implicitDefEqProofs [State.stage6End]

@[simp] theorem stage7End_frame (s : State) :
    (State.stage7End s).pins = s.pins ∧
    (State.stage7End s).hub = s.hub ∧
    (State.stage7End s).clk = s.clk ∧
    (State.stage7End s).sluice = s.sluice ∧
    (State.stage7End s).flash = s.flash ∧
    (State.stage7End s).sec = s.sec ∧
    (State.stage7End s).tel = s.tel ∧
    (State.stage7End s).chans = s.chans ∧
    (State.stage7End s).mbxMem = s.mbxMem ∧
    (State.stage7End s).rings = s.rings ∧
    (State.stage7End s).hostMem = s.hostMem ∧
    (State.stage7End s).ports = s.ports ∧
    (State.stage7End s).beds = s.beds ∧
    (State.stage7End s).lanes = s.lanes ∧
    (State.stage7End s).now = s.now ∧
    (State.stage7End s).free = s.free ∧
    (State.stage7End s).pending = s.pending := by
  simp -implicitDefEqProofs [State.stage7End]

@[simp] theorem startCal_frame (s : State) :
    (State.startCal s).clk = s.clk ∧
    (State.startCal s).sluice = s.sluice ∧
    (State.startCal s).boot = s.boot ∧
    (State.startCal s).flash = s.flash ∧
    (State.startCal s).sec = s.sec ∧
    (State.startCal s).tel = s.tel ∧
    (State.startCal s).chans = s.chans ∧
    (State.startCal s).mbxMem = s.mbxMem ∧
    (State.startCal s).now = s.now ∧
    (State.startCal s).free = s.free ∧
    (State.startCal s).pending = s.pending := by
  simp -implicitDefEqProofs [State.startCal]

@[simp] theorem stage8End_frame (s : State) :
    (State.stage8End s).clk = s.clk ∧
    (State.stage8End s).sluice = s.sluice ∧
    (State.stage8End s).sec = s.sec ∧
    (State.stage8End s).tel = s.tel ∧
    (State.stage8End s).chans = s.chans ∧
    (State.stage8End s).mbxMem = s.mbxMem ∧
    (State.stage8End s).now = s.now ∧
    (State.stage8End s).pending = s.pending := by
  simp -implicitDefEqProofs [State.stage8End]

@[simp] theorem fpTornCheck_frame (s : State) (p : PortId) (k : Nat) :
    (State.fpTornCheck s p k).pins = s.pins ∧
    (State.fpTornCheck s p k).hub = s.hub ∧
    (State.fpTornCheck s p k).clk = s.clk ∧
    (State.fpTornCheck s p k).sluice = s.sluice ∧
    (State.fpTornCheck s p k).sec = s.sec ∧
    (State.fpTornCheck s p k).tel = s.tel ∧
    (State.fpTornCheck s p k).chans = s.chans ∧
    (State.fpTornCheck s p k).mbxMem = s.mbxMem ∧
    (State.fpTornCheck s p k).rings = s.rings ∧
    (State.fpTornCheck s p k).hostMem = s.hostMem ∧
    (State.fpTornCheck s p k).ports = s.ports ∧
    (State.fpTornCheck s p k).beds = s.beds ∧
    (State.fpTornCheck s p k).lanes = s.lanes ∧
    (State.fpTornCheck s p k).now = s.now ∧
    (State.fpTornCheck s p k).pending = s.pending := by
  simp -implicitDefEqProofs [State.fpTornCheck]

@[simp] theorem fpStart_frame (s : State) (p : PortId) :
    (State.fpStart s p).pins = s.pins ∧
    (State.fpStart s p).hub = s.hub ∧
    (State.fpStart s p).clk = s.clk ∧
    (State.fpStart s p).sluice = s.sluice ∧
    (State.fpStart s p).sec = s.sec ∧
    (State.fpStart s p).tel = s.tel ∧
    (State.fpStart s p).chans = s.chans ∧
    (State.fpStart s p).mbxMem = s.mbxMem ∧
    (State.fpStart s p).rings = s.rings ∧
    (State.fpStart s p).hostMem = s.hostMem ∧
    (State.fpStart s p).beds = s.beds ∧
    (State.fpStart s p).lanes = s.lanes ∧
    (State.fpStart s p).now = s.now ∧
    (State.fpStart s p).pending = s.pending := by
  unfold State.fpStart; (try dsimp only); (repeat' split) <;> (try simp_all -implicitDefEqProofs)

@[simp] theorem fallbackEvent_frame (s : State) :
    (State.fallbackEvent s).pins = s.pins ∧
    (State.fallbackEvent s).hub = s.hub ∧
    (State.fallbackEvent s).clk = s.clk ∧
    (State.fallbackEvent s).sluice = s.sluice ∧
    (State.fallbackEvent s).boot = s.boot ∧
    (State.fallbackEvent s).flash = s.flash ∧
    (State.fallbackEvent s).sec = s.sec ∧
    (State.fallbackEvent s).tel = s.tel ∧
    (State.fallbackEvent s).chans = s.chans ∧
    (State.fallbackEvent s).mbxMem = s.mbxMem ∧
    (State.fallbackEvent s).rings = s.rings ∧
    (State.fallbackEvent s).hostMem = s.hostMem ∧
    (State.fallbackEvent s).ports = s.ports ∧
    (State.fallbackEvent s).beds = s.beds ∧
    (State.fallbackEvent s).lanes = s.lanes ∧
    (State.fallbackEvent s).now = s.now ∧
    (State.fallbackEvent s).free = s.free ∧
    (State.fallbackEvent s).pending = s.pending := by
  simp -implicitDefEqProofs [State.fallbackEvent]

@[simp] theorem enterActive_frame (s : State) :
    (State.enterActive s).pins = s.pins ∧
    (State.enterActive s).clk = s.clk ∧
    (State.enterActive s).sluice = s.sluice ∧
    (State.enterActive s).flash = s.flash ∧
    (State.enterActive s).sec = s.sec ∧
    (State.enterActive s).tel = s.tel ∧
    (State.enterActive s).chans = s.chans ∧
    (State.enterActive s).mbxMem = s.mbxMem ∧
    (State.enterActive s).rings = s.rings ∧
    (State.enterActive s).hostMem = s.hostMem ∧
    (State.enterActive s).beds = s.beds ∧
    (State.enterActive s).lanes = s.lanes ∧
    (State.enterActive s).now = s.now ∧
    (State.enterActive s).free = s.free ∧
    (State.enterActive s).pending = s.pending := by
  simp -implicitDefEqProofs [State.enterActive]

@[simp] theorem stage9End_frame (s : State) :
    (State.stage9End s).clk = s.clk ∧
    (State.stage9End s).sluice = s.sluice ∧
    (State.stage9End s).sec = s.sec ∧
    (State.stage9End s).tel = s.tel ∧
    (State.stage9End s).chans = s.chans ∧
    (State.stage9End s).mbxMem = s.mbxMem ∧
    (State.stage9End s).beds = s.beds ∧
    (State.stage9End s).lanes = s.lanes ∧
    (State.stage9End s).now = s.now ∧
    (State.stage9End s).pending = s.pending := by
  simp -implicitDefEqProofs [State.stage9End]

@[simp] theorem noteArg_frame (s : State) (k : CmdKey) (state : Byte) :
    (State.noteArg s k state).pins = s.pins ∧
    (State.noteArg s k state).hub = s.hub ∧
    (State.noteArg s k state).clk = s.clk ∧
    (State.noteArg s k state).sluice = s.sluice ∧
    (State.noteArg s k state).boot = s.boot ∧
    (State.noteArg s k state).flash = s.flash ∧
    (State.noteArg s k state).sec = s.sec ∧
    (State.noteArg s k state).tel = s.tel ∧
    (State.noteArg s k state).chans = s.chans ∧
    (State.noteArg s k state).mbxMem = s.mbxMem ∧
    (State.noteArg s k state).rings = s.rings ∧
    (State.noteArg s k state).hostMem = s.hostMem ∧
    (State.noteArg s k state).ports = s.ports ∧
    (State.noteArg s k state).beds = s.beds ∧
    (State.noteArg s k state).lanes = s.lanes ∧
    (State.noteArg s k state).now = s.now ∧
    (State.noteArg s k state).free = s.free ∧
    (State.noteArg s k state).pending = s.pending := by
  simp -implicitDefEqProofs [State.noteArg]

@[simp] theorem powerPort_frame (s : State) (k : CmdKey) (p : PortId) (state : Byte) :
    (State.powerPort s k p state).hub = s.hub ∧
    (State.powerPort s k p state).clk = s.clk ∧
    (State.powerPort s k p state).boot = s.boot ∧
    (State.powerPort s k p state).sec = s.sec ∧
    (State.powerPort s k p state).tel = s.tel ∧
    (State.powerPort s k p state).chans = s.chans ∧
    (State.powerPort s k p state).mbxMem = s.mbxMem ∧
    (State.powerPort s k p state).now = s.now ∧
    (State.powerPort s k p state).pending = s.pending := by
  unfold State.powerPort; (try dsimp only); (repeat' split) <;> (try simp_all -implicitDefEqProofs)

@[simp] theorem powerBed_frame (s : State) (k : CmdKey) (b : BedId) (state : Byte) :
    (State.powerBed s k b state).pins = s.pins ∧
    (State.powerBed s k b state).hub = s.hub ∧
    (State.powerBed s k b state).clk = s.clk ∧
    (State.powerBed s k b state).sluice = s.sluice ∧
    (State.powerBed s k b state).boot = s.boot ∧
    (State.powerBed s k b state).flash = s.flash ∧
    (State.powerBed s k b state).sec = s.sec ∧
    (State.powerBed s k b state).tel = s.tel ∧
    (State.powerBed s k b state).chans = s.chans ∧
    (State.powerBed s k b state).mbxMem = s.mbxMem ∧
    (State.powerBed s k b state).rings = s.rings ∧
    (State.powerBed s k b state).hostMem = s.hostMem ∧
    (State.powerBed s k b state).ports = s.ports ∧
    (State.powerBed s k b state).lanes = s.lanes ∧
    (State.powerBed s k b state).now = s.now ∧
    (State.powerBed s k b state).free = s.free ∧
    (State.powerBed s k b state).pending = s.pending := by
  simp -implicitDefEqProofs [State.powerBed]

@[simp] theorem powerActive_frame (s : State) (k : CmdKey) :
    (State.powerActive s k).pins = s.pins ∧
    (State.powerActive s k).clk = s.clk ∧
    (State.powerActive s k).sluice = s.sluice ∧
    (State.powerActive s k).boot = s.boot ∧
    (State.powerActive s k).flash = s.flash ∧
    (State.powerActive s k).sec = s.sec ∧
    (State.powerActive s k).tel = s.tel ∧
    (State.powerActive s k).chans = s.chans ∧
    (State.powerActive s k).mbxMem = s.mbxMem ∧
    (State.powerActive s k).rings = s.rings ∧
    (State.powerActive s k).hostMem = s.hostMem ∧
    (State.powerActive s k).ports = s.ports ∧
    (State.powerActive s k).lanes = s.lanes ∧
    (State.powerActive s k).now = s.now ∧
    (State.powerActive s k).free = s.free ∧
    (State.powerActive s k).pending = s.pending := by
  simp -implicitDefEqProofs [State.powerActive]

@[simp] theorem powerQuiet_frame (s : State) (k : CmdKey) :
    (State.powerQuiet s k).pins = s.pins ∧
    (State.powerQuiet s k).clk = s.clk ∧
    (State.powerQuiet s k).sluice = s.sluice ∧
    (State.powerQuiet s k).boot = s.boot ∧
    (State.powerQuiet s k).flash = s.flash ∧
    (State.powerQuiet s k).sec = s.sec ∧
    (State.powerQuiet s k).tel = s.tel ∧
    (State.powerQuiet s k).chans = s.chans ∧
    (State.powerQuiet s k).mbxMem = s.mbxMem ∧
    (State.powerQuiet s k).rings = s.rings ∧
    (State.powerQuiet s k).hostMem = s.hostMem ∧
    (State.powerQuiet s k).ports = s.ports ∧
    (State.powerQuiet s k).beds = s.beds ∧
    (State.powerQuiet s k).lanes = s.lanes ∧
    (State.powerQuiet s k).now = s.now ∧
    (State.powerQuiet s k).free = s.free ∧
    (State.powerQuiet s k).pending = s.pending := by
  simp -implicitDefEqProofs [State.powerQuiet]

@[simp] theorem reqGated_frame (s : State) (q : SReq) (d : Dom) :
    (State.reqGated s q d).pins = s.pins ∧
    (State.reqGated s q d).hub = s.hub ∧
    (State.reqGated s q d).clk = s.clk ∧
    (State.reqGated s q d).boot = s.boot ∧
    (State.reqGated s q d).flash = s.flash ∧
    (State.reqGated s q d).sec = s.sec ∧
    (State.reqGated s q d).tel = s.tel ∧
    (State.reqGated s q d).chans = s.chans ∧
    (State.reqGated s q d).mbxMem = s.mbxMem ∧
    (State.reqGated s q d).rings = s.rings ∧
    (State.reqGated s q d).hostMem = s.hostMem ∧
    (State.reqGated s q d).ports = s.ports ∧
    (State.reqGated s q d).beds = s.beds ∧
    (State.reqGated s q d).lanes = s.lanes ∧
    (State.reqGated s q d).now = s.now ∧
    (State.reqGated s q d).free = s.free ∧
    (State.reqGated s q d).pending = s.pending := by
  simp -implicitDefEqProofs [State.reqGated]

@[simp] theorem bedCameUp_frame (s : State) (b : BedId) :
    (State.bedCameUp s b).boot = s.boot ∧
    (State.bedCameUp s b).now = s.now ∧
    (State.bedCameUp s b).free = s.free ∧
    (State.bedCameUp s b).pending = s.pending := by
  simp -implicitDefEqProofs [State.bedCameUp]

@[simp] theorem bedFailed_frame (s : State) (b : BedId) :
    (State.bedFailed s b).pins = s.pins ∧
    (State.bedFailed s b).clk = s.clk ∧
    (State.bedFailed s b).boot = s.boot ∧
    (State.bedFailed s b).flash = s.flash ∧
    (State.bedFailed s b).sec = s.sec ∧
    (State.bedFailed s b).tel = s.tel ∧
    (State.bedFailed s b).chans = s.chans ∧
    (State.bedFailed s b).mbxMem = s.mbxMem ∧
    (State.bedFailed s b).rings = s.rings ∧
    (State.bedFailed s b).hostMem = s.hostMem ∧
    (State.bedFailed s b).lanes = s.lanes ∧
    (State.bedFailed s b).now = s.now ∧
    (State.bedFailed s b).free = s.free ∧
    (State.bedFailed s b).pending = s.pending := by
  simp -implicitDefEqProofs [State.bedFailed]

@[simp] theorem deviceAwake_frame (s : State) :
    (State.deviceAwake s).clk = s.clk ∧
    (State.deviceAwake s).boot = s.boot ∧
    (State.deviceAwake s).flash = s.flash ∧
    (State.deviceAwake s).sec = s.sec ∧
    (State.deviceAwake s).tel = s.tel ∧
    (State.deviceAwake s).mbxMem = s.mbxMem ∧
    (State.deviceAwake s).now = s.now ∧
    (State.deviceAwake s).free = s.free ∧
    (State.deviceAwake s).pending = s.pending := by
  simp -implicitDefEqProofs [State.deviceAwake]

@[simp] theorem wakeDenied_frame (s : State) (p : PortId) :
    (State.wakeDenied s p).pins = s.pins ∧
    (State.wakeDenied s p).hub = s.hub ∧
    (State.wakeDenied s p).clk = s.clk ∧
    (State.wakeDenied s p).sluice = s.sluice ∧
    (State.wakeDenied s p).boot = s.boot ∧
    (State.wakeDenied s p).flash = s.flash ∧
    (State.wakeDenied s p).sec = s.sec ∧
    (State.wakeDenied s p).tel = s.tel ∧
    (State.wakeDenied s p).chans = s.chans ∧
    (State.wakeDenied s p).mbxMem = s.mbxMem ∧
    (State.wakeDenied s p).rings = s.rings ∧
    (State.wakeDenied s p).hostMem = s.hostMem ∧
    (State.wakeDenied s p).ports = s.ports ∧
    (State.wakeDenied s p).beds = s.beds ∧
    (State.wakeDenied s p).lanes = s.lanes ∧
    (State.wakeDenied s p).now = s.now ∧
    (State.wakeDenied s p).free = s.free ∧
    (State.wakeDenied s p).pending = s.pending := by
  simp -implicitDefEqProofs [State.wakeDenied]

@[simp] theorem wakeMsg_frame (s : State) (p : PortId) (held : Option Bytes) :
    (State.wakeMsg s p held).hub = s.hub ∧
    (State.wakeMsg s p held).clk = s.clk ∧
    (State.wakeMsg s p held).boot = s.boot ∧
    (State.wakeMsg s p held).flash = s.flash ∧
    (State.wakeMsg s p held).sec = s.sec ∧
    (State.wakeMsg s p held).tel = s.tel ∧
    (State.wakeMsg s p held).chans = s.chans ∧
    (State.wakeMsg s p held).mbxMem = s.mbxMem ∧
    (State.wakeMsg s p held).now = s.now ∧
    (State.wakeMsg s p held).free = s.free ∧
    (State.wakeMsg s p held).pending = s.pending := by
  unfold State.wakeMsg; (try dsimp only); (repeat' split) <;> (try simp_all -implicitDefEqProofs)

@[simp] theorem wakeReadyAgain_frame (s : State) (p : PortId) :
    (State.wakeReadyAgain s p).hub = s.hub ∧
    (State.wakeReadyAgain s p).clk = s.clk ∧
    (State.wakeReadyAgain s p).boot = s.boot ∧
    (State.wakeReadyAgain s p).flash = s.flash ∧
    (State.wakeReadyAgain s p).sec = s.sec ∧
    (State.wakeReadyAgain s p).tel = s.tel ∧
    (State.wakeReadyAgain s p).chans = s.chans ∧
    (State.wakeReadyAgain s p).mbxMem = s.mbxMem ∧
    (State.wakeReadyAgain s p).now = s.now ∧
    (State.wakeReadyAgain s p).free = s.free ∧
    (State.wakeReadyAgain s p).pending = s.pending := by
  simp -implicitDefEqProofs [State.wakeReadyAgain]

@[simp] theorem diagStart_frame (s : State) (k : CmdKey) (p : PortId) (tests : Byte) (nvp : BitVec 16) (addr : Nat) :
    (State.diagStart s k p tests nvp addr).pins = s.pins ∧
    (State.diagStart s k p tests nvp addr).hub = s.hub ∧
    (State.diagStart s k p tests nvp addr).clk = s.clk ∧
    (State.diagStart s k p tests nvp addr).sluice = s.sluice ∧
    (State.diagStart s k p tests nvp addr).boot = s.boot ∧
    (State.diagStart s k p tests nvp addr).flash = s.flash ∧
    (State.diagStart s k p tests nvp addr).sec = s.sec ∧
    (State.diagStart s k p tests nvp addr).tel = s.tel ∧
    (State.diagStart s k p tests nvp addr).chans = s.chans ∧
    (State.diagStart s k p tests nvp addr).mbxMem = s.mbxMem ∧
    (State.diagStart s k p tests nvp addr).rings = s.rings ∧
    (State.diagStart s k p tests nvp addr).hostMem = s.hostMem ∧
    (State.diagStart s k p tests nvp addr).beds = s.beds ∧
    (State.diagStart s k p tests nvp addr).lanes = s.lanes ∧
    (State.diagStart s k p tests nvp addr).now = s.now ∧
    (State.diagStart s k p tests nvp addr).free = s.free ∧
    (State.diagStart s k p tests nvp addr).pending = s.pending := by
  simp -implicitDefEqProofs [State.diagStart]

@[simp] theorem diagPort_frame (s : State) (k : CmdKey) (idx : Nat) (p : PortId) (tests : Byte) (nvp : BitVec 16) (buf : BitVec 64) :
    (State.diagPort s k idx p tests nvp buf).pins = s.pins ∧
    (State.diagPort s k idx p tests nvp buf).hub = s.hub ∧
    (State.diagPort s k idx p tests nvp buf).clk = s.clk ∧
    (State.diagPort s k idx p tests nvp buf).sluice = s.sluice ∧
    (State.diagPort s k idx p tests nvp buf).boot = s.boot ∧
    (State.diagPort s k idx p tests nvp buf).flash = s.flash ∧
    (State.diagPort s k idx p tests nvp buf).sec = s.sec ∧
    (State.diagPort s k idx p tests nvp buf).tel = s.tel ∧
    (State.diagPort s k idx p tests nvp buf).chans = s.chans ∧
    (State.diagPort s k idx p tests nvp buf).mbxMem = s.mbxMem ∧
    (State.diagPort s k idx p tests nvp buf).rings = s.rings ∧
    (State.diagPort s k idx p tests nvp buf).hostMem = s.hostMem ∧
    (State.diagPort s k idx p tests nvp buf).beds = s.beds ∧
    (State.diagPort s k idx p tests nvp buf).lanes = s.lanes ∧
    (State.diagPort s k idx p tests nvp buf).now = s.now ∧
    (State.diagPort s k idx p tests nvp buf).free = s.free ∧
    (State.diagPort s k idx p tests nvp buf).pending = s.pending := by
  simp -implicitDefEqProofs [State.diagPort]

@[simp] theorem quietOver_frame (s : State) (p : PortId) (granted : Bool) :
    (State.quietOver s p granted).hub = s.hub ∧
    (State.quietOver s p granted).clk = s.clk ∧
    (State.quietOver s p granted).sluice = s.sluice ∧
    (State.quietOver s p granted).boot = s.boot ∧
    (State.quietOver s p granted).flash = s.flash ∧
    (State.quietOver s p granted).sec = s.sec ∧
    (State.quietOver s p granted).tel = s.tel ∧
    (State.quietOver s p granted).chans = s.chans ∧
    (State.quietOver s p granted).mbxMem = s.mbxMem ∧
    (State.quietOver s p granted).now = s.now ∧
    (State.quietOver s p granted).free = s.free ∧
    (State.quietOver s p granted).pending = s.pending := by
  unfold State.quietOver; (try dsimp only); (repeat' split) <;> (try simp_all -implicitDefEqProofs)

@[simp] theorem grantGo_frame (s : State) (p : PortId) (highz : Bool) (sweep : Option Nat) :
    (State.grantGo s p highz sweep).pins = s.pins ∧
    (State.grantGo s p highz sweep).hub = s.hub ∧
    (State.grantGo s p highz sweep).clk = s.clk ∧
    (State.grantGo s p highz sweep).sluice = s.sluice ∧
    (State.grantGo s p highz sweep).boot = s.boot ∧
    (State.grantGo s p highz sweep).flash = s.flash ∧
    (State.grantGo s p highz sweep).sec = s.sec ∧
    (State.grantGo s p highz sweep).tel = s.tel ∧
    (State.grantGo s p highz sweep).chans = s.chans ∧
    (State.grantGo s p highz sweep).mbxMem = s.mbxMem ∧
    (State.grantGo s p highz sweep).rings = s.rings ∧
    (State.grantGo s p highz sweep).hostMem = s.hostMem ∧
    (State.grantGo s p highz sweep).beds = s.beds ∧
    (State.grantGo s p highz sweep).now = s.now ∧
    (State.grantGo s p highz sweep).free = s.free ∧
    (State.grantGo s p highz sweep).pending = s.pending := by
  simp -implicitDefEqProofs [State.grantGo]

@[simp] theorem tripLink_frame (s : State) (p : PortId) :
    (State.tripLink s p).hub = s.hub ∧
    (State.tripLink s p).clk = s.clk ∧
    (State.tripLink s p).sluice = s.sluice ∧
    (State.tripLink s p).boot = s.boot ∧
    (State.tripLink s p).flash = s.flash ∧
    (State.tripLink s p).sec = s.sec ∧
    (State.tripLink s p).tel = s.tel ∧
    (State.tripLink s p).chans = s.chans ∧
    (State.tripLink s p).mbxMem = s.mbxMem ∧
    (State.tripLink s p).now = s.now ∧
    (State.tripLink s p).free = s.free ∧
    (State.tripLink s p).pending = s.pending := by
  unfold State.tripLink; (try dsimp only); (repeat' split) <;> (try simp_all -implicitDefEqProofs)

@[simp] theorem tripPort_frame (s : State) (p : PortId) :
    (State.tripPort s p).hub = s.hub ∧
    (State.tripPort s p).clk = s.clk ∧
    (State.tripPort s p).sluice = s.sluice ∧
    (State.tripPort s p).boot = s.boot ∧
    (State.tripPort s p).flash = s.flash ∧
    (State.tripPort s p).sec = s.sec ∧
    (State.tripPort s p).tel = s.tel ∧
    (State.tripPort s p).chans = s.chans ∧
    (State.tripPort s p).mbxMem = s.mbxMem ∧
    (State.tripPort s p).now = s.now ∧
    (State.tripPort s p).free = s.free ∧
    (State.tripPort s p).pending = s.pending := by
  unfold State.tripPort; (try dsimp only); (repeat' split) <;> (try simp_all -implicitDefEqProofs)

@[simp] theorem tripSpring_frame (s : State) (p : PortId) :
    (State.tripSpring s p).hub = s.hub ∧
    (State.tripSpring s p).clk = s.clk ∧
    (State.tripSpring s p).sluice = s.sluice ∧
    (State.tripSpring s p).boot = s.boot ∧
    (State.tripSpring s p).flash = s.flash ∧
    (State.tripSpring s p).sec = s.sec ∧
    (State.tripSpring s p).tel = s.tel ∧
    (State.tripSpring s p).chans = s.chans ∧
    (State.tripSpring s p).mbxMem = s.mbxMem ∧
    (State.tripSpring s p).now = s.now ∧
    (State.tripSpring s p).free = s.free ∧
    (State.tripSpring s p).pending = s.pending := by
  simp -implicitDefEqProofs [State.tripSpring]

@[simp] theorem tripBed_frame (s : State) (b : BedId) :
    (State.tripBed s b).pins = s.pins ∧
    (State.tripBed s b).clk = s.clk ∧
    (State.tripBed s b).sluice = s.sluice ∧
    (State.tripBed s b).boot = s.boot ∧
    (State.tripBed s b).flash = s.flash ∧
    (State.tripBed s b).sec = s.sec ∧
    (State.tripBed s b).tel = s.tel ∧
    (State.tripBed s b).chans = s.chans ∧
    (State.tripBed s b).mbxMem = s.mbxMem ∧
    (State.tripBed s b).rings = s.rings ∧
    (State.tripBed s b).hostMem = s.hostMem ∧
    (State.tripBed s b).now = s.now ∧
    (State.tripBed s b).free = s.free ∧
    (State.tripBed s b).pending = s.pending := by
  simp -implicitDefEqProofs [State.tripBed]

@[simp] theorem relockBed_frame (s : State) (b : BedId) :
    (State.relockBed s b).pins = s.pins ∧
    (State.relockBed s b).hub = s.hub ∧
    (State.relockBed s b).clk = s.clk ∧
    (State.relockBed s b).sluice = s.sluice ∧
    (State.relockBed s b).boot = s.boot ∧
    (State.relockBed s b).flash = s.flash ∧
    (State.relockBed s b).sec = s.sec ∧
    (State.relockBed s b).tel = s.tel ∧
    (State.relockBed s b).chans = s.chans ∧
    (State.relockBed s b).mbxMem = s.mbxMem ∧
    (State.relockBed s b).rings = s.rings ∧
    (State.relockBed s b).hostMem = s.hostMem ∧
    (State.relockBed s b).ports = s.ports ∧
    (State.relockBed s b).lanes = s.lanes ∧
    (State.relockBed s b).now = s.now ∧
    (State.relockBed s b).free = s.free ∧
    (State.relockBed s b).pending = s.pending := by
  simp -implicitDefEqProofs [State.relockBed]

@[simp] theorem lineRelease_frame (s : State) (p : PortId) :
    (State.lineRelease s p).pins = s.pins ∧
    (State.lineRelease s p).hub = s.hub ∧
    (State.lineRelease s p).clk = s.clk ∧
    (State.lineRelease s p).sluice = s.sluice ∧
    (State.lineRelease s p).boot = s.boot ∧
    (State.lineRelease s p).flash = s.flash ∧
    (State.lineRelease s p).sec = s.sec ∧
    (State.lineRelease s p).tel = s.tel ∧
    (State.lineRelease s p).chans = s.chans ∧
    (State.lineRelease s p).mbxMem = s.mbxMem ∧
    (State.lineRelease s p).rings = s.rings ∧
    (State.lineRelease s p).hostMem = s.hostMem ∧
    (State.lineRelease s p).beds = s.beds ∧
    (State.lineRelease s p).lanes = s.lanes ∧
    (State.lineRelease s p).now = s.now ∧
    (State.lineRelease s p).free = s.free ∧
    (State.lineRelease s p).pending = s.pending := by
  simp -implicitDefEqProofs [State.lineRelease]

@[simp] theorem pllLostPort_frame (s : State) (p : PortId) :
    (State.pllLostPort s p).hub = s.hub ∧
    (State.pllLostPort s p).clk = s.clk ∧
    (State.pllLostPort s p).sluice = s.sluice ∧
    (State.pllLostPort s p).boot = s.boot ∧
    (State.pllLostPort s p).flash = s.flash ∧
    (State.pllLostPort s p).sec = s.sec ∧
    (State.pllLostPort s p).tel = s.tel ∧
    (State.pllLostPort s p).chans = s.chans ∧
    (State.pllLostPort s p).mbxMem = s.mbxMem ∧
    (State.pllLostPort s p).now = s.now ∧
    (State.pllLostPort s p).free = s.free ∧
    (State.pllLostPort s p).pending = s.pending := by
  unfold State.pllLostPort; (try dsimp only); (repeat' split) <;> (try simp_all -implicitDefEqProofs)

@[simp] theorem thermalFault_frame (s : State) (b : BedId) :
    (State.thermalFault s b).clk = s.clk ∧
    (State.thermalFault s b).sluice = s.sluice ∧
    (State.thermalFault s b).boot = s.boot ∧
    (State.thermalFault s b).flash = s.flash ∧
    (State.thermalFault s b).tel = s.tel ∧
    (State.thermalFault s b).mbxMem = s.mbxMem ∧
    (State.thermalFault s b).now = s.now ∧
    (State.thermalFault s b).free = s.free ∧
    (State.thermalFault s b).pending = s.pending := by
  simp -implicitDefEqProofs [State.thermalFault]

@[simp] theorem bedTrip_frame (s : State) (b : BedId) :
    (State.bedTrip s b).clk = s.clk ∧
    (State.bedTrip s b).sluice = s.sluice ∧
    (State.bedTrip s b).boot = s.boot ∧
    (State.bedTrip s b).flash = s.flash ∧
    (State.bedTrip s b).tel = s.tel ∧
    (State.bedTrip s b).mbxMem = s.mbxMem ∧
    (State.bedTrip s b).now = s.now ∧
    (State.bedTrip s b).free = s.free ∧
    (State.bedTrip s b).pending = s.pending := by
  simp -implicitDefEqProofs [State.bedTrip]

@[simp] theorem bedSample_frame (s : State) (b : BedId) (v : BitVec 12) :
    (State.bedSample s b v).clk = s.clk ∧
    (State.bedSample s b v).sluice = s.sluice ∧
    (State.bedSample s b v).boot = s.boot ∧
    (State.bedSample s b v).flash = s.flash ∧
    (State.bedSample s b v).tel = s.tel ∧
    (State.bedSample s b v).mbxMem = s.mbxMem ∧
    (State.bedSample s b v).now = s.now ∧
    (State.bedSample s b v).free = s.free ∧
    (State.bedSample s b v).pending = s.pending := by
  simp -implicitDefEqProofs [State.bedSample]

@[simp] theorem tickLoad_frame (s : State) (v : BitVec 64) :
    (State.tickLoad s v).pins = s.pins ∧
    (State.tickLoad s v).hub = s.hub ∧
    (State.tickLoad s v).sluice = s.sluice ∧
    (State.tickLoad s v).boot = s.boot ∧
    (State.tickLoad s v).flash = s.flash ∧
    (State.tickLoad s v).sec = s.sec ∧
    (State.tickLoad s v).tel = s.tel ∧
    (State.tickLoad s v).chans = s.chans ∧
    (State.tickLoad s v).mbxMem = s.mbxMem ∧
    (State.tickLoad s v).rings = s.rings ∧
    (State.tickLoad s v).hostMem = s.hostMem ∧
    (State.tickLoad s v).ports = s.ports ∧
    (State.tickLoad s v).beds = s.beds ∧
    (State.tickLoad s v).lanes = s.lanes ∧
    (State.tickLoad s v).now = s.now ∧
    (State.tickLoad s v).free = s.free ∧
    (State.tickLoad s v).pending = s.pending := by
  simp -implicitDefEqProofs [State.tickLoad]

@[simp] theorem perstStart_frame (s : State) :
    (State.perstStart s).sluice = s.sluice ∧
    (State.perstStart s).flash = s.flash ∧
    (State.perstStart s).tel = s.tel ∧
    (State.perstStart s).chans = s.chans ∧
    (State.perstStart s).mbxMem = s.mbxMem ∧
    (State.perstStart s).rings = s.rings ∧
    (State.perstStart s).hostMem = s.hostMem ∧
    (State.perstStart s).lanes = s.lanes ∧
    (State.perstStart s).now = s.now ∧
    (State.perstStart s).free = s.free ∧
    (State.perstStart s).pending = s.pending := by
  simp -implicitDefEqProofs [State.perstStart]

@[simp] theorem bedRailLost_frame (s : State) (b : BedId) :
    (State.bedRailLost s b).clk = s.clk ∧
    (State.bedRailLost s b).sluice = s.sluice ∧
    (State.bedRailLost s b).boot = s.boot ∧
    (State.bedRailLost s b).flash = s.flash ∧
    (State.bedRailLost s b).tel = s.tel ∧
    (State.bedRailLost s b).mbxMem = s.mbxMem ∧
    (State.bedRailLost s b).now = s.now ∧
    (State.bedRailLost s b).free = s.free ∧
    (State.bedRailLost s b).pending = s.pending := by
  simp -implicitDefEqProofs [State.bedRailLost]

@[simp] theorem noticeWrite_frame (s : State) (c : ChanId) (bs : Bytes) :
    (State.noticeWrite s c bs).pins = s.pins ∧
    (State.noticeWrite s c bs).hub = s.hub ∧
    (State.noticeWrite s c bs).clk = s.clk ∧
    (State.noticeWrite s c bs).sluice = s.sluice ∧
    (State.noticeWrite s c bs).boot = s.boot ∧
    (State.noticeWrite s c bs).flash = s.flash ∧
    (State.noticeWrite s c bs).sec = s.sec ∧
    (State.noticeWrite s c bs).tel = s.tel ∧
    (State.noticeWrite s c bs).chans = s.chans ∧
    (State.noticeWrite s c bs).rings = s.rings ∧
    (State.noticeWrite s c bs).ports = s.ports ∧
    (State.noticeWrite s c bs).beds = s.beds ∧
    (State.noticeWrite s c bs).lanes = s.lanes ∧
    (State.noticeWrite s c bs).now = s.now ∧
    (State.noticeWrite s c bs).free = s.free ∧
    (State.noticeWrite s c bs).pending = s.pending := by
  simp -implicitDefEqProofs [State.noticeWrite]

@[simp] theorem badSizeWrite_frame (s : State) (m : MasterId) :
    (State.badSizeWrite s m).pins = s.pins ∧
    (State.badSizeWrite s m).clk = s.clk ∧
    (State.badSizeWrite s m).sluice = s.sluice ∧
    (State.badSizeWrite s m).boot = s.boot ∧
    (State.badSizeWrite s m).flash = s.flash ∧
    (State.badSizeWrite s m).sec = s.sec ∧
    (State.badSizeWrite s m).tel = s.tel ∧
    (State.badSizeWrite s m).chans = s.chans ∧
    (State.badSizeWrite s m).mbxMem = s.mbxMem ∧
    (State.badSizeWrite s m).rings = s.rings ∧
    (State.badSizeWrite s m).hostMem = s.hostMem ∧
    (State.badSizeWrite s m).ports = s.ports ∧
    (State.badSizeWrite s m).beds = s.beds ∧
    (State.badSizeWrite s m).lanes = s.lanes ∧
    (State.badSizeWrite s m).now = s.now ∧
    (State.badSizeWrite s m).free = s.free ∧
    (State.badSizeWrite s m).pending = s.pending := by
  simp -implicitDefEqProofs [State.badSizeWrite]

@[simp] theorem msixStore_frame (s : State) (m : MasterId) (off : Nat) (v : Word) :
    (State.msixStore s m off v).hub = s.hub ∧
    (State.msixStore s m off v).clk = s.clk ∧
    (State.msixStore s m off v).sluice = s.sluice ∧
    (State.msixStore s m off v).boot = s.boot ∧
    (State.msixStore s m off v).flash = s.flash ∧
    (State.msixStore s m off v).sec = s.sec ∧
    (State.msixStore s m off v).tel = s.tel ∧
    (State.msixStore s m off v).chans = s.chans ∧
    (State.msixStore s m off v).mbxMem = s.mbxMem ∧
    (State.msixStore s m off v).rings = s.rings ∧
    (State.msixStore s m off v).hostMem = s.hostMem ∧
    (State.msixStore s m off v).ports = s.ports ∧
    (State.msixStore s m off v).beds = s.beds ∧
    (State.msixStore s m off v).lanes = s.lanes ∧
    (State.msixStore s m off v).now = s.now ∧
    (State.msixStore s m off v).free = s.free ∧
    (State.msixStore s m off v).pending = s.pending := by
  simp -implicitDefEqProofs [State.msixStore]

@[simp] theorem repairNext_frame (s : State) (b : BedId) :
    (State.repairNext s b).pins = s.pins ∧
    (State.repairNext s b).hub = s.hub ∧
    (State.repairNext s b).clk = s.clk ∧
    (State.repairNext s b).sluice = s.sluice ∧
    (State.repairNext s b).boot = s.boot ∧
    (State.repairNext s b).flash = s.flash ∧
    (State.repairNext s b).sec = s.sec ∧
    (State.repairNext s b).tel = s.tel ∧
    (State.repairNext s b).chans = s.chans ∧
    (State.repairNext s b).mbxMem = s.mbxMem ∧
    (State.repairNext s b).rings = s.rings ∧
    (State.repairNext s b).hostMem = s.hostMem ∧
    (State.repairNext s b).ports = s.ports ∧
    (State.repairNext s b).lanes = s.lanes ∧
    (State.repairNext s b).now = s.now ∧
    (State.repairNext s b).free = s.free ∧
    (State.repairNext s b).pending = s.pending := by
  unfold State.repairNext; (try dsimp only); (repeat' split) <;> (try simp_all -implicitDefEqProofs)

@[simp] theorem flashGo_frame (s : State) (m : MasterId) (op : Nat) (ctl : Word) :
    (State.flashGo s m op ctl).pins = s.pins ∧
    (State.flashGo s m op ctl).clk = s.clk ∧
    (State.flashGo s m op ctl).boot = s.boot ∧
    (State.flashGo s m op ctl).sec = s.sec ∧
    (State.flashGo s m op ctl).tel = s.tel ∧
    (State.flashGo s m op ctl).chans = s.chans ∧
    (State.flashGo s m op ctl).mbxMem = s.mbxMem ∧
    (State.flashGo s m op ctl).rings = s.rings ∧
    (State.flashGo s m op ctl).hostMem = s.hostMem ∧
    (State.flashGo s m op ctl).ports = s.ports ∧
    (State.flashGo s m op ctl).beds = s.beds ∧
    (State.flashGo s m op ctl).lanes = s.lanes ∧
    (State.flashGo s m op ctl).now = s.now ∧
    (State.flashGo s m op ctl).free = s.free ∧
    (State.flashGo s m op ctl).pending = s.pending := by
  unfold State.flashGo; (try dsimp only); (repeat' split) <;> (try simp_all -implicitDefEqProofs)

@[simp] theorem flashDo_frame (s : State) (o : FlashOp) (bad : Bool) :
    (State.flashDo s o bad).pins = s.pins ∧
    (State.flashDo s o bad).hub = s.hub ∧
    (State.flashDo s o bad).clk = s.clk ∧
    (State.flashDo s o bad).sluice = s.sluice ∧
    (State.flashDo s o bad).boot = s.boot ∧
    (State.flashDo s o bad).sec = s.sec ∧
    (State.flashDo s o bad).tel = s.tel ∧
    (State.flashDo s o bad).chans = s.chans ∧
    (State.flashDo s o bad).mbxMem = s.mbxMem ∧
    (State.flashDo s o bad).rings = s.rings ∧
    (State.flashDo s o bad).hostMem = s.hostMem ∧
    (State.flashDo s o bad).ports = s.ports ∧
    (State.flashDo s o bad).beds = s.beds ∧
    (State.flashDo s o bad).lanes = s.lanes ∧
    (State.flashDo s o bad).now = s.now ∧
    (State.flashDo s o bad).pending = s.pending := by
  simp -implicitDefEqProofs [State.flashDo]

@[simp] theorem readEffect_frame (s : State) (m : MasterId) (a : Nat) :
    (State.readEffect s m a).pins = s.pins ∧
    (State.readEffect s m a).hub = s.hub ∧
    (State.readEffect s m a).clk = s.clk ∧
    (State.readEffect s m a).sluice = s.sluice ∧
    (State.readEffect s m a).boot = s.boot ∧
    (State.readEffect s m a).flash = s.flash ∧
    (State.readEffect s m a).sec = s.sec ∧
    (State.readEffect s m a).tel = s.tel ∧
    (State.readEffect s m a).mbxMem = s.mbxMem ∧
    (State.readEffect s m a).rings = s.rings ∧
    (State.readEffect s m a).hostMem = s.hostMem ∧
    (State.readEffect s m a).ports = s.ports ∧
    (State.readEffect s m a).beds = s.beds ∧
    (State.readEffect s m a).lanes = s.lanes ∧
    (State.readEffect s m a).now = s.now ∧
    (State.readEffect s m a).free = s.free ∧
    (State.readEffect s m a).pending = s.pending := by
  simp -implicitDefEqProofs [State.readEffect]

@[simp] theorem applyEntry_frame (s : State) (e : RegEntry) :
    (State.applyEntry s e).boot = s.boot ∧
    (State.applyEntry s e).now = s.now ∧
    (State.applyEntry s e).free = s.free ∧
    (State.applyEntry s e).pending = s.pending := by
  simp -implicitDefEqProofs [State.applyEntry]

@[simp] theorem userPut_frame (s : State) (b : BedId) (entry : Bytes) (payload : Bytes) :
    (State.userPut s b entry payload).hub = s.hub ∧
    (State.userPut s b entry payload).clk = s.clk ∧
    (State.userPut s b entry payload).sluice = s.sluice ∧
    (State.userPut s b entry payload).boot = s.boot ∧
    (State.userPut s b entry payload).flash = s.flash ∧
    (State.userPut s b entry payload).sec = s.sec ∧
    (State.userPut s b entry payload).tel = s.tel ∧
    (State.userPut s b entry payload).chans = s.chans ∧
    (State.userPut s b entry payload).mbxMem = s.mbxMem ∧
    (State.userPut s b entry payload).beds = s.beds ∧
    (State.userPut s b entry payload).lanes = s.lanes ∧
    (State.userPut s b entry payload).now = s.now ∧
    (State.userPut s b entry payload).free = s.free ∧
    (State.userPut s b entry payload).pending = s.pending := by
  simp -implicitDefEqProofs [State.userPut]

@[simp] theorem userGive_frame (s : State) (b : BedId) (u : UserRx) (us : List UserRx) :
    (State.userGive s b u us).hub = s.hub ∧
    (State.userGive s b u us).clk = s.clk ∧
    (State.userGive s b u us).sluice = s.sluice ∧
    (State.userGive s b u us).boot = s.boot ∧
    (State.userGive s b u us).flash = s.flash ∧
    (State.userGive s b u us).sec = s.sec ∧
    (State.userGive s b u us).tel = s.tel ∧
    (State.userGive s b u us).chans = s.chans ∧
    (State.userGive s b u us).mbxMem = s.mbxMem ∧
    (State.userGive s b u us).lanes = s.lanes ∧
    (State.userGive s b u us).now = s.now ∧
    (State.userGive s b u us).free = s.free ∧
    (State.userGive s b u us).pending = s.pending := by
  simp -implicitDefEqProofs [State.userGive]

@[simp] theorem telDrop_frame (s : State) :
    (State.telDrop s).pins = s.pins ∧
    (State.telDrop s).hub = s.hub ∧
    (State.telDrop s).clk = s.clk ∧
    (State.telDrop s).sluice = s.sluice ∧
    (State.telDrop s).boot = s.boot ∧
    (State.telDrop s).flash = s.flash ∧
    (State.telDrop s).sec = s.sec ∧
    (State.telDrop s).chans = s.chans ∧
    (State.telDrop s).mbxMem = s.mbxMem ∧
    (State.telDrop s).hostMem = s.hostMem ∧
    (State.telDrop s).ports = s.ports ∧
    (State.telDrop s).beds = s.beds ∧
    (State.telDrop s).lanes = s.lanes ∧
    (State.telDrop s).now = s.now ∧
    (State.telDrop s).free = s.free ∧
    (State.telDrop s).pending = s.pending := by
  simp -implicitDefEqProofs [State.telDrop]

@[simp] theorem telApply_frame (s : State) :
    (State.telApply s).pins = s.pins ∧
    (State.telApply s).hub = s.hub ∧
    (State.telApply s).clk = s.clk ∧
    (State.telApply s).sluice = s.sluice ∧
    (State.telApply s).boot = s.boot ∧
    (State.telApply s).flash = s.flash ∧
    (State.telApply s).sec = s.sec ∧
    (State.telApply s).chans = s.chans ∧
    (State.telApply s).mbxMem = s.mbxMem ∧
    (State.telApply s).rings = s.rings ∧
    (State.telApply s).hostMem = s.hostMem ∧
    (State.telApply s).ports = s.ports ∧
    (State.telApply s).beds = s.beds ∧
    (State.telApply s).lanes = s.lanes ∧
    (State.telApply s).now = s.now ∧
    (State.telApply s).free = s.free ∧
    (State.telApply s).pending = s.pending := by
  unfold State.telApply; (try dsimp only); (repeat' split) <;> (try simp_all -implicitDefEqProofs)

@[simp] theorem telDue_frame (s : State) :
    (State.telDue s).hub = s.hub ∧
    (State.telDue s).clk = s.clk ∧
    (State.telDue s).sluice = s.sluice ∧
    (State.telDue s).boot = s.boot ∧
    (State.telDue s).flash = s.flash ∧
    (State.telDue s).sec = s.sec ∧
    (State.telDue s).chans = s.chans ∧
    (State.telDue s).mbxMem = s.mbxMem ∧
    (State.telDue s).lanes = s.lanes ∧
    (State.telDue s).now = s.now ∧
    (State.telDue s).free = s.free ∧
    (State.telDue s).pending = s.pending := by
  simp -implicitDefEqProofs [State.telDue]

@[simp] theorem sampReload_frame (s : State) (p : PortId) (rx : Bool) :
    (State.sampReload s p rx).pins = s.pins ∧
    (State.sampReload s p rx).hub = s.hub ∧
    (State.sampReload s p rx).clk = s.clk ∧
    (State.sampReload s p rx).sluice = s.sluice ∧
    (State.sampReload s p rx).boot = s.boot ∧
    (State.sampReload s p rx).flash = s.flash ∧
    (State.sampReload s p rx).sec = s.sec ∧
    (State.sampReload s p rx).tel = s.tel ∧
    (State.sampReload s p rx).chans = s.chans ∧
    (State.sampReload s p rx).mbxMem = s.mbxMem ∧
    (State.sampReload s p rx).rings = s.rings ∧
    (State.sampReload s p rx).hostMem = s.hostMem ∧
    (State.sampReload s p rx).lanes = s.lanes ∧
    (State.sampReload s p rx).now = s.now ∧
    (State.sampReload s p rx).free = s.free ∧
    (State.sampReload s p rx).pending = s.pending := by
  simp -implicitDefEqProofs [State.sampReload]

@[simp] theorem sampSet_frame (s : State) (b : BedId) (k : Byte) :
    (State.sampSet s b k).pins = s.pins ∧
    (State.sampSet s b k).hub = s.hub ∧
    (State.sampSet s b k).clk = s.clk ∧
    (State.sampSet s b k).sluice = s.sluice ∧
    (State.sampSet s b k).boot = s.boot ∧
    (State.sampSet s b k).flash = s.flash ∧
    (State.sampSet s b k).sec = s.sec ∧
    (State.sampSet s b k).tel = s.tel ∧
    (State.sampSet s b k).chans = s.chans ∧
    (State.sampSet s b k).mbxMem = s.mbxMem ∧
    (State.sampSet s b k).rings = s.rings ∧
    (State.sampSet s b k).hostMem = s.hostMem ∧
    (State.sampSet s b k).lanes = s.lanes ∧
    (State.sampSet s b k).now = s.now ∧
    (State.sampSet s b k).free = s.free ∧
    (State.sampSet s b k).pending = s.pending := by
  simp -implicitDefEqProofs [State.sampSet]

@[simp] theorem cntSet_frame (s : State) (p : PortId) (i : Nat) (v : BitVec 48) :
    (State.cntSet s p i v).pins = s.pins ∧
    (State.cntSet s p i v).hub = s.hub ∧
    (State.cntSet s p i v).clk = s.clk ∧
    (State.cntSet s p i v).sluice = s.sluice ∧
    (State.cntSet s p i v).boot = s.boot ∧
    (State.cntSet s p i v).flash = s.flash ∧
    (State.cntSet s p i v).sec = s.sec ∧
    (State.cntSet s p i v).tel = s.tel ∧
    (State.cntSet s p i v).chans = s.chans ∧
    (State.cntSet s p i v).mbxMem = s.mbxMem ∧
    (State.cntSet s p i v).rings = s.rings ∧
    (State.cntSet s p i v).hostMem = s.hostMem ∧
    (State.cntSet s p i v).beds = s.beds ∧
    (State.cntSet s p i v).now = s.now ∧
    (State.cntSet s p i v).free = s.free ∧
    (State.cntSet s p i v).pending = s.pending := by
  unfold State.cntSet; (try dsimp only); (repeat' split) <;> (try simp_all -implicitDefEqProofs)

@[simp] theorem fpLoad_frame (s : State) (p : PortId) (f : Bytes) :
    (State.fpLoad s p f).pins = s.pins ∧
    (State.fpLoad s p f).hub = s.hub ∧
    (State.fpLoad s p f).clk = s.clk ∧
    (State.fpLoad s p f).sluice = s.sluice ∧
    (State.fpLoad s p f).boot = s.boot ∧
    (State.fpLoad s p f).flash = s.flash ∧
    (State.fpLoad s p f).sec = s.sec ∧
    (State.fpLoad s p f).tel = s.tel ∧
    (State.fpLoad s p f).chans = s.chans ∧
    (State.fpLoad s p f).mbxMem = s.mbxMem ∧
    (State.fpLoad s p f).rings = s.rings ∧
    (State.fpLoad s p f).hostMem = s.hostMem ∧
    (State.fpLoad s p f).beds = s.beds ∧
    (State.fpLoad s p f).lanes = s.lanes ∧
    (State.fpLoad s p f).now = s.now ∧
    (State.fpLoad s p f).free = s.free ∧
    (State.fpLoad s p f).pending = s.pending := by
  simp -implicitDefEqProofs [State.fpLoad]

@[simp] theorem calRunBed_frame (s : State) (k : CmdKey) (b : BedId) (g : BitVec 4) :
    (State.calRunBed s k b g).clk = s.clk ∧
    (State.calRunBed s k b g).sluice = s.sluice ∧
    (State.calRunBed s k b g).boot = s.boot ∧
    (State.calRunBed s k b g).flash = s.flash ∧
    (State.calRunBed s k b g).sec = s.sec ∧
    (State.calRunBed s k b g).tel = s.tel ∧
    (State.calRunBed s k b g).chans = s.chans ∧
    (State.calRunBed s k b g).mbxMem = s.mbxMem ∧
    (State.calRunBed s k b g).now = s.now ∧
    (State.calRunBed s k b g).free = s.free ∧
    (State.calRunBed s k b g).pending = s.pending := by
  simp -implicitDefEqProofs [State.calRunBed]

@[simp] theorem calRunDevice_frame (s : State) (k : CmdKey) (g : BitVec 4) :
    (State.calRunDevice s k g).clk = s.clk ∧
    (State.calRunDevice s k g).sluice = s.sluice ∧
    (State.calRunDevice s k g).boot = s.boot ∧
    (State.calRunDevice s k g).flash = s.flash ∧
    (State.calRunDevice s k g).sec = s.sec ∧
    (State.calRunDevice s k g).tel = s.tel ∧
    (State.calRunDevice s k g).chans = s.chans ∧
    (State.calRunDevice s k g).mbxMem = s.mbxMem ∧
    (State.calRunDevice s k g).now = s.now ∧
    (State.calRunDevice s k g).free = s.free ∧
    (State.calRunDevice s k g).pending = s.pending := by
  simp -implicitDefEqProofs [State.calRunDevice]

@[simp] theorem startCalEnd_frame (s : State) :
    (State.startCalEnd s).hub = s.hub ∧
    (State.startCalEnd s).clk = s.clk ∧
    (State.startCalEnd s).sluice = s.sluice ∧
    (State.startCalEnd s).sec = s.sec ∧
    (State.startCalEnd s).tel = s.tel ∧
    (State.startCalEnd s).chans = s.chans ∧
    (State.startCalEnd s).mbxMem = s.mbxMem ∧
    (State.startCalEnd s).rings = s.rings ∧
    (State.startCalEnd s).hostMem = s.hostMem ∧
    (State.startCalEnd s).beds = s.beds ∧
    (State.startCalEnd s).lanes = s.lanes ∧
    (State.startCalEnd s).now = s.now ∧
    (State.startCalEnd s).pending = s.pending := by
  simp -implicitDefEqProofs [State.startCalEnd]

@[simp] theorem bistGo_frame (s : State) (k : CmdKey) (kinds : Byte) (bs : List BedId) :
    (State.bistGo s k kinds bs).clk = s.clk ∧
    (State.bistGo s k kinds bs).sluice = s.sluice ∧
    (State.bistGo s k kinds bs).boot = s.boot ∧
    (State.bistGo s k kinds bs).flash = s.flash ∧
    (State.bistGo s k kinds bs).sec = s.sec ∧
    (State.bistGo s k kinds bs).tel = s.tel ∧
    (State.bistGo s k kinds bs).chans = s.chans ∧
    (State.bistGo s k kinds bs).mbxMem = s.mbxMem ∧
    (State.bistGo s k kinds bs).now = s.now ∧
    (State.bistGo s k kinds bs).free = s.free ∧
    (State.bistGo s k kinds bs).pending = s.pending := by
  simp -implicitDefEqProofs [State.bistGo]

@[simp] theorem hubKindStop_frame (s : State) (o : BistObs) :
    (State.hubKindStop s o).hub = s.hub ∧
    (State.hubKindStop s o).clk = s.clk ∧
    (State.hubKindStop s o).sluice = s.sluice ∧
    (State.hubKindStop s o).sec = s.sec ∧
    (State.hubKindStop s o).tel = s.tel ∧
    (State.hubKindStop s o).chans = s.chans ∧
    (State.hubKindStop s o).mbxMem = s.mbxMem ∧
    (State.hubKindStop s o).rings = s.rings ∧
    (State.hubKindStop s o).hostMem = s.hostMem ∧
    (State.hubKindStop s o).beds = s.beds ∧
    (State.hubKindStop s o).lanes = s.lanes ∧
    (State.hubKindStop s o).now = s.now ∧
    (State.hubKindStop s o).pending = s.pending := by
  unfold State.hubKindStop; (try dsimp only); (repeat' split) <;> (try simp_all -implicitDefEqProofs)

@[simp] theorem bedKindStop_frame (s : State) (b : BedId) (o : BistObs) :
    (State.bedKindStop s b o).hub = s.hub ∧
    (State.bedKindStop s b o).clk = s.clk ∧
    (State.bedKindStop s b o).sluice = s.sluice ∧
    (State.bedKindStop s b o).sec = s.sec ∧
    (State.bedKindStop s b o).tel = s.tel ∧
    (State.bedKindStop s b o).chans = s.chans ∧
    (State.bedKindStop s b o).mbxMem = s.mbxMem ∧
    (State.bedKindStop s b o).rings = s.rings ∧
    (State.bedKindStop s b o).hostMem = s.hostMem ∧
    (State.bedKindStop s b o).lanes = s.lanes ∧
    (State.bedKindStop s b o).now = s.now ∧
    (State.bedKindStop s b o).pending = s.pending := by
  unfold State.bedKindStop; (try dsimp only); (repeat' split) <;> (try simp_all -implicitDefEqProofs)

@[simp] theorem repairBed_frame (s : State) (k : CmdKey) (b : BedId) :
    (State.repairBed s k b).pins = s.pins ∧
    (State.repairBed s k b).hub = s.hub ∧
    (State.repairBed s k b).clk = s.clk ∧
    (State.repairBed s k b).sluice = s.sluice ∧
    (State.repairBed s k b).boot = s.boot ∧
    (State.repairBed s k b).flash = s.flash ∧
    (State.repairBed s k b).sec = s.sec ∧
    (State.repairBed s k b).tel = s.tel ∧
    (State.repairBed s k b).chans = s.chans ∧
    (State.repairBed s k b).mbxMem = s.mbxMem ∧
    (State.repairBed s k b).rings = s.rings ∧
    (State.repairBed s k b).hostMem = s.hostMem ∧
    (State.repairBed s k b).ports = s.ports ∧
    (State.repairBed s k b).lanes = s.lanes ∧
    (State.repairBed s k b).now = s.now ∧
    (State.repairBed s k b).free = s.free ∧
    (State.repairBed s k b).pending = s.pending := by
  simp -implicitDefEqProofs [State.repairBed]

@[simp] theorem chunkBegin_frame (s : State) (k : CmdKey) (g : Staging) (offset : Nat) (data : Bytes) (last : Bool) :
    (State.chunkBegin s k g offset data last).pins = s.pins ∧
    (State.chunkBegin s k g offset data last).hub = s.hub ∧
    (State.chunkBegin s k g offset data last).clk = s.clk ∧
    (State.chunkBegin s k g offset data last).sluice = s.sluice ∧
    (State.chunkBegin s k g offset data last).boot = s.boot ∧
    (State.chunkBegin s k g offset data last).sec = s.sec ∧
    (State.chunkBegin s k g offset data last).tel = s.tel ∧
    (State.chunkBegin s k g offset data last).chans = s.chans ∧
    (State.chunkBegin s k g offset data last).mbxMem = s.mbxMem ∧
    (State.chunkBegin s k g offset data last).rings = s.rings ∧
    (State.chunkBegin s k g offset data last).hostMem = s.hostMem ∧
    (State.chunkBegin s k g offset data last).ports = s.ports ∧
    (State.chunkBegin s k g offset data last).beds = s.beds ∧
    (State.chunkBegin s k g offset data last).lanes = s.lanes ∧
    (State.chunkBegin s k g offset data last).now = s.now ∧
    (State.chunkBegin s k g offset data last).free = s.free ∧
    (State.chunkBegin s k g offset data last).pending = s.pending := by
  simp -implicitDefEqProofs [State.chunkBegin]

@[simp] theorem stageChunk_frame (s : State) (k : CmdKey) (first : Bool) (last : Bool) (offset : Nat) (data : Bytes) :
    (State.stageChunk s k first last offset data).pins = s.pins ∧
    (State.stageChunk s k first last offset data).hub = s.hub ∧
    (State.stageChunk s k first last offset data).clk = s.clk ∧
    (State.stageChunk s k first last offset data).sluice = s.sluice ∧
    (State.stageChunk s k first last offset data).boot = s.boot ∧
    (State.stageChunk s k first last offset data).tel = s.tel ∧
    (State.stageChunk s k first last offset data).chans = s.chans ∧
    (State.stageChunk s k first last offset data).mbxMem = s.mbxMem ∧
    (State.stageChunk s k first last offset data).rings = s.rings ∧
    (State.stageChunk s k first last offset data).hostMem = s.hostMem ∧
    (State.stageChunk s k first last offset data).ports = s.ports ∧
    (State.stageChunk s k first last offset data).beds = s.beds ∧
    (State.stageChunk s k first last offset data).lanes = s.lanes ∧
    (State.stageChunk s k first last offset data).now = s.now ∧
    (State.stageChunk s k first last offset data).free = s.free ∧
    (State.stageChunk s k first last offset data).pending = s.pending := by
  unfold State.stageChunk; (try dsimp only); (repeat' split) <;> (try simp_all -implicitDefEqProofs)

@[simp] theorem stageLast_frame (s : State) (k : CmdKey) (g : Staging) :
    (State.stageLast s k g).pins = s.pins ∧
    (State.stageLast s k g).hub = s.hub ∧
    (State.stageLast s k g).clk = s.clk ∧
    (State.stageLast s k g).sluice = s.sluice ∧
    (State.stageLast s k g).boot = s.boot ∧
    (State.stageLast s k g).tel = s.tel ∧
    (State.stageLast s k g).chans = s.chans ∧
    (State.stageLast s k g).mbxMem = s.mbxMem ∧
    (State.stageLast s k g).rings = s.rings ∧
    (State.stageLast s k g).hostMem = s.hostMem ∧
    (State.stageLast s k g).ports = s.ports ∧
    (State.stageLast s k g).beds = s.beds ∧
    (State.stageLast s k g).lanes = s.lanes ∧
    (State.stageLast s k g).now = s.now ∧
    (State.stageLast s k g).pending = s.pending := by
  simp -implicitDefEqProofs [State.stageLast]

@[simp] theorem activate_frame (s : State) (k : CmdKey) (slotB : Bool) (restart : Bool) :
    (State.activate s k slotB restart).mbxMem = s.mbxMem ∧
    (State.activate s k slotB restart).now = s.now ∧
    (State.activate s k slotB restart).pending = s.pending := by
  simp -implicitDefEqProofs [State.activate]

@[simp] theorem scanOpen_frame (s : State) (k : CmdKey) :
    (State.scanOpen s k).clk = s.clk ∧
    (State.scanOpen s k).sluice = s.sluice ∧
    (State.scanOpen s k).boot = s.boot ∧
    (State.scanOpen s k).flash = s.flash ∧
    (State.scanOpen s k).sec = s.sec ∧
    (State.scanOpen s k).tel = s.tel ∧
    (State.scanOpen s k).chans = s.chans ∧
    (State.scanOpen s k).mbxMem = s.mbxMem ∧
    (State.scanOpen s k).beds = s.beds ∧
    (State.scanOpen s k).now = s.now ∧
    (State.scanOpen s k).free = s.free ∧
    (State.scanOpen s k).pending = s.pending := by
  simp -implicitDefEqProofs [State.scanOpen]

@[simp] theorem unlock_frame (s : State) (k : CmdKey) (len : Nat) (token : Bytes) :
    (State.unlock s k len token).clk = s.clk ∧
    (State.unlock s k len token).sluice = s.sluice ∧
    (State.unlock s k len token).boot = s.boot ∧
    (State.unlock s k len token).flash = s.flash ∧
    (State.unlock s k len token).tel = s.tel ∧
    (State.unlock s k len token).chans = s.chans ∧
    (State.unlock s k len token).mbxMem = s.mbxMem ∧
    (State.unlock s k len token).beds = s.beds ∧
    (State.unlock s k len token).now = s.now ∧
    (State.unlock s k len token).free = s.free ∧
    (State.unlock s k len token).pending = s.pending := by
  simp -implicitDefEqProofs [State.unlock]

@[simp] theorem tickOn_frame (s : State) :
    (State.tickOn s).pins = s.pins ∧
    (State.tickOn s).hub = s.hub ∧
    (State.tickOn s).sluice = s.sluice ∧
    (State.tickOn s).boot = s.boot ∧
    (State.tickOn s).flash = s.flash ∧
    (State.tickOn s).sec = s.sec ∧
    (State.tickOn s).tel = s.tel ∧
    (State.tickOn s).chans = s.chans ∧
    (State.tickOn s).mbxMem = s.mbxMem ∧
    (State.tickOn s).rings = s.rings ∧
    (State.tickOn s).hostMem = s.hostMem ∧
    (State.tickOn s).lanes = s.lanes ∧
    (State.tickOn s).pending = s.pending := by
  simp -implicitDefEqProofs [State.tickOn]

end Sys2Proof.Machine
end

