-- ==== Sys2Proof/Laws/Memory.lean ====
section
/-! SUPPORT.
The memories: reading after writing, and the canonical form that every memory operation keeps. -/

namespace Sys2Proof.Machine

/-- Every cell of a memory lies above an address. -/
def Memory.above (a : Nat) (m : Mem) : Prop := ∀ c ∈ m, a < c.1

theorem wf_cons (d : Byte) (c : Host.Cell) (m : Mem) :
    Memory.wf d (c :: m) = true ↔ c.2 ≠ d ∧ Memory.above c.1 m ∧ Memory.wf d m = true := by
  induction m generalizing c with
  | nil => simp [Memory.wf, Memory.above]
  | cons x xs ih =>
    have hx := ih x
    constructor
    · intro h
      simp only [Memory.wf, Bool.and_eq_true, bne_iff_ne, ne_eq, decide_eq_true_eq] at h
      obtain ⟨⟨h1, h2⟩, h3⟩ := h
      refine ⟨h1, ?_, h3⟩
      intro y hy
      rcases List.mem_cons.1 hy with rfl | hy
      · exact h2
      · exact lt_trans h2 ((hx.1 h3).2.1 y hy)
    · rintro ⟨h1, h2, h3⟩
      have := h2 x (by simp)
      simp [Memory.wf, h1, this, h3]

theorem memWrite_above (d : Byte) (m : Mem) (a b : Nat) (v : Byte) (h : Memory.above b m)
    (hb : b < a) : Memory.above b (memWrite d m a v) := by
  induction m with
  | nil =>
    by_cases hv : v = d <;> simp [memWrite, Memory.above, hv, hb]
  | cons c cs ih =>
    have hc : b < c.1 := h c (by simp)
    have ht : Memory.above b cs := fun x hx => h x (by simp [hx])
    intro x hx
    simp only [memWrite] at hx
    split at hx
    · rcases List.mem_cons.1 hx with rfl | hx
      · exact hc
      · exact ih ht x hx
    · split at hx
      · split at hx
        · exact ht x hx
        · rcases List.mem_cons.1 hx with rfl | hx
          · exact hb
          · exact ht x hx
      · split at hx
        · exact h x hx
        · rcases List.mem_cons.1 hx with rfl | hx
          · exact hb
          · exact h x hx

/-- A write keeps the canonical form. -/
theorem memWrite_wf (d : Byte) (m : Mem) (a : Nat) (v : Byte) (h : Memory.wf d m = true) :
    Memory.wf d (memWrite d m a v) = true := by
  induction m with
  | nil => by_cases hv : v = d <;> simp [memWrite, Memory.wf, hv]
  | cons c cs ih =>
    obtain ⟨h1, h2, h3⟩ := (wf_cons d c cs).1 h
    simp only [memWrite]
    split
    · rename_i hlt
      exact (wf_cons d c _).2 ⟨h1, memWrite_above d cs a c.1 v h2 hlt, ih h3⟩
    · split
      · rename_i heq
        split
        · exact h3
        · rename_i hv
          exact (wf_cons d _ _).2 ⟨hv, by simpa [heq] using h2, h3⟩
      · rename_i h4 h5
        split
        · exact h
        · rename_i hv
          refine (wf_cons d _ _).2 ⟨hv, ?_, h⟩
          have hac : a < c.1 := by omega
          intro x hx
          rcases List.mem_cons.1 hx with rfl | hx
          · exact hac
          · exact lt_trans hac (h2 x hx)

theorem memRead_above (d : Byte) (m : Mem) (a : Nat) (h : Memory.above a m) : memRead d m a = d := by
  induction m with
  | nil => rfl
  | cons c cs ih =>
    have hc : a < c.1 := h c (by simp)
    simp only [memRead]
    rw [if_neg (by omega)]
    exact ih fun x hx => h x (by simp [hx])

/-- A read after a write to the same address gives the value written. -/
theorem memRead_memWrite_self (d : Byte) (m : Mem) (a : Nat) (v : Byte) (h : Memory.wf d m = true) :
    memRead d (memWrite d m a v) a = v := by
  induction m with
  | nil => by_cases hv : v = d <;> simp [memWrite, memRead, hv]
  | cons c cs ih =>
    obtain ⟨-, h2, h3⟩ := (wf_cons d c cs).1 h
    simp only [memWrite]
    split
    · simp only [memRead]
      rw [if_neg (by omega)]
      exact ih h3
    · split
      · rename_i heq
        split
        · rename_i hv
          rw [memRead_above d cs a (by simpa [heq] using h2), hv]
        · simp [memRead]
      · rename_i h4 h5
        split
        · rename_i hv
          simp only [memRead]
          rw [if_neg h5, hv]
          exact memRead_above d cs a fun x hx => by have := h2 x hx; omega
        · simp [memRead]

/-- A write leaves every other address alone. -/
theorem memRead_memWrite_ne (d : Byte) (m : Mem) (a b : Nat) (v : Byte) (h : b ≠ a) :
    memRead d (memWrite d m a v) b = memRead d m b := by
  induction m with
  | nil => by_cases hv : v = d <;> simp [memWrite, memRead, hv, Ne.symm h]
  | cons c cs ih =>
    simp only [memWrite]
    split
    · simp only [memRead, ih]
    · split
      · rename_i heq
        split
        · simp only [memRead]
          rw [if_neg (by omega)]
        · simp only [memRead]
          rw [if_neg (Ne.symm h), if_neg (by omega)]
      · split
        · rfl
        · simp only [memRead]
          rw [if_neg (Ne.symm h)]

/-- Writing a string of bytes keeps the canonical form. -/
theorem memWriteBytes_wf (d : Byte) (bs : Bytes) (m : Mem) (a : Nat) (h : Memory.wf d m = true) :
    Memory.wf d (memWriteBytes d m a bs) = true := by
  induction bs generalizing m a with
  | nil => exact h
  | cons b rest ih => exact ih _ _ (memWrite_wf d m a b h)

/-- Writing a string of bytes leaves every address outside it alone. -/
theorem memRead_memWriteBytes_out (d : Byte) (bs : Bytes) (m : Mem) (a x : Nat)
    (h : x < a ∨ a + bs.length ≤ x) : memRead d (memWriteBytes d m a bs) x = memRead d m x := by
  induction bs generalizing m a with
  | nil => rfl
  | cons b rest ih =>
    simp only [List.length_cons] at h
    simp only [memWriteBytes]
    rw [ih _ _ (by omega), memRead_memWrite_ne d m a x b (by omega)]

/-- A read after writing a string of bytes gives the string's byte. -/
theorem memRead_memWriteBytes_in (d : Byte) (bs : Bytes) (m : Mem) (a i : Nat)
    (hm : Memory.wf d m = true) (h : i < bs.length) :
    memRead d (memWriteBytes d m a bs) (a + i) = bs.getD i 0 := by
  induction bs generalizing m a i with
  | nil => simp at h
  | cons b rest ih =>
    simp only [memWriteBytes]
    cases i with
    | zero =>
      rw [memRead_memWriteBytes_out d rest _ (a + 1) (a + 0) (by omega)]
      simpa using memRead_memWrite_self d m a b hm
    | succ n =>
      have := ih (memWrite d m a b) (a + 1) n (memWrite_wf d m a b hm) (by simpa using h)
      rw [show a + (n + 1) = a + 1 + n by omega]
      simpa using this

theorem filter_above (p : Host.Cell → Bool) (a : Nat) (m : Mem) (h : Memory.above a m) :
    Memory.above a (m.filter p) := fun x hx => h x (List.mem_filter.1 hx).1

theorem filter_wf (d : Byte) (p : Host.Cell → Bool) (m : Mem) (h : Memory.wf d m = true) :
    Memory.wf d (m.filter p) = true := by
  induction m with
  | nil => rfl
  | cons c cs ih =>
    obtain ⟨h1, h2, h3⟩ := (wf_cons d c cs).1 h
    rw [List.filter_cons]
    split
    · exact (wf_cons d c _).2 ⟨h1, filter_above p c.1 cs h2, ih h3⟩
    · exact ih h3

/-- An erase keeps the canonical form. -/
theorem memErase_wf (d : Byte) (m : Mem) (a n : Nat) (h : Memory.wf d m = true) :
    Memory.wf d (memErase m a n) = true := filter_wf d _ m h

/-- An erased address reads as an unlisted one. -/
theorem memRead_memErase_in (d : Byte) (m : Mem) (a n x : Nat) (h : a ≤ x ∧ x < a + n) :
    memRead d (memErase m a n) x = d := by
  induction m with
  | nil => rfl
  | cons c cs ih =>
    simp only [memErase, List.filter_cons]
    split
    · rename_i hp
      simp only [memRead]
      rw [if_neg (by
        simp only [Bool.or_eq_true, decide_eq_true_eq] at hp
        omega)]
      exact ih
    · exact ih

/-- An erase leaves every other address alone. -/
theorem memRead_memErase_out (d : Byte) (m : Mem) (a n x : Nat) (h : x < a ∨ a + n ≤ x) :
    memRead d (memErase m a n) x = memRead d m x := by
  induction m with
  | nil => rfl
  | cons c cs ih =>
    simp only [memErase, List.filter_cons] at ih ⊢
    split
    · simp only [memRead, ih]
    · rename_i hp
      have hc : c.1 ≠ x := by
        intro e
        simp only [Bool.or_eq_true, decide_eq_true_eq, not_or, Nat.not_lt, Nat.not_le] at hp
        omega
      simp only [memRead]
      rw [if_neg hc]
      exact ih

/-- A write by the device keeps host memory canonical. -/
theorem hostWrite_wf (s : State) (a : Nat) (bs : Bytes) (h : Memory.wf 0 s.hostMem = true) :
    Memory.wf 0 (s.hostWrite a bs).hostMem = true := memWriteBytes_wf 0 bs s.hostMem a h

/-- A flash write keeps flash canonical. -/
theorem flashWrite_wf (s : State) (a : Nat) (bs : Bytes) (h : Memory.wf 0xFF s.flash.mem = true) :
    Memory.wf 0xFF (s.flashWrite a bs).flash.mem = true := memWriteBytes_wf 0xFF bs s.flash.mem a h

/-- A flash erase keeps flash canonical. -/
theorem flashErase_wf (s : State) (a n : Nat) (h : Memory.wf 0xFF s.flash.mem = true) :
    Memory.wf 0xFF (s.flashErase a n).flash.mem = true := memErase_wf 0xFF s.flash.mem a n h

/-- Memory after reset lists nothing. -/
theorem reset_memory_wf : Memory.wf 0 State.reset.hostMem = true ∧
    Memory.wf 0 State.reset.mbxMem = true ∧ Memory.wf 0xFF State.reset.flash.mem = true :=
  ⟨rfl, rfl, rfl⟩

end Sys2Proof.Machine
end

