-- ==== Sys2Proof/Laws/MemOk.lean ====
section
/-! SUPPORT.
Every operation that writes host memory (H), mailbox memory (M) or flash (F) keeps its canonical
form. -/

namespace Sys2Proof.Machine

@[simp] theorem ramOk_ite (c : Prop) [Decidable c] (a b : Mem) :
    ramOk (if c then a else b) = if c then ramOk a else ramOk b := by split <;> rfl
@[simp] theorem flashOk_ite (c : Prop) [Decidable c] (a b : Mem) :
    flashOk (if c then a else b) = if c then flashOk a else flashOk b := by split <;> rfl
@[simp] theorem ramOk_nil : ramOk [] = true := rfl
@[simp] theorem flashOk_nil : flashOk [] = true := rfl
@[simp] theorem ite_both (c : Prop) [Decidable c] (P Q : Prop) (hp : P) (hq : Q) :
    (if c then P else Q) = True := by split <;> simp [hp, hq]
@[simp] theorem reset_hostMem : State.reset.hostMem = [] := rfl
@[simp] theorem reset_mbxMem : State.reset.mbxMem = [] := rfl
@[simp] theorem reset_flashMem : State.reset.flash.mem = [] := rfl
@[simp] theorem flash_ite_mem (c : Prop) [Decidable c] (a b : Flash) :
    (if c then a else b).mem = if c then a.mem else b.mem := by split <;> rfl

@[simp] theorem forAll_wfH {α : Type} (xs : List α) (g : α → State → State) (s : State)
    (hs : ramOk s.hostMem = true)
    (hg : ∀ x t, ramOk t.hostMem = true → ramOk (g x t).hostMem = true) :
    ramOk (forAll xs g s).hostMem = true := by
  unfold forAll
  induction xs generalizing s with
  | nil => exact hs
  | cons x xs ih => exact ih _ (hg x s hs)

@[simp] theorem inNextTick_wfH (g : State → State) (s : State) (hs : ramOk s.hostMem = true)
    (hg : ∀ t, ramOk t.hostMem = true → ramOk (g t).hostMem = true) :
    ramOk (inNextTick g s).hostMem = true := by
  unfold inNextTick
  exact hg _ hs

@[simp] theorem forAll_wfM {α : Type} (xs : List α) (g : α → State → State) (s : State)
    (hs : ramOk s.mbxMem = true)
    (hg : ∀ x t, ramOk t.mbxMem = true → ramOk (g x t).mbxMem = true) :
    ramOk (forAll xs g s).mbxMem = true := by
  unfold forAll
  induction xs generalizing s with
  | nil => exact hs
  | cons x xs ih => exact ih _ (hg x s hs)

@[simp] theorem inNextTick_wfM (g : State → State) (s : State) (hs : ramOk s.mbxMem = true)
    (hg : ∀ t, ramOk t.mbxMem = true → ramOk (g t).mbxMem = true) :
    ramOk (inNextTick g s).mbxMem = true := by
  unfold inNextTick
  exact hg _ hs

@[simp] theorem forAll_wfF {α : Type} (xs : List α) (g : α → State → State) (s : State)
    (hs : flashOk s.flash.mem = true)
    (hg : ∀ x t, flashOk t.flash.mem = true → flashOk (g x t).flash.mem = true) :
    flashOk (forAll xs g s).flash.mem = true := by
  unfold forAll
  induction xs generalizing s with
  | nil => exact hs
  | cons x xs ih => exact ih _ (hg x s hs)

@[simp] theorem inNextTick_wfF (g : State → State) (s : State) (hs : flashOk s.flash.mem = true)
    (hg : ∀ t, flashOk t.flash.mem = true → flashOk (g t).flash.mem = true) :
    flashOk (inNextTick g s).flash.mem = true := by
  unfold inNextTick
  exact hg _ hs

@[simp] theorem hostWrite_wfH (s : State) (a : Nat) (bs : Bytes) (h : ramOk s.hostMem = true) :
    ramOk (s.hostWrite a bs).hostMem = true := hostWrite_wf s a bs h

@[simp] theorem flashWrite_wfF (s : State) (a : Nat) (bs : Bytes) (h : flashOk s.flash.mem = true) :
    flashOk (s.flashWrite a bs).flash.mem = true := flashWrite_wf s a bs h

@[simp] theorem flashErase_wfF (s : State) (a n : Nat) (h : flashOk s.flash.mem = true) :
    flashOk (s.flashErase a n).flash.mem = true := flashErase_wf s a n h

@[simp] theorem memWriteBytes_ram (m : Mem) (a : Nat) (bs : Bytes) (h : ramOk m = true) :
    ramOk (memWriteBytes 0#8 m a bs) = true := memWriteBytes_wf 0 bs m a h

@[simp] theorem fpNext_wfF (x0 : Nat) (x1 : State) (hm : flashOk x1.flash.mem = true) :
    flashOk (State.fpNext x0 x1).flash.mem = true := by
  induction x0 generalizing x1 with
  | zero => simp [State.fpNext, hm]
  | succ n ih => unfold State.fpNext; (try dsimp only); (repeat' split) <;> (try simp_all +contextual -implicitDefEqProofs)

@[simp] theorem fpRecopy_wfH (s : State) (p : PortId) (f : Bytes) (hm : ramOk s.hostMem = true) :
    ramOk (State.fpRecopy s p f).hostMem = true := by
  unfold State.fpRecopy; (try dsimp only); (repeat' split) <;> (try simp_all +contextual -implicitDefEqProofs)

@[simp] theorem fpRecopy_wfF (s : State) (p : PortId) (f : Bytes) (hm : flashOk s.flash.mem = true) :
    flashOk (State.fpRecopy s p f).flash.mem = true := by
  unfold State.fpRecopy; (try dsimp only); (repeat' split) <;> (try simp_all +contextual -implicitDefEqProofs)

@[simp] theorem fpSaveWell_wfH (s : State) (p : PortId) (hm : ramOk s.hostMem = true) :
    ramOk (State.fpSaveWell s p).hostMem = true := by
  simp +contextual -implicitDefEqProofs [State.fpSaveWell, hm]

@[simp] theorem fpSaveWell_wfF (s : State) (p : PortId) (hm : flashOk s.flash.mem = true) :
    flashOk (State.fpSaveWell s p).flash.mem = true := by
  simp +contextual -implicitDefEqProofs [State.fpSaveWell, hm]

@[simp] theorem produce_wfH (s : State) (r : RingId) (entry : Bool → Bytes) (hm : ramOk s.hostMem = true) :
    ramOk (State.produce s r entry).hostMem = true := by
  simp +contextual -implicitDefEqProofs [State.produce, hm]

@[simp] theorem writeBackNow_wfH (s : State) (w : WriteBack) (hm : ramOk s.hostMem = true) :
    ramOk (State.writeBackNow s w).hostMem = true := by
  simp +contextual -implicitDefEqProofs [State.writeBackNow, hm]

@[simp] theorem completeTx_wfH (s : State) (b : BedId) (u : UserTx) (st : ST) (detail : Nat) (hm : ramOk s.hostMem = true) :
    ramOk (State.completeTx s b u st detail).hostMem = true := by
  simp +contextual -implicitDefEqProofs [State.completeTx, hm]

@[simp] theorem flushWb_wfH (s : State) (hm : ramOk s.hostMem = true) :
    ramOk (State.flushWb s).hostMem = true := by
  simp +contextual -implicitDefEqProofs [State.flushWb, hm]

@[simp] theorem sampleDrain_wfH (x0 : Nat) (x1 : State) (hm : ramOk x1.hostMem = true) :
    ramOk (State.sampleDrain x0 x1).hostMem = true := by
  induction x0 generalizing x1 with
  | zero => simp [State.sampleDrain, hm]
  | succ n ih => unfold State.sampleDrain; (try dsimp only); (repeat' split) <;> (try simp_all +contextual -implicitDefEqProofs)

@[simp] theorem usersEnd_wfH (s : State) (p : PortId) (c : Loss) (hm : ramOk s.hostMem = true) :
    ramOk (State.usersEnd s p c).hostMem = true := by
  simp +contextual -implicitDefEqProofs [State.usersEnd, hm]

@[simp] theorem springEndSession_wfH (s : State) (p : PortId) (c : Loss) (hm : ramOk s.hostMem = true) :
    ramOk (State.springEndSession s p c).hostMem = true := by
  simp +contextual -implicitDefEqProofs [State.springEndSession, hm]

@[simp] theorem springLeave_wfH (s : State) (p : PortId) (c : Loss) (hm : ramOk s.hostMem = true) :
    ramOk (State.springLeave s p c).hostMem = true := by
  unfold State.springLeave; (try dsimp only); (repeat' split) <;> (try simp_all +contextual -implicitDefEqProofs)

@[simp] theorem springAtListening_wfH (s : State) (p : PortId) (hm : ramOk s.hostMem = true) :
    ramOk (State.springAtListening s p).hostMem = true := by
  unfold State.springAtListening; (try dsimp only); (repeat' split) <;> (try simp_all +contextual -implicitDefEqProofs)

@[simp] theorem toListening_wfH (s : State) (p : PortId) (hm : ramOk s.hostMem = true) :
    ramOk (State.toListening s p).hostMem = true := by
  simp +contextual -implicitDefEqProofs [State.toListening, hm]

@[simp] theorem recover_wfH (s : State) (p : PortId) (origin : Nat) (hm : ramOk s.hostMem = true) :
    ramOk (State.recover s p origin).hostMem = true := by
  unfold State.recover; (try dsimp only); (repeat' split) <;> (try simp_all +contextual -implicitDefEqProofs)

@[simp] theorem downRecover_wfH (s : State) (p : PortId) (c : Down) (hm : ramOk s.hostMem = true) :
    ramOk (State.downRecover s p c).hostMem = true := by
  simp +contextual -implicitDefEqProofs [State.downRecover, hm]

@[simp] theorem afterTrain_wfH (s : State) (p : PortId) (hm : ramOk s.hostMem = true) :
    ramOk (State.afterTrain s p).hostMem = true := by
  unfold State.afterTrain; (try dsimp only); (repeat' split) <;> (try simp_all +contextual -implicitDefEqProofs)

@[simp] theorem trainQuit_wfH (s : State) (p : PortId) (c : TCause) (own : Bool) (after : After) (hm : ramOk s.hostMem = true) :
    ramOk (State.trainQuit s p c own after).hostMem = true := by
  unfold State.trainQuit; (try dsimp only); (repeat' split) <;> (try simp_all +contextual -implicitDefEqProofs)

@[simp] theorem trainFailWith_wfH (s : State) (p : PortId) (c : TCause) (own : Bool) (pairs : BitVec 4) (hm : ramOk s.hostMem = true) :
    ramOk (State.trainFailWith s p c own pairs).hostMem = true := by
  unfold State.trainFailWith; (try dsimp only); (repeat' split) <;> (try simp_all +contextual -implicitDefEqProofs)

@[simp] theorem trainFail_wfH (s : State) (p : PortId) (c : TCause) (own : Bool) (hm : ramOk s.hostMem = true) :
    ramOk (State.trainFail s p c own).hostMem = true := by
  unfold State.trainFail; (try dsimp only); (repeat' split) <;> (try simp_all +contextual -implicitDefEqProofs)

@[simp] theorem trainFailPairs_wfH (s : State) (p : PortId) (pairs : List Pair) (hm : ramOk s.hostMem = true) :
    ramOk (State.trainFailPairs s p pairs).hostMem = true := by
  simp +contextual -implicitDefEqProofs [State.trainFailPairs, hm]

@[simp] theorem peerAbortNow_wfH (s : State) (p : PortId) (hm : ramOk s.hostMem = true) :
    ramOk (State.peerAbortNow s p).hostMem = true := by
  simp +contextual -implicitDefEqProofs [State.peerAbortNow, hm]

@[simp] theorem toUp_wfH (s : State) (p : PortId) (hm : ramOk s.hostMem = true) :
    ramOk (State.toUp s p).hostMem = true := by
  simp +contextual -implicitDefEqProofs [State.toUp, hm]

@[simp] theorem toUp_wfF (s : State) (p : PortId) (hm : flashOk s.flash.mem = true) :
    flashOk (State.toUp s p).flash.mem = true := by
  simp +contextual -implicitDefEqProofs [State.toUp, hm]

@[simp] theorem springLostPort_wfH (s : State) (p : PortId) (hm : ramOk s.hostMem = true) :
    ramOk (State.springLostPort s p).hostMem = true := by
  simp +contextual -implicitDefEqProofs [State.springLostPort, hm]

@[simp] theorem writeTo_wfH (m : MasterId) (a : Nat) (g : State → State) (s : State) (hs : ramOk s.hostMem = true)
    (hg : ∀ t, ramOk t.hostMem = true → ramOk (g t).hostMem = true) : ramOk (s.writeTo m a g).hostMem = true := by
  unfold State.writeTo; (try dsimp only); (repeat' split) <;> (try simp_all +contextual -implicitDefEqProofs)

@[simp] theorem writeTo_wfM (m : MasterId) (a : Nat) (g : State → State) (s : State) (hs : ramOk s.mbxMem = true)
    (hg : ∀ t, ramOk t.mbxMem = true → ramOk (g t).mbxMem = true) : ramOk (s.writeTo m a g).mbxMem = true := by
  unfold State.writeTo; (try dsimp only); (repeat' split) <;> (try simp_all +contextual -implicitDefEqProofs)

@[simp] theorem writeTo_wfF (m : MasterId) (a : Nat) (g : State → State) (s : State) (hs : flashOk s.flash.mem = true)
    (hg : ∀ t, flashOk t.flash.mem = true → flashOk (g t).flash.mem = true) : flashOk (s.writeTo m a g).flash.mem = true := by
  unfold State.writeTo; (try dsimp only); (repeat' split) <;> (try simp_all +contextual -implicitDefEqProofs)

@[simp] theorem writeAt_wfH (m : MasterId) (a : Nat) (v : Word) (g : State → State) (s : State) (hs : ramOk s.hostMem = true)
    (hg : ∀ t, ramOk t.hostMem = true → ramOk (g t).hostMem = true) : ramOk (s.writeAt m a v g).hostMem = true := by
  unfold State.writeAt
  split
  · simp [State.holdAcc, hs]
  · exact writeTo_wfH _ _ _ _ hs hg

@[simp] theorem writeAt_wfM (m : MasterId) (a : Nat) (v : Word) (g : State → State) (s : State) (hs : ramOk s.mbxMem = true)
    (hg : ∀ t, ramOk t.mbxMem = true → ramOk (g t).mbxMem = true) : ramOk (s.writeAt m a v g).mbxMem = true := by
  unfold State.writeAt
  split
  · simp [State.holdAcc, hs]
  · exact writeTo_wfM _ _ _ _ hs hg

@[simp] theorem writeAt_wfF (m : MasterId) (a : Nat) (v : Word) (g : State → State) (s : State) (hs : flashOk s.flash.mem = true)
    (hg : ∀ t, flashOk t.flash.mem = true → flashOk (g t).flash.mem = true) : flashOk (s.writeAt m a v g).flash.mem = true := by
  unfold State.writeAt
  split
  · simp [State.holdAcc, hs]
  · exact writeTo_wfF _ _ _ _ hs hg

@[simp] theorem readOf_wfH (m : MasterId) (a : Nat) (g : State → State) (s : State) (hs : ramOk s.hostMem = true)
    (hg : ∀ t, ramOk t.hostMem = true → ramOk (g t).hostMem = true) : ramOk (s.readOf m a g).hostMem = true := by
  unfold State.readOf; (try dsimp only); (repeat' split) <;> (try simp_all +contextual -implicitDefEqProofs)

@[simp] theorem readOf_wfM (m : MasterId) (a : Nat) (g : State → State) (s : State) (hs : ramOk s.mbxMem = true)
    (hg : ∀ t, ramOk t.mbxMem = true → ramOk (g t).mbxMem = true) : ramOk (s.readOf m a g).mbxMem = true := by
  unfold State.readOf; (try dsimp only); (repeat' split) <;> (try simp_all +contextual -implicitDefEqProofs)

@[simp] theorem readOf_wfF (m : MasterId) (a : Nat) (g : State → State) (s : State) (hs : flashOk s.flash.mem = true)
    (hg : ∀ t, flashOk t.flash.mem = true → flashOk (g t).flash.mem = true) : flashOk (s.readOf m a g).flash.mem = true := by
  unfold State.readOf; (try dsimp only); (repeat' split) <;> (try simp_all +contextual -implicitDefEqProofs)

@[simp] theorem chanEnds_wfH (s : State) (c : ChanId) (rs : Bool) (rr : Bool) (hm : ramOk s.hostMem = true) :
    ramOk (State.chanEnds s c rs rr).hostMem = true := by
  simp +contextual -implicitDefEqProofs [State.chanEnds, hm]

@[simp] theorem chanReset_wfH (s : State) (ms : List MasterId) (c : ChanId) (hm : ramOk s.hostMem = true) :
    ramOk (State.chanReset s ms c).hostMem = true := by
  simp +contextual -implicitDefEqProofs [State.chanReset, hm]

@[simp] theorem resetMasters_wfH (s : State) (ms : List MasterId) (hm : ramOk s.hostMem = true) :
    ramOk (State.resetMasters s ms).hostMem = true := by
  simp +contextual -implicitDefEqProofs [State.resetMasters, hm]

@[simp] theorem noticeDone_wfH (s : State) (c : ChanId) (result : Byte) (hm : ramOk s.hostMem = true) :
    ramOk (State.noticeDone s c result).hostMem = true := by
  simp +contextual -implicitDefEqProofs [State.noticeDone, hm]

@[simp] theorem postAccepted_wfH (s : State) (c : ChanId) (hm : ramOk s.hostMem = true) :
    ramOk (State.postAccepted s c).hostMem = true := by
  simp +contextual -implicitDefEqProofs [State.postAccepted, hm]

@[simp] theorem post_wfH (s : State) (m : MasterId) (c : ChanId) (hm : ramOk s.hostMem = true) :
    ramOk (State.post s m c).hostMem = true := by
  simp +contextual -implicitDefEqProofs [State.post, hm]

@[simp] theorem chanDone_wfH (s : State) (isR : Bool) (c : ChanId) (r : Byte) (hm : ramOk s.hostMem = true) :
    ramOk (State.chanDone s isR c r).hostMem = true := by
  simp +contextual -implicitDefEqProofs [State.chanDone, hm]

@[simp] theorem flashProgram_wfF (s : State) (a : Nat) (bs : Bytes) (hm : flashOk s.flash.mem = true) :
    flashOk (State.flashProgram s a bs).flash.mem = true := by
  simp +contextual -implicitDefEqProofs [State.flashProgram, hm]

@[simp] theorem logWrite_wfF (s : State) (k : LogKind) (reason : Nat) (last : Nat) (detail : Nat) (tick : Tick) (hm : flashOk s.flash.mem = true) :
    flashOk (State.logWrite s k reason last detail tick).flash.mem = true := by
  simp +contextual -implicitDefEqProofs [State.logWrite, hm]

@[simp] theorem log_wfF (s : State) (k : LogKind) (reason : Nat) (last : Nat) (detail : Nat) (hm : flashOk s.flash.mem = true) :
    flashOk (State.log s k reason last detail).flash.mem = true := by
  simp +contextual -implicitDefEqProofs [State.log, hm]

@[simp] theorem logFlush_wfF (s : State) (hm : flashOk s.flash.mem = true) :
    flashOk (State.logFlush s).flash.mem = true := by
  simp +contextual -implicitDefEqProofs [State.logFlush, hm]

@[simp] theorem bootctlWrite_wfF (s : State) (slotB : Bool) (hm : flashOk s.flash.mem = true) :
    flashOk (State.bootctlWrite s slotB).flash.mem = true := by
  simp +contextual -implicitDefEqProofs [State.bootctlWrite, hm]

@[simp] theorem testReturn_wfH (s : State) (p : PortId) (prior : PState) (hm : ramOk s.hostMem = true) :
    ramOk (State.testReturn s p prior).hostMem = true := by
  simp +contextual -implicitDefEqProofs [State.testReturn, hm]

@[simp] theorem diagWrite_wfH (s : State) (p : PortId) (hm : ramOk s.hostMem = true) :
    ramOk (State.diagWrite s p).hostMem = true := by
  unfold State.diagWrite; (try dsimp only); (repeat' split) <;> (try simp_all +contextual -implicitDefEqProofs)

@[simp] theorem diagBegin_wfH (s : State) (p : PortId) (hm : ramOk s.hostMem = true) :
    ramOk (State.diagBegin s p).hostMem = true := by
  unfold State.diagBegin; (try dsimp only); (repeat' split) <;> (try simp_all +contextual -implicitDefEqProofs)

@[simp] theorem diagTurn_wfH (s : State) (p : PortId) (hm : ramOk s.hostMem = true) :
    ramOk (State.diagTurn s p).hostMem = true := by
  unfold State.diagTurn; (try dsimp only); (repeat' split) <;> (try simp_all +contextual -implicitDefEqProofs)

@[simp] theorem diagNext_wfH (x0 : Nat) (x1 : CmdKey) (x2 : BedId) (x3 : State) (hm : ramOk x3.hostMem = true) :
    ramOk (State.diagNext x0 x1 x2 x3).hostMem = true := by
  induction x0 generalizing x1 x2 x3 with
  | zero => simp [State.diagNext, hm]
  | succ n ih => unfold State.diagNext; (try dsimp only); (repeat' split) <;> (try simp_all +contextual -implicitDefEqProofs)

@[simp] theorem diagGo_wfH (s : State) (k : CmdKey) (hm : ramOk s.hostMem = true) :
    ramOk (State.diagGo s k).hostMem = true := by
  simp +contextual -implicitDefEqProofs [State.diagGo, hm]

@[simp] theorem diagAbort_wfH (s : State) (p : PortId) (hm : ramOk s.hostMem = true) :
    ramOk (State.diagAbort s p).hostMem = true := by
  unfold State.diagAbort; (try dsimp only); (repeat' split) <;> (try simp_all +contextual -implicitDefEqProofs)

@[simp] theorem diagDrop_wfH (s : State) (p : PortId) (hm : ramOk s.hostMem = true) :
    ramOk (State.diagDrop s p).hostMem = true := by
  unfold State.diagDrop; (try dsimp only); (repeat' split) <;> (try simp_all +contextual -implicitDefEqProofs)

@[simp] theorem diagDone_wfH (s : State) (p : PortId) (st : Byte) (hm : ramOk s.hostMem = true) :
    ramOk (State.diagDone s p st).hostMem = true := by
  unfold State.diagDone; (try dsimp only); (repeat' split) <;> (try simp_all +contextual -implicitDefEqProofs)

@[simp] theorem diagLost_wfH (s : State) (p : PortId) (hm : ramOk s.hostMem = true) :
    ramOk (State.diagLost s p).hostMem = true := by
  unfold State.diagLost; (try dsimp only); (repeat' split) <;> (try simp_all +contextual -implicitDefEqProofs)

@[simp] theorem grantEnd_wfH (s : State) (p : PortId) (hm : ramOk s.hostMem = true) :
    ramOk (State.grantEnd s p).hostMem = true := by
  unfold State.grantEnd; (try dsimp only); (repeat' split) <;> (try simp_all +contextual -implicitDefEqProofs)

@[simp] theorem springLose_wfH (s : State) (p : PortId) (c : Loss) (hm : ramOk s.hostMem = true) :
    ramOk (State.springLose s p c).hostMem = true := by
  simp (maxDischargeDepth := 9) +contextual -implicitDefEqProofs [State.springLose, hm]

@[simp] theorem portWipe_wfH (s : State) (p : PortId) (hm : ramOk s.hostMem = true) :
    ramOk (State.portWipe s p).hostMem = true := by
  simp (maxDischargeDepth := 9) +contextual -implicitDefEqProofs [State.portWipe, hm]

@[simp] theorem portReset_wfH (s : State) (p : PortId) (cid : Nat) (hm : ramOk s.hostMem = true) :
    ramOk (State.portReset s p cid).hostMem = true := by
  simp +contextual -implicitDefEqProofs [State.portReset, hm]

@[simp] theorem portResume_wfH (s : State) (p : PortId) (hm : ramOk s.hostMem = true) :
    ramOk (State.portResume s p).hostMem = true := by
  simp +contextual -implicitDefEqProofs [State.portResume, hm]

@[simp] theorem bedReset_wfH (s : State) (b : BedId) (origin : Nat) (cid : Nat) (hm : ramOk s.hostMem = true) :
    ramOk (State.bedReset s b origin cid).hostMem = true := by
  simp (maxDischargeDepth := 9) +contextual -implicitDefEqProofs [State.bedReset, hm]

@[simp] theorem bedResume_wfH (s : State) (b : BedId) (hm : ramOk s.hostMem = true) :
    ramOk (State.bedResume s b).hostMem = true := by
  simp +contextual -implicitDefEqProofs [State.bedResume, hm]

@[simp] theorem tenderReset_wfH (s : State) (b : BedId) (hm : ramOk s.hostMem = true) :
    ramOk (State.tenderReset s b).hostMem = true := by
  simp +contextual -implicitDefEqProofs [State.tenderReset, hm]

@[simp] theorem abandonDiag_wfH (s : State) (p : PortId) (hm : ramOk s.hostMem = true) :
    ramOk (State.abandonDiag s p).hostMem = true := by
  unfold State.abandonDiag; (try dsimp only); (repeat' split) <;> (try simp_all +contextual -implicitDefEqProofs)

@[simp] theorem abandonDevice_wfF (s : State) (hm : flashOk s.flash.mem = true) :
    flashOk (State.abandonDevice s).flash.mem = true := by
  simp +contextual -implicitDefEqProofs [State.abandonDevice, hm]

@[simp] theorem abandon_wfH (s : State) (hm : ramOk s.hostMem = true) :
    ramOk (State.abandon s).hostMem = true := by
  simp +contextual -implicitDefEqProofs [State.abandon, hm]

@[simp] theorem abandon_wfF (s : State) (hm : flashOk s.flash.mem = true) :
    flashOk (State.abandon s).flash.mem = true := by
  simp +contextual -implicitDefEqProofs [State.abandon, hm]

@[simp] theorem logCut_wfF (s : State) (ops : List Nat) (hm : flashOk s.flash.mem = true) :
    flashOk (State.logCut s ops).flash.mem = true := by
  simp +contextual -implicitDefEqProofs [State.logCut, hm]

@[simp] theorem flrPf0_wfH (s : State) (hm : ramOk s.hostMem = true) :
    ramOk (State.flrPf0 s).hostMem = true := by
  simp +contextual -implicitDefEqProofs [State.flrPf0, hm]

@[simp] theorem flrPf0_wfF (s : State) (hm : flashOk s.flash.mem = true) :
    flashOk (State.flrPf0 s).flash.mem = true := by
  simp +contextual -implicitDefEqProofs [State.flrPf0, hm]

@[simp] theorem flrPf1_wfH (s : State) (hm : ramOk s.hostMem = true) :
    ramOk (State.flrPf1 s).hostMem = true := by
  simp +contextual -implicitDefEqProofs [State.flrPf1, hm]

@[simp] theorem deviceReset_wfH (s : State) (retry : Bool) (hm : ramOk s.hostMem = true) :
    ramOk (State.deviceReset s retry).hostMem = true := by
  simp +contextual -implicitDefEqProofs [State.deviceReset, hm]

@[simp] theorem deviceReset_wfF (s : State) (retry : Bool) (hm : flashOk s.flash.mem = true) :
    flashOk (State.deviceReset s retry).flash.mem = true := by
  simp +contextual -implicitDefEqProofs [State.deviceReset, hm]

@[simp] theorem perstWipe_wfH (s : State) (hm : ramOk s.hostMem = true) :
    ramOk (State.perstWipe s).hostMem = true := by
  simp +contextual -implicitDefEqProofs [State.perstWipe, hm]

@[simp] theorem perstWipe_wfM (s : State) (hm : ramOk s.mbxMem = true) :
    ramOk (State.perstWipe s).mbxMem = true := by
  simp +contextual -implicitDefEqProofs [State.perstWipe, hm]

@[simp] theorem perstWipe_wfF (s : State) (hm : flashOk s.flash.mem = true) :
    flashOk (State.perstWipe s).flash.mem = true := by
  simp +contextual -implicitDefEqProofs [State.perstWipe, hm]

@[simp] theorem powerWipe_wfH (s : State) (hm : ramOk s.hostMem = true) :
    ramOk (State.powerWipe s).hostMem = true := by
  simp +contextual -implicitDefEqProofs [State.powerWipe, hm]

@[simp] theorem powerWipe_wfM (s : State) (hm : ramOk s.mbxMem = true) :
    ramOk (State.powerWipe s).mbxMem = true := by
  simp +contextual -implicitDefEqProofs [State.powerWipe, hm]

@[simp] theorem powerWipe_wfF (s : State) (hm : flashOk s.flash.mem = true) :
    flashOk (State.powerWipe s).flash.mem = true := by
  simp +contextual -implicitDefEqProofs [State.powerWipe, hm]

@[simp] theorem bedMute_wfH (s : State) (b : BedId) (hm : ramOk s.hostMem = true) :
    ramOk (State.bedMute s b).hostMem = true := by
  simp +contextual -implicitDefEqProofs [State.bedMute, hm]

@[simp] theorem calBegin_wfH (s : State) (b : BedId) (key : Option CmdKey) (g : BitVec 4) (whole : Bool) (hm : ramOk s.hostMem = true) :
    ramOk (State.calBegin s b key g whole).hostMem = true := by
  unfold State.calBegin; (try dsimp only); (repeat' split) <;> (try simp_all (maxDischargeDepth := 9) +contextual -implicitDefEqProofs)

@[simp] theorem calErase_wfF (s : State) (slot : Bool) (body : Bytes) (hm : flashOk s.flash.mem = true) :
    flashOk (State.calErase s slot body).flash.mem = true := by
  simp +contextual -implicitDefEqProofs [State.calErase, hm]

@[simp] theorem calStoreBegin_wfF (s : State) (key : Option CmdKey) (hm : flashOk s.flash.mem = true) :
    flashOk (State.calStoreBegin s key).flash.mem = true := by
  simp +contextual -implicitDefEqProofs [State.calStoreBegin, hm]

@[simp] theorem calDigestWrite_wfF (s : State) (c : CalStore) (hm : flashOk s.flash.mem = true) :
    flashOk (State.calDigestWrite s c).2.flash.mem = true := by
  unfold State.calDigestWrite; (try dsimp only); (repeat' split) <;> (try simp_all +contextual -implicitDefEqProofs)

@[simp] theorem tornCalLog_wfF (s : State) (k : Bool) (hm : flashOk s.flash.mem = true) :
    flashOk (State.tornCalLog s k).flash.mem = true := by
  simp +contextual -implicitDefEqProofs [State.tornCalLog, hm]

@[simp] theorem calSelect_wfF (s : State) (hm : flashOk s.flash.mem = true) :
    flashOk (State.calSelect s).flash.mem = true := by
  unfold State.calSelect; (try dsimp only); (repeat' split) <;> (try simp_all +contextual -implicitDefEqProofs)

@[simp] theorem bistBegin_wfH (s : State) (b : BedId) (key : Option CmdKey) (kinds : List BKind) (hm : ramOk s.hostMem = true) :
    ramOk (State.bistBegin s b key kinds).hostMem = true := by
  simp +contextual -implicitDefEqProofs [State.bistBegin, hm]

@[simp] theorem critDown_wfH (s : State) (p : PortId) (c : Down) (hm : ramOk s.hostMem = true) :
    ramOk (State.critDown s p c).hostMem = true := by
  unfold State.critDown; (try dsimp only); (repeat' split) <;> (try simp_all +contextual -implicitDefEqProofs)

@[simp] theorem standardStop_wfH (s : State) (p : PortId) (hm : ramOk s.hostMem = true) :
    ramOk (State.standardStop s p).hostMem = true := by
  simp +contextual -implicitDefEqProofs [State.standardStop, hm]

@[simp] theorem dormantUp_wfH (s : State) (p : PortId) (hm : ramOk s.hostMem = true) :
    ramOk (State.dormantUp s p).hostMem = true := by
  simp +contextual -implicitDefEqProofs [State.dormantUp, hm]

@[simp] theorem dormantUp_wfF (s : State) (p : PortId) (hm : flashOk s.flash.mem = true) :
    flashOk (State.dormantUp s p).flash.mem = true := by
  simp +contextual -implicitDefEqProofs [State.dormantUp, hm]

@[simp] theorem localAbort_wfH (s : State) (p : PortId) (after : After) (down : Bool) (hm : ramOk s.hostMem = true) :
    ramOk (State.localAbort s p after down).hostMem = true := by
  simp +contextual -implicitDefEqProofs [State.localAbort, hm]

@[simp] theorem noticeOver_wfH (s : State) (p : PortId) (hm : ramOk s.hostMem = true) :
    ramOk (State.noticeOver s p).hostMem = true := by
  unfold State.noticeOver; (try dsimp only); (repeat' split) <;> (try simp_all +contextual -implicitDefEqProofs)

@[simp] theorem dormantEnter_wfH (s : State) (p : PortId) (hm : ramOk s.hostMem = true) :
    ramOk (State.dormantEnter s p).hostMem = true := by
  unfold State.dormantEnter; (try dsimp only); (repeat' split) <;> (try simp_all +contextual -implicitDefEqProofs)

@[simp] theorem dormantEnter_wfF (s : State) (p : PortId) (hm : flashOk s.flash.mem = true) :
    flashOk (State.dormantEnter s p).flash.mem = true := by
  unfold State.dormantEnter; (try dsimp only); (repeat' split) <;> (try simp_all +contextual -implicitDefEqProofs)

@[simp] theorem wakeReadyAct_wfH (s : State) (p : PortId) (digest : Bytes) (hm : ramOk s.hostMem = true) :
    ramOk (State.wakeReadyAct s p digest).hostMem = true := by
  simp +contextual -implicitDefEqProofs [State.wakeReadyAct, hm]

@[simp] theorem wakeGoTake_wfH (s : State) (p : PortId) (rung : Rung) (hm : ramOk s.hostMem = true) :
    ramOk (State.wakeGoTake s p rung).hostMem = true := by
  simp +contextual -implicitDefEqProofs [State.wakeGoTake, hm]

@[simp] theorem loopLeave_wfH (s : State) (p : PortId) (hm : ramOk s.hostMem = true) :
    ramOk (State.loopLeave s p).hostMem = true := by
  unfold State.loopLeave; (try dsimp only); (repeat' split) <;> (try simp_all +contextual -implicitDefEqProofs)

@[simp] theorem disable_wfH (s : State) (p : PortId) (hm : ramOk s.hostMem = true) :
    ramOk (State.disable s p).hostMem = true := by
  unfold State.disable; (try dsimp only); (repeat' split) <;> (try simp_all +contextual -implicitDefEqProofs)

@[simp] theorem writeEvent_wfH (s : State) (r : RingId) (e : Event) (hm : ramOk s.hostMem = true) :
    ramOk (State.writeEvent s r e).hostMem = true := by
  simp +contextual -implicitDefEqProofs [State.writeEvent, hm]

@[simp] theorem eventToRing_wfH (s : State) (r : RingId) (e : Event) (hm : ramOk s.hostMem = true) :
    ramOk (State.eventToRing s r e).hostMem = true := by
  simp +contextual -implicitDefEqProofs [State.eventToRing, hm]

@[simp] theorem storeDrain_wfH (x0 : Nat) (x1 : RingId) (x2 : State) (hm : ramOk x2.hostMem = true) :
    ramOk (State.storeDrain x0 x1 x2).hostMem = true := by
  induction x0 generalizing x1 x2 with
  | zero => simp [State.storeDrain, hm]
  | succ n ih => unfold State.storeDrain; (try dsimp only); (repeat' split) <;> (try simp_all +contextual -implicitDefEqProofs)

@[simp] theorem routeEvent_wfH (s : State) (e : Event) (hm : ramOk s.hostMem = true) :
    ramOk (State.routeEvent s e).hostMem = true := by
  unfold State.routeEvent; (try dsimp only); (repeat' split) <;> (try simp_all +contextual -implicitDefEqProofs)

@[simp] theorem releaseEvent_wfH (t : State) (e : Event) (hm : ramOk t.hostMem = true) :
    ramOk (State.releaseEvent t e).hostMem = true := by
  unfold State.releaseEvent; (try dsimp only); (repeat' split) <;> (try simp_all +contextual -implicitDefEqProofs)

@[simp] theorem releaseHeld_wfH (s : State) (hm : ramOk s.hostMem = true) :
    ramOk (State.releaseHeld s).hostMem = true := by
  simp +contextual -implicitDefEqProofs [State.releaseHeld, hm]

@[simp] theorem ringOn_wfH (s : State) (r : RingId) (cfg : Word) (hm : ramOk s.hostMem = true) :
    ramOk (State.ringOn s r cfg).hostMem = true := by
  simp +contextual -implicitDefEqProofs [State.ringOn, hm]

@[simp] theorem ringCfg_wfH (s : State) (r : RingId) (v : Word) (hm : ramOk s.hostMem = true) :
    ramOk (State.ringCfg s r v).hostMem = true := by
  simp +contextual -implicitDefEqProofs [State.ringCfg, hm]

@[simp] theorem bellAct_wfH (s : State) (r : RingId) (v : Word) (hm : ramOk s.hostMem = true) :
    ramOk (State.bellAct s r v).hostMem = true := by
  simp +contextual -implicitDefEqProofs [State.bellAct, hm]

@[simp] theorem bellWrite_wfH (s : State) (r : RingId) (v : Word) (hm : ramOk s.hostMem = true) :
    ramOk (State.bellWrite s r v).hostMem = true := by
  simp +contextual -implicitDefEqProofs [State.bellWrite, hm]

@[simp] theorem bellFlush_wfH (s : State) (r : RingId) (hm : ramOk s.hostMem = true) :
    ramOk (State.bellFlush s r).hostMem = true := by
  unfold State.bellFlush; (try dsimp only); (repeat' split) <;> (try simp_all +contextual -implicitDefEqProofs)

@[simp] theorem bellsFlush_wfH (s : State) (hm : ramOk s.hostMem = true) :
    ramOk (State.bellsFlush s).hostMem = true := by
  simp +contextual -implicitDefEqProofs [State.bellsFlush, hm]

@[simp] theorem completeRec_wfH (s : State) (r : CmdRec) (hm : ramOk s.hostMem = true) :
    ramOk (State.completeRec s r).hostMem = true := by
  simp +contextual -implicitDefEqProofs [State.completeRec, hm]

@[simp] theorem completeWhere_wfH (s : State) (q : CmdRec → Bool) (hm : ramOk s.hostMem = true) :
    ramOk (State.completeWhere s q).hostMem = true := by
  unfold State.completeWhere; (try dsimp only); (repeat' split) <;> (try simp_all +contextual -implicitDefEqProofs)

@[simp] theorem completeKey_wfH (s : State) (k : CmdKey) (hm : ramOk s.hostMem = true) :
    ramOk (State.completeKey s k).hostMem = true := by
  simp +contextual -implicitDefEqProofs [State.completeKey, hm]

@[simp] theorem springEnable_wfH (s : State) (p : PortId) (en : Bool) (hm : ramOk s.hostMem = true) :
    ramOk (State.springEnable s p en).hostMem = true := by
  simp +contextual -implicitDefEqProofs [State.springEnable, hm]

@[simp] theorem linkctlWrite_wfH (s : State) (p : PortId) (v : Word) (hm : ramOk s.hostMem = true) :
    ramOk (State.linkctlWrite s p v).hostMem = true := by
  simp +contextual -implicitDefEqProofs [State.linkctlWrite, hm]

@[simp] theorem flashCtl_wfF (s : State) (m : MasterId) (v : Word) (hm : flashOk s.flash.mem = true) :
    flashOk (State.flashCtl s m v).flash.mem = true := by
  simp +contextual -implicitDefEqProofs [State.flashCtl, hm]

@[simp] theorem chanWrite_wfH (s : State) (m : MasterId) (c : ChanId) (o : Nat) (v : Word) (hm : ramOk s.hostMem = true) :
    ramOk (State.chanWrite s m c o v).hostMem = true := by
  unfold State.chanWrite; (try dsimp only); (repeat' split) <;> (try simp_all +contextual -implicitDefEqProofs)

@[simp] theorem mbxWrite_wfH (s : State) (m : MasterId) (a : Nat) (v : Word) (hm : ramOk s.hostMem = true) :
    ramOk (State.mbxWrite s m a v).hostMem = true := by
  simp +contextual -implicitDefEqProofs [State.mbxWrite, hm]

@[simp] theorem mbxWrite_wfM (s : State) (m : MasterId) (a : Nat) (v : Word) (hm : ramOk s.mbxMem = true) :
    ramOk (State.mbxWrite s m a v).mbxMem = true := by
  simp +contextual -implicitDefEqProofs [State.mbxWrite, hm]

@[simp] theorem ringWrite_wfH (s : State) (a : Nat) (v : Word) (hm : ramOk s.hostMem = true) :
    ramOk (State.ringWrite s a v).hostMem = true := by
  simp +contextual -implicitDefEqProofs [State.ringWrite, hm]

@[simp] theorem flashRegWrite_wfF (s : State) (m : MasterId) (a : Nat) (v : Word) (hm : flashOk s.flash.mem = true) :
    flashOk (State.flashRegWrite s m a v).flash.mem = true := by
  simp +contextual -implicitDefEqProofs [State.flashRegWrite, hm]

@[simp] theorem portWrite_wfH (s : State) (p : PortId) (o : Nat) (v : Word) (hm : ramOk s.hostMem = true) :
    ramOk (State.portWrite s p o v).hostMem = true := by
  simp +contextual -implicitDefEqProofs [State.portWrite, hm]

@[simp] theorem regWrite_wfH (s : State) (m : MasterId) (a : Nat) (v : Word) (hm : ramOk s.hostMem = true) :
    ramOk (State.regWrite s m a v).hostMem = true := by
  unfold State.regWrite; (try dsimp only); (repeat' split) <;> (try simp_all +contextual -implicitDefEqProofs)

@[simp] theorem regWrite_wfM (s : State) (m : MasterId) (a : Nat) (v : Word) (hm : ramOk s.mbxMem = true) :
    ramOk (State.regWrite s m a v).mbxMem = true := by
  unfold State.regWrite; (try dsimp only); (repeat' split) <;> (try simp_all +contextual -implicitDefEqProofs)

@[simp] theorem regWrite_wfF (s : State) (m : MasterId) (a : Nat) (v : Word) (hm : flashOk s.flash.mem = true) :
    flashOk (State.regWrite s m a v).flash.mem = true := by
  unfold State.regWrite; (try dsimp only); (repeat' split) <;> (try simp_all +contextual -implicitDefEqProofs)

@[simp] theorem actAll_wfH (k : CmdKey) (pw bs : Bool) (g : CmdKey → Nat → Elem → State → State) (es : List Elem) (s : State) (hs : ramOk s.hostMem = true)
    (hg : ∀ k i e t, ramOk t.hostMem = true → ramOk (g k i e t).hostMem = true) : ramOk (s.actAll k pw bs g es).hostMem = true := by
  unfold State.actAll
  refine forAll_wfH _ _ _ hs fun x t ht => ?_
  (try dsimp only)
  split
  · simp [ht]
  · exact hg _ _ _ _ ht

@[simp] theorem actAll_wfM (k : CmdKey) (pw bs : Bool) (g : CmdKey → Nat → Elem → State → State) (es : List Elem) (s : State) (hs : ramOk s.mbxMem = true)
    (hg : ∀ k i e t, ramOk t.mbxMem = true → ramOk (g k i e t).mbxMem = true) : ramOk (s.actAll k pw bs g es).mbxMem = true := by
  unfold State.actAll
  refine forAll_wfM _ _ _ hs fun x t ht => ?_
  (try dsimp only)
  split
  · simp [ht]
  · exact hg _ _ _ _ ht

@[simp] theorem actAll_wfF (k : CmdKey) (pw bs : Bool) (g : CmdKey → Nat → Elem → State → State) (es : List Elem) (s : State) (hs : flashOk s.flash.mem = true)
    (hg : ∀ k i e t, flashOk t.flash.mem = true → flashOk (g k i e t).flash.mem = true) : flashOk (s.actAll k pw bs g es).flash.mem = true := by
  unfold State.actAll
  refine forAll_wfF _ _ _ hs fun x t ht => ?_
  (try dsimp only)
  split
  · simp [ht]
  · exact hg _ _ _ _ ht

@[simp] theorem runCmd_wfH (h : CmdHdr) (o : Op) (ok pw bs : Bool) (g : CmdKey → Nat → Elem → State → State) (s : State) (hs : ramOk s.hostMem = true)
    (hg : ∀ k i e t, ramOk t.hostMem = true → ramOk (g k i e t).hostMem = true) : ramOk (s.runCmd h o ok pw bs g).hostMem = true := by
  unfold State.runCmd; (try dsimp only); (repeat' split) <;> (try simp_all +contextual -implicitDefEqProofs)

@[simp] theorem runCmd_wfM (h : CmdHdr) (o : Op) (ok pw bs : Bool) (g : CmdKey → Nat → Elem → State → State) (s : State) (hs : ramOk s.mbxMem = true)
    (hg : ∀ k i e t, ramOk t.mbxMem = true → ramOk (g k i e t).mbxMem = true) : ramOk (s.runCmd h o ok pw bs g).mbxMem = true := by
  unfold State.runCmd; (try dsimp only); (repeat' split) <;> (try simp_all +contextual -implicitDefEqProofs)

@[simp] theorem runCmd_wfF (h : CmdHdr) (o : Op) (ok pw bs : Bool) (g : CmdKey → Nat → Elem → State → State) (s : State) (hs : flashOk s.flash.mem = true)
    (hg : ∀ k i e t, flashOk t.flash.mem = true → flashOk (g k i e t).flash.mem = true) : flashOk (s.runCmd h o ok pw bs g).flash.mem = true := by
  unfold State.runCmd; (try dsimp only); (repeat' split) <;> (try simp_all +contextual -implicitDefEqProofs)

@[simp] theorem onPort_wfH (e : Elem) (g : PortId → State → State) (s : State) (hs : ramOk s.hostMem = true)
    (hg : ∀ p t, ramOk t.hostMem = true → ramOk (g p t).hostMem = true) : ramOk (onPort e g s).hostMem = true := by
  unfold onPort; (try dsimp only); (repeat' split) <;> (try simp_all +contextual -implicitDefEqProofs)

@[simp] theorem onPort_wfM (e : Elem) (g : PortId → State → State) (s : State) (hs : ramOk s.mbxMem = true)
    (hg : ∀ p t, ramOk t.mbxMem = true → ramOk (g p t).mbxMem = true) : ramOk (onPort e g s).mbxMem = true := by
  unfold onPort; (try dsimp only); (repeat' split) <;> (try simp_all +contextual -implicitDefEqProofs)

@[simp] theorem onPort_wfF (e : Elem) (g : PortId → State → State) (s : State) (hs : flashOk s.flash.mem = true)
    (hg : ∀ p t, flashOk t.flash.mem = true → flashOk (g p t).flash.mem = true) : flashOk (onPort e g s).flash.mem = true := by
  unfold onPort; (try dsimp only); (repeat' split) <;> (try simp_all +contextual -implicitDefEqProofs)

@[simp] theorem doneNext_wfH (k : CmdKey) (e : Elem) (g : State → State) (s : State) (hs : ramOk s.hostMem = true)
    (hg : ∀ t, ramOk t.hostMem = true → ramOk (g t).hostMem = true) : ramOk (s.doneNext k e g).hostMem = true := by
  unfold State.doneNext; (try dsimp only); (repeat' split) <;> (try simp_all +contextual -implicitDefEqProofs)

@[simp] theorem doneNext_wfM (k : CmdKey) (e : Elem) (g : State → State) (s : State) (hs : ramOk s.mbxMem = true)
    (hg : ∀ t, ramOk t.mbxMem = true → ramOk (g t).mbxMem = true) : ramOk (s.doneNext k e g).mbxMem = true := by
  unfold State.doneNext; (try dsimp only); (repeat' split) <;> (try simp_all +contextual -implicitDefEqProofs)

@[simp] theorem doneNext_wfF (k : CmdKey) (e : Elem) (g : State → State) (s : State) (hs : flashOk s.flash.mem = true)
    (hg : ∀ t, flashOk t.flash.mem = true → flashOk (g t).flash.mem = true) : flashOk (s.doneNext k e g).flash.mem = true := by
  unfold State.doneNext; (try dsimp only); (repeat' split) <;> (try simp_all +contextual -implicitDefEqProofs)

@[simp] theorem writeIn_wfH (m : MasterId) (a : Nat) (v : Word) (g : Word → State → State) (s : State) (hs : ramOk s.hostMem = true)
    (hg : ∀ w t, ramOk t.hostMem = true → ramOk (g w t).hostMem = true) : ramOk (s.writeIn m a v g).hostMem = true := by
  exact inNextTick_wfH _ _ hs (hg _)

@[simp] theorem writeIn_wfM (m : MasterId) (a : Nat) (v : Word) (g : Word → State → State) (s : State) (hs : ramOk s.mbxMem = true)
    (hg : ∀ w t, ramOk t.mbxMem = true → ramOk (g w t).mbxMem = true) : ramOk (s.writeIn m a v g).mbxMem = true := by
  exact inNextTick_wfM _ _ hs (hg _)

@[simp] theorem writeIn_wfF (m : MasterId) (a : Nat) (v : Word) (g : Word → State → State) (s : State) (hs : flashOk s.flash.mem = true)
    (hg : ∀ w t, flashOk t.flash.mem = true → flashOk (g w t).flash.mem = true) : flashOk (s.writeIn m a v g).flash.mem = true := by
  exact inNextTick_wfF _ _ hs (hg _)

@[simp] theorem regWriteAt_wfH (s : State) (m : MasterId) (a : Nat) (v : Word) (hm : ramOk s.hostMem = true) :
    ramOk (State.regWriteAt s m a v).hostMem = true := by
  unfold State.regWriteAt; (try dsimp only); (repeat' split) <;> (try simp_all +contextual -implicitDefEqProofs)

@[simp] theorem regWriteAt_wfM (s : State) (m : MasterId) (a : Nat) (v : Word) (hm : ramOk s.mbxMem = true) :
    ramOk (State.regWriteAt s m a v).mbxMem = true := by
  unfold State.regWriteAt; (try dsimp only); (repeat' split) <;> (try simp_all +contextual -implicitDefEqProofs)

@[simp] theorem regWriteAt_wfF (s : State) (m : MasterId) (a : Nat) (v : Word) (hm : flashOk s.flash.mem = true) :
    flashOk (State.regWriteAt s m a v).flash.mem = true := by
  unfold State.regWriteAt; (try dsimp only); (repeat' split) <;> (try simp_all +contextual -implicitDefEqProofs)

@[simp] theorem cmdWrite_wfH (s : State) (p : PortId) (o : Nat) (v : Word) (hm : ramOk s.hostMem = true) :
    ramOk (State.cmdWrite s p o v).hostMem = true := by
  simp +contextual -implicitDefEqProofs [State.cmdWrite, hm]

@[simp] theorem cmdWrite_wfM (s : State) (p : PortId) (o : Nat) (v : Word) (hm : ramOk s.mbxMem = true) :
    ramOk (State.cmdWrite s p o v).mbxMem = true := by
  simp +contextual -implicitDefEqProofs [State.cmdWrite, hm]

@[simp] theorem cmdWrite_wfF (s : State) (p : PortId) (o : Nat) (v : Word) (hm : flashOk s.flash.mem = true) :
    flashOk (State.cmdWrite s p o v).flash.mem = true := by
  simp +contextual -implicitDefEqProofs [State.cmdWrite, hm]

@[simp] theorem cmdWriteIf_wfH (s : State) (b : Bool) (p : PortId) (o : Nat) (v : Word) (hm : ramOk s.hostMem = true) :
    ramOk (State.cmdWriteIf s b p o v).hostMem = true := by
  simp +contextual -implicitDefEqProofs [State.cmdWriteIf, hm]

@[simp] theorem cmdWriteIf_wfM (s : State) (b : Bool) (p : PortId) (o : Nat) (v : Word) (hm : ramOk s.mbxMem = true) :
    ramOk (State.cmdWriteIf s b p o v).mbxMem = true := by
  simp +contextual -implicitDefEqProofs [State.cmdWriteIf, hm]

@[simp] theorem cmdWriteIf_wfF (s : State) (b : Bool) (p : PortId) (o : Nat) (v : Word) (hm : flashOk s.flash.mem = true) :
    flashOk (State.cmdWriteIf s b p o v).flash.mem = true := by
  simp +contextual -implicitDefEqProofs [State.cmdWriteIf, hm]

@[simp] theorem portConfig_wfH (s : State) (p : PortId) (select : Byte) (linkctl : Word) (trainctl : Word) (decctl : Word) (stillctl : Word) (fpctl : Word) (hm : ramOk s.hostMem = true) :
    ramOk (State.portConfig s p select linkctl trainctl decctl stillctl fpctl).hostMem = true := by
  simp (maxDischargeDepth := 9) +contextual -implicitDefEqProofs [State.portConfig, hm]

@[simp] theorem portConfig_wfM (s : State) (p : PortId) (select : Byte) (linkctl : Word) (trainctl : Word) (decctl : Word) (stillctl : Word) (fpctl : Word) (hm : ramOk s.mbxMem = true) :
    ramOk (State.portConfig s p select linkctl trainctl decctl stillctl fpctl).mbxMem = true := by
  simp (maxDischargeDepth := 9) +contextual -implicitDefEqProofs [State.portConfig, hm]

@[simp] theorem portConfig_wfF (s : State) (p : PortId) (select : Byte) (linkctl : Word) (trainctl : Word) (decctl : Word) (stillctl : Word) (fpctl : Word) (hm : flashOk s.flash.mem = true) :
    flashOk (State.portConfig s p select linkctl trainctl decctl stillctl fpctl).flash.mem = true := by
  simp (maxDischargeDepth := 9) +contextual -implicitDefEqProofs [State.portConfig, hm]

@[simp] theorem enablePort_wfH (s : State) (k : CmdKey) (p : PortId) (hm : ramOk s.hostMem = true) :
    ramOk (State.enablePort s k p).hostMem = true := by
  unfold State.enablePort; (try dsimp only); (repeat' split) <;> (try simp_all +contextual -implicitDefEqProofs)

@[simp] theorem disablePort_wfH (s : State) (k : CmdKey) (p : PortId) (hm : ramOk s.hostMem = true) :
    ramOk (State.disablePort s k p).hostMem = true := by
  simp +contextual -implicitDefEqProofs [State.disablePort, hm]

@[simp] theorem retrainPort_wfH (s : State) (k : CmdKey) (p : PortId) (hm : ramOk s.hostMem = true) :
    ramOk (State.retrainPort s k p).hostMem = true := by
  unfold State.retrainPort; (try dsimp only); (repeat' split) <;> (try simp_all +contextual -implicitDefEqProofs)

@[simp] theorem resetElem_wfH (s : State) (k : CmdKey) (e : Elem) (hm : ramOk s.hostMem = true) :
    ramOk (State.resetElem s k e).hostMem = true := by
  unfold State.resetElem; (try dsimp only); (repeat' split) <;> (try simp_all +contextual -implicitDefEqProofs)

@[simp] theorem resetElem_wfF (s : State) (k : CmdKey) (e : Elem) (hm : flashOk s.flash.mem = true) :
    flashOk (State.resetElem s k e).flash.mem = true := by
  unfold State.resetElem; (try dsimp only); (repeat' split) <;> (try simp_all +contextual -implicitDefEqProofs)

@[simp] theorem resetEnd_wfH (s : State) (e : Elem) (hm : ramOk s.hostMem = true) :
    ramOk (State.resetEnd s e).hostMem = true := by
  unfold State.resetEnd; (try dsimp only); (repeat' split) <;> (try simp_all +contextual -implicitDefEqProofs)

@[simp] theorem framingLost_wfH (s : State) (p : PortId) (hm : ramOk s.hostMem = true) :
    ramOk (State.framingLost s p).hostMem = true := by
  unfold State.framingLost; (try dsimp only); (repeat' split) <;> (try simp_all +contextual -implicitDefEqProofs)

@[simp] theorem lockGone_wfH (s : State) (p : PortId) (hm : ramOk s.hostMem = true) :
    ramOk (State.lockGone s p).hostMem = true := by
  simp +contextual -implicitDefEqProofs [State.lockGone, hm]

@[simp] theorem lockGain_wfH (s : State) (p : PortId) (pair : Pair) (ident : Pair) (inv : Bool) (hm : ramOk s.hostMem = true) :
    ramOk (State.lockGain s p pair ident inv).hostMem = true := by
  unfold State.lockGain; (try dsimp only); (repeat' split) <;> (try simp_all +contextual -implicitDefEqProofs)

@[simp] theorem lockLoss_wfH (s : State) (p : PortId) (pair : Pair) (vs : List RxPt) (hm : ramOk s.hostMem = true) :
    ramOk (State.lockLoss s p pair vs).hostMem = true := by
  unfold State.lockLoss; (try dsimp only); (repeat' split) <;> (try simp_all +contextual -implicitDefEqProofs)

@[simp] theorem pairDown_wfH (s : State) (p : PortId) (pairs : List Pair) (hm : ramOk s.hostMem = true) :
    ramOk (State.pairDown s p pairs).hostMem = true := by
  simp +contextual -implicitDefEqProofs [State.pairDown, hm]

@[simp] theorem pairFailed_wfH (s : State) (p : PortId) (pairs : List Pair) (hm : ramOk s.hostMem = true) :
    ramOk (State.pairFailed s p pairs).hostMem = true := by
  unfold State.pairFailed; (try dsimp only); (repeat' split) <;> (try simp_all +contextual -implicitDefEqProofs)

@[simp] theorem pairFailTrain_wfH (s : State) (p : PortId) (pair : Pair) (hm : ramOk s.hostMem = true) :
    ramOk (State.pairFailTrain s p pair).hostMem = true := by
  unfold State.pairFailTrain; (try dsimp only); (repeat' split) <;> (try simp_all +contextual -implicitDefEqProofs)

@[simp] theorem dataUp_wfH (s : State) (p : PortId) (hm : ramOk s.hostMem = true) :
    ramOk (State.dataUp s p).hostMem = true := by
  unfold State.dataUp; (try dsimp only); (repeat' split) <;> (try simp_all +contextual -implicitDefEqProofs)

@[simp] theorem dataUp_wfF (s : State) (p : PortId) (hm : flashOk s.flash.mem = true) :
    flashOk (State.dataUp s p).flash.mem = true := by
  unfold State.dataUp; (try dsimp only); (repeat' split) <;> (try simp_all +contextual -implicitDefEqProofs)

@[simp] theorem wakeJobDo_wfH (s : State) (p : PortId) (hm : ramOk s.hostMem = true) :
    ramOk (State.wakeJobDo s p).hostMem = true := by
  unfold State.wakeJobDo; (try dsimp only); (repeat' split) <;> (try simp_all +contextual -implicitDefEqProofs)

@[simp] theorem wakeJobDo_wfF (s : State) (p : PortId) (hm : flashOk s.flash.mem = true) :
    flashOk (State.wakeJobDo s p).flash.mem = true := by
  unfold State.wakeJobDo; (try dsimp only); (repeat' split) <;> (try simp_all +contextual -implicitDefEqProofs)

@[simp] theorem formGroup_wfH (s : State) (p : PortId) (blocks : List HostBlk) (hm : ramOk s.hostMem = true) :
    ramOk (State.formGroup s p blocks).hostMem = true := by
  simp +contextual -implicitDefEqProofs [State.formGroup, hm]

@[simp] theorem formGroup_wfF (s : State) (p : PortId) (blocks : List HostBlk) (hm : flashOk s.flash.mem = true) :
    flashOk (State.formGroup s p blocks).flash.mem = true := by
  simp +contextual -implicitDefEqProofs [State.formGroup, hm]

@[simp] theorem closeDownTake_wfH (s : State) (p : PortId) (hm : ramOk s.hostMem = true) :
    ramOk (State.closeDownTake s p).hostMem = true := by
  simp +contextual -implicitDefEqProofs [State.closeDownTake, hm]

@[simp] theorem closeDownTake_wfF (s : State) (p : PortId) (hm : flashOk s.flash.mem = true) :
    flashOk (State.closeDownTake s p).flash.mem = true := by
  simp +contextual -implicitDefEqProofs [State.closeDownTake, hm]

@[simp] theorem closeTake_wfH (s : State) (p : PortId) (o : BitVec 198) (hm : ramOk s.hostMem = true) :
    ramOk (State.closeTake s p o).hostMem = true := by
  unfold State.closeTake; (try dsimp only); (repeat' split) <;> (try simp_all +contextual -implicitDefEqProofs)

@[simp] theorem closeTake_wfF (s : State) (p : PortId) (o : BitVec 198) (hm : flashOk s.flash.mem = true) :
    flashOk (State.closeTake s p o).flash.mem = true := by
  unfold State.closeTake; (try dsimp only); (repeat' split) <;> (try simp_all +contextual -implicitDefEqProofs)

@[simp] theorem spareTake_wfH (s : State) (p : PortId) (named : Pair) (hm : ramOk s.hostMem = true) :
    ramOk (State.spareTake s p named).hostMem = true := by
  simp +contextual -implicitDefEqProofs [State.spareTake, hm]

@[simp] theorem oamAct_wfH (s : State) (p : PortId) (o : BitVec 198) (hm : ramOk s.hostMem = true) :
    ramOk (State.oamAct s p o).hostMem = true := by
  simp +contextual -implicitDefEqProofs [State.oamAct, hm]

@[simp] theorem oamAct_wfF (s : State) (p : PortId) (o : BitVec 198) (hm : flashOk s.flash.mem = true) :
    flashOk (State.oamAct s p o).flash.mem = true := by
  simp +contextual -implicitDefEqProofs [State.oamAct, hm]

@[simp] theorem oamValidTake_wfH (s : State) (p : PortId) (o : BitVec 198) (hm : ramOk s.hostMem = true) :
    ramOk (State.oamValidTake s p o).hostMem = true := by
  simp +contextual -implicitDefEqProofs [State.oamValidTake, hm]

@[simp] theorem oamValidTake_wfF (s : State) (p : PortId) (o : BitVec 198) (hm : flashOk s.flash.mem = true) :
    flashOk (State.oamValidTake s p o).flash.mem = true := by
  simp +contextual -implicitDefEqProofs [State.oamValidTake, hm]

@[simp] theorem oamBad_wfH (s : State) (p : PortId) (hm : ramOk s.hostMem = true) :
    ramOk (State.oamBad s p).hostMem = true := by
  simp +contextual -implicitDefEqProofs [State.oamBad, hm]

@[simp] theorem sectionOut_wfH (s : State) (p : PortId) (o : SecObs) (hm : ramOk s.hostMem = true) :
    ramOk (State.sectionOut s p o).hostMem = true := by
  simp +contextual -implicitDefEqProofs [State.sectionOut, hm]

@[simp] theorem afterRetrain_wfH (s : State) (p : PortId) (hm : ramOk s.hostMem = true) :
    ramOk (State.afterRetrain s p).hostMem = true := by
  unfold State.afterRetrain; (try dsimp only); (repeat' split) <;> (try simp_all +contextual -implicitDefEqProofs)

@[simp] theorem afterRung_wfH (s : State) (p : PortId) (hm : ramOk s.hostMem = true) :
    ramOk (State.afterRung s p).hostMem = true := by
  simp +contextual -implicitDefEqProofs [State.afterRung, hm]

@[simp] theorem lateEnd_wfH (s : State) (p : PortId) (hm : ramOk s.hostMem = true) :
    ramOk (State.lateEnd s p).hostMem = true := by
  unfold State.lateEnd; (try dsimp only); (repeat' split) <;> (try simp_all +contextual -implicitDefEqProofs)

@[simp] theorem lateEnd_wfF (s : State) (p : PortId) (hm : flashOk s.flash.mem = true) :
    flashOk (State.lateEnd s p).flash.mem = true := by
  unfold State.lateEnd; (try dsimp only); (repeat' split) <;> (try simp_all +contextual -implicitDefEqProofs)

@[simp] theorem abortStep_wfH (s : State) (p : PortId) (hm : ramOk s.hostMem = true) :
    ramOk (State.abortStep s p).hostMem = true := by
  simp +contextual -implicitDefEqProofs [State.abortStep, hm]

@[simp] theorem trainForm_wfH (s : State) (p : PortId) (hm : ramOk s.hostMem = true) :
    ramOk (State.trainForm s p).hostMem = true := by
  simp +contextual -implicitDefEqProofs [State.trainForm, hm]

@[simp] theorem trainGroup_wfH (s : State) (p : PortId) (hm : ramOk s.hostMem = true) :
    ramOk (State.trainGroup s p).hostMem = true := by
  simp +contextual -implicitDefEqProofs [State.trainGroup, hm]

@[simp] theorem readyTiming_wfH (s : State) (p : PortId) (o : ReadyObs) (hm : ramOk s.hostMem = true) :
    ramOk (State.readyTiming s p o).hostMem = true := by
  simp +contextual -implicitDefEqProofs [State.readyTiming, hm]

@[simp] theorem warmSeed_wfH (s : State) (p : PortId) (hm : ramOk s.hostMem = true) :
    ramOk (State.warmSeed s p).hostMem = true := by
  simp +contextual -implicitDefEqProofs [State.warmSeed, hm]

@[simp] theorem adoptKind_wfH (s : State) (p : PortId) (k : TKind) (hm : ramOk s.hostMem = true) :
    ramOk (State.adoptKind s p k).hostMem = true := by
  simp +contextual -implicitDefEqProofs [State.adoptKind, hm]

@[simp] theorem tailSpare_wfH (s : State) (p : PortId) (named : Pair) (three : Bool) (hm : ramOk s.hostMem = true) :
    ramOk (State.tailSpare s p named three).hostMem = true := by
  unfold State.tailSpare; (try dsimp only); (repeat' split) <;> (try simp_all +contextual -implicitDefEqProofs)

@[simp] theorem headReport_wfH (s : State) (p : PortId) (f : BitVec 512) (hm : ramOk s.hostMem = true) :
    ramOk (State.headReport s p f).hostMem = true := by
  simp +contextual -implicitDefEqProofs [State.headReport, hm]

@[simp] theorem tifAbort_wfH (s : State) (p : PortId) (k : TKind) (hm : ramOk s.hostMem = true) :
    ramOk (State.tifAbort s p k).hostMem = true := by
  simp +contextual -implicitDefEqProofs [State.tifAbort, hm]

@[simp] theorem tifTrain_wfH (s : State) (p : PortId) (f : BitVec 512) (hm : ramOk s.hostMem = true) :
    ramOk (State.tifTrain s p f).hostMem = true := by
  simp +contextual -implicitDefEqProofs [State.tifTrain, hm]

@[simp] theorem headTif_wfH (s : State) (p : PortId) (f : BitVec 512) (hm : ramOk s.hostMem = true) :
    ramOk (State.headTif s p f).hostMem = true := by
  simp +contextual -implicitDefEqProofs [State.headTif, hm]

@[simp] theorem handshakeFail_wfH (s : State) (p : PortId) (hm : ramOk s.hostMem = true) :
    ramOk (State.handshakeFail s p).hostMem = true := by
  simp +contextual -implicitDefEqProofs [State.handshakeFail, hm]

@[simp] theorem stillLost_wfH (s : State) (p : PortId) (hm : ramOk s.hostMem = true) :
    ramOk (State.stillLost s p).hostMem = true := by
  unfold State.stillLost; (try dsimp only); (repeat' split) <;> (try simp_all +contextual -implicitDefEqProofs)

@[simp] theorem giveLanes_wfH (s : State) (o : PortId) (taken : List (Fin 32)) (keep0 : Bool) (hm : ramOk s.hostMem = true) :
    ramOk (State.giveLanes s o taken keep0).hostMem = true := by
  simp +contextual -implicitDefEqProofs [State.giveLanes, hm]

@[simp] theorem laneRelist_wfH (s : State) (p : PortId) (old : Word) (hm : ramOk s.hostMem = true) :
    ramOk (State.laneRelist s p old).hostMem = true := by
  simp +contextual -implicitDefEqProofs [State.laneRelist, hm]

@[simp] theorem laneApply_wfH (s : State) (p : PortId) (c : PortCfg) (hm : ramOk s.hostMem = true) :
    ramOk (State.laneApply s p c).hostMem = true := by
  unfold State.laneApply; (try dsimp only); (repeat' split) <;> (try simp_all (maxDischargeDepth := 9) +contextual -implicitDefEqProofs)

@[simp] theorem laneConfig_wfH (s : State) (k : CmdKey) (p : PortId) (e : Option LaneCfg) (hm : ramOk s.hostMem = true) :
    ramOk (State.laneConfig s k p e).hostMem = true := by
  unfold State.laneConfig; (try dsimp only); (repeat' split) <;> (try simp_all +contextual -implicitDefEqProofs)

@[simp] theorem loopOff_wfH (s : State) (k : CmdKey) (p : PortId) (side : Byte) (kind : Byte) (hm : ramOk s.hostMem = true) :
    ramOk (State.loopOff s k p side kind).hostMem = true := by
  unfold State.loopOff; (try dsimp only); (repeat' split) <;> (try simp_all +contextual -implicitDefEqProofs)

@[simp] theorem clauseFail_wfH (s : State) (p : PortId) (hm : ramOk s.hostMem = true) :
    ramOk (State.clauseFail s p).hostMem = true := by
  simp +contextual -implicitDefEqProofs [State.clauseFail, hm]

@[simp] theorem rxFrame_wfH (p : PortId) (t : FType) (pl : Bytes) (g : State → State) (s : State) (hs : ramOk s.hostMem = true)
    (hg : ∀ t, ramOk t.hostMem = true → ramOk (g t).hostMem = true) : ramOk (s.rxFrame p t pl g).hostMem = true := by
  unfold State.rxFrame; (try dsimp only); (repeat' split) <;> (try simp_all +contextual -implicitDefEqProofs)

@[simp] theorem rxFrame_wfM (p : PortId) (t : FType) (pl : Bytes) (g : State → State) (s : State) (hs : ramOk s.mbxMem = true)
    (hg : ∀ t, ramOk t.mbxMem = true → ramOk (g t).mbxMem = true) : ramOk (s.rxFrame p t pl g).mbxMem = true := by
  unfold State.rxFrame; (try dsimp only); (repeat' split) <;> (try simp_all +contextual -implicitDefEqProofs)

@[simp] theorem rxFrame_wfF (p : PortId) (t : FType) (pl : Bytes) (g : State → State) (s : State) (hs : flashOk s.flash.mem = true)
    (hg : ∀ t, flashOk t.flash.mem = true → flashOk (g t).flash.mem = true) : flashOk (s.rxFrame p t pl g).flash.mem = true := by
  unfold State.rxFrame; (try dsimp only); (repeat' split) <;> (try simp_all +contextual -implicitDefEqProofs)

@[simp] theorem rxPartnered_wfH (p : PortId) (t : FType) (pl : Bytes) (g : State → State) (s : State) (hs : ramOk s.hostMem = true)
    (hg : ∀ t, ramOk t.hostMem = true → ramOk (g t).hostMem = true) : ramOk (s.rxPartnered p t pl g).hostMem = true := by
  unfold State.rxPartnered; (try dsimp only); (repeat' split) <;> (try simp_all +contextual -implicitDefEqProofs)

@[simp] theorem rxPartnered_wfM (p : PortId) (t : FType) (pl : Bytes) (g : State → State) (s : State) (hs : ramOk s.mbxMem = true)
    (hg : ∀ t, ramOk t.mbxMem = true → ramOk (g t).mbxMem = true) : ramOk (s.rxPartnered p t pl g).mbxMem = true := by
  unfold State.rxPartnered; (try dsimp only); (repeat' split) <;> (try simp_all +contextual -implicitDefEqProofs)

@[simp] theorem rxPartnered_wfF (p : PortId) (t : FType) (pl : Bytes) (g : State → State) (s : State) (hs : flashOk s.flash.mem = true)
    (hg : ∀ t, flashOk t.flash.mem = true → flashOk (g t).flash.mem = true) : flashOk (s.rxPartnered p t pl g).flash.mem = true := by
  unfold State.rxPartnered; (try dsimp only); (repeat' split) <;> (try simp_all +contextual -implicitDefEqProofs)

@[simp] theorem usersBad_wfH (s : State) (p : PortId) (hm : ramOk s.hostMem = true) :
    ramOk (State.usersBad s p).hostMem = true := by
  simp +contextual -implicitDefEqProofs [State.usersBad, hm]

@[simp] theorem ackOne_wfH (p : PortId) (f : TxFrame) (s : State) (hm : ramOk s.hostMem = true) :
    ramOk (State.ackOne p f s).hostMem = true := by
  unfold State.ackOne; (try dsimp only); (repeat' split) <;> (try simp_all +contextual -implicitDefEqProofs)

@[simp] theorem springAck_wfH (s : State) (p : PortId) (h : BitVec 72) (hm : ramOk s.hostMem = true) :
    ramOk (State.springAck s p h).hostMem = true := by
  unfold State.springAck; (try dsimp only); (repeat' split) <;> (try simp_all (maxDischargeDepth := 9) +contextual -implicitDefEqProofs)

@[simp] theorem springRestart_wfH (s : State) (p : PortId) (hm : ramOk s.hostMem = true) :
    ramOk (State.springRestart s p).hostMem = true := by
  simp (maxDischargeDepth := 9) +contextual -implicitDefEqProofs [State.springRestart, hm]

@[simp] theorem capTake_wfH (s0 : State) (p : PortId) (cap : Bytes) (hm : ramOk s0.hostMem = true) :
    ramOk (State.capTake s0 p cap).hostMem = true := by
  simp +contextual -implicitDefEqProofs [State.capTake, hm]

@[simp] theorem selectWarm_wfH (s : State) (p : PortId) (rung : Rung) (hm : ramOk s.hostMem = true) :
    ramOk (State.selectWarm s p rung).hostMem = true := by
  simp +contextual -implicitDefEqProofs [State.selectWarm, hm]

@[simp] theorem selectAct_wfH (s : State) (p : PortId) (pay : Bytes) (hm : ramOk s.hostMem = true) :
    ramOk (State.selectAct s p pay).hostMem = true := by
  simp +contextual -implicitDefEqProofs [State.selectAct, hm]

@[simp] theorem selectTake_wfH (s : State) (p : PortId) (pay : Bytes) (hm : ramOk s.hostMem = true) :
    ramOk (State.selectTake s p pay).hostMem = true := by
  simp +contextual -implicitDefEqProofs [State.selectTake, hm]

@[simp] theorem stepTake_wfH (s : State) (p : PortId) (pay : Bytes) (hm : ramOk s.hostMem = true) :
    ramOk (State.stepTake s p pay).hostMem = true := by
  simp +contextual -implicitDefEqProofs [State.stepTake, hm]

@[simp] theorem wakeGoOn_wfH (p : PortId) (s : State) (hm : ramOk s.hostMem = true) :
    ramOk (State.wakeGoOn p s).hostMem = true := by
  unfold State.wakeGoOn; (try dsimp only); (repeat' split) <;> (try simp_all +contextual -implicitDefEqProofs)

@[simp] theorem wakeCause_wfH (s : State) (p : PortId) (held : Option Bytes) (hm : ramOk s.hostMem = true) :
    ramOk (State.wakeCause s p held).hostMem = true := by
  simp +contextual -implicitDefEqProofs [State.wakeCause, hm]

@[simp] theorem retainRestore_wfH (s : State) (d : Dom) (hm : ramOk s.hostMem = true) :
    ramOk (State.retainRestore s d).hostMem = true := by
  simp +contextual -implicitDefEqProofs [State.retainRestore, hm]

@[simp] theorem retainRestore_wfM (s : State) (d : Dom) (hm : ramOk s.mbxMem = true) :
    ramOk (State.retainRestore s d).mbxMem = true := by
  simp +contextual -implicitDefEqProofs [State.retainRestore, hm]

@[simp] theorem retainRestore_wfF (s : State) (d : Dom) (hm : flashOk s.flash.mem = true) :
    flashOk (State.retainRestore s d).flash.mem = true := by
  simp +contextual -implicitDefEqProofs [State.retainRestore, hm]

@[simp] theorem bedUp_wfH (s : State) (b : BedId) (hm : ramOk s.hostMem = true) :
    ramOk (State.bedUp s b).hostMem = true := by
  simp +contextual -implicitDefEqProofs [State.bedUp, hm]

@[simp] theorem bedUp_wfM (s : State) (b : BedId) (hm : ramOk s.mbxMem = true) :
    ramOk (State.bedUp s b).mbxMem = true := by
  simp +contextual -implicitDefEqProofs [State.bedUp, hm]

@[simp] theorem bedUp_wfF (s : State) (b : BedId) (hm : flashOk s.flash.mem = true) :
    flashOk (State.bedUp s b).flash.mem = true := by
  simp +contextual -implicitDefEqProofs [State.bedUp, hm]

@[simp] theorem hubGate_wfF (s : State) (hm : flashOk s.flash.mem = true) :
    flashOk (State.hubGate s).flash.mem = true := by
  simp +contextual -implicitDefEqProofs [State.hubGate, hm]

@[simp] theorem wakeFlush_wfH (s : State) (p : PortId) (hm : ramOk s.hostMem = true) :
    ramOk (State.wakeFlush s p).hostMem = true := by
  simp +contextual -implicitDefEqProofs [State.wakeFlush, hm]

@[simp] theorem latchedAct_wfH (s : State) (hm : ramOk s.hostMem = true) :
    ramOk (State.latchedAct s).hostMem = true := by
  simp +contextual -implicitDefEqProofs [State.latchedAct, hm]

@[simp] theorem heldOne_wfH (s : State) (x : MasterId × Nat × Option Word) (hm : ramOk s.hostMem = true) :
    ramOk (State.heldOne s x).hostMem = true := by
  unfold State.heldOne; (try dsimp only); (repeat' split) <;> (try simp_all +contextual -implicitDefEqProofs)

@[simp] theorem heldOne_wfM (s : State) (x : MasterId × Nat × Option Word) (hm : ramOk s.mbxMem = true) :
    ramOk (State.heldOne s x).mbxMem = true := by
  unfold State.heldOne; (try dsimp only); (repeat' split) <;> (try simp_all +contextual -implicitDefEqProofs)

@[simp] theorem heldOne_wfF (s : State) (x : MasterId × Nat × Option Word) (hm : flashOk s.flash.mem = true) :
    flashOk (State.heldOne s x).flash.mem = true := by
  unfold State.heldOne; (try dsimp only); (repeat' split) <;> (try simp_all +contextual -implicitDefEqProofs)

@[simp] theorem heldServe_wfH (s : State) (hm : ramOk s.hostMem = true) :
    ramOk (State.heldServe s).hostMem = true := by
  simp +contextual -implicitDefEqProofs [State.heldServe, hm]

@[simp] theorem heldServe_wfM (s : State) (hm : ramOk s.mbxMem = true) :
    ramOk (State.heldServe s).mbxMem = true := by
  simp +contextual -implicitDefEqProofs [State.heldServe, hm]

@[simp] theorem heldServe_wfF (s : State) (hm : flashOk s.flash.mem = true) :
    flashOk (State.heldServe s).flash.mem = true := by
  simp +contextual -implicitDefEqProofs [State.heldServe, hm]

@[simp] theorem reqFail_wfH (s : State) (q : SReq) (blk : Byte) (reason : Nat) (hm : ramOk s.hostMem = true) :
    ramOk (State.reqFail s q blk reason).hostMem = true := by
  unfold State.reqFail; (try dsimp only); (repeat' split) <;> (try simp_all +contextual -implicitDefEqProofs)

@[simp] theorem reqFail_wfM (s : State) (q : SReq) (blk : Byte) (reason : Nat) (hm : ramOk s.mbxMem = true) :
    ramOk (State.reqFail s q blk reason).mbxMem = true := by
  unfold State.reqFail; (try dsimp only); (repeat' split) <;> (try simp_all +contextual -implicitDefEqProofs)

@[simp] theorem reqFail_wfF (s : State) (q : SReq) (blk : Byte) (reason : Nat) (hm : flashOk s.flash.mem = true) :
    flashOk (State.reqFail s q blk reason).flash.mem = true := by
  unfold State.reqFail; (try dsimp only); (repeat' split) <;> (try simp_all +contextual -implicitDefEqProofs)

@[simp] theorem blockAnswer_wfH (s : State) (q : SReq) (blk : Byte) (hm : ramOk s.hostMem = true) :
    ramOk (State.blockAnswer s q blk).hostMem = true := by
  unfold State.blockAnswer; (try dsimp only); (repeat' split) <;> (try simp_all +contextual -implicitDefEqProofs)

@[simp] theorem blockAnswer_wfM (s : State) (q : SReq) (blk : Byte) (hm : ramOk s.mbxMem = true) :
    ramOk (State.blockAnswer s q blk).mbxMem = true := by
  unfold State.blockAnswer; (try dsimp only); (repeat' split) <;> (try simp_all +contextual -implicitDefEqProofs)

@[simp] theorem blockAnswer_wfF (s : State) (q : SReq) (blk : Byte) (hm : flashOk s.flash.mem = true) :
    flashOk (State.blockAnswer s q blk).flash.mem = true := by
  unfold State.blockAnswer; (try dsimp only); (repeat' split) <;> (try simp_all +contextual -implicitDefEqProofs)

@[simp] theorem blockAnswers_wfH (s : State) (blk : Byte) (hm : ramOk s.hostMem = true) :
    ramOk (State.blockAnswers s blk).hostMem = true := by
  simp +contextual -implicitDefEqProofs [State.blockAnswers, hm]

@[simp] theorem blockAnswers_wfM (s : State) (blk : Byte) (hm : ramOk s.mbxMem = true) :
    ramOk (State.blockAnswers s blk).mbxMem = true := by
  simp +contextual -implicitDefEqProofs [State.blockAnswers, hm]

@[simp] theorem blockAnswers_wfF (s : State) (blk : Byte) (hm : flashOk s.flash.mem = true) :
    flashOk (State.blockAnswers s blk).flash.mem = true := by
  simp +contextual -implicitDefEqProofs [State.blockAnswers, hm]

@[simp] theorem dormantReq_wfH (s : State) (k : CmdKey) (hm : ramOk s.hostMem = true) :
    ramOk (State.dormantReq s k).hostMem = true := by
  simp +contextual -implicitDefEqProofs [State.dormantReq, hm]

@[simp] theorem dormantReq_wfM (s : State) (k : CmdKey) (hm : ramOk s.mbxMem = true) :
    ramOk (State.dormantReq s k).mbxMem = true := by
  simp +contextual -implicitDefEqProofs [State.dormantReq, hm]

@[simp] theorem dormantReq_wfF (s : State) (k : CmdKey) (hm : flashOk s.flash.mem = true) :
    flashOk (State.dormantReq s k).flash.mem = true := by
  simp +contextual -implicitDefEqProofs [State.dormantReq, hm]

@[simp] theorem calRunGo_wfH (s0 : State) (hm : ramOk s0.hostMem = true) :
    ramOk (State.calRunGo s0).hostMem = true := by
  unfold State.calRunGo; (try dsimp only); (repeat' split) <;> (try simp_all +contextual -implicitDefEqProofs)

@[simp] theorem bedReady_wfH (s : State) (b : BedId) (hm : ramOk s.hostMem = true) :
    ramOk (State.bedReady s b).hostMem = true := by
  simp (maxDischargeDepth := 9) +contextual -implicitDefEqProofs [State.bedReady, hm]

@[simp] theorem coresRestart_wfH (s : State) (mode : DevMode) (hm : ramOk s.hostMem = true) :
    ramOk (State.coresRestart s mode).hostMem = true := by
  simp +contextual -implicitDefEqProofs [State.coresRestart, hm]

@[simp] theorem hotReset_wfH (s : State) (hm : ramOk s.hostMem = true) :
    ramOk (State.hotReset s).hostMem = true := by
  simp (maxDischargeDepth := 9) +contextual -implicitDefEqProofs [State.hotReset, hm]

@[simp] theorem hotReset_wfF (s : State) (hm : flashOk s.flash.mem = true) :
    flashOk (State.hotReset s).flash.mem = true := by
  simp +contextual -implicitDefEqProofs [State.hotReset, hm]

@[simp] theorem startFail_wfF (s : State) (r : Reason) (hm : flashOk s.flash.mem = true) :
    flashOk (State.startFail s r).flash.mem = true := by
  simp +contextual -implicitDefEqProofs [State.startFail, hm]

@[simp] theorem startLate_wfF (s : State) (hm : flashOk s.flash.mem = true) :
    flashOk (State.startLate s).flash.mem = true := by
  simp +contextual -implicitDefEqProofs [State.startLate, hm]

@[simp] theorem refBack_wfF (s : State) (hm : flashOk s.flash.mem = true) :
    flashOk (State.refBack s).flash.mem = true := by
  simp +contextual -implicitDefEqProofs [State.refBack, hm]

@[simp] theorem flashFound_wfF (s : State) (hm : flashOk s.flash.mem = true) :
    flashOk (State.flashFound s).flash.mem = true := by
  simp (maxDischargeDepth := 9) +contextual -implicitDefEqProofs [State.flashFound, hm]

@[simp] theorem stage2End_wfF (s : State) (o : StageObs) (hm : flashOk s.flash.mem = true) :
    flashOk (State.stage2End s o).flash.mem = true := by
  simp +contextual -implicitDefEqProofs [State.stage2End, hm]

@[simp] theorem stage3End_wfF (s : State) (hm : flashOk s.flash.mem = true) :
    flashOk (State.stage3End s).flash.mem = true := by
  simp +contextual -implicitDefEqProofs [State.stage3End, hm]

@[simp] theorem enterSeedbed_wfF (s : State) (hm : flashOk s.flash.mem = true) :
    flashOk (State.enterSeedbed s).flash.mem = true := by
  simp +contextual -implicitDefEqProofs [State.enterSeedbed, hm]

@[simp] theorem stage4End_wfF (s : State) (hm : flashOk s.flash.mem = true) :
    flashOk (State.stage4End s).flash.mem = true := by
  simp +contextual -implicitDefEqProofs [State.stage4End, hm]

@[simp] theorem stage5End_wfF (s : State) (hm : flashOk s.flash.mem = true) :
    flashOk (State.stage5End s).flash.mem = true := by
  simp +contextual -implicitDefEqProofs [State.stage5End, hm]

@[simp] theorem startCal_wfH (s : State) (hm : ramOk s.hostMem = true) :
    ramOk (State.startCal s).hostMem = true := by
  simp +contextual -implicitDefEqProofs [State.startCal, hm]

@[simp] theorem stage8End_wfH (s : State) (hm : ramOk s.hostMem = true) :
    ramOk (State.stage8End s).hostMem = true := by
  simp +contextual -implicitDefEqProofs [State.stage8End, hm]

@[simp] theorem stage8End_wfF (s : State) (hm : flashOk s.flash.mem = true) :
    flashOk (State.stage8End s).flash.mem = true := by
  simp +contextual -implicitDefEqProofs [State.stage8End, hm]

@[simp] theorem fpTornCheck_wfF (s : State) (p : PortId) (k : Nat) (hm : flashOk s.flash.mem = true) :
    flashOk (State.fpTornCheck s p k).flash.mem = true := by
  simp +contextual -implicitDefEqProofs [State.fpTornCheck, hm]

@[simp] theorem fpStart_wfF (s : State) (p : PortId) (hm : flashOk s.flash.mem = true) :
    flashOk (State.fpStart s p).flash.mem = true := by
  unfold State.fpStart; (try dsimp only); (repeat' split) <;> (try simp_all +contextual -implicitDefEqProofs)

@[simp] theorem stage9End_wfH (s : State) (hm : ramOk s.hostMem = true) :
    ramOk (State.stage9End s).hostMem = true := by
  simp +contextual -implicitDefEqProofs [State.stage9End, hm]

@[simp] theorem stage9End_wfF (s : State) (hm : flashOk s.flash.mem = true) :
    flashOk (State.stage9End s).flash.mem = true := by
  simp (maxDischargeDepth := 9) +contextual -implicitDefEqProofs [State.stage9End, hm]

@[simp] theorem powerPort_wfH (s : State) (k : CmdKey) (p : PortId) (state : Byte) (hm : ramOk s.hostMem = true) :
    ramOk (State.powerPort s k p state).hostMem = true := by
  unfold State.powerPort; (try dsimp only); (repeat' split) <;> (try simp_all +contextual -implicitDefEqProofs)

@[simp] theorem powerPort_wfF (s : State) (k : CmdKey) (p : PortId) (state : Byte) (hm : flashOk s.flash.mem = true) :
    flashOk (State.powerPort s k p state).flash.mem = true := by
  unfold State.powerPort; (try dsimp only); (repeat' split) <;> (try simp_all +contextual -implicitDefEqProofs)

@[simp] theorem bedCameUp_wfH (s : State) (b : BedId) (hm : ramOk s.hostMem = true) :
    ramOk (State.bedCameUp s b).hostMem = true := by
  simp +contextual -implicitDefEqProofs [State.bedCameUp, hm]

@[simp] theorem bedCameUp_wfM (s : State) (b : BedId) (hm : ramOk s.mbxMem = true) :
    ramOk (State.bedCameUp s b).mbxMem = true := by
  simp +contextual -implicitDefEqProofs [State.bedCameUp, hm]

@[simp] theorem bedCameUp_wfF (s : State) (b : BedId) (hm : flashOk s.flash.mem = true) :
    flashOk (State.bedCameUp s b).flash.mem = true := by
  simp +contextual -implicitDefEqProofs [State.bedCameUp, hm]

@[simp] theorem deviceAwake_wfH (s : State) (hm : ramOk s.hostMem = true) :
    ramOk (State.deviceAwake s).hostMem = true := by
  unfold State.deviceAwake; (try dsimp only); (repeat' split) <;> (try simp_all (maxDischargeDepth := 9) +contextual -implicitDefEqProofs)

@[simp] theorem wakeMsg_wfH (s : State) (p : PortId) (held : Option Bytes) (hm : ramOk s.hostMem = true) :
    ramOk (State.wakeMsg s p held).hostMem = true := by
  unfold State.wakeMsg; (try dsimp only); (repeat' split) <;> (try simp_all +contextual -implicitDefEqProofs)

@[simp] theorem wakeReadyAgain_wfH (s : State) (p : PortId) (hm : ramOk s.hostMem = true) :
    ramOk (State.wakeReadyAgain s p).hostMem = true := by
  simp +contextual -implicitDefEqProofs [State.wakeReadyAgain, hm]

@[simp] theorem quietOver_wfH (s : State) (p : PortId) (granted : Bool) (hm : ramOk s.hostMem = true) :
    ramOk (State.quietOver s p granted).hostMem = true := by
  unfold State.quietOver; (try dsimp only); (repeat' split) <;> (try simp_all +contextual -implicitDefEqProofs)

@[simp] theorem tripLink_wfH (s : State) (p : PortId) (hm : ramOk s.hostMem = true) :
    ramOk (State.tripLink s p).hostMem = true := by
  unfold State.tripLink; (try dsimp only); (repeat' split) <;> (try simp_all +contextual -implicitDefEqProofs)

@[simp] theorem tripPort_wfH (s : State) (p : PortId) (hm : ramOk s.hostMem = true) :
    ramOk (State.tripPort s p).hostMem = true := by
  unfold State.tripPort; (try dsimp only); (repeat' split) <;> (try simp_all +contextual -implicitDefEqProofs)

@[simp] theorem tripSpring_wfH (s : State) (p : PortId) (hm : ramOk s.hostMem = true) :
    ramOk (State.tripSpring s p).hostMem = true := by
  simp +contextual -implicitDefEqProofs [State.tripSpring, hm]

@[simp] theorem pllLostPort_wfH (s : State) (p : PortId) (hm : ramOk s.hostMem = true) :
    ramOk (State.pllLostPort s p).hostMem = true := by
  unfold State.pllLostPort; (try dsimp only); (repeat' split) <;> (try simp_all +contextual -implicitDefEqProofs)

@[simp] theorem thermalFault_wfH (s : State) (b : BedId) (hm : ramOk s.hostMem = true) :
    ramOk (State.thermalFault s b).hostMem = true := by
  simp +contextual -implicitDefEqProofs [State.thermalFault, hm]

@[simp] theorem bedTrip_wfH (s : State) (b : BedId) (hm : ramOk s.hostMem = true) :
    ramOk (State.bedTrip s b).hostMem = true := by
  simp +contextual -implicitDefEqProofs [State.bedTrip, hm]

@[simp] theorem bedSample_wfH (s : State) (b : BedId) (v : BitVec 12) (hm : ramOk s.hostMem = true) :
    ramOk (State.bedSample s b v).hostMem = true := by
  simp +contextual -implicitDefEqProofs [State.bedSample, hm]

@[simp] theorem bedRailLost_wfH (s : State) (b : BedId) (hm : ramOk s.hostMem = true) :
    ramOk (State.bedRailLost s b).hostMem = true := by
  simp +contextual -implicitDefEqProofs [State.bedRailLost, hm]

@[simp] theorem noticeWrite_wfH (s : State) (c : ChanId) (bs : Bytes) (hm : ramOk s.hostMem = true) :
    ramOk (State.noticeWrite s c bs).hostMem = true := by
  simp +contextual -implicitDefEqProofs [State.noticeWrite, hm]

@[simp] theorem noticeWrite_wfM (s : State) (c : ChanId) (bs : Bytes) (hm : ramOk s.mbxMem = true) :
    ramOk (State.noticeWrite s c bs).mbxMem = true := by
  simp +contextual -implicitDefEqProofs [State.noticeWrite, hm]

@[simp] theorem serve_wfH (code : Byte) (sb : Bool) (buf : Bytes) (g : State → State) (s : State) (hs : ramOk s.hostMem = true)
    (hg : ∀ t, ramOk t.hostMem = true → ramOk (g t).hostMem = true) : ramOk (s.serve code sb buf g).hostMem = true := by
  unfold State.serve; (try dsimp only); (repeat' split) <;> (try simp_all +contextual -implicitDefEqProofs)

@[simp] theorem serve_wfM (code : Byte) (sb : Bool) (buf : Bytes) (g : State → State) (s : State) (hs : ramOk s.mbxMem = true)
    (hg : ∀ t, ramOk t.mbxMem = true → ramOk (g t).mbxMem = true) : ramOk (s.serve code sb buf g).mbxMem = true := by
  unfold State.serve; (try dsimp only); (repeat' split) <;> (try simp_all +contextual -implicitDefEqProofs)

@[simp] theorem serve_wfF (code : Byte) (sb : Bool) (buf : Bytes) (g : State → State) (s : State) (hs : flashOk s.flash.mem = true)
    (hg : ∀ t, flashOk t.flash.mem = true → flashOk (g t).flash.mem = true) : flashOk (s.serve code sb buf g).flash.mem = true := by
  unfold State.serve; (try dsimp only); (repeat' split) <;> (try simp_all +contextual -implicitDefEqProofs)

@[simp] theorem flashGo_wfF (s : State) (m : MasterId) (op : Nat) (ctl : Word) (hm : flashOk s.flash.mem = true) :
    flashOk (State.flashGo s m op ctl).flash.mem = true := by
  unfold State.flashGo; (try dsimp only); (repeat' split) <;> (try simp_all (maxDischargeDepth := 9) +contextual -implicitDefEqProofs)

@[simp] theorem flashDo_wfF (s : State) (o : FlashOp) (bad : Bool) (hm : flashOk s.flash.mem = true) :
    flashOk (State.flashDo s o bad).flash.mem = true := by
  simp +contextual -implicitDefEqProofs [State.flashDo, hm]

@[simp] theorem applyEntry_wfH (s : State) (e : RegEntry) (hm : ramOk s.hostMem = true) :
    ramOk (State.applyEntry s e).hostMem = true := by
  simp +contextual -implicitDefEqProofs [State.applyEntry, hm]

@[simp] theorem applyEntry_wfM (s : State) (e : RegEntry) (hm : ramOk s.mbxMem = true) :
    ramOk (State.applyEntry s e).mbxMem = true := by
  simp +contextual -implicitDefEqProofs [State.applyEntry, hm]

@[simp] theorem applyEntry_wfF (s : State) (e : RegEntry) (hm : flashOk s.flash.mem = true) :
    flashOk (State.applyEntry s e).flash.mem = true := by
  simp +contextual -implicitDefEqProofs [State.applyEntry, hm]

@[simp] theorem applyBatch_wfH (k : CmdKey) (buf : Nat) (x0 : Nat) (x1 : Bool) (x2 : List RegEntry) (x3 : State) (hm : ramOk x3.hostMem = true) :
    ramOk (State.applyBatch k buf x0 x1 x2 x3).hostMem = true := by
  induction x2 generalizing x0 x1 x3 with
  | nil => simp [State.applyBatch, hm]
  | cons e es ih =>
    unfold State.applyBatch
    exact inNextTick_wfH _ _ (hostWrite_wfH _ _ _ (applyEntry_wfH _ _ hm)) fun t ht => ih _ _ _ ht

@[simp] theorem applyBatch_wfM (k : CmdKey) (buf : Nat) (x0 : Nat) (x1 : Bool) (x2 : List RegEntry) (x3 : State) (hm : ramOk x3.mbxMem = true) :
    ramOk (State.applyBatch k buf x0 x1 x2 x3).mbxMem = true := by
  induction x2 generalizing x0 x1 x3 with
  | nil => simp [State.applyBatch, hm]
  | cons e es ih =>
    unfold State.applyBatch
    exact inNextTick_wfM _ _ (by simp [applyEntry_wfM _ _ hm]) fun t ht => ih _ _ _ ht

@[simp] theorem applyBatch_wfF (k : CmdKey) (buf : Nat) (x0 : Nat) (x1 : Bool) (x2 : List RegEntry) (x3 : State) (hm : flashOk x3.flash.mem = true) :
    flashOk (State.applyBatch k buf x0 x1 x2 x3).flash.mem = true := by
  induction x2 generalizing x0 x1 x3 with
  | nil => simp [State.applyBatch, hm]
  | cons e es ih =>
    unfold State.applyBatch
    exact inNextTick_wfF _ _ (by simp [applyEntry_wfF _ _ hm]) fun t ht => ih _ _ _ ht

@[simp] theorem userPut_wfH (s : State) (b : BedId) (entry : Bytes) (payload : Bytes) (hm : ramOk s.hostMem = true) :
    ramOk (State.userPut s b entry payload).hostMem = true := by
  simp +contextual -implicitDefEqProofs [State.userPut, hm]

@[simp] theorem userGive_wfH (s : State) (b : BedId) (u : UserRx) (us : List UserRx) (hm : ramOk s.hostMem = true) :
    ramOk (State.userGive s b u us).hostMem = true := by
  simp +contextual -implicitDefEqProofs [State.userGive, hm]

@[simp] theorem telDue_wfH (s : State) (hm : ramOk s.hostMem = true) :
    ramOk (State.telDue s).hostMem = true := by
  simp +contextual -implicitDefEqProofs [State.telDue, hm]

@[simp] theorem calRunBed_wfH (s : State) (k : CmdKey) (b : BedId) (g : BitVec 4) (hm : ramOk s.hostMem = true) :
    ramOk (State.calRunBed s k b g).hostMem = true := by
  simp +contextual -implicitDefEqProofs [State.calRunBed, hm]

@[simp] theorem calRunDevice_wfH (s : State) (k : CmdKey) (g : BitVec 4) (hm : ramOk s.hostMem = true) :
    ramOk (State.calRunDevice s k g).hostMem = true := by
  simp +contextual -implicitDefEqProofs [State.calRunDevice, hm]

@[simp] theorem startCalEnd_wfF (s : State) (hm : flashOk s.flash.mem = true) :
    flashOk (State.startCalEnd s).flash.mem = true := by
  simp +contextual -implicitDefEqProofs [State.startCalEnd, hm]

@[simp] theorem bistGo_wfH (s : State) (k : CmdKey) (kinds : Byte) (bs : List BedId) (hm : ramOk s.hostMem = true) :
    ramOk (State.bistGo s k kinds bs).hostMem = true := by
  simp +contextual -implicitDefEqProofs [State.bistGo, hm]

@[simp] theorem hubKindStop_wfF (s : State) (o : BistObs) (hm : flashOk s.flash.mem = true) :
    flashOk (State.hubKindStop s o).flash.mem = true := by
  unfold State.hubKindStop; (try dsimp only); (repeat' split) <;> (try simp_all +contextual -implicitDefEqProofs)

@[simp] theorem bedKindStop_wfF (s : State) (b : BedId) (o : BistObs) (hm : flashOk s.flash.mem = true) :
    flashOk (State.bedKindStop s b o).flash.mem = true := by
  unfold State.bedKindStop; (try dsimp only); (repeat' split) <;> (try simp_all +contextual -implicitDefEqProofs)

@[simp] theorem chunkBegin_wfF (s : State) (k : CmdKey) (g : Staging) (offset : Nat) (data : Bytes) (last : Bool) (hm : flashOk s.flash.mem = true) :
    flashOk (State.chunkBegin s k g offset data last).flash.mem = true := by
  simp +contextual -implicitDefEqProofs [State.chunkBegin, hm]

@[simp] theorem stageChunk_wfF (s : State) (k : CmdKey) (first : Bool) (last : Bool) (offset : Nat) (data : Bytes) (hm : flashOk s.flash.mem = true) :
    flashOk (State.stageChunk s k first last offset data).flash.mem = true := by
  unfold State.stageChunk; (try dsimp only); (repeat' split) <;> (try simp_all +contextual -implicitDefEqProofs)

@[simp] theorem stageLast_wfF (s : State) (k : CmdKey) (g : Staging) (hm : flashOk s.flash.mem = true) :
    flashOk (State.stageLast s k g).flash.mem = true := by
  simp +contextual -implicitDefEqProofs [State.stageLast, hm]

@[simp] theorem activate_wfH (s : State) (k : CmdKey) (slotB : Bool) (restart : Bool) (hm : ramOk s.hostMem = true) :
    ramOk (State.activate s k slotB restart).hostMem = true := by
  simp +contextual -implicitDefEqProofs [State.activate, hm]

@[simp] theorem activate_wfF (s : State) (k : CmdKey) (slotB : Bool) (restart : Bool) (hm : flashOk s.flash.mem = true) :
    flashOk (State.activate s k slotB restart).flash.mem = true := by
  simp +contextual -implicitDefEqProofs [State.activate, hm]

@[simp] theorem scanOpen_wfH (s : State) (k : CmdKey) (hm : ramOk s.hostMem = true) :
    ramOk (State.scanOpen s k).hostMem = true := by
  simp +contextual -implicitDefEqProofs [State.scanOpen, hm]

@[simp] theorem unlock_wfH (s : State) (k : CmdKey) (len : Nat) (token : Bytes) (hm : ramOk s.hostMem = true) :
    ramOk (State.unlock s k len token).hostMem = true := by
  simp +contextual -implicitDefEqProofs [State.unlock, hm]

end Sys2Proof.Machine
end

