-- ==== Sys2Proof/Laws/Step.lean ====
section
/-! SUPPORT.
How a command comes to its next state, and what reaches a register of the mailbox block. -/

namespace Sys2Proof.Machine

/-- A command whose meaning is f in a live device completes with f's state, the queue and the time as
before. -/
theorem completes_live {i : Instr} {s : State} {f : State → State} {P : State → Prop}
    (hl : s.live = true) (he : exec i s = onLive s f)
    (h : P { f s with pending := s.pending, now := s.now }) : Completes i s P :=
  ⟨_, by rw [he, onLive_eq, if_pos hl], h⟩

/-- The same where the meaning leaves the queue and the time alone itself. -/
theorem completes_with {i : Instr} {s : State} {f : State → State} {P : State → Prop}
    (hl : s.live = true) (he : exec i s = onLive s f) (hp : (f s).pending = s.pending)
    (hn : (f s).now = s.now) (h : P (f s)) : Completes i s P := by
  refine completes_live hl he ?_
  rw [← hp, ← hn]; exact h

/-- A command whose meaning answers t completes with t, the queue and the time as before. -/
theorem completes_answer {i : Instr} {s t : State} {P : State → Prop} (he : exec i s = answer s t)
    (h : P { t with pending := s.pending, now := s.now }) : Completes i s P :=
  ⟨_, he, h⟩

/-- Every meaning but JTAG_INSTRUCTION's answers: the queue and the time are as before. -/
theorem answer_keeps {s t u : State} (h : answer s t = .next u) :
    u.pending = s.pending ∧ u.now = s.now := by
  cases h; exact ⟨rfl, rfl⟩

/-- In a device that is not live no command of onLive has an effect. -/
theorem onLive_held {s : State} {f : State → State} (h : s.live = false) : onLive s f = .next s := by
  simp [onLive, answer, h]

theorem blockOf_mbx (c : ChanId) (o : Nat) (h : o < 0x20) : blockOf (mbxAddr c o) = some .mbx := by
  have := c.isLt
  unfold blockOf mbxAddr
  rw [if_neg (by omega), if_neg (by omega), if_neg (by omega), if_neg (by omega), if_pos (by omega)]

theorem blockOf_bind (c : ChanId) : blockOf (bindAddr c) = some .mbx := by
  have := c.isLt
  unfold blockOf bindAddr
  rw [if_neg (by omega), if_neg (by omega), if_neg (by omega), if_neg (by omega), if_pos (by omega)]

/-- A write of a master that reaches the mailbox block is made. -/
theorem writeTo_block {s : State} {m : MasterId} {a : Nat} {f : State → State} (hm : hasBar0 m = true)
    (he : s.early m = false) (hb : blockOf a = some .mbx) : s.writeTo m a f = f s := by
  unfold State.writeTo
  rw [if_neg (by simp [hasBar0] at hm; tauto), hb]
  simp [State.answersAt, State.answers, blockBed, he]

/-- A read of a master that reaches the mailbox block has its effect. -/
theorem readOf_block {s : State} {m : MasterId} {a : Nat} {f : State → State} (hm : hasBar0 m = true)
    (he : s.early m = false) (hb : blockOf a = some .mbx) : s.readOf m a f = f s := by
  unfold State.readOf
  rw [if_neg (by simp [hasBar0] at hm; tauto), hb]
  simp [State.answersAt, State.answers, blockBed, he]

end Sys2Proof.Machine
end

