-- ==== Sys2Proof/Tests/Slice0.lean ====
section
/-! SUPPORT.
The model's own tests: ill-formed commands that WellFormed refuses, single steps whose results the
manual gives, and for each statement with hypotheses states and operands that meet them. -/

namespace Sys2Proof.Tests

open Sys2Proof.Machine

set_option Elab.async false

/-! ## Small states -/

/-- A device in ACTIVE with every bed on and the command ring 0, its completion ring and the telemetry
ring running. -/
def awake : State :=
  { State.reset with
    hub := { mode := .active, base := .active, bindLocked := true },
    clk := { lock := true, armed := true, tick := 1000 },
    boot := { stage := 0 },
    pins := { link := true, cfgReady := true },
    now := 1000,
    rings := mkVec 64 fun r =>
      if r = cmdRing 0 ∨ r = cplRing 0 ∨ r = telRing ∨ r = sprTxRing 0 ∨ r = sprRxRing 0 then
        { state := .run, logSize := 6, base := 0x100000 * BitVec.ofNat 64 (r.val + 1) }
      else {},
    beds := mkVec 8 fun b => { Bed.reset b with
      pow := { on := true, lineLock := true, tender := true, laneLock := [true, true] } } }

/-- The same with port 5 changed. -/
def withPort (f : Port → Port) : State := awake.modPort 5 f

/-- The same with bed 0 changed. -/
def withBed (f : Bed → Bed) : State := awake.modBed 0 f

/-- The same with bed 0's power changed. -/
def withPow (f : BedPower → BedPower) : State := awake.modPow 0 f

/-- The same with channel 3 bound from Gardener to PF0 and changed. -/
def withChan (f : Chan → Chan) : State :=
  awake.modChan 3 fun q => f { q with bind := 0x1B2 }

/-- Port 5 in a state of R28. -/
def inState (x : PState) : State := awake.modLink 5 fun l => { l with state := x }

/-- A header of ring 0 for one element. -/
def hdrFor (e : Elem) : CmdHdr :=
  { ring := 0, cid := 7, portset := false, fence := false, target := BitVec.ofNat 16 e.code, ports := 0,
    detail := 0 }

/-- A diagnostic run of port 5 with a test in progress. -/
def diagOf (left : List DTest) : Diag :=
  { key := { ring := 0, cid := 7, serial := 0 }, addr := 0x4000, tests := 0x1F, nvp := 700,
    left := left, begun := true, prior := .up, rung := 9, partner := 0, start := 0,
    pairs := [{}, {}, {}, {}], pstate := .up, deskew := 0 }

/-- A notice on channel 0 with its buffer in mailbox memory, in a mode. -/
def seedb (buf : Bytes) (m : DevMode) : State :=
  { awake.modChan 0 (fun q => { q with
      bind := 0x1B1, notice := true, lock := 11, ptrHi := 0x80000000, ptrLo := 0x100, metaw := 64 }) with
    hub := { awake.hub with mode := m, base := m }, mbxMem := memWriteBytes 0 [] 0x100 buf }

/-- A start in a stage, with the reference there. -/
def inStage (n : Nat) : State :=
  { State.reset with boot := { stage := n }, clk := { lock := true, armed := true, tick := 50 }, now := 50 }

/-- Port 5 with its Spring channel on, in a port state, the channel changed by f. -/
def spring (x : PState) (f : Spring → Spring) : State :=
  (inState x).modPort 5 fun q => { q with
    cfg := { q.cfg with islandEn := true }, spring := f q.spring }

/-- A partnered channel. -/
def partnered (r : Role) (g : Spring) : Spring := { g with sstate := .partnered, srole := r }

/-- A channel in which a frame of a type and length has had its header decided. -/
def rxOf (t : FType) (n : Nat) (g : Spring) : Spring :=
  { g with rxBusy := true, rxHdr := some (BitVec.ofNat 72 (t.code + 32 * n)) }

/-- Port 5 UP on a CH rung in a role. -/
def upCh (r : Rung) (x : Role) : State :=
  (inState .up).modLink 5 fun l => { l with rung := r, role := x }

/-- Port 5 in cold training at CH-100T in a phase, in a role, its part changed. -/
def trainAs (x : Role) (ph : Phase) (f : Train → Train) : State :=
  ((inState .training).modTrain 5 fun t =>
    f { t with kind := .cold, phase := ph, rung := 9, silent := false }).modLink 5 fun l =>
      { l with role := x, rung := 9 }

/-- Four comma locks, each pair with its own identity. -/
def fourLocks : List (Option Lock) := [some ⟨0, false⟩, some ⟨1, false⟩, some ⟨2, false⟩, some ⟨3, false⟩]

/-- Port 5 quiet in STILL at CH-100T in a role, its part changed. -/
def quietCh (x : Role) (f : Still → Still) : State :=
  (upCh 9 x).modPort 5 fun q => { q with
    link := { q.link with state := .still }, still := f { quiet := true, qrg := 4 } }

/-- Port 5 UP with its host lane, lane 10 of bed 0, locked. -/
def lanesOn : State :=
  (((upCh 9 .head).modCfg 5 fun c => { c with lanemap := 0xAEA }).modHost 5 fun h =>
    { h with mode := 9 }).modLane 10 (fun l => { l with locked := true }) |>.modPow 0 fun w =>
    { w with laneFam := [2, 1] }

/-- n values of a pair's comma, inverted where inv says. -/
def commas (i : Pair) (inv : Bool) (n : Nat) : List RxPt :=
  let k : Int := if inv then -256 else 256
  List.replicate n (k * (comma i).1, k * (comma i).2)

/-- Port 5's receiver in data mode, or after it. -/
def rxOn (s : State) (r : RxRun) : State := s.modPort 5 fun q => { q with rx := { q.rx with run := r } }

/-- A section decided as it came in, with n sections after it. -/
def secOf (c : BitVec 1300) (n : Nat) : SecObs :=
  { decided := c, hard := c, uncoded := 0, ahead := n, next1 := 0, next2 := 0, pass := some 3 }

/-! ## WellFormed refuses -/

/-- R369. No master 0, 14 or 15. -/
theorem test_wf_masters :
    [Instr.ringEnable 0 0 1, .ringDisable 14 0 0, .registerWrite 15 0 0 .whole, .offBlockAccess 0 1 0,
      .afaultClear 0, .dshiftClear 0 0, .fpClear 0 0, .laneTxeqWrite 0 0 0, .fuseGo 0 0 1,
      .flashRead 0 0, .flashProgram 0 0, .flashErase 0 0, .mbxLockRead [] 0, .mbxLockRead [0] 0,
      .mbxLockRelease 0 0 0, .mbxStageWrite 0 0 0 0, .mbxPost 0 0, .mbxTake 0 0, .mbxDone 0 0 0,
      .mbxBellSet 0 0 0, .mbxBellClear 0 0 0, .mbxMaskWrite 0 0 0, .mbxBindWrite 0 0 0,
      .mbxBindctlLock 0 0, .coreReadyReport 11].all (fun i => !i.wf) = true := by decide +kernel

/-- Lengths that the manual fixes, and ranges of operands. -/
theorem test_wf_operands :
    [Instr.railPowerGoodLost [], .railPowerGoodLost [.core, .core], .railPowerGoodRegained [],
      .tempSample [0], .resetComplete .device, .cmdLaneConfig (hdrFor (.port 5)) [],
      .cmdFpLoad (hdrFor (.port 5)) 0 (some [1]).toList,
      .cmdFwStage (hdrFor .device) 0 0 4 [1], .cmdAttest (hdrFor .device) 0 [1] 0,
      .cmdDebugUnlock (hdrFor .device) 2 [1], .hostProducerDoorbell 20 0,
      .deviceConsumerDoorbell 40 0, .commandFetch 0 [1], .ringEnable 11 0 0, .ringDisable 11 0 1,
      .springTxEntryTake 0 [1] [], .sampleRecordQueue 5 true [0] [] [], .registerWrite 11 2 0 .partialDword,
      .offBlockAccess 11 0 0, .ingressLockLost 3 0].all (fun i => !i.wf) = true := by decide +kernel

/-- R437. No block 0, 8 or 0x40. -/
theorem test_wf_blocks :
    [Instr.sluiceBlockAnswer 0, .sluiceAnswerTimeout 8, .sluiceReask 0x40, .sluiceDelayLimit 0x2A].all
      (fun i => !i.wf) = true := by decide +kernel

/-- R198. No Spring payload is longer than 256 bytes, and a USER frame has one byte. -/
theorem test_wf_payloads :
    [Instr.cap 5 (zeros 257), .select 5 (zeros 257), .trainStep 5 (zeros 257), .quietReq 5 (zeros 257),
      .quietAck 5 (zeros 257), .sweepReq 5 (zeros 257), .sweepAck 5 (zeros 257),
      .wakeReady 5 (zeros 257), .wakeGo 5 (zeros 257), .spare 5 (zeros 257), .user 5 (zeros 257),
      .user 5 []].all (fun i => !i.wf) = true := by decide +kernel

/-- Lengths of what the line, a diagnostic and a calibration observe. -/
theorem test_wf_observations :
    [Instr.snrUpdate 5 [{ sum := 0, count := 0 }], .commaLockAcquire 5 0 [] [], .commaLockLoss 5 ⟨0, [(1, 1)]⟩,
      .pairFailure 5 [], .pairFailure 5 [0, 0], .degradeEpochEnd ⟨5, 1, 2⟩,
      .sectionRelease 5 { decided := 0, hard := 0, uncoded := 0, ahead := 0, next1 := 0, next2 := 0,
                          pass := some 0 },
      .phaseReady 5 { delay := [], errs := [], coef := [] },
      .diagTestEnd 5 0 { pairs := [], skew := 0, energySeen := false, category := 0 },
      .calRunEnd 0 0 [1]].all (fun i => !i.wf) = true := by decide +kernel

/-- R336. A batch of more than 65,535 entries. -/
theorem test_wf_batch (h : CmdHdr) (e : RegEntry) :
    (Instr.cmdRegBatch h 0 (List.replicate 65536 e)).wf = false := by
  show decide ((List.replicate 65536 e).length ≤ 65535) = false
  rw [List.length_replicate]
  rfl

/-! ## Single steps and values that the manual gives -/

/-- R27, R404. A tick passes on an empty queue. -/
theorem test_tick_passes :
    (match step awake with | .next t => t.clk.tick | _ => 0) = 1001 := by decide +kernel

/-- The front of the queue runs, and the rest waits. -/
theorem test_front_runs :
    (match step { awake with pending := [.hotReset, .flrPf0] } with
      | .next t => t.pending | _ => []) = [.flrPf0] := by decide +kernel

/-- R374. Of masters that read a free lock together the lowest wins. -/
theorem test_lock_lowest_wins :
    (match exec (.mbxLockRead [11, 3, 5] 3) awake with
      | .next t => (t.chan 3).lock | _ => 0) = 3 := by decide +kernel

/-- R480. A port counter wraps at 2^48. -/
theorem test_counter_wraps :
    ((({ vals := [{ val := 0xFFFFFFFFFFFF }] } : Bank).add 1 0 1).vals.map fun c => c.val) = [0] := by
  decide +kernel

/-- R477. The event of the higher precedence of one tick comes first, whichever was raised first. -/
theorem test_loss_before_link_down :
    ((({ awake with due := [] }.raise .linkDown (.port 5) []).raise .reflost .device []).due.map
      Event.code) = [Ev.reflost, Ev.linkDown] := by decide +kernel

/-- R41. The draw of a listen interval is 1 to 15. -/
theorem test_draw_in_range : (roleDraw 64 1).1 ≠ 0 := by decide +kernel

/-- R512. A clear bit below a blown one counts as blown. -/
theorem test_fused_version : fusedSvn 0x14 = 5 ∧ fusedSvn 0 = 0 := by decide +kernel

/-- R389. The tick counter does not count before the first lock. -/
theorem test_tick_before_lock :
    (match step State.reset with | .next t => (t.clk.tick, t.now) | _ => (1, 0)) = (0, 1) := by
  decide +kernel

/-- R476. With a scan scope open an internal scan stops by name. -/
theorem test_internal_scan :
    exec (.jtagInstruction .internal) { awake with sec := { awake.sec with unlocked := 1 } } =
      .fault .internalScan := by
  rfl

/-- R542. A device without supply takes no command but the supplies' own. -/
theorem test_unpowered :
    (match exec .hotReset { awake with pins := { awake.pins with powered := false } } with
      | .next t => t.pins.link | _ => false) = true := by decide +kernel

/-- No word spells a command. -/
theorem test_no_words : decodeTableWord 32 0 = none := by decide +kernel

/-! ## Witnesses: for each statement, states and operands that meet the hypotheses of each clause -/

/-- PowerAndPerst. -/
theorem test_witness_PowerAndPerst :
    (let s : State := { awake with pins := { awake.pins with powered := false } };
     s.pins.powered = false) ∧
    (let s : State := awake;
     s.pins.powered = true) := by
  refine ⟨?_, ?_⟩ <;> decide +kernel

/-- RailsAndRelease. -/
theorem test_witness_RailsAndRelease :
    (let s : State := { State.reset with pins := { perst := true } };
     s.pins.powered = true ∧ s.pins.perst = true ∧ s.pins.lost = [] ∧ s.sec.wellUnlock = false) ∧
    (let s : State := { State.reset with pins := { perst := true, lost := [.ld] } };
     s.pins.powered = true ∧ s.pins.perst = true ∧ s.pins.lost ≠ []) ∧
    (let s : State := awake;
     let rs : List Rail := [.core, .ld];
     s.pins.powered = true ∧ .core ∈ rs ∧ .aon ∉ rs ∧ .io ∉ rs) ∧
    (let s : State := { State.reset with pins := { lost := [.core], startDue := true } };
     let rs : List Rail := [.core];
     s.pins.powered = true ∧ s.pins.startDue = true ∧ s.pins.lost.all rs.contains = true ∧
       s.sec.wellUnlock = false) := by
  refine ⟨?_, ?_, ?_, ?_⟩ <;> decide +kernel

/-- FunctionResets. -/
theorem test_witness_FunctionResets :
    (let s : State := upCh 9 .head;
     s.live = true ∧ s.pins.link = true) ∧
    (let s : State := upCh 9 .head;
     s.live = true ∧ s.pins.link = true) ∧
    (let s : State := upCh 9 .head;
     let c : Instr := .hotReset;
     (c = .hotReset ∨ c = .pcieLinkDown) ∧ s.live = true ∧ s.pins.link = true) ∧
    (let s : State := upCh 9 .head;
     let c : Instr := .pcieLinkDown;
     (c = .hotReset ∨ c = .pcieLinkDown) ∧ s.live = true ∧ s.pins.link = true) ∧
    (let s : State := { awake with pins := { awake.pins with flr1 := true } };
     s.live = true) ∧
    (let s : State := awake;
     s.live = true ∧ s.pins.link = true) ∧
    (let s : State := { awake with pins := { awake.pins with d3pf1 := true }, msixHeld := [(true, 3)] };
     s.live = true) ∧
    (let s : State := withChan fun q => { q with lock := 13 };
     s.live = true) := by
  refine ⟨?_, ?_, ?_, ?_, ?_, ?_, ?_, ?_⟩ <;> decide +kernel

/-- ClockLoop. -/
theorem test_witness_ClockLoop :
    (let s : State := State.reset;
     s.live = true ∧ s.clk.lock = false ∧ s.clk.armed = false ∧ s.boot.stage = 1 ∧ s.boot.failed
       = false) ∧
    (let s : State := State.reset;
     s.live = true ∧ s.clk.lock = false ∧ s.boot.stage = 1 ∧ s.boot.failed = false) ∧
    (let s : State := awake.modLink 5 fun l => { l with state := .up, rung := 9 };
     s.live = true ∧ s.clk.armed = true ∧ s.clk.coast = false) ∧
    (let s : State := { awake with clk := { awake.clk with coast := true } };
     s.live = true) ∧
    (let s : State := { awake with clk := { awake.clk with coast := true, reacq := true } };
     s.live = true) ∧
    (let s : State := { awake with clk := { awake.clk with coast := true, reacq := true, lock := false } };
     s.live = true ∧ s.clk.coast = true ∧ s.clk.reacq = true) := by
  refine ⟨?_, ?_, ?_, ?_, ?_, ?_⟩ <;> decide +kernel

/-- LinePllAndSteering. -/
theorem test_witness_LinePllAndSteering :
    (let s : State := inState .listening;
     let b : BedId := 0;
     s.live = true ∧ (s.bed b).pow.on = true ∧ (s.bed b).pow.lineLock = true) ∧
    (let s : State := withPow fun w => { w with lineLock := false };
     let b : BedId := 0;
     s.live = true ∧ (s.bed b).pow.on = true ∧ (s.bed b).pow.lineLock = false ∧ s.clk.reflost =
       false) ∧
    (let s : State := withPow fun w => { w with lineLock := false };
     let b : BedId := 0;
     s.live = true ∧ (s.bed b).pow.on = true ∧ (s.bed b).pow.lineLock = false ∧ (s.bed
       b).pow.pllReset = false ∧ (s.bed b).pow.inReset = false ∧ s.clk.reflost = false) ∧
    (let s : State := (inState .listening).modPow 0 fun w => { w with lineLock := false, pllReset := true };
     let b : BedId := 0;
     s.live = true ∧ (s.bed b).pow.on = true ∧ (s.bed b).pow.lineLock = false ∧ (s.bed
       b).pow.pllReset = true) ∧
    (let s : State := { awake with clk := { awake.clk with steer := [3, 0, 0, 0, 0, 0, 0, 0] } };
     let b : BedId := 0;
     s.live = true ∧ (s.bed b).pow.on = true ∧ (s.bed b).pow.lineLock = true) ∧
    (let s : State := { awake with clk := { awake.clk with steer := [-3, 0, 0, 0, 0, 0, 0, 0] } };
     let b : BedId := 0;
     s.live = true ∧ (s.bed b).pow.on = true ∧ (s.bed b).pow.lineLock = true) := by
  refine ⟨?_, ?_, ?_, ?_, ?_, ?_⟩ <;> decide +kernel

/-- TenderWatchdog. -/
theorem test_witness_TenderWatchdog :
    (let s : State := awake.modChan 3 fun q => { q with lock := 3 };
     let b : BedId := 0;
     s.live = true ∧ (s.bed b).pow.on = true ∧ (s.bed b).pow.tender = true ∧ (s.bed
       b).pow.inReset = false ∧ (s.bed b).pow.wdogAt = none ∧ (s.bed b).bist = none) ∧
    (let s : State := withPow fun w => { w with wdogAt := some 5 };
     let b : BedId := 0;
     let n : Nat := 5;
     s.live = true ∧ (s.bed b).pow.on = true ∧ (s.bed b).pow.tender = true ∧ (s.bed
       b).pow.inReset = false ∧ (s.bed b).pow.wdogAt = some n ∧ s.now < n + Config.tk1s) := by
  refine ⟨?_, ?_⟩ <;> decide +kernel

/-- TemperatureSample. -/
theorem test_witness_TemperatureSample :
    (let s : State := awake;
     let v : List (BitVec 12) := [100, 120, 140, 160, 180, 200, 220, 240, 260];
     s.live = true ∧ (∀ x ∈ v, tempHot x = false) ∧ (∀ b, (s.bed b).tempHeld = false)) := by
  decide +kernel

/-- EstateTime. -/
theorem test_witness_EstateTime :
    (let s : State := { awake with clk := { awake.clk with follow := some (⟨0, 7, 0⟩, 500) }, cmds := [{ hdr := hdrFor .device, op := .estateSync, acted := true, targets := [{ elem := .device }] }] };
     let k : CmdKey := ⟨0, 7, 0⟩;
     let v : BitVec 64 := 500;
     s.live = true ∧ s.clk.follow = some (k, v) ∧ s.clk.followAt < s.now) ∧
    (let s : State := awake;
     s.live = true ∧ s.clk.follow = none) ∧
    (let s : State := { awake with clk := { awake.clk with follow := some (⟨0, 7, 0⟩, 500) }, cmds := [{ hdr := hdrFor .device, op := .estateSync, acted := true, targets := [{ elem := .device }] }] };
     let k : CmdKey := ⟨0, 7, 0⟩;
     let v : BitVec 64 := 500;
     s.live = true ∧ s.clk.follow = some (k, v)) ∧
    (let s : State := awake;
     s.live = true) ∧
    (let s : State := awake;
     let h : CmdHdr := hdrFor .device;
     let ms : Word := 100;
     s.live = true ∧ s.takes h .estateSync = true ∧ hdrTargets .estateSync h = some [.device] ∧
       1 ≤ ms.toNat ∧ ms.toNat ≤ 10000 ∧ s.clk.follow = none) ∧
    (let s : State := awake;
     let h : CmdHdr := hdrFor .device;
     s.live = true ∧ s.takes h .estateSync = true ∧ hdrTargets .estateSync h = some [.device] ∧
       s.clk.follow = none) ∧
    (let s : State := awake;
     let ms : Word := 0;
     s.live = true ∧ s.startsNow = true ∧ s.cmds = [] ∧ (ms = 0 ∨ 10000 < ms.toNat)) := by
  refine ⟨?_, ?_, ?_, ?_, ?_, ?_, ?_⟩ <;> decide +kernel

/-- MailboxLocksAndStaging. -/
theorem test_witness_MailboxLocksAndStaging :
    (let s : State := awake;
     let c : ChanId := 3;
     let ms : List MasterId := [11, 2];
     let w : MasterId := 2;
     s.live = true ∧ w ∈ ms ∧ (∀ m ∈ ms, hasBar0 m = true ∧ s.early m = false ∧ w.toNat ≤
       m.toNat) ∧ (s.chan c).owner s.now = 0) ∧
    (let s : State := withChan fun q => { q with lock := 11, lockAt := some 1000 };
     let c : ChanId := 3;
     let m : MasterId := 2;
     s.live = true ∧ hasBar0 m = true ∧ s.early m = false ∧ (s.chan c).lock ≠ 0 ∧ (s.chan
       c).lockAt = some s.now) ∧
    (let s : State := withChan fun q => { q with lock := 2 };
     let c : ChanId := 3;
     let ms : List MasterId := [11, 2];
     s.live = true ∧ (∀ m ∈ ms, s.early m = false) ∧ (s.chan c).owner s.now ≠ 0 ∧ ((s.chan
       c).lock = 0 ∨ (s.chan c).lockAt ≠ some s.now)) ∧
    (let s : State := withChan fun q => { q with lock := 2 };
     let c : ChanId := 3;
     let m : MasterId := 2;
     s.live = true ∧ hasBar0 m = true ∧ s.early m = false ∧ (s.chan c).lock = m ∧ (s.chan
       c).outstanding = false) ∧
    (let s : State := withChan fun q => { q with lock := 2 };
     let c : ChanId := 3;
     let m : MasterId := 11;
     let v : Word := 0;
     s.live = true ∧ hasBar0 m = true ∧ s.early m = false ∧ ((v ≠ 0 ∨ (s.chan c).lock ≠ m ∨
       (s.chan c).outstanding = true))) ∧
    (let s : State := withChan fun q => { q with lock := 2, notice := true };
     let c : ChanId := 3;
     let m : MasterId := 2;
     let v : Word := 0;
     s.live = true ∧ hasBar0 m = true ∧ s.early m = false ∧ ((v ≠ 0 ∨ (s.chan c).lock ≠ m ∨
       (s.chan c).outstanding = true))) ∧
    (let s : State := withChan id;
     let c : ChanId := 3;
     let m : MasterId := 2;
     s.live = true ∧ hasBar0 m = true ∧ s.early m = false ∧ (s.chan c).bound = true ∧ (s.chan
       c).sender = m ∧ (s.chan c).outstanding = false) ∧
    (let s : State := withChan id;
     let c : ChanId := 3;
     let m : MasterId := 11;
     s.live = true ∧ hasBar0 m = true ∧ s.early m = false ∧ (((s.chan c).bound = false ∨ (s.chan
       c).sender ≠ m ∨ (s.chan c).outstanding = true))) := by
  refine ⟨?_, ?_, ?_, ?_, ?_, ?_, ?_, ?_⟩ <;> decide +kernel

/-- MailboxPost. -/
theorem test_witness_MailboxPost :
    (let s : State := withChan id;
     let c : ChanId := 3;
     let m : MasterId := 2;
     let r : Reject := .noLock;
     s.live = true ∧ hasBar0 m = true ∧ s.early m = false ∧ r = (if (s.chan c).bound = false
       then .unbound else if (s.chan c).sender ≠ m then .notSender else if (s.chan c).lock ≠ m
       then .noLock else if (s.chan c).outstanding = true then .busy else if (s.chan c).ptrOk =
       false then .badPtr else .none) ∧ r ≠ .none ∧ (s.chan c).rxRstAt ≠ some s.now) ∧
    (let s : State := withChan id;
     let c : ChanId := 3;
     let m : MasterId := 11;
     let r : Reject := .notSender;
     s.live = true ∧ hasBar0 m = true ∧ s.early m = false ∧ r = (if (s.chan c).bound = false
       then .unbound else if (s.chan c).sender ≠ m then .notSender else if (s.chan c).lock ≠ m
       then .noLock else if (s.chan c).outstanding = true then .busy else if (s.chan c).ptrOk =
       false then .badPtr else .none) ∧ r ≠ .none ∧ (s.chan c).rxRstAt ≠ some s.now) ∧
    (let s : State := awake;
     let c : ChanId := 3;
     let m : MasterId := 2;
     let r : Reject := .unbound;
     s.live = true ∧ hasBar0 m = true ∧ s.early m = false ∧ r = (if (s.chan c).bound = false
       then .unbound else if (s.chan c).sender ≠ m then .notSender else if (s.chan c).lock ≠ m
       then .noLock else if (s.chan c).outstanding = true then .busy else if (s.chan c).ptrOk =
       false then .badPtr else .none) ∧ r ≠ .none ∧ (s.chan c).rxRstAt ≠ some s.now) ∧
    (let s : State := withChan fun q => { q with lock := 2, ptrHi := 0x80000000, metaw := 64 };
     let c : ChanId := 3;
     let m : MasterId := 2;
     s.live = true ∧ hasBar0 m = true ∧ s.early m = false ∧ (s.chan c).bound = true ∧ (s.chan
       c).sender = m ∧ (s.chan c).lock = m ∧ (s.chan c).outstanding = false ∧ (s.chan c).ptrOk =
       true ∧ s.runs (s.chan c).receiver = true ∧ s.hub.mode ≠ .dormant ∧ s.sluice.entry = false
       ∧ (s.chan c).rxRstAt ≠ some s.now) ∧
    (let s : State := { (withChan fun q => { q with bind := 0x132, lock := 2, ptrHi := 0x80000000, metaw := 64 }) with beds := (awake.modPow 0 fun w => { w with on := false, tender := false }).beds };
     let c : ChanId := 3;
     let m : MasterId := 2;
     s.live = true ∧ hasBar0 m = true ∧ s.early m = false ∧ (s.chan c).bound = true ∧ (s.chan
       c).sender = m ∧ (s.chan c).lock = m ∧ (s.chan c).outstanding = false ∧ (s.chan c).discard
       = false ∧ (s.chan c).ptrOk = true ∧ s.runs (s.chan c).receiver = false ∧ s.hub.mode ≠
       .dormant ∧ s.sluice.entry = false ∧ (s.chan c).rxRstAt ≠ some s.now) := by
  refine ⟨?_, ?_, ?_, ?_, ?_⟩ <;> decide +kernel

/-- MailboxTakeDone. -/
theorem test_witness_MailboxTakeDone :
    (let s : State := withChan fun q => { q with lock := 2, notice := true };
     let c : ChanId := 3;
     let m : MasterId := 11;
     s.live = true ∧ hasBar0 m = true ∧ s.early m = false ∧ (s.chan c).bound = true ∧ (s.chan
       c).receiver = m ∧ (s.chan c).notice = true) ∧
    (let s : State := withChan fun q => { q with lock := 2, notice := true };
     let c : ChanId := 3;
     let m : MasterId := 11;
     s.live = true ∧ hasBar0 m = true ∧ s.early m = false ∧ (s.chan c).bound = true ∧ (s.chan
       c).receiver = m ∧ (s.chan c).outstanding = true ∧ (s.chan c).discard = false) ∧
    (let s : State := withChan fun q => { q with lock := 2, notice := true };
     let c : ChanId := 3;
     let m : MasterId := 2;
     let x : Byte := 5;
     let i : Instr := .mbxTake 2 3;
     (i = .mbxTake m c ∨ i = .mbxDone m c x) ∧ s.live = true ∧ hasBar0 m = true ∧ s.early m =
       false ∧ (((s.chan c).bound = false ∨ (s.chan c).receiver ≠ m))) := by
  refine ⟨?_, ?_, ?_⟩ <;> decide +kernel

/-- MailboxBells. -/
theorem test_witness_MailboxBells :
    (let s : State := withChan fun q => { q with bell := 1 };
     let c : ChanId := 3;
     let m : MasterId := 2;
     s.live = true ∧ hasBar0 m = true ∧ s.early m = false ∧ (s.chan c).bound = true ∧ (s.chan
       c).sender = m) ∧
    (let s : State := withChan fun q => { q with bell := 7 };
     let c : ChanId := 3;
     let m : MasterId := 11;
     s.live = true ∧ hasBar0 m = true ∧ s.early m = false ∧ (s.chan c).bound = true ∧ (s.chan
       c).receiver = m ∧ (s.chan c).bellAt ≠ s.now) ∧
    (let s : State := withChan fun q => { q with bell := 7, mask := 7 };
     let c : ChanId := 3;
     let m : MasterId := 11;
     s.live = true ∧ hasBar0 m = true ∧ s.early m = false ∧ (s.chan c).bound = true ∧ (s.chan
       c).receiver = m) ∧
    (let s : State := withChan id;
     let c : ChanId := 3;
     let m : MasterId := 11;
     let v : Word := 2;
     let i : Instr := .mbxBellSet 11 3 2;
     s.live = true ∧ hasBar0 m = true ∧ s.early m = false ∧ ((i = .mbxBellSet m c v ∧ ((s.chan
       c).bound = false ∨ (s.chan c).sender ≠ m)) ∨ ((i = .mbxBellClear m c v ∨ i =
       .mbxMaskWrite m c v) ∧ ((s.chan c).bound = false ∨ (s.chan c).receiver ≠ m)))) := by
  refine ⟨?_, ?_, ?_, ?_⟩ <;> decide +kernel

/-- BindTableAndAlert. -/
theorem test_witness_BindTableAndAlert :
    (let s : State := State.reset;
     s.live = true ∧ s.hub.bindLocked = false) ∧
    (let s : State := awake;
     let m : MasterId := 1;
     s.live = true ∧ hasBar0 m = true ∧ s.early m = false ∧ ((m ≠ 1 ∨ s.hub.bindLocked = true))) ∧
    (let s : State := awake;
     let m : MasterId := 1;
     s.live = true ∧ hasBar0 m = true ∧ s.early m = false) ∧
    (let s : State := { awake with chans := (awake.modChan 3 fun q => { q with unreadBell := true }).chans };
     s.live = true ∧ s.early 13 = false) := by
  refine ⟨?_, ?_, ?_, ?_⟩ <;> decide +kernel

/-- PortConfigCommand. -/
theorem test_witness_PortConfigCommand :
    (let s : State := inState .disabled;
     let h : CmdHdr := hdrFor (.port 5);
     let p : PortId := 5;
     let sel : Byte := 0x1F;
     let lk : Word := 0x01817FF0;
     let tr : Word := 0x313;
     let dc : Word := 0x01850091;
     let st : Word := 0xC43;
     let fp : Word := 0x1A829;
     s.runsOn h .portConfig true true (.port p) = true ∧ portConfigOk sel lk tr dc st fp = true
       ∧ s.unwritten = true) ∧
    (let s : State := inState .listening;
     let h : CmdHdr := hdrFor (.port 5);
     let p : PortId := 5;
     let sel : Byte := 0x0A;
     let lk : Word := 0;
     let tr : Word := 0x313;
     let dc : Word := 0x01850091;
     let st : Word := 0xC43;
     let fp : Word := 0x1A829;
     s.runsOn h .portConfig true true (.port p) = true ∧ portConfigOk sel lk tr dc st fp = true
       ∧ bit sel 0 = false ∧ bit sel 4 = false) := by
  refine ⟨?_, ?_⟩ <;> decide +kernel

/-- PortEnableDisable. -/
theorem test_witness_PortEnableDisable :
    (let s : State := inState .disabled;
     let h : CmdHdr := hdrFor (.port 5);
     let p : PortId := 5;
     s.runsOn h .portEnable true true (.port p) = true ∧ (s.port p).inReset = false ∧ s.pst p =
       .disabled) ∧
    (let s : State := inState .dormant;
     let h : CmdHdr := hdrFor (.port 5);
     let p : PortId := 5;
     s.runsOn h .portEnable true true (.port p) = true ∧ (s.port p).inReset = false ∧ (s.pst p =
       .listening ∨ s.pst p = .training ∨ s.pst p = .up ∨ s.pst p = .still ∨ s.pst p = .dormant)) ∧
    (let s : State := inState .up;
     let h : CmdHdr := hdrFor (.port 5);
     let p : PortId := 5;
     s.runsOn h .portEnable true true (.port p) = true ∧ (s.port p).inReset = false ∧ (s.pst p =
       .listening ∨ s.pst p = .training ∨ s.pst p = .up ∨ s.pst p = .still ∨ s.pst p = .dormant)) ∧
    (let s : State := (inState .listening).modLink 5 fun l => { l with removed := 3 };
     let h : CmdHdr := hdrFor (.port 5);
     let p : PortId := 5;
     s.runsOn h .portDisable true true (.port p) = true ∧ (s.port p).inReset = false ∧ (s.pst p
       = .disabled ∨ s.pst p = .listening)) ∧
    (let s : State := upCh 9 .tail;
     let h : CmdHdr := hdrFor (.port 5);
     let p : PortId := 5;
     s.runsOn h .portDisable true true (.port p) = true ∧ (s.port p).inReset = false ∧ s.pst p =
       .up ∧ isCh (s.port p).link.rung = true ∧ (s.port p).line.closing = .data ∧ (s.port
       p).line.term = false) := by
  refine ⟨?_, ?_, ?_, ?_, ?_⟩ <;> decide +kernel

/-- RetrainCommand. -/
theorem test_witness_RetrainCommand :
    (let s : State := (inState .still).modPort 5 fun q => { q with link := { q.link with rung := 9 }, still := { q.still with quiet := true } };
     let h : CmdHdr := hdrFor (.port 5);
     let p : PortId := 5;
     s.runsOn h .retrain true true (.port p) = true ∧ s.pst p = .still ∧ isCh (s.port
       p).link.rung = true ∧ (s.port p).still.quiet = true ∧ (s.port p).still.wake = none) ∧
    (let s : State := inState .fault;
     let h : CmdHdr := hdrFor (.port 5);
     let p : PortId := 5;
     s.runsOn h .retrain true true (.port p) = true ∧ (s.pst p = .disabled ∨ s.pst p = .dormant
       ∨ s.pst p = .fault ∨ s.pst p = .test)) ∧
    (let s : State := inState .test;
     let h : CmdHdr := hdrFor (.port 5);
     let p : PortId := 5;
     s.runsOn h .retrain true true (.port p) = true ∧ (s.pst p = .disabled ∨ s.pst p = .dormant
       ∨ s.pst p = .fault ∨ s.pst p = .test)) ∧
    (let s : State := upCh 9 .tail;
     let h : CmdHdr := hdrFor (.port 5);
     let p : PortId := 5;
     s.runsOn h .retrain true true (.port p) = true ∧ s.pst p = .up ∧ isCh (s.port p).link.rung
       = true ∧ (s.port p).link.spared = false ∧ (s.port p).link.role = .tail ∧ (s.port
       p).line.closing = .data) ∧
    (let s : State := (inState .up).modLink 5 fun l => { l with rung := 4 };
     let h : CmdHdr := hdrFor (.port 5);
     let p : PortId := 5;
     s.runsOn h .retrain true true (.port p) = true ∧ s.pst p = .up ∧ isCh (s.port p).link.rung
       = false ∧ (s.port p).link.c28Fast = false) := by
  refine ⟨?_, ?_, ?_, ?_, ?_⟩ <;> decide +kernel

/-- CommandChecks. -/
theorem test_witness_CommandChecks :
    (let s : State := awake;
     let k : Byte := 9;
     s.live = true ∧ s.startsNow = true ∧ s.cmds = [] ∧ k ≠ 0 ∧ (k.toNat < 10 ∨ 24 < k.toNat)) ∧
    (let s : State := awake;
     let k : Byte := 25;
     s.live = true ∧ s.startsNow = true ∧ s.cmds = [] ∧ k ≠ 0 ∧ (k.toNat < 10 ∨ 24 < k.toNat)) ∧
    (let s : State := awake.modPow 0 (fun w => { w with on := false });
     let h : CmdHdr := hdrFor (.port 5);
     let p : PortId := 5;
     let st : ST := .notPowered;
     s.live = true ∧ s.takes h .portEnable = true ∧ hdrTargets .portEnable h = some [.port p] ∧
       st = (if s.bedOn (bedOf p) then .busy else .notPowered) ∧ (s.bedOn (bedOf p) = false ∨
       s.bedTest (bedOf p) = true)) ∧
    (let s : State := withBed (fun d => { d with bist := some { key := none, left := [], result := [] } });
     let h : CmdHdr := hdrFor (.port 5);
     let p : PortId := 5;
     let st : ST := .busy;
     s.live = true ∧ s.takes h .portEnable = true ∧ hdrTargets .portEnable h = some [.port p] ∧
       st = (if s.bedOn (bedOf p) then .busy else .notPowered) ∧ (s.bedOn (bedOf p) = false ∨
       s.bedTest (bedOf p) = true)) ∧
    (let s : State := { awake with cmds := [{ hdr := hdrFor (.port 5), op := .portDisable, started := true, acted := true, targets := [{ elem := .port 5 }] }] };
     let ring : Fin 16 := 0;
     let cid : BitVec 16 := 7;
     let e : Elem := .port 5;
     s.live = true ∧ (s.cmds.any fun r => r.hdr.ring == ring && r.hdr.cid == cid && r.awaits e)
       = true) := by
  refine ⟨?_, ?_, ?_, ?_, ?_⟩ <;> decide +kernel

/-- ResetCommand. -/
theorem test_witness_ResetCommand :
    (let s : State := awake;
     let h : CmdHdr := hdrFor (.lane 9);
     let l : LaneId := 9;
     s.runsOn h .reset true false (.lane l) = true ∧ (s.lane l).inReset = false ∧ (s.bed
       (bedOfLane l)).pow.inReset = false) ∧
    (let s : State := upCh 9 .tail;
     let h : CmdHdr := hdrFor (.port 5);
     let p : PortId := 5;
     s.runsOn h .reset true false (.port p) = true ∧ (s.port p).inReset = false ∧ (s.bed (bedOf
       p)).cal = none) ∧
    (let s : State := withPort (fun q => { q with inReset := true });
     let h : CmdHdr := hdrFor (.port 5);
     let p : PortId := 5;
     s.runsOn h .reset true false (.port p) = true ∧ (s.port p).inReset = true) ∧
    (let s : State := upCh 9 .tail;
     let h : CmdHdr := hdrFor (.bed 0);
     let b : BedId := 0;
     s.runsOn h .reset true false (.bed b) = true ∧ (s.bed b).pow.inReset = false) ∧
    (let s : State := upCh 9 .tail;
     let h : CmdHdr := hdrFor .device;
     s.runsOn h .reset true false .device = true) ∧
    (let s : State := { awake.modLane 9 (fun l => { l with inReset := true }) with cmds := [{ hdr := hdrFor (.lane 9), op := .reset, started := true, acted := true, targets := [{ elem := .lane 9 }] }] };
     let l : LaneId := 9;
     s.live = true ∧ (s.lane l).inReset = true ∧ (s.bed (bedOfLane l)).pow.inReset = false) ∧
    (let s : State := withPort (fun q => { q with inReset := true, resume := .dormant });
     let p : PortId := 5;
     s.live = true ∧ (s.port p).inReset = true ∧ (s.bed (bedOf p)).pow.inReset = false ∧ (s.port
       p).resume ≠ .listening) ∧
    (let s : State := withPow (fun w => { w with inReset := true });
     let b : BedId := 0;
     s.live = true ∧ (s.bed b).pow.inReset = true ∧ s.bedOn b = true) := by
  refine ⟨?_, ?_, ?_, ?_, ?_, ?_, ?_, ?_⟩ <;> decide +kernel

/-- LanesAndLoopback. -/
theorem test_witness_LanesAndLoopback :
    (let s : State := inState .disabled;
     let h : CmdHdr := hdrFor (.port 5);
     let p : PortId := 5;
     let c : LaneCfg := { flags := 1, pad := 0, hostmap0 := 0, hostmap1 := 0, lanemap := 0 };
     s.runsOn h .laneConfig true true (.port p) = true ∧ laneCfgForm c = true ∧ s.pst p =
       .disabled ∧ laneModesOk (laneCfgNew (s.port p).cfg c) = true ∧ (s.modCfg p fun _ =>
       laneCfgNew (s.port p).cfg c).famsOver (bedOf p) = false) ∧
    (let s : State := (inState .up);
     let h : CmdHdr := hdrFor (.port 5);
     let p : PortId := 5;
     let cs : List LaneCfg := [{ flags := 1, pad := 0, hostmap0 := 0, hostmap1 := 0, lanemap := 0 }];
     s.runsOn h .laneConfig true true (.port p) = true ∧ ((∀ c ∈ cs.head?, laneCfgForm c =
       false) ∨ (s.port p).linked = true)) ∧
    (let s : State := inState .disabled;
     let h : CmdHdr := hdrFor (.port 5);
     let p : PortId := 5;
     let cs : List LaneCfg := [{ flags := 2, pad := 0, hostmap0 := 0, hostmap1 := 0, lanemap := 0 }];
     s.runsOn h .laneConfig true true (.port p) = true ∧ ((∀ c ∈ cs.head?, laneCfgForm c =
       false) ∨ (s.port p).linked = true)) ∧
    (let s : State := inState .disabled;
     let h : CmdHdr := hdrFor (.port 5);
     let p : PortId := 5;
     let cs : List LaneCfg := [];
     s.runsOn h .laneConfig true true (.port p) = true ∧ ((∀ c ∈ cs.head?, laneCfgForm c =
       false) ∨ (s.port p).linked = true)) ∧
    (let s : State := inState .up;
     let h : CmdHdr := hdrFor (.port 5);
     let p : PortId := 5;
     let kind : Byte := 1;
     s.runsOn h .loopback true true (.port p) = true ∧ s.pst p = .up ∧ kind.toNat ≤ 2) ∧
    (let s : State := (inState .test).modPort 5 (fun q => { q with loop := some { side := 0, kind := 1, rung := 0, prior := .up } });
     let h : CmdHdr := hdrFor (.port 5);
     let p : PortId := 5;
     let kind : Byte := 1;
     let r : Rung := 0;
     s.runsOn h .loopback true true (.port p) = true ∧ kind.toNat ≤ 2 ∧ (s.port p).loop = some { side := 0, kind := kind, rung := r, prior := .up }) ∧
    (let s : State := (inState .disabled).modCfg 5 (fun c => { c with hostmap1 := 12, lanemap := 0xAEA });
     let h : CmdHdr := hdrFor (.port 5);
     let p : PortId := 5;
     let kind : Byte := 1;
     let rung : Byte := 9;
     s.runsOn h .loopback true true (.port p) = true ∧ s.pst p = .disabled ∧ kind.toNat ≤ 1 ∧ 2
       ≤ rung.toNat ∧ rung.toNat ≤ 9 ∧ rungHosted (s.port p).cfg (BitVec.ofNat 4 rung.toNat) =
       true) := by
  refine ⟨?_, ?_, ?_, ?_, ?_, ?_, ?_⟩ <;> decide +kernel

/-- StandardRungs. -/
theorem test_witness_StandardRungs :
    (let s : State := (inState .listening).modLink 5 (fun l => { l with removed := 4, failCount := 1 });
     let p : PortId := 5;
     s.live = true ∧ s.pst p = .listening) ∧
    (let s : State := (inState .listening).modLink 5 (fun l => { l with c28 := true, sCand := 0x1FF });
     let p : PortId := 5;
     let o : C28Obs := { partner := 0x1F, master := true, fastRt := true, eee := 0x1F };
     let r : Rung := 5;
     s.live = true ∧ s.pst p = .listening ∧ (s.port p).link.c28 = true ∧ (s.port p).link.c28Held
       = false ∧ r = highest (stdRungs (candidates (s.port p)) &&& o.partner) ∧ r ≠ 0) ∧
    (let s : State := (inState .listening).modLink 5 (fun l => { l with c28 := true, sCand := 0x1FF });
     let p : PortId := 5;
     s.live = true ∧ s.pst p = .listening ∧ (s.port p).link.c28 = true ∧ (s.port p).link.c28Held
       = false ∧ (s.port p).link.held = false ∧ candidates (s.port p) ≠ 0 ∧ lcRole (s.port
       p).cfg.linkctl = (s.port p).link.sRole) ∧
    (let s : State := (inState .training).modTrain 5 (fun t => { t with kind := .standard, rung := 5 });
     let p : PortId := 5;
     let o : ClauseObs := { ok := true, rxmap := 0xE4, polinv := 3, skew := 100, errs := [⟨10, 4⟩] };
     s.live = true ∧ s.pst p = .training ∧ (s.port p).train.kind = .standard ∧ (s.port
       p).train.waitPll = false ∧ isCh (s.port p).train.rung = false ∧ o.ok = true ∧
       o.skew.toNat ≤ 100) ∧
    (let s : State := (inState .training).modTrain 5 (fun t => { t with kind := .standard, rung := 5 });
     let p : PortId := 5;
     let o : ClauseObs := { ok := false, rxmap := 0xE4, polinv := 3, skew := 9, errs := [] };
     let c : TCause := .clause;
     let d : Down := .trainFail;
     s.live = true ∧ s.pst p = .training ∧ (s.port p).train.kind = .standard ∧ (s.port
       p).train.waitPll = false ∧ ((o.ok = false ∧ (s.port p).train.fromData = false ∧ c =
       .clause ∧ d = .trainFail) ∨ (o.ok = true ∧ 100 < o.skew.toNat ∧ c = .skew ∧ d = .skew))) ∧
    (let s : State := (inState .training).modTrain 5 (fun t => { t with kind := .standard, rung := 5, fromData := true });
     let p : PortId := 5;
     let o : ClauseObs := { ok := true, rxmap := 0xE4, polinv := 3, skew := 101, errs := [] };
     let c : TCause := .skew;
     let d : Down := .skew;
     s.live = true ∧ s.pst p = .training ∧ (s.port p).train.kind = .standard ∧ (s.port
       p).train.waitPll = false ∧ ((o.ok = false ∧ (s.port p).train.fromData = false ∧ c =
       .clause ∧ d = .trainFail) ∨ (o.ok = true ∧ 100 < o.skew.toNat ∧ c = .skew ∧ d = .skew))) ∧
    (let s : State := (inState .up).modLink 5 (fun l => { l with rung := 5 });
     let p : PortId := 5;
     let o : ClauseObs := { ok := false, rxmap := 0, polinv := 0, skew := 0, errs := [] };
     let i : Instr := .clauseLinkFail 5;
     s.live = true ∧ isCh (s.port p).link.rung = false ∧ (s.port p).link.after = .none ∧ (s.port
       p).dorm.noticeWait = false ∧ s.noCrit p = true ∧ ((i = .clauseLinkFail p ∧ (s.port
       p).linked = true) ∨ (i = .clauseTrainingResult p o ∧ o.ok = false ∧ s.pst p = .training ∧
       (s.port p).train.kind = .standard ∧ (s.port p).train.waitPll = false ∧ (s.port
       p).train.fromData = true))) ∧
    (let s : State := (inState .still).modLink 5 (fun l => { l with rung := 5 });
     let p : PortId := 5;
     let o : ClauseObs := { ok := false, rxmap := 0, polinv := 0, skew := 0, errs := [] };
     let i : Instr := .clauseLinkFail 5;
     s.live = true ∧ isCh (s.port p).link.rung = false ∧ (s.port p).link.after = .none ∧ (s.port
       p).dorm.noticeWait = false ∧ s.noCrit p = true ∧ ((i = .clauseLinkFail p ∧ (s.port
       p).linked = true) ∨ (i = .clauseTrainingResult p o ∧ o.ok = false ∧ s.pst p = .training ∧
       (s.port p).train.kind = .standard ∧ (s.port p).train.waitPll = false ∧ (s.port
       p).train.fromData = true))) ∧
    (let s : State := ((inState .training).modLink 5 (fun l => { l with rung := 5 })).modTrain 5 (fun t => { t with kind := .standard, rung := 5, fromData := true });
     let p : PortId := 5;
     let o : ClauseObs := { ok := false, rxmap := 0, polinv := 0, skew := 0, errs := [] };
     let i : Instr := .clauseTrainingResult 5 { ok := false, rxmap := 0, polinv := 0, skew := 0, errs := [] };
     s.live = true ∧ isCh (s.port p).link.rung = false ∧ (s.port p).link.after = .none ∧ (s.port
       p).dorm.noticeWait = false ∧ s.noCrit p = true ∧ ((i = .clauseLinkFail p ∧ (s.port
       p).linked = true) ∨ (i = .clauseTrainingResult p o ∧ o.ok = false ∧ s.pst p = .training ∧
       (s.port p).train.kind = .standard ∧ (s.port p).train.waitPll = false ∧ (s.port
       p).train.fromData = true))) ∧
    (let s : State := (inState .up).modLink 5 (fun l => { l with rung := 5, c28Fast := true });
     let p : PortId := 5;
     s.live = true ∧ s.pst p = .up ∧ isCh (s.port p).link.rung = false ∧ (s.port p).link.c28Fast
       = true) ∧
    (let s : State := (((inState .up).modLink 5 (fun l => { l with rung := 5, eee := true })).modStill 5 (fun l => { l with txLpi := true })).modHost 5 (fun h => { h with egress := .stream });
     let p : PortId := 5;
     let w : PState × Still := (.up, { txLpi := true });
     s.live = true ∧ isCh (s.port p).link.rung = false ∧ (s.port p).link.eee = true ∧ w = (s.pst
       p, (s.port p).still) ∧ ((w.1 = .up ∧ (w.2.txLpi && w.2.rxLpi) = false) ∨ (w.1 = .still ∧
       w.2.txLpi = true ∧ w.2.rxLpi = true))) ∧
    (let s : State := ((inState .still).modLink 5 (fun l => { l with rung := 5, eee := true })).modStill 5 (fun l => { l with txLpi := true, rxLpi := true });
     let p : PortId := 5;
     let w : PState × Still := (.still, { txLpi := true, rxLpi := true });
     s.live = true ∧ isCh (s.port p).link.rung = false ∧ (s.port p).link.eee = true ∧ w = (s.pst
       p, (s.port p).still) ∧ ((w.1 = .up ∧ (w.2.txLpi && w.2.rxLpi) = false) ∨ (w.1 = .still ∧
       w.2.txLpi = true ∧ w.2.rxLpi = true))) := by
  refine ⟨?_, ?_, ?_, ?_, ?_, ?_, ?_, ?_, ?_, ?_, ?_, ?_⟩ <;> decide +kernel

/-- CommaLocksAndPairs. -/
theorem test_witness_CommaLocksAndPairs :
    (let s : State := (upCh 9 .head);
     let p : PortId := 5;
     let i : Pair := 2;
     let j : Pair := 1;
     let inv : Bool := true;
     let xs : List Int := (commas 1 true 8).map Prod.fst;
     let ys : List Int := (commas 1 true 8).map Prod.snd;
     s.live = true ∧ commaLock (xs.zip ys) = some (j, inv) ∧ (s.port p).lineOn = true ∧ (s.port p).pairs.contains i = true ∧ (s.port p).line.locks.getD i.val none = none ∧ ((s.port p).line.locks.all fun k => match k with | some x => x.ident != j | none => true) = true) ∧
    (let s : State := (upCh 9 .head).modLine 5 (fun l => { l with locks := [some ⟨3, false⟩, some ⟨1, false⟩, none, none] });
     let p : PortId := 5;
     let i : Pair := 2;
     let k : Pair := 0;
     let m : Pair := 1;
     let x : Lock := ⟨3, false⟩;
     let inv : Bool := true;
     let xs : List Int := (commas 3 true 8).map Prod.fst;
     let ys : List Int := (commas 3 true 8).map Prod.snd;
     s.live = true ∧ commaLock (xs.zip ys) = some (x.ident, inv) ∧ (s.port p).lineOn = true ∧
       (s.port p).pairs.contains i = true ∧ (s.port p).line.locks.getD i.val none = none ∧
       (s.port p).line.locks.getD k.val none = some x ∧ ((∀ n : Pair, n < k → ∀ y ∈ (s.port
       p).line.locks.getD n.val none, y.ident ≠ x.ident)) ∧ m ≠ k ∧ (s.port p).pairs.contains m
       = true ∧ ((s.port p).line.locks.getD m.val none).isSome = true) ∧
    (let s : State := (upCh 9 .head).modLine 5 (fun l => { l with locks := [some ⟨3, false⟩, some ⟨1, false⟩, none, none] });
     let p : PortId := 5;
     let i : Pair := 1;
     let j : Pair := 0;
     let k : Lock := ⟨1, false⟩;
     let vs : List RxPt := commas 1 true 4;
     s.live = true ∧ (s.port p).lineOn = true ∧ (s.port p).still.quiet = false ∧ (s.port
       p).line.locks.getD i.val none = some k ∧ lockFails k vs = true ∧ j ≠ i ∧ (s.port
       p).pairs.contains j = true ∧ ((s.port p).line.locks.getD j.val none).isSome = true) ∧
    (let s : State := (upCh 9 .tail).modLine 5 (fun l => { l with locks := [none, some ⟨1, false⟩, none, none] });
     let p : PortId := 5;
     let i : Instr := .commaLockLoss 5 ⟨1, commas 1 true 4⟩;
     let c : Down := .framingLost;
     let x : Pair := 1;
     let k : Lock := ⟨1, false⟩;
     let vs : List RxPt := commas 1 true 4;
     s.live = true ∧ s.pst p = .up ∧ isCh (s.port p).link.rung = true ∧ (s.port p).still.quiet =
       false ∧ (s.port p).link.after = .none ∧ (s.port p).dorm.noticeWait = false ∧ (s.port
       p).link.role = .tail ∧ (s.port p).link.spared = false ∧ s.noCrit p = true ∧ ((i =
       .commaLockLoss p ⟨x, vs⟩ ∧ c = .framingLost ∧ (s.port p).line.suspPair = none ∧ (s.port
       p).line.locks.getD x.val none = some k ∧ lockFails k vs = true ∧ ∀ j : Pair, j ≠ x →
       (s.port p).line.locks.getD j.val none = none) ∨ (i = .oamLost p ∧ c = .oamLost ∧ (s.port
       p).line.susp = 0))) ∧
    (let s : State := upCh 9 .tail;
     let p : PortId := 5;
     let i : Instr := .oamLost 5;
     let c : Down := .oamLost;
     let x : Pair := 1;
     let k : Lock := ⟨1, false⟩;
     let vs : List RxPt := [];
     s.live = true ∧ s.pst p = .up ∧ isCh (s.port p).link.rung = true ∧ (s.port p).still.quiet =
       false ∧ (s.port p).link.after = .none ∧ (s.port p).dorm.noticeWait = false ∧ (s.port
       p).link.role = .tail ∧ (s.port p).link.spared = false ∧ s.noCrit p = true ∧ ((i =
       .commaLockLoss p ⟨x, vs⟩ ∧ c = .framingLost ∧ (s.port p).line.suspPair = none ∧ (s.port
       p).line.locks.getD x.val none = some k ∧ lockFails k vs = true ∧ ∀ j : Pair, j ≠ x →
       (s.port p).line.locks.getD j.val none = none) ∨ (i = .oamLost p ∧ c = .oamLost ∧ (s.port
       p).line.susp = 0))) ∧
    (let s : State := (((upCh 9 .head).modLink 5 (fun l => { l with partnerSpare := true })).modCfg 5 (fun c => { c with linkctl := 0xFFFFFFFF })).modLine 5 (fun l => { l with suspPair := some 2, locks := [none, some ⟨1, false⟩, none, none] });
     let p : PortId := 5;
     let x : Pair := 1;
     let i : Pair := 2;
     let k : Lock := ⟨1, false⟩;
     let vs : List RxPt := commas 1 true 4;
     s.live = true ∧ s.pst p = .up ∧ isCh (s.port p).link.rung = true ∧ (s.port p).still.quiet =
       false ∧ (s.port p).line.suspPair = some i ∧ sparePossible (s.port p) = true ∧ (s.port
       p).line.locks.getD x.val none = some k ∧ lockFails k vs = true ∧ ((∀ j : Pair, j ≠ x →
       (s.port p).line.locks.getD j.val none = none))) ∧
    (let s : State := ((upCh 9 .head).modLink 5 (fun l => { l with partnerSpare := true })).modCfg 5 (fun c => { c with linkctl := 0xFFFFFFFF });
     let p : PortId := 5;
     let i : Pair := 2;
     s.live = true ∧ s.pst p = .up ∧ isCh (s.port p).link.rung = true ∧ (s.port p).still.quiet =
       false ∧ (s.port p).link.downAt ≠ some s.now ∧ (s.port p).pairs.contains i = true ∧
       sparePossible (s.port p) = true) ∧
    (let s : State := upCh 9 .head;
     let p : PortId := 5;
     let ps : List Pair := [2];
     let bad : List Pair := [2];
     s.live = true ∧ s.pst p = .up ∧ isCh (s.port p).link.rung = true ∧ (s.port p).still.quiet =
       false ∧ (s.port p).link.downAt ≠ some s.now ∧ bad = ps.filter (s.port p).pairs.contains ∧
       ((bad.length = 1 ∧ sparePossible (s.port p) = false) ∨ 2 ≤ bad.length)) ∧
    (let s : State := ((upCh 9 .head).modLink 5 (fun l => { l with partnerSpare := true })).modCfg 5 (fun c => { c with linkctl := 0xFFFFFFFF });
     let p : PortId := 5;
     let ps : List Pair := [2, 3];
     let bad : List Pair := [2, 3];
     s.live = true ∧ s.pst p = .up ∧ isCh (s.port p).link.rung = true ∧ (s.port p).still.quiet =
       false ∧ (s.port p).link.downAt ≠ some s.now ∧ bad = ps.filter (s.port p).pairs.contains ∧
       ((bad.length = 1 ∧ sparePossible (s.port p) = false) ∨ 2 ≤ bad.length)) ∧
    (let s : State := ((inState .listening).raise .linkDown (.port 5) [(16, 1, 3), (17, 1, 9)]);
     let p : PortId := 5;
     s.live = true ∧ (s.port p).ls ≠ .up ∧ s.hasDue .linkDown (.port p) Down.uncBurst.code =
       true ∧ (s.due.all fun e => e.code != .linkDown || e.src != .port p || (e.critOf p s.now
       && decide (Down.uncBurst.code ≤ fld e.data 0 8))) = true) := by
  refine ⟨?_, ?_, ?_, ?_, ?_, ?_, ?_, ?_, ?_, ?_⟩ <;> decide +kernel

/-- OamFields. -/
theorem test_witness_OamFields :
    (let s : State := (upCh 9 .head).modLine 5 (fun l => { l with txData := true, rxData := true, msgs := [(2, 7)] });
     let p : PortId := 5;
     s.live = true ∧ s.pst p = .up ∧ isCh (s.port p).link.rung = true ∧ (s.port p).still.quiet =
       false ∧ (s.port p).line.term = false ∧ (s.port p).line.txData = true ∧ (s.port
       p).line.downDue = false ∧ (s.port p).line.closing = .data ∧ (s.port p).line.rungReq = 0 ∧
       (s.port p).link.wakeJob = .none) ∧
    (let s : State := (upCh 9 .head).modLine 5 (fun l => { l with txData := true, closing := .closeDown, downDue := true, closeCnt := some 3 });
     let p : PortId := 5;
     s.live = true ∧ s.pst p = .up ∧ isCh (s.port p).link.rung = true ∧ (s.port p).still.quiet =
       false ∧ (s.port p).line.term = false ∧ (s.port p).line.txData = true ∧ (s.port
       p).line.closing ≠ .data ∧ (s.port p).link.wakeJob = .none) ∧
    (let s : State := (upCh 9 .head).modLine 5 (fun l => { l with txData := true, closing := .closeDown, closeCnt := some 0 });
     let p : PortId := 5;
     s.live = true ∧ s.pst p = .up ∧ isCh (s.port p).link.rung = true ∧ (s.port p).still.quiet =
       false ∧ (s.port p).line.term = false ∧ (s.port p).line.txData = true ∧ (s.port
       p).line.closing ≠ .data ∧ (s.port p).link.wakeJob = .none) ∧
    (let s : State := rxOn ((upCh 9 .tail).modLine 5 (fun l => { l with msg := some (2, 9) })) .on;
     let p : PortId := 5;
     let o : BitVec 198 := oamSeal 5;
     s.live = true ∧ (s.port p).rx.run = .on ∧ s.pst p = .up ∧ oamOk o = true ∧ fld o 8 4 = 0 ∧
       bit o 20 = false ∧ fld o 16 4 = 0 ∧ fld o 45 4 = 0 ∧ (s.port p).link.role = .tail) ∧
    (let s : State := rxOn (upCh 9 .tail) .on;
     let p : PortId := 5;
     let o : BitVec 198 := oamSeal (BitVec.ofNat 182 (5 + 2 ^ 8 * LState.closeRetrain.code + 2 ^
       51 * 3));
     s.live = true ∧ (s.port p).rx.run = .on ∧ s.pst p = .up ∧ (s.port p).train.abortLeft = 0 ∧
       (s.port p).still.ended = false ∧ oamOk o = true ∧ fld o 8 4 = LState.closeRetrain.code ∧
       bit o 20 = false ∧ fld o 51 2 ≠ 0 ∧ fld o 16 4 = 0 ∧ fld o 45 4 = 0 ∧ (s.port
       p).link.role = .tail ∧ (s.port p).line.closing = .data) ∧
    (let s : State := rxOn (upCh 9 .tail) .on;
     let p : PortId := 5;
     let o : BitVec 198 := 5;
     s.live = true ∧ (s.port p).takesData = true ∧ s.pst p = .up ∧ oamOk o = false ∧ ((s.port
       p).line.oamGap < 31 ∨ (s.port p).line.susp = 1)) ∧
    (let s : State := rxOn ((upCh 9 .tail).modLine 5 (fun l => { l with oamGap := 40, susp := 1 })) .on;
     let p : PortId := 5;
     let o : BitVec 198 := 5;
     s.live = true ∧ (s.port p).takesData = true ∧ s.pst p = .up ∧ oamOk o = false ∧ ((s.port
       p).line.oamGap < 31 ∨ (s.port p).line.susp = 1)) ∧
    (let s : State := rxOn ((upCh 9 .tail).modLine 5 (fun l => { l with oamGap := 31 })) .on;
     let p : PortId := 5;
     let o : BitVec 198 := 5;
     s.live = true ∧ (s.port p).takesData = true ∧ s.pst p = .up ∧ oamOk o = false ∧ 31 ≤
       (s.port p).line.oamGap ∧ (s.port p).line.susp = 0 ∧ (s.port p).link.after = .none ∧
       (s.port p).dorm.noticeWait = false ∧ s.noCrit p = true) ∧
    (let s : State := (upCh 9 .tail).modLine 5 (fun l => { l with msg := some (2, 9) });
     let p : PortId := 5;
     s.live = true ∧ (s.port p).line.msg.isSome = true) ∧
    (let s : State := (upCh 9 .tail).modLine 5 (fun l => { l with hxUnc := 70000, hxCorr := 12 });
     let p : PortId := 5;
     s.live = true ∧ s.pst p = .up ∧ isCh (s.port p).link.rung = true) ∧
    (let s : State := (trainAs .head .timing id).modLine 5 (fun l => { l with spareReq := some 2, seq := 9 });
     let p : PortId := 5;
     let i : Pair := 2;
     s.live = true ∧ s.pst p = .training ∧ (s.port p).line.spareReq = some i) := by
  refine ⟨?_, ?_, ?_, ?_, ?_, ?_, ?_, ?_, ?_, ?_, ?_⟩ <;> set_option maxRecDepth 100000 in decide +kernel

/-- SectionsAndHealth. -/
theorem test_witness_SectionsAndHealth :
    (let s : State := rxOn ((upCh 9 .head).modCfg 5 (fun c => { c with decctl := 0 })) .on;
     let p : PortId := 5;
     let o : SecObs := secOf 0 5;
     let unc : Bool := false;
     s.live = true ∧ s.pst p = .up ∧ s.bedOn (bedOf p) = true ∧ (s.port p).rx.run = .on ∧
       (s.port p).rx.left = none ∧ o.ahead + 1 = decWindow (s.port p).line.deep ∧ dcDownUnc
       (s.port p).cfg.decctl = 0 ∧ unc = sectionUnc (s.port p).rx o) ∧
    (let s : State := rxOn (((upCh 9 .head).modCfg 5 (fun c => { c with decctl := 0 })).modHost 5 (fun h => { h with mode := 9, egress := .lpi })) .on;
     let p : PortId := 5;
     let o : SecObs := secOf 1 5;
     let unc : Bool := true;
     s.live = true ∧ s.pst p = .up ∧ s.bedOn (bedOf p) = true ∧ (s.port p).rx.run = .on ∧
       (s.port p).rx.left = none ∧ o.ahead + 1 = decWindow (s.port p).line.deep ∧ dcDownUnc
       (s.port p).cfg.decctl = 0 ∧ unc = sectionUnc (s.port p).rx o) ∧
    (let s : State := rxOn ((upCh 9 .head).modCfg 5 (fun c => { c with decctl := 1#32 <<< 19 })) .on;
     let p : PortId := 5;
     let o : SecObs := secOf 1 5;
     s.live = true ∧ s.pst p = .up ∧ isCh (s.port p).link.rung = true ∧ s.bedOn (bedOf p) = true
       ∧ (s.port p).rx.run = .on ∧ (s.port p).rx.left = none ∧ o.ahead + 1 = decWindow (s.port
       p).line.deep ∧ (s.port p).line.susp = 0 ∧ (s.port p).line.done = false ∧ dcDownUnc
       (s.port p).cfg.decctl ≠ 0 ∧ dcDownUnc (s.port p).cfg.decctl ≤ (((sectionUnc (s.port p).rx
       o :: (s.port p).line.uncWin).take 128).filter id).length ∧ (s.port p).link.after = .none
       ∧ (s.port p).dorm.noticeWait = false ∧ s.noCrit p = true) ∧
    (let s : State := rxOn (upCh 9 .head) .flush;
     let p : PortId := 5;
     let o : SecObs := secOf 1 0;
     s.live = true ∧ s.bedOn (bedOf p) = true ∧ (s.port p).rx.run = .flush ∧ o.ahead < decWindow
       (s.port p).line.deep) ∧
    (let s : State := rxOn (inState .listening) .flush;
     let p : PortId := 5;
     let o : SecObs := secOf 1 5;
     s.live = true ∧ s.bedOn (bedOf p) = true ∧ (s.port p).rx.run = .flush ∧ o.ahead < decWindow
       (s.port p).line.deep) ∧
    (let s : State := (upCh 9 .head).modCfg 5 (fun c => { c with trainctl := 0 });
     let p : PortId := 5;
     s.live = true ∧ s.pst p = .up ∧ isCh (s.port p).link.rung = true ∧ (s.port p).still.quiet =
       false ∧ (s.port p).link.spared = false ∧ tcDrop (s.port p).cfg.trainctl = 0) ∧
    (let s : State := (upCh 9 .head).modCfg 5 (fun c => { c with trainctl := 0x1000 });
     let p : PortId := 5;
     s.live = true ∧ s.pst p = .up ∧ isCh (s.port p).link.rung = true ∧ (s.port p).still.quiet =
       false ∧ (s.port p).link.spared = false ∧ tcDrop (s.port p).cfg.trainctl = 0) ∧
    (let s : State := (upCh 9 .head).modLine 5 (fun l => { l with health := .good });
     let p : PortId := 5;
     let e : Nat := 0;
     let unc : Bool := false;
     let mar : Bool := false;
     let bad : Bool := false;
     s.live = true ∧ (s.port p).linked = true ∧ unc = (decide (1 ≤ dcDegUnc (s.port
       p).cfg.decctl) && decide (dcDegUnc (s.port p).cfg.decctl ≤ if isCh (s.port p).link.rung
       then (s.port p).line.epUnc else e)) ∧ mar = ((s.port p).epochSnr.2 != 0 && (!isCh (s.port
       p).link.rung || decide (1024 ≤ (s.port p).line.epGroups)) && decide ((s.port
       p).epochSnr.1 < (snrThreshold (s.port p).link.rung (s.port p).line.deep + 2 * dcDegMargin
       (s.port p).cfg.decctl) * (s.port p).epochSnr.2)) ∧ bad = (unc || mar) ∧ (s.port
       p).line.health ≠ .notUp) ∧
    (let s : State := ((upCh 9 .head).modLine 5 (fun l => { l with health := .good, epUnc := 5, epSnrs := [[120, 119, 121, 120]], epGroups := 2000 })).modCfg 5 (fun c => { c with decctl := 1#32 <<< 7 });
     let p : PortId := 5;
     let e : Nat := 0;
     let unc : Bool := true;
     let mar : Bool := false;
     let bad : Bool := true;
     s.live = true ∧ (s.port p).linked = true ∧ unc = (decide (1 ≤ dcDegUnc (s.port
       p).cfg.decctl) && decide (dcDegUnc (s.port p).cfg.decctl ≤ if isCh (s.port p).link.rung
       then (s.port p).line.epUnc else e)) ∧ mar = ((s.port p).epochSnr.2 != 0 && (!isCh (s.port
       p).link.rung || decide (1024 ≤ (s.port p).line.epGroups)) && decide ((s.port
       p).epochSnr.1 < (snrThreshold (s.port p).link.rung (s.port p).line.deep + 2 * dcDegMargin
       (s.port p).cfg.decctl) * (s.port p).epochSnr.2)) ∧ bad = (unc || mar) ∧ (s.port
       p).line.health ≠ .notUp) ∧
    (let s : State := ((upCh 5 .head).modLine 5 (fun l => { l with health := .good })).modCfg 5 (fun c => { c with decctl := 1#32 <<< 7 });
     let p : PortId := 5;
     let e : Nat := 5;
     let unc : Bool := true;
     let mar : Bool := false;
     let bad : Bool := true;
     s.live = true ∧ (s.port p).linked = true ∧ unc = (decide (1 ≤ dcDegUnc (s.port
       p).cfg.decctl) && decide (dcDegUnc (s.port p).cfg.decctl ≤ if isCh (s.port p).link.rung
       then (s.port p).line.epUnc else e)) ∧ mar = ((s.port p).epochSnr.2 != 0 && (!isCh (s.port
       p).link.rung || decide (1024 ≤ (s.port p).line.epGroups)) && decide ((s.port
       p).epochSnr.1 < (snrThreshold (s.port p).link.rung (s.port p).line.deep + 2 * dcDegMargin
       (s.port p).cfg.decctl) * (s.port p).epochSnr.2)) ∧ bad = (unc || mar) ∧ (s.port
       p).line.health ≠ .notUp) ∧
    (let s : State := (upCh 9 .head).modLine 5 (fun l => { l with term := true, closing := .closeStill, pClosed := true });
     let p : PortId := 5;
     s.live = true ∧ (s.port p).line.term = true ∧ (s.port p).line.closing = .closeStill ∧ s.pst
       p = .up ∧ (s.port p).line.pClosed = true ∧ (s.port p).line.waitEnd = none) ∧
    (let s : State := (upCh 9 .tail).modLine 5 (fun l => { l with term := true, closing := .closeRung, rungReq := 8 });
     let p : PortId := 5;
     s.live = true ∧ (s.port p).line.term = true ∧ ((s.port p).line.closing = .closeRetrain ∨
       (s.port p).line.closing = .closeRung) ∧ s.pst p = .up ∧ (s.port p).link.role = .tail ∧
       (s.port p).line.waitEnd = none) ∧
    (let s : State := rxOn ((upCh 9 .tail).modLine 5 (fun l => { l with term := true, closing := .closeRetrain })) .on;
     let p : PortId := 5;
     s.live = true ∧ (s.port p).line.term = true ∧ ((s.port p).line.closing = .closeRetrain ∨
       (s.port p).line.closing = .closeRung) ∧ s.pst p = .up ∧ (s.port p).link.role = .tail ∧
       (s.port p).line.waitEnd = none) ∧
    (let s : State := ((upCh 9 .tail).modLine 5 (fun l => { l with term := true, closing := .closeDown })).modLink 5 (fun l => { l with after := .disabled });
     let p : PortId := 5;
     s.live = true ∧ (s.port p).line.term = true ∧ (s.port p).line.closing = .closeDown ∧ s.pst
       p = .up ∧ (s.port p).link.after = .disabled) := by
  refine ⟨?_, ?_, ?_, ?_, ?_, ?_, ?_, ?_, ?_, ?_, ?_, ?_, ?_, ?_⟩ <;> decide +kernel

/-- TrainingRowGroups. -/
theorem test_witness_TrainingRowGroups :
    (let s : State := trainAs .head .timing (fun t => { t with sw := some 3 });
     let p : PortId := 5;
     s.live = true ∧ s.pst p = .training ∧ (s.port p).train.kind ≠ .standard ∧ (s.port
       p).train.waitPll = false ∧ (s.port p).train.phase ∉ [.data, .none, .handshake] ∧ (s.port
       p).train.abortLeft = 0 ∧ (s.port p).line.spareReq = none ∧ (s.port p).train.silent =
       false ∧ (s.port p).train.sw ≠ some 0) ∧
    (let s : State := trainAs .head .precoder (fun t => { t with sw := some 0, swTo := .pam4, rxCoef := [7] });
     let p : PortId := 5;
     s.live = true ∧ s.pst p = .training ∧ (s.port p).train.kind ≠ .standard ∧ (s.port
       p).train.waitPll = false ∧ (s.port p).train.phase ∉ [.data, .none, .handshake] ∧ (s.port
       p).train.abortLeft = 0 ∧ (s.port p).line.spareReq = none ∧ (s.port p).train.silent =
       false ∧ (s.port p).train.sw = some 0) ∧
    (let s : State := (trainAs .tail .ramp (fun t => { t with sw := some 0, swTo := .data, kind := .threePair })).modSpring 5 (fun g => { g with spareRep := some 1, due := [{ typ := .spare }] });
     let p : PortId := 5;
     s.live = true ∧ s.pst p = .training ∧ (s.port p).train.kind ≠ .standard ∧ (s.port
       p).train.waitPll = false ∧ (s.port p).train.phase ∉ [.data, .none, .handshake] ∧ (s.port
       p).train.abortLeft = 0 ∧ (s.port p).line.spareReq = none ∧ (s.port p).train.silent =
       false ∧ (s.port p).train.sw = some 0) ∧
    (let s : State := trainAs .head .timing (fun t => { t with abortLeft := 5 });
     let p : PortId := 5;
     let n : Nat := 4;
     s.live = true ∧ s.pst p = .training ∧ (s.port p).train.kind ≠ .standard ∧ (s.port
       p).train.waitPll = false ∧ (s.port p).train.phase ∉ [.none, .handshake] ∧ (s.port
       p).train.abortLeft = n + 1) ∧
    (let s : State := (trainAs .head .timing (fun t => { t with abortLeft := 1 })).modLink 5 (fun l => { l with after := .disabled });
     let p : PortId := 5;
     let n : Nat := 0;
     s.live = true ∧ s.pst p = .training ∧ (s.port p).train.kind ≠ .standard ∧ (s.port
       p).train.waitPll = false ∧ (s.port p).train.phase ∉ [.none, .handshake] ∧ (s.port
       p).train.abortLeft = n + 1) ∧
    (let s : State := (trainAs .head .timing (fun t => { t with abortLeft := 1 })).modLink 5 (fun l => { l with after := .listening });
     let p : PortId := 5;
     let n : Nat := 0;
     s.live = true ∧ s.pst p = .training ∧ (s.port p).train.kind ≠ .standard ∧ (s.port
       p).train.waitPll = false ∧ (s.port p).train.phase ∉ [.none, .handshake] ∧ (s.port
       p).train.abortLeft = n + 1) ∧
    (let s : State := (trainAs .head .data (fun t => { t with abortLeft := 1 })).modLink 5 (fun l => { l with after := .warm });
     let p : PortId := 5;
     let n : Nat := 0;
     s.live = true ∧ s.pst p = .training ∧ (s.port p).train.kind ≠ .standard ∧ (s.port
       p).train.waitPll = false ∧ (s.port p).train.phase ∉ [.none, .handshake] ∧ (s.port
       p).train.abortLeft = n + 1) ∧
    (let s : State := trainAs .head .echoTail (fun t => { t with silent := true, sent := true });
     let p : PortId := 5;
     s.live = true ∧ s.pst p = .training ∧ (s.port p).train.kind ≠ .standard ∧ (s.port
       p).train.waitPll = false ∧ (s.port p).train.phase ∉ [.data, .none, .handshake] ∧ (s.port
       p).train.abortLeft = 0 ∧ (s.port p).line.spareReq = none ∧ (s.port p).train.silent = true
       ∧ (s.port p).train.sent = true ∧ ((s.port p).train.phase ≠ .timing ∨ (s.port p).link.role
       ≠ .tail ∨ (s.port p).allLocked = false)) ∧
    (let s : State := (upCh 9 .head).modPort 5 (fun q => { q with link := { q.link with state := .still }, still := { quiet := true, qrg := 4, refresh := 3 } });
     let p : PortId := 5;
     s.live = true ∧ s.pst p ≠ .training ∧ (s.port p).still.quiet = true) ∧
    (let s : State := (upCh 9 .head).modPort 5 (fun q => { q with link := { q.link with state := .still }, still := { quiet := true, qrg := 4, wake := some 0 } });
     let p : PortId := 5;
     s.live = true ∧ s.pst p ≠ .training ∧ (s.port p).still.quiet = true) ∧
    (let s : State := (trainAs .head .timing id).modLine 5 (fun l => { l with spareReq := some 2, seq := 9 });
     let p : PortId := 5;
     s.live = true ∧ s.pst p = .training ∧ (s.port p).train.kind ≠ .standard ∧ (s.port
       p).train.waitPll = false ∧ (s.port p).train.phase ∉ [.data, .none, .handshake] ∧ (s.port
       p).train.abortLeft = 0 ∧ (s.port p).train.silent = false ∧ (s.port p).train.sw = none ∧
       (s.port p).line.spareReq.isSome = true) := by
  refine ⟨?_, ?_, ?_, ?_, ?_, ?_, ?_, ?_, ?_, ?_, ?_⟩ <;> decide +kernel

/-- FramesAndReady. -/
theorem test_witness_FramesAndReady :
    (let s : State := trainAs .head .timing id;
     let f : BitVec 512 := 1;
     s.live = true ∧ tifOk f = false) ∧
    (let s : State := trainAs .head .precoder id;
     let p : PortId := 5;
     let f : BitVec 512 := tifSeal (BitVec.ofNat 480 (1 + 2 ^ 12 + 2 ^ 44 * 3 + 2 ^ 47 + 2 ^ 88
       * 0x1234));
     s.live = true ∧ tifOk f = true ∧ s.pst p = .training ∧ (s.port p).train.kind ≠ .standard ∧
       (s.port p).train.waitPll = false ∧ (s.port p).train.abortLeft = 0 ∧ bit f 14 = false ∧
       bit f 84 = false ∧ bit f 13 = false ∧ (s.port p).link.role = .head ∧ fld f 0 4 ≠
       TKind.threePair.code) ∧
    (let s : State := trainAs .head .ramp id;
     let p : PortId := 5;
     let f : BitVec 512 := tifSeal (BitVec.ofNat 480 (1 + 2 ^ 12 + 2 ^ 4 * Phase.ramp.code + 2 ^
       48 * 7));
     s.live = true ∧ tifOk f = true ∧ s.pst p = .training ∧ (s.port p).train.kind ≠ .standard ∧
       (s.port p).train.waitPll = false ∧ (s.port p).train.abortLeft = 0 ∧ bit f 14 = false ∧
       bit f 84 = false ∧ bit f 13 = false ∧ (s.port p).link.role = .head ∧ fld f 0 4 ≠
       TKind.threePair.code) ∧
    (let s : State := trainAs .tail .timing id;
     let p : PortId := 5;
     let f : BitVec 512 := tifSeal (BitVec.ofNat 480 (TKind.cold.code + 2 ^ 4 *
       Phase.precoder.code + 2 ^ 48 * 0xFF));
     s.live = true ∧ tifOk f = true ∧ s.pst p = .training ∧ (s.port p).train.waitPll = false ∧
       (s.port p).train.abortLeft = 0 ∧ bit f 14 = false ∧ bit f 84 = false ∧ bit f 12 = false ∧
       (s.port p).link.role = .tail ∧ (s.port p).train.kind = .cold ∧ fld f 0 4 =
       TKind.cold.code ∧ (s.port p).train.phase = .timing ∧ fld f 4 4 = Phase.precoder.code ∧
       fld f 48 8 = 0xFF) ∧
    (let s : State := trainAs .head .timing id;
     let p : PortId := 5;
     let f : BitVec 512 := tifSeal (BitVec.ofNat 480 (1 + 2 ^ 12 + 2 ^ 14));
     s.live = true ∧ tifOk f = true ∧ s.pst p = .training ∧ (s.port p).train.kind = .cold ∧
       (s.port p).train.waitPll = false ∧ (s.port p).train.await = false ∧ (s.port
       p).train.abortLeft = 0 ∧ bit f 14 = true) ∧
    (let s : State := (trainAs .tail .timing (fun t => { t with tifInPhase := true })).modLine 5 (fun l => { l with locks := fourLocks });
     let p : PortId := 5;
     let o : ReadyObs := { delay := [0, 3, 12, 1], errs := [], coef := [1] };
     s.live = true ∧ s.pst p = .training ∧ (s.port p).train.kind = .cold ∧ (s.port
       p).train.abortLeft = 0 ∧ (s.port p).train.ready = false ∧ (s.port p).train.waitPll =
       false ∧ (s.port p).link.role = .tail ∧ (((s.port p).train.phase = .timing ∧ (largestSkew
       o.delay).toNat ≤ 100 ∧ (s.port p).train.tifInPhase = true ∧ (s.port p).allLocked = true ∧
       (s.port p).train.silent = false) ∨ ((s.port p).train.phase = .precoder ∧ (s.port
       p).cbAckOut = 0xFF ∧ (s.port p).cbAckIn = 0xFF) ∨ ((s.port p).train.phase = .pam4 ∧
       (s.port p).allLocked = true))) ∧
    (let s : State := trainAs .tail .precoder (fun t => { t with cbAck := 0xFF, partner := some (tifSeal (BitVec.ofNat 480 (2 ^ 36 * 0xFF))) });
     let p : PortId := 5;
     let o : ReadyObs := { delay := [0, 3, 12, 1], errs := [], coef := [1] };
     s.live = true ∧ s.pst p = .training ∧ (s.port p).train.kind = .cold ∧ (s.port
       p).train.abortLeft = 0 ∧ (s.port p).train.ready = false ∧ (s.port p).train.waitPll =
       false ∧ (s.port p).link.role = .tail ∧ (((s.port p).train.phase = .timing ∧ (largestSkew
       o.delay).toNat ≤ 100 ∧ (s.port p).train.tifInPhase = true ∧ (s.port p).allLocked = true ∧
       (s.port p).train.silent = false) ∨ ((s.port p).train.phase = .precoder ∧ (s.port
       p).cbAckOut = 0xFF ∧ (s.port p).cbAckIn = 0xFF) ∨ ((s.port p).train.phase = .pam4 ∧
       (s.port p).allLocked = true))) ∧
    (let s : State := (trainAs .tail .pam4 id).modLine 5 (fun l => { l with locks := fourLocks });
     let p : PortId := 5;
     let o : ReadyObs := { delay := [0, 3, 12, 1], errs := [], coef := [1] };
     s.live = true ∧ s.pst p = .training ∧ (s.port p).train.kind = .cold ∧ (s.port
       p).train.abortLeft = 0 ∧ (s.port p).train.ready = false ∧ (s.port p).train.waitPll =
       false ∧ (s.port p).link.role = .tail ∧ (((s.port p).train.phase = .timing ∧ (largestSkew
       o.delay).toNat ≤ 100 ∧ (s.port p).train.tifInPhase = true ∧ (s.port p).allLocked = true ∧
       (s.port p).train.silent = false) ∨ ((s.port p).train.phase = .precoder ∧ (s.port
       p).cbAckOut = 0xFF ∧ (s.port p).cbAckIn = 0xFF) ∨ ((s.port p).train.phase = .pam4 ∧
       (s.port p).allLocked = true))) ∧
    (let s : State := (trainAs .tail .ramp id).modCfg 5 (fun c => { c with profile := 0, minMargin := 4 });
     let p : PortId := 5;
     let o : ReadyObs := { delay := [], errs := [⟨65536, 60⟩, ⟨65536, 60⟩, ⟨65536, 60⟩, ⟨65536, 60⟩], coef := [] };
     let ms : List (BitVec 5) := marginsOf 9 false ((trainAs .tail .ramp id).port 5 |>.rampSnr { delay := [], errs := [⟨65536, 60⟩, ⟨65536, 60⟩, ⟨65536, 60⟩, ⟨65536, 60⟩], coef := [] });
     let short : List (BitVec 5) := marginsOf 9 false ((trainAs .tail .ramp id).port 5 |>.rampSnr { delay := [], errs := [⟨65536, 60⟩, ⟨65536, 60⟩, ⟨65536, 60⟩, ⟨65536, 60⟩], coef := [] });
     let deep : Bool := false;
     s.live = true ∧ s.pst p = .training ∧ (s.port p).train.kind = .cold ∧ (s.port
       p).train.abortLeft = 0 ∧ (s.port p).train.ready = false ∧ (s.port p).train.waitPll =
       false ∧ (s.port p).link.role = .tail ∧ (s.port p).train.phase = .ramp ∧ short = marginsOf
       (s.port p).train.rung false ((s.port p).rampSnr o) ∧ deep = ((s.port p).cfg.profile == 1
       || ((s.port p).cfg.profile == 2 && decide ((minMargin (activeMargins (s.port p).pairs
       short)).toNat < (s.port p).cfg.minMargin.toNat))) ∧ ms = marginsOf (s.port p).train.rung
       deep ((s.port p).rampSnr o)) ∧
    (let s : State := (trainAs .tail .ramp id).modCfg 5 (fun c => { c with profile := 1, minMargin := 4 });
     let p : PortId := 5;
     let o : ReadyObs := { delay := [], errs := [⟨65536, 60⟩, ⟨65536, 60⟩, ⟨65536, 60⟩, ⟨65536, 60⟩], coef := [] };
     let ms : List (BitVec 5) := marginsOf 9 true ((trainAs .tail .ramp id).port 5 |>.rampSnr { delay := [], errs := [⟨65536, 60⟩, ⟨65536, 60⟩, ⟨65536, 60⟩, ⟨65536, 60⟩], coef := [] });
     let short : List (BitVec 5) := marginsOf 9 false ((trainAs .tail .ramp id).port 5 |>.rampSnr { delay := [], errs := [⟨65536, 60⟩, ⟨65536, 60⟩, ⟨65536, 60⟩, ⟨65536, 60⟩], coef := [] });
     let deep : Bool := true;
     s.live = true ∧ s.pst p = .training ∧ (s.port p).train.kind = .cold ∧ (s.port
       p).train.abortLeft = 0 ∧ (s.port p).train.ready = false ∧ (s.port p).train.waitPll =
       false ∧ (s.port p).link.role = .tail ∧ (s.port p).train.phase = .ramp ∧ short = marginsOf
       (s.port p).train.rung false ((s.port p).rampSnr o) ∧ deep = ((s.port p).cfg.profile == 1
       || ((s.port p).cfg.profile == 2 && decide ((minMargin (activeMargins (s.port p).pairs
       short)).toNat < (s.port p).cfg.minMargin.toNat))) ∧ ms = marginsOf (s.port p).train.rung
       deep ((s.port p).rampSnr o)) ∧
    (let s : State := (trainAs .tail .ramp id).modCfg 5 (fun c => { c with profile := 2, minMargin := 31 });
     let p : PortId := 5;
     let o : ReadyObs := { delay := [], errs := [⟨65536, 60⟩, ⟨65536, 60⟩, ⟨65536, 60⟩, ⟨65536, 60⟩], coef := [] };
     let ms : List (BitVec 5) := marginsOf 9 true ((trainAs .tail .ramp id).port 5 |>.rampSnr { delay := [], errs := [⟨65536, 60⟩, ⟨65536, 60⟩, ⟨65536, 60⟩, ⟨65536, 60⟩], coef := [] });
     let short : List (BitVec 5) := marginsOf 9 false ((trainAs .tail .ramp id).port 5 |>.rampSnr { delay := [], errs := [⟨65536, 60⟩, ⟨65536, 60⟩, ⟨65536, 60⟩, ⟨65536, 60⟩], coef := [] });
     let deep : Bool := true;
     s.live = true ∧ s.pst p = .training ∧ (s.port p).train.kind = .cold ∧ (s.port
       p).train.abortLeft = 0 ∧ (s.port p).train.ready = false ∧ (s.port p).train.waitPll =
       false ∧ (s.port p).link.role = .tail ∧ (s.port p).train.phase = .ramp ∧ short = marginsOf
       (s.port p).train.rung false ((s.port p).rampSnr o) ∧ deep = ((s.port p).cfg.profile == 1
       || ((s.port p).cfg.profile == 2 && decide ((minMargin (activeMargins (s.port p).pairs
       short)).toNat < (s.port p).cfg.minMargin.toNat))) ∧ ms = marginsOf (s.port p).train.rung
       deep ((s.port p).rampSnr o)) ∧
    (let s : State := (trainAs .head .pam4 (fun t => { t with partner := some (BitVec.ofNat 512 (2 ^ 13 + 2 ^ 4 * Phase.pam4.code)) })).modLine 5 (fun l => { l with locks := fourLocks });
     let p : PortId := 5;
     let f : BitVec 512 := BitVec.ofNat 512 (2 ^ 13 + 2 ^ 4 * Phase.pam4.code);
     s.live = true ∧ s.pst p = .training ∧ (s.port p).train.kind = .cold ∧ (s.port
       p).train.abortLeft = 0 ∧ (s.port p).train.ready = false ∧ (s.port p).train.waitPll =
       false ∧ (s.port p).link.role = .head ∧ (s.port p).train.phase = .pam4 ∧ (s.port
       p).allLocked = true ∧ (s.port p).train.sw = none ∧ (s.port p).train.partner = some f ∧
       bit f 13 = true ∧ fld f 4 4 = Phase.pam4.code) ∧
    (let s : State := trainAs .head .timing id;
     let p : PortId := 5;
     let o : ReadyObs := { delay := [0, 101], errs := [], coef := [1] };
     s.live = true ∧ s.pst p = .training ∧ (s.port p).train.kind = .cold ∧ (s.port
       p).train.abortLeft = 0 ∧ (s.port p).train.ready = false ∧ (s.port p).train.waitPll =
       false ∧ (s.port p).train.phase = .timing ∧ (s.port p).train.silent = false ∧ 100 <
       (largestSkew o.delay).toNat) := by
  refine ⟨?_, ?_, ?_, ?_, ?_, ?_, ?_, ?_, ?_, ?_, ?_, ?_, ?_⟩ <;> set_option maxRecDepth 100000 in decide +kernel

/-- HandoffsAndLimits. -/
theorem test_witness_HandoffsAndLimits :
    (let s : State := trainAs .head .echoHead id;
     let p : PortId := 5;
     s.live = true ∧ s.pst p = .training ∧ (s.port p).link.role = .head ∧ (s.port p).train.phase
       = .echoHead ∧ (s.port p).train.silent = false ∧ (s.port p).link.spared = false ∧ (s.port
       p).train.report = none) ∧
    (let s : State := trainAs .tail .echoTail id;
     let p : PortId := 5;
     s.live = true ∧ s.pst p = .training ∧ (s.port p).link.role = .tail ∧ (s.port p).train.phase
       = .echoTail ∧ (s.port p).train.silent = false ∧ (s.port p).link.spared = false ∧ (s.port
       p).train.report = none) ∧
    (let s : State := (trainAs .head .echoTail id).modSpring 5 (fun g => { g with step := some ([1, 0, 0], none) });
     let p : PortId := 5;
     let pay : Bytes := [1, 0, 0];
     s.live = true ∧ (s.port p).spring.step = some (pay, none)) ∧
    (let s : State := trainAs .head .timing id;
     let p : PortId := 5;
     let i : Instr := .trainingDeadlineExpiry 5;
     let c : TCause := .timeout;
     s.live = true ∧ s.pst p = .training ∧ (s.port p).train.kind = .cold ∧ (s.port
       p).train.abortLeft = 0 ∧ (s.port p).train.silent = false ∧ (s.port p).line.txData = false
       ∧ ((s.port p).train.phase = .timing ∨ (s.port p).train.phase = .precoder ∨ (s.port
       p).train.phase = .pam4 ∨ ((s.port p).train.phase = .ramp ∧ (s.port p).train.ready =
       true)) ∧ ((i = .trainingDeadlineExpiry p ∧ c = .timeout) ∨ (i = .tifLossTimeout p ∧ c =
       .lockLost ∧ (s.port p).train.partner.isSome = true))) ∧
    (let s : State := trainAs .head .ramp (fun t => { t with ready := true, partner := some 0 });
     let p : PortId := 5;
     let i : Instr := .tifLossTimeout 5;
     let c : TCause := .lockLost;
     s.live = true ∧ s.pst p = .training ∧ (s.port p).train.kind = .cold ∧ (s.port
       p).train.abortLeft = 0 ∧ (s.port p).train.silent = false ∧ (s.port p).line.txData = false
       ∧ ((s.port p).train.phase = .timing ∨ (s.port p).train.phase = .precoder ∨ (s.port
       p).train.phase = .pam4 ∨ ((s.port p).train.phase = .ramp ∧ (s.port p).train.ready =
       true)) ∧ ((i = .trainingDeadlineExpiry p ∧ c = .timeout) ∨ (i = .tifLossTimeout p ∧ c =
       .lockLost ∧ (s.port p).train.partner.isSome = true))) ∧
    (let s : State := trainAs .tail .echoTail id;
     let p : PortId := 5;
     s.live = true ∧ s.pst p = .training ∧ (s.port p).train.kind = .cold ∧ (s.port
       p).train.abortLeft = 0 ∧ (s.port p).train.phase = .echoTail ∧ (s.port p).link.spared =
       false ∧ (s.port p).line.txData = false) ∧
    (let s : State := (inState .listening).modPort 5 (fun q => { q with link := { q.link with heardAt := some 3 }, spring := { q.spring with sstate := .joining, srole := .head } });
     let p : PortId := 5;
     s.live = true ∧ (s.port p).inHandshake = true) ∧
    (let s : State := trainAs .tail .timing (fun t => { t with kind := .none, await := true });
     let p : PortId := 5;
     s.live = true ∧ s.pst p = .training ∧ (s.port p).train.await = true ∧ (s.port
       p).train.abortLeft = 0 ∧ (s.port p).train.kind = .none) ∧
    (let s : State := (trainAs .tail .timing (fun t => { t with kind := .none, await := true, origin := 4 })).modLink 5 (fun l => { l with downAt := some 4 });
     let p : PortId := 5;
     s.live = true ∧ s.pst p = .training ∧ (s.port p).train.await = true ∧ (s.port
       p).train.abortLeft = 0 ∧ (s.port p).train.kind = .none) := by
  refine ⟨?_, ?_, ?_, ?_, ?_, ?_, ?_, ?_, ?_⟩ <;> decide +kernel

/-- StillUpkeep. -/
theorem test_witness_StillUpkeep :
    (let s : State := (((upCh 9 .head).modCfg 5 (fun c => { c with stillctl := 0xFFF })).modLine 5 (fun l => { l with oam := some 0x1000 })).modHost 5 (fun h => { h with mode := 9 });
     let p : PortId := 5;
     let o : BitVec 198 := 0x1000;
     s.live = true ∧ s.pst p = .up ∧ isCh (s.port p).link.rung = true ∧ scStill (s.port
       p).cfg.stillctl = true ∧ (s.port p).host.mode ≠ 0 ∧ (s.port p).still.quiet = false ∧
       (s.port p).line.oam = some o ∧ (s.port p).line.closing = .data) ∧
    (let s : State := quietCh .head id;
     let p : PortId := 5;
     s.live = true ∧ (s.port p).linked = true ∧ isCh (s.port p).link.rung = true ∧ (s.port
       p).still.quiet = true ∧ (s.port p).still.wake = none) ∧
    (let s : State := upCh 9 .head;
     let p : PortId := 5;
     s.live = true ∧ s.pst p = .up ∧ isCh (s.port p).link.rung = true ∧ (s.port p).still.quiet =
       false ∧ (s.port p).line.closing ≠ .closeStill) ∧
    (let s : State := quietCh .head (fun l => { l with qrg := 1180 });
     let p : PortId := 5;
     s.live = true ∧ (s.port p).still.quiet = true ∧ (s.port p).still.wake = none) ∧
    (let s : State := quietCh .head (fun l => { l with missRun := 1, missed := true });
     let p : PortId := 5;
     let seen : Bool := false;
     let commas : BitVec 4 := 2;
     s.live = true ∧ (s.port p).still.quiet = true ∧ (seen || (s.port p).pairs.any fun i => bit
       commas i.val) = true) ∧
    (let s : State := quietCh .head id;
     let p : PortId := 5;
     s.live = true ∧ (s.port p).still.quiet = true ∧ (s.port p).still.missRun = 0) ∧
    (let s : State := quietCh .tail (fun l => { l with missRun := 1, missed := true });
     let p : PortId := 5;
     let i : Instr := .partnerRefreshWindowEnd 5 false 0;
     s.live = true ∧ s.pst p = .still ∧ (s.port p).still.quiet = true ∧ (s.port p).link.wakeJob
       = .none ∧ (s.port p).link.role = .tail ∧ (s.port p).link.spared = false ∧ (s.port
       p).still.left = false ∧ ((i = .partnerRefreshWindowEnd p false 0 ∧ 1 ≤ (s.port
       p).still.missRun) ∨ (i = .stillWakeTimeout p ∧ (s.port p).still.wake.isSome = true ∧
       (s.port p).still.heard = false))) ∧
    (let s : State := quietCh .tail (fun l => { l with wake := some 3 });
     let p : PortId := 5;
     let i : Instr := .stillWakeTimeout 5;
     s.live = true ∧ s.pst p = .still ∧ (s.port p).still.quiet = true ∧ (s.port p).link.wakeJob
       = .none ∧ (s.port p).link.role = .tail ∧ (s.port p).link.spared = false ∧ (s.port
       p).still.left = false ∧ ((i = .partnerRefreshWindowEnd p false 0 ∧ 1 ≤ (s.port
       p).still.missRun) ∨ (i = .stillWakeTimeout p ∧ (s.port p).still.wake.isSome = true ∧
       (s.port p).still.heard = false))) := by
  refine ⟨?_, ?_, ?_, ?_, ?_, ?_, ?_, ?_⟩ <;> decide +kernel

/-- HostLanes. -/
theorem test_witness_HostLanes :
    (let s : State := lanesOn;
     let l : LaneId := 10;
     s.live = true ∧ (s.lane l).locked = true) ∧
    (let s : State := (lanesOn.modLane 10 fun l => { l with locked := false });
     let l : LaneId := 10;
     s.live = true ∧ (s.lane l).locked = false) ∧
    (let s : State := (lanesOn.modLane 10 fun l => { l with locked := false }).modHost 5 (fun h => { h with lost := true });
     let p : PortId := 5;
     let l : LaneId := 10;
     let k : Byte := 0x10;
     s.live = true ∧ s.lanePorts l = [p] ∧ (s.lane l).idle = false ∧ (s.lane l).inReset = false
       ∧ (s.lane l).locked = false ∧ skewTooWide (s.port p).host.mode k = false) ∧
    (let s : State := (lanesOn.modLane 10 fun l => { l with locked := false }).modHost 5 (fun h => { h with mode := 12 });
     let p : PortId := 5;
     let l : LaneId := 10;
     let k : Byte := 81;
     s.live = true ∧ s.lanePorts l = [p] ∧ (s.lane l).idle = false ∧ (s.lane l).inReset = false
       ∧ (s.lane l).locked = false ∧ skewTooWide (s.port p).host.mode k = true) ∧
    (let s : State := lanesOn;
     s.live = true) ∧
    (let s : State := lanesOn;
     let b : BedId := 0;
     let k : Fin 2 := 0;
     s.live = true ∧ (s.bed b).pow.laneLock[k.val]? = some true) ∧
    (let s : State := lanesOn;
     let b : BedId := 0;
     let k : Fin 2 := 0;
     s.live = true ∧ (s.bed b).pow.on = true ∧ (s.bed b).pow.laneFam.getD k.val 0 ≠ 0 ∧ (s.bed
       b).pow.inReset = false) := by
  refine ⟨?_, ?_, ?_, ?_, ?_, ?_, ?_⟩ <;> decide +kernel

/-- SeedbedService. -/
theorem test_witness_SeedbedService :
    (let s : State := seedb (1 :: zeros 63) .active;
     let buf : Bytes := 1 :: zeros 63;
     s.live = true ∧ s.wicketServes = true ∧ s.requestOk 1 buf = true ∧ (s.chan 0).discard =
       false ∧ bit (s.chan 0).ptrHi 31 = true) ∧
    (let s : State := seedb [] .active;
     let buf : Bytes := [];
     let i : Instr := .seedbedVerify [];
     s.live = true ∧ s.wicketServes = true ∧ (s.chan 0).discard = false ∧ ((i = .seedbedStatus
       buf ∧ s.requestOk 1 buf = false) ∨ (i = .seedbedVerify buf ∧ s.requestOk 2 buf = false) ∨
       (i = .setPreferred buf ∧ s.requestOk 3 buf = false) ∨ (i = .retry buf ∧ s.requestOk 4 buf
       = false))) ∧
    (let s : State := seedb [] .active;
     let buf : Bytes := [2];
     let i : Instr := .retry [2];
     s.live = true ∧ s.wicketServes = true ∧ (s.chan 0).discard = false ∧ ((i = .seedbedStatus
       buf ∧ s.requestOk 1 buf = false) ∨ (i = .seedbedVerify buf ∧ s.requestOk 2 buf = false) ∨
       (i = .setPreferred buf ∧ s.requestOk 3 buf = false) ∨ (i = .retry buf ∧ s.requestOk 4 buf
       = false))) ∧
    (let s : State := seedb [] .active;
     let buf : Bytes := [2];
     let i : Instr := .setPreferred [2];
     s.live = true ∧ s.wicketServes = true ∧ (s.chan 0).discard = false ∧ ((i = .seedbedStatus
       buf ∧ s.requestOk 1 buf = false) ∨ (i = .seedbedVerify buf ∧ s.requestOk 2 buf = false) ∨
       (i = .setPreferred buf ∧ s.requestOk 3 buf = false) ∨ (i = .retry buf ∧ s.requestOk 4 buf
       = false))) ∧
    (let s : State := seedb [] .active;
     let buf : Bytes := [2];
     let i : Instr := .seedbedStatus [2];
     s.live = true ∧ s.wicketServes = true ∧ (s.chan 0).discard = false ∧ ((i = .seedbedStatus
       buf ∧ s.requestOk 1 buf = false) ∨ (i = .seedbedVerify buf ∧ s.requestOk 2 buf = false) ∨
       (i = .setPreferred buf ∧ s.requestOk 3 buf = false) ∨ (i = .retry buf ∧ s.requestOk 4 buf
       = false))) ∧
    (let s : State := seedb [] .active;
     let buf : Bytes := 2 :: zeros 63;
     s.live = true ∧ s.wicketServes = true ∧ s.requestOk 2 buf = true ∧ (s.chan 0).discard =
       false) ∧
    (let s : State := seedb [] .seedbed;
     let buf : Bytes := 3 :: zeros 63;
     s.live = true ∧ s.wicketServes = true ∧ s.requestOk 3 buf = true ∧ (s.chan 0).discard =
       false ∧ s.hub.mode = .seedbed) ∧
    (let s : State := seedb [] .active;
     let buf : Bytes := 4 :: zeros 63;
     let i : Instr := .retry (4 :: zeros 63);
     s.live = true ∧ s.wicketServes = true ∧ (s.chan 0).discard = false ∧ s.hub.mode ≠ .seedbed
       ∧ ((i = .setPreferred buf ∧ s.requestOk 3 buf = true) ∨ (i = .retry buf ∧ s.requestOk 4
       buf = true))) ∧
    (let s : State := seedb [] .active;
     let buf : Bytes := 3 :: zeros 63;
     let i : Instr := .setPreferred (3 :: zeros 63);
     s.live = true ∧ s.wicketServes = true ∧ (s.chan 0).discard = false ∧ s.hub.mode ≠ .seedbed
       ∧ ((i = .setPreferred buf ∧ s.requestOk 3 buf = true) ∨ (i = .retry buf ∧ s.requestOk 4
       buf = true))) ∧
    (let s : State := seedb [] .seedbed;
     let buf : Bytes := 4 :: zeros 63;
     s.live = true ∧ s.wicketServes = true ∧ s.requestOk 4 buf = true ∧ s.hub.mode = .seedbed) := by
  refine ⟨?_, ?_, ?_, ?_, ?_, ?_, ?_, ?_, ?_, ?_⟩ <;> decide +kernel

/-- StartStages. -/
theorem test_witness_StartStages :
    (let s : State := inStage 2;
     let o : StageObs := { sfdp := false, supported := false, layoutOk := false, density := 0 };
     s.live = true ∧ s.starting = true ∧ s.boot.stage = 2 ∧ o.sfdp = false) ∧
    (let s : State := inStage 3;
     s.live = true ∧ s.starting = true ∧ s.boot.stage = 3) ∧
    (let s : State := { inStage 6 with boot := { stage := 6, ready := [2] } };
     s.live = true ∧ s.starting = true ∧ s.boot.stage = 6 ∧ s.boot.ready.contains 2 = true ∧
       s.sluice.reqs = [] ∧ s.bedRails = false) ∧
    (let s : State := inStage 9;
     s.live = true ∧ s.starting = true ∧ s.boot.stage = 9) ∧
    (let s : State := inStage 6;
     s.live = true ∧ s.starting = true ∧ s.boot.stage = 6 ∧ s.boot.ready.contains 2 = false) ∧
    (let s : State := inStage 2;
     let i : Instr := .startStageTimeout;
     let r : Reason := .stageTimeout;
     s.live = true ∧ s.starting = true ∧ ((i = .startStageTimeout ∧ 2 ≤ s.boot.stage ∧
       s.boot.stage ≤ 5 ∧ r = .stageTimeout) ∨ (i = .startStageTimeout ∧ 6 ≤ s.boot.stage ∧
       s.boot.stage ≤ 7 ∧ r = .coreNoReady) ∨ (i = .startTimeout ∧ s.boot.stage ≠ 9 ∧ r =
       .startTimeout) ∨ (i = .fwFatal ∧ 6 ≤ s.boot.stage ∧ r = .fwFatal))) ∧
    (let s : State := inStage 5;
     let i : Instr := .startStageTimeout;
     let r : Reason := .stageTimeout;
     s.live = true ∧ s.starting = true ∧ ((i = .startStageTimeout ∧ 2 ≤ s.boot.stage ∧
       s.boot.stage ≤ 5 ∧ r = .stageTimeout) ∨ (i = .startStageTimeout ∧ 6 ≤ s.boot.stage ∧
       s.boot.stage ≤ 7 ∧ r = .coreNoReady) ∨ (i = .startTimeout ∧ s.boot.stage ≠ 9 ∧ r =
       .startTimeout) ∨ (i = .fwFatal ∧ 6 ≤ s.boot.stage ∧ r = .fwFatal))) ∧
    (let s : State := inStage 6;
     let i : Instr := .startStageTimeout;
     let r : Reason := .coreNoReady;
     s.live = true ∧ s.starting = true ∧ ((i = .startStageTimeout ∧ 2 ≤ s.boot.stage ∧
       s.boot.stage ≤ 5 ∧ r = .stageTimeout) ∨ (i = .startStageTimeout ∧ 6 ≤ s.boot.stage ∧
       s.boot.stage ≤ 7 ∧ r = .coreNoReady) ∨ (i = .startTimeout ∧ s.boot.stage ≠ 9 ∧ r =
       .startTimeout) ∨ (i = .fwFatal ∧ 6 ≤ s.boot.stage ∧ r = .fwFatal))) ∧
    (let s : State := inStage 7;
     let i : Instr := .startStageTimeout;
     let r : Reason := .coreNoReady;
     s.live = true ∧ s.starting = true ∧ ((i = .startStageTimeout ∧ 2 ≤ s.boot.stage ∧
       s.boot.stage ≤ 5 ∧ r = .stageTimeout) ∨ (i = .startStageTimeout ∧ 6 ≤ s.boot.stage ∧
       s.boot.stage ≤ 7 ∧ r = .coreNoReady) ∨ (i = .startTimeout ∧ s.boot.stage ≠ 9 ∧ r =
       .startTimeout) ∨ (i = .fwFatal ∧ 6 ≤ s.boot.stage ∧ r = .fwFatal))) ∧
    (let s : State := inStage 1;
     let i : Instr := .startTimeout;
     let r : Reason := .startTimeout;
     s.live = true ∧ s.starting = true ∧ ((i = .startStageTimeout ∧ 2 ≤ s.boot.stage ∧
       s.boot.stage ≤ 5 ∧ r = .stageTimeout) ∨ (i = .startStageTimeout ∧ 6 ≤ s.boot.stage ∧
       s.boot.stage ≤ 7 ∧ r = .coreNoReady) ∨ (i = .startTimeout ∧ s.boot.stage ≠ 9 ∧ r =
       .startTimeout) ∨ (i = .fwFatal ∧ 6 ≤ s.boot.stage ∧ r = .fwFatal))) ∧
    (let s : State := inStage 6;
     let i : Instr := .fwFatal;
     let r : Reason := .fwFatal;
     s.live = true ∧ s.starting = true ∧ ((i = .startStageTimeout ∧ 2 ≤ s.boot.stage ∧
       s.boot.stage ≤ 5 ∧ r = .stageTimeout) ∨ (i = .startStageTimeout ∧ 6 ≤ s.boot.stage ∧
       s.boot.stage ≤ 7 ∧ r = .coreNoReady) ∨ (i = .startTimeout ∧ s.boot.stage ≠ 9 ∧ r =
       .startTimeout) ∨ (i = .fwFatal ∧ 6 ≤ s.boot.stage ∧ r = .fwFatal))) ∧
    (let s : State := inStage 9;
     s.live = true ∧ s.starting = true ∧ s.boot.stage = 9) ∧
    (let s : State := { inStage 9 with now := 0, boot := { stage := 9, failed := true, late := some (0, 1, .noImage), held := [(.failed, 9, 0, 9, 0)] } };
     let c : Nat := 1;
     let r : Reason := .noImage;
     s.live = true ∧ s.boot.failed = true ∧ s.boot.stage = 9 ∧ s.boot.late = some (s.now, c, r)) ∧
    (let s : State := { inStage 4 with boot := { stage := 4, count := 3, hubLogic := .pass, hubMemory := .pass } };
     s.live = true ∧ s.starting = true ∧ s.boot.stage = 4 ∧ s.boot.hubLogic = .pass ∧
       s.boot.hubMemory = .pass ∧ 3 ≤ s.boot.count) ∧
    (let s : State := { inStage 4 with boot := { stage := 4, failed := true, count := 2 } };
     s.live = true ∧ s.boot.failed = true ∧ s.boot.waitRef = false) ∧
    (let s : State := { State.reset with pins := { training := true } };
     s.live = true ∧ s.pins.training = true ∧ s.clk.reflost = false) := by
  refine ⟨?_, ?_, ?_, ?_, ?_, ?_, ?_, ?_, ?_, ?_, ?_, ?_, ?_, ?_, ?_, ?_⟩ <;> decide +kernel

/-- SecurityVersion. -/
theorem test_witness_SecurityVersion :
    (let s : State := { awake with boot := { stage := 0, bgDue := true } };
     s.live = true ∧ s.boot.bgDue = true ∧ s.sluice.hubOn = true) ∧
    (let s : State := { awake with boot := { stage := 0, blowing := true, imageSvn := 3 }, sec := { svn := 1 } };
     s.live = true ∧ s.boot.blowing = true ∧ fusedSvn s.sec.svn < s.boot.imageSvn.toNat ∧
       fusedSvn s.sec.svn < 64) ∧
    (let s : State := { awake with boot := { stage := 0, blowing := true, imageSvn := 64 }, sec := { svn := 0x7FFFFFFFFFFFFFFF } };
     s.live = true ∧ s.boot.blowing = true ∧ fusedSvn s.sec.svn < s.boot.imageSvn.toNat ∧
       fusedSvn s.sec.svn < 64) ∧
    (let s : State := { awake with boot := { stage := 0, blowing := true, imageSvn := 2 }, sec := { svn := 3 } };
     s.live = true ∧ (s.boot.blowing = false ∨ s.boot.imageSvn.toNat ≤ fusedSvn s.sec.svn)) ∧
    (let s : State := awake;
     s.live = true ∧ (s.boot.blowing = false ∨ s.boot.imageSvn.toNat ≤ fusedSvn s.sec.svn)) := by
  refine ⟨?_, ?_, ?_, ?_, ?_⟩ <;> decide +kernel

/-- PowerStateCommand. -/
theorem test_witness_PowerStateCommand :
    (let s : State := awake;
     let h : CmdHdr := hdrFor (.bed 3);
     let b : BedId := 3;
     let x : Byte := 1;
     s.runsOn h .powerState false true (.bed b) = true ∧ x.toNat ≤ 1 ∧ s.bedOn b = true ∧
       s.bedLeaving b = false ∧ (s.bed b).pow.falling = false ∧ (s.bed b).pow.wanted = false) ∧
    (let s : State := awake;
     let h : CmdHdr := hdrFor (.bed 3);
     let b : BedId := 3;
     let x : Byte := 0;
     s.runsOn h .powerState false true (.bed b) = true ∧ x.toNat ≤ 1 ∧ s.bedOn b = true ∧
       s.bedLeaving b = false ∧ (s.bed b).pow.falling = false ∧ (s.bed b).pow.wanted = false) ∧
    (let s : State := awake;
     let h : CmdHdr := hdrFor (.port 5);
     let p : PortId := 5;
     s.runsOn h .powerState false true (.port p) = true ∧ s.pst p = .disabled ∧ (s.port
       p).inReset = false ∧ (s.port p).dorm.afterEntry = false) ∧
    (let s : State := awake;
     let h : CmdHdr := hdrFor .device;
     let x : Byte := 5;
     s.runsOn h .powerState false true .device = true ∧ (s.hub.mode = .active ∨ s.hub.mode =
       .quiet) ∧ s.hub.changing = false ∧ (x = 5 ∨ (x = 4 ∧ s.sluice.reqs = [] ∧ ∀ b, s.bedOn b
       = true ∧ (s.bed b).pow.falling = false))) ∧
    (let s : State := { awake with hub := { awake.hub with mode := .quiet, base := .quiet } };
     let h : CmdHdr := hdrFor .device;
     let x : Byte := 4;
     s.runsOn h .powerState false true .device = true ∧ (s.hub.mode = .active ∨ s.hub.mode =
       .quiet) ∧ s.hub.changing = false ∧ (x = 5 ∨ (x = 4 ∧ s.sluice.reqs = [] ∧ ∀ b, s.bedOn b
       = true ∧ (s.bed b).pow.falling = false))) ∧
    (let s : State := inState .up;
     let h : CmdHdr := hdrFor .device;
     s.runsOn h .powerState false true .device = true ∧ (∃ p, (s.port p).atRest = false)) ∧
    (let s : State := awake;
     let h : CmdHdr := hdrFor .device;
     s.runsOn h .powerState false true .device = true ∧ (∀ p, (s.port p).atRest = true) ∧ (∀ p,
       s.waking p = false) ∧ s.sluice.entry = false ∧ s.hub.mode ≠ .test) := by
  refine ⟨?_, ?_, ?_, ?_, ?_, ?_, ?_⟩ <;> decide +kernel

/-- SluiceHandshake. -/
theorem test_witness_SluiceHandshake :
    (let s : State := { awake with sluice := { awake.sluice with reqs := [bedReq 0] } };
     let q : SReq := bedReq 0;
     let blk : Byte := 0x10;
     s.live = true ∧ s.sluice.reqs = [q] ∧ q.asked.contains blk = true ∧ q.elem ≠ .device ∧
       s.blkAnswer q blk ≠ .refuse) ∧
    (let s : State := { inState .up with sluice := { awake.sluice with reqs := [bedReq 0] } };
     let q : SReq := bedReq 0;
     let blk : Byte := 0x10;
     let i : Instr := .sluiceBlockAnswer 0x10;
     let r : BitVec 2 := 1;
     let b : BedId := 0;
     s.live = true ∧ s.sluice.reqs = [q] ∧ q.elem = .bed b ∧ q.key = none ∧ (∀ p, s.pst p ≠
       .dormant) ∧ s.sluice.heldAcc = [] ∧ ((i = .sluiceBlockAnswer blk ∧ q.asked.contains blk =
       true ∧ s.blkAnswer q blk = .refuse ∧ r = 1) ∨ (i = .sluiceAnswerTimeout blk ∧
       q.asked.contains blk = true ∧ r = 2) ∨ (i = .sluiceDelayLimit blk ∧ q.delayed.contains
       blk = true ∧ r = 2) ∨ (i = .sluiceBusIdleTimeout (.bed b) ∧ q.gating = true ∧
       q.doms.contains (.bed b) = true ∧ blk = busBlk (.bed b) ∧ r = 2))) ∧
    (let s : State := { awake with sluice := { awake.sluice with reqs := [bedReq 0] } };
     let q : SReq := bedReq 0;
     let blk : Byte := 0x30;
     let i : Instr := .sluiceAnswerTimeout 0x30;
     let r : BitVec 2 := 2;
     let b : BedId := 0;
     s.live = true ∧ s.sluice.reqs = [q] ∧ q.elem = .bed b ∧ q.key = none ∧ (∀ p, s.pst p ≠
       .dormant) ∧ s.sluice.heldAcc = [] ∧ ((i = .sluiceBlockAnswer blk ∧ q.asked.contains blk =
       true ∧ s.blkAnswer q blk = .refuse ∧ r = 1) ∨ (i = .sluiceAnswerTimeout blk ∧
       q.asked.contains blk = true ∧ r = 2) ∨ (i = .sluiceDelayLimit blk ∧ q.delayed.contains
       blk = true ∧ r = 2) ∨ (i = .sluiceBusIdleTimeout (.bed b) ∧ q.gating = true ∧
       q.doms.contains (.bed b) = true ∧ blk = busBlk (.bed b) ∧ r = 2))) ∧
    (let s : State := { awake with sluice := { awake.sluice with reqs := [{ bedReq 0 with delayed := [0x30] }] } };
     let q : SReq := { bedReq 0 with delayed := [0x30] };
     let blk : Byte := 0x30;
     let i : Instr := .sluiceDelayLimit 0x30;
     let r : BitVec 2 := 2;
     let b : BedId := 0;
     s.live = true ∧ s.sluice.reqs = [q] ∧ q.elem = .bed b ∧ q.key = none ∧ (∀ p, s.pst p ≠
       .dormant) ∧ s.sluice.heldAcc = [] ∧ ((i = .sluiceBlockAnswer blk ∧ q.asked.contains blk =
       true ∧ s.blkAnswer q blk = .refuse ∧ r = 1) ∨ (i = .sluiceAnswerTimeout blk ∧
       q.asked.contains blk = true ∧ r = 2) ∨ (i = .sluiceDelayLimit blk ∧ q.delayed.contains
       blk = true ∧ r = 2) ∨ (i = .sluiceBusIdleTimeout (.bed b) ∧ q.gating = true ∧
       q.doms.contains (.bed b) = true ∧ blk = busBlk (.bed b) ∧ r = 2))) ∧
    (let s : State := { awake with sluice := { awake.sluice with reqs := [{ bedReq 0 with asked := [] }] } };
     let q : SReq := { bedReq 0 with asked := [] };
     let blk : Byte := 0x18;
     let i : Instr := .sluiceBusIdleTimeout (.bed 0);
     let r : BitVec 2 := 2;
     let b : BedId := 0;
     s.live = true ∧ s.sluice.reqs = [q] ∧ q.elem = .bed b ∧ q.key = none ∧ (∀ p, s.pst p ≠
       .dormant) ∧ s.sluice.heldAcc = [] ∧ ((i = .sluiceBlockAnswer blk ∧ q.asked.contains blk =
       true ∧ s.blkAnswer q blk = .refuse ∧ r = 1) ∨ (i = .sluiceAnswerTimeout blk ∧
       q.asked.contains blk = true ∧ r = 2) ∨ (i = .sluiceDelayLimit blk ∧ q.delayed.contains
       blk = true ∧ r = 2) ∨ (i = .sluiceBusIdleTimeout (.bed b) ∧ q.gating = true ∧
       q.doms.contains (.bed b) = true ∧ blk = busBlk (.bed b) ∧ r = 2))) ∧
    (let s : State := { awake with sluice := { awake.sluice with reqs := [{ bedReq 0 with delayed := [0x30] }] } };
     let q : SReq := { bedReq 0 with delayed := [0x30] };
     let blk : Byte := 0x30;
     s.live = true ∧ s.sluice.reqs = [q] ∧ q.delayed.contains blk = true) ∧
    (let s : State := { awake with sluice := { awake.sluice with reqs := [{ bedReq 0 with asked := [] }] } };
     let q : SReq := { bedReq 0 with asked := [] };
     let b : BedId := 0;
     s.live = true ∧ s.sluice.reqs = [q] ∧ q.gating = true ∧ q.doms = [.bed b]) ∧
    (let s : State := withPow (fun w => { w with on := false, falling := true });
     let b : BedId := 0;
     s.live = true ∧ (s.bed b).pow.falling = true ∧ (s.bed b).pow.wanted = false) ∧
    (let s : State := { awake with sluice := { awake.sluice with hubFalling := true }, hub := { awake.hub with mode := .dormant, changing := true } };
     s.live = true ∧ s.sluice.hubFalling = true) ∧
    (let s : State := withPow (fun w => { w with on := false, rising := true });
     let b : BedId := 0;
     s.live = true ∧ (s.bed b).pow.rising = true ∧ s.boot.stage ≠ 7 ∧ s.hub.saved = [] ∧
       s.hub.changing = false ∧ (∀ p, s.pst p ≠ .dormant)) ∧
    (let s : State := withPow (fun w => { w with on := false, rising := true });
     let b : BedId := 0;
     s.live = true ∧ (s.bed b).pow.rising = true ∧ s.hub.changing = false ∧ s.cmds = [] ∧ (∀ p,
       s.pst p ≠ .dormant)) := by
  refine ⟨?_, ?_, ?_, ?_, ?_, ?_, ?_, ?_, ?_, ?_, ?_⟩ <;> decide +kernel

/-- SleepAndWake. -/
theorem test_witness_SleepAndWake :
    (let s : State := { awake with hub := { awake.hub with mode := .quiet } };
     let b : BedId := 0;
     s.live = true ∧ s.hub.mode = .quiet ∧ s.bedOn b = true ∧ (s.bed b).pow.hold = false ∧
       (s.bed b).pow.inReset = false ∧ (s.bed b).pow.wanted = false ∧ s.bedIdle b = true ∧
       s.bedTest b = false ∧ s.sluice.reqs = [] ∧ s.sluice.entry = false ∧ s.hub.changing =
       false) ∧
    (let s : State := withPow (fun w => { w with hold := true });
     let b : BedId := 0;
     s.live = true ∧ ((s.bed b).pow.hold = true ∨ s.bedIdle b = false)) ∧
    (let s : State := { inState .up with hub := { awake.hub with mode := .quiet } };
     let b : BedId := 0;
     s.live = true ∧ ((s.bed b).pow.hold = true ∨ s.bedIdle b = false)) ∧
    (let s : State := { awake with hub := { awake.hub with mode := .dormant }, sluice := { awake.sluice with waketime := 1000 } };
     s.live = true ∧ s.hub.mode = .dormant ∧ s.sluice.waketime.toNat ≤ s.clk.tick.toNat ∧
       s.sluice.latched = []) ∧
    (let s : State := awake;
     s.live = true ∧ s.hub.mode ≠ .dormant ∧ s.sluice.entry = false) ∧
    (let s : State := { awake with hub := { awake.hub with mode := .dormant } };
     let g : Fin 8 := 7;
     s.live = true ∧ s.hub.mode = .dormant ∧ bit s.pins.gpioDir g.val = false) ∧
    (let s : State := { awake with hub := { awake.hub with mode := .dormant }, sluice := { awake.sluice with hubOn := false, latched := [.doorbell] } };
     let w : WakeSrc := .doorbell;
     s.live = true ∧ s.hub.mode = .dormant ∧ s.sluice.entry = false ∧ s.sluice.hubOn = false ∧
       s.sluice.hubRising = false ∧ s.sluice.enabled = some w ∧ (∀ p, s.pst p ≠ .dormant)) ∧
    (let s : State := { awake with hub := { awake.hub with mode := .dormant }, sluice := { awake.sluice with hubOn := false } };
     s.live = true ∧ s.hub.mode = .dormant ∧ s.sluice.enabled = none) ∧
    (let s : State := { awake with hub := { awake.hub with mode := .dormant, changing := true }, sluice := { awake.sluice with hubOn := false, hubRising := true } };
     s.live = true ∧ s.sluice.hubRising = true ∧ s.sluice.hubOn = false ∧ s.hub.saved = []) ∧
    (let s : State := { awake with hub := { awake.hub with mode := .dormant, changing := true }, sluice := { awake.sluice with hubOn := false, hubRising := true } };
     s.live = true ∧ s.sluice.hubRising = true ∧ s.sluice.hubOn = false) ∧
    (let s : State := { awake with hub := { awake.hub with mode := .dormant, changing := true }, sluice := { awake.sluice with ctl := 0, hubRising := true } };
     s.live = true ∧ s.sluice.hubRising = true ∧ s.sluice.hubOn = true ∧ bit s.sluice.ctl 0 =
       false) := by
  refine ⟨?_, ?_, ?_, ?_, ?_, ?_, ?_, ?_, ?_, ?_, ?_⟩ <;> decide +kernel

/-- SpringReception. -/
theorem test_witness_SpringReception :
    (let s : State := spring .listening (fun g => { g with sstate := .listen, interval := some 3 });
     let p : PortId := 5;
     let bits : Word := 0xE4A71D34;
     let rssi : Byte := 0xFF;
     s.live = true ∧ s.springRuns p = true ∧ (s.port p).spring.sstate ≠ .off ∧ (s.port
       p).spring.rxBusy = false ∧ spThresh (s.port p).cfg.islandCtl ≤ rssi.toNat ∧ syncDetects
       (syncWord ((s.port p).spring.srole != .head)) bits = true) ∧
    (let s : State := spring .listening (fun g => { g with sstate := .listen, rxBusy := true });
     let p : PortId := 5;
     let hdr : BitVec 72 := headerSeal (BitVec.ofNat 72 (1 + 32 * 24));
     s.live = true ∧ s.springRuns p = true ∧ (s.port p).spring.rxBusy = true ∧ (s.port
       p).spring.rxHdr = none ∧ headerOk hdr = true ∧ (s.port p).spring.sstate ≠ .partnered ∧ 1
       ≤ fld hdr 0 4 ∧ fld hdr 0 4 < 12 ∧ fld hdr 5 9 ≠ 0 ∧ hdr.getLsbD 26 = false) ∧
    (let s : State := spring .listening (fun g => { g with sstate := .listen, rxBusy := true });
     let p : PortId := 5;
     let hdr : BitVec 72 := 1;
     let i : Instr := .springHeader 5 1;
     let n : Nat := 0x33;
     s.live = true ∧ ((i = .springHeader p hdr ∧ s.springRuns p = true ∧ (s.port
       p).spring.rxBusy = true ∧ (s.port p).spring.rxHdr = none ∧ headerOk hdr = false ∧ n =
       0x33) ∨ (i = .springPayloadFailure p ∧ (s.port p).spring.rxHdr.isSome = true ∧ n = 0x34)
       ∨ (i = .springFrameAbort p ∧ (s.port p).spring.rxBusy = true ∧ n = if (s.port
       p).spring.rxHdr.isSome then 0x34 else 0x33))) ∧
    (let s : State := spring .listening (rxOf .cap 24);
     let p : PortId := 5;
     let hdr : BitVec 72 := 1;
     let i : Instr := .springPayloadFailure 5;
     let n : Nat := 0x34;
     s.live = true ∧ ((i = .springHeader p hdr ∧ s.springRuns p = true ∧ (s.port
       p).spring.rxBusy = true ∧ (s.port p).spring.rxHdr = none ∧ headerOk hdr = false ∧ n =
       0x33) ∨ (i = .springPayloadFailure p ∧ (s.port p).spring.rxHdr.isSome = true ∧ n = 0x34)
       ∨ (i = .springFrameAbort p ∧ (s.port p).spring.rxBusy = true ∧ n = if (s.port
       p).spring.rxHdr.isSome then 0x34 else 0x33))) ∧
    (let s : State := spring .listening (rxOf .cap 24);
     let p : PortId := 5;
     let hdr : BitVec 72 := 1;
     let i : Instr := .springFrameAbort 5;
     let n : Nat := 0x34;
     s.live = true ∧ ((i = .springHeader p hdr ∧ s.springRuns p = true ∧ (s.port
       p).spring.rxBusy = true ∧ (s.port p).spring.rxHdr = none ∧ headerOk hdr = false ∧ n =
       0x33) ∨ (i = .springPayloadFailure p ∧ (s.port p).spring.rxHdr.isSome = true ∧ n = 0x34)
       ∨ (i = .springFrameAbort p ∧ (s.port p).spring.rxBusy = true ∧ n = if (s.port
       p).spring.rxHdr.isSome then 0x34 else 0x33))) := by
  refine ⟨?_, ?_, ?_, ?_, ?_⟩ <;> decide +kernel

/-- SpringHandshake. -/
theorem test_witness_SpringHandshake :
    (let s : State := spring .listening (fun g => { g with sstate := .listen, interval := some 3 });
     let p : PortId := 5;
     s.live = true ∧ s.springRuns p = true ∧ (s.port p).spring.interval.isSome = true ∧ (s.port
       p).spring.sstate = .listen ∧ (s.port p).spring.srole = .none) ∧
    (let s : State := spring .listening (fun g => { g with sstate := .joining, srole := .head, waitTail := true });
     let p : PortId := 5;
     s.live = true ∧ s.springRuns p = true ∧ (s.port p).spring.waitTail = true ∧ (s.port
       p).spring.srole = .head ∧ (s.port p).spring.sstate = .joining) ∧
    (let s : State := spring .listening (fun g => { g with sstate := .joining, srole := .head, capRep := true });
     let p : PortId := 5;
     s.live = true ∧ s.springRuns p = true ∧ (s.port p).spring.capRep = true) ∧
    (let s : State := spring .listening (fun g => { g with sstate := .joining, srole := .tail });
     let p : PortId := 5;
     s.live = true ∧ (s.port p).spring.sstate = .joining ∧ (s.port p).spring.srole = .tail ∧
       s.pst p = .listening ∧ (s.port p).link.c28Held = false) ∧
    (let s : State := (spring .listening (fun g => rxOf .cap 24 { g with sstate := .joining, srole := .head })).modLink 5 (fun l => { l with held := true });
     let p : PortId := 5;
     let pay : Bytes := 1 :: zeros 23;
     s.receives p .cap pay = true ∧ byteAt pay 0 ≠ 0 ∧ (s.port p).spring.sstate = .joining ∧
       (s.port p).spring.srole = .head ∧ s.pst p = .listening ∧ (s.port p).link.held = true) ∧
    (let s : State := spring .listening (fun g => rxOf .cap 24 { g with sstate := .listen });
     let p : PortId := 5;
     let pay : Bytes := 1 :: zeros 23;
     s.receives p .cap pay = true ∧ byteAt pay 0 ≠ 0 ∧ (s.port p).spring.sstate = .listen ∧
       (s.port p).spring.srole = .none ∧ s.pst p = .listening) ∧
    (let s : State := spring .listening (fun g => partnered .head { g with sel := some [9, 1] });
     let p : PortId := 5;
     let pay : Bytes := [9, 1];
     s.live = true ∧ s.springRuns p = true ∧ (s.port p).spring.sstate = .partnered ∧ (s.port
       p).spring.srole = .head ∧ (s.port p).spring.hsDone = false ∧ (s.port p).spring.sel = some
       pay ∧ (s.port p).spring.selCount < 10 ∧ (s.pst p = .listening ∨ ((s.port p).spring.cur =
       none ∧ (s.port p).spring.due = []))) ∧
    (let s : State := spring .disabled (fun g => partnered .head { g with sel := some (9 :: 1 :: zeros 8) });
     let p : PortId := 5;
     let pay : Bytes := 9 :: 1 :: zeros 8;
     s.live = true ∧ s.springRuns p = true ∧ (s.port p).spring.sstate = .partnered ∧ (s.port
       p).spring.srole = .head ∧ (s.port p).spring.hsDone = false ∧ (s.port p).spring.sel = some
       pay ∧ (s.port p).spring.selCount < 10 ∧ (s.pst p = .listening ∨ ((s.port p).spring.cur =
       none ∧ (s.port p).spring.due = []))) ∧
    (let s : State := spring .listening (fun g => { g with sstate := .joining, srole := .head, cur := some { typ := .cap } });
     let p : PortId := 5;
     let c : TxFrame := { typ := .cap };
     s.live = true ∧ (s.port p).spring.cur = some c ∧ (s.port p).spring.due = [] ∧ (s.port
       p).spring.ackDue = false) ∧
    (let s : State := (inState .listening).modLink 5 (fun l => { l with window := true, hdrSeen := true });
     let p : PortId := 5;
     s.live = true ∧ s.pst p = .listening ∧ (s.port p).link.window = true ∧ (s.port
       p).link.hdrSeen = true ∧ (s.port p).link.extended = false) ∧
    (let s : State := (inState .listening).modLink 5 (fun l => { l with window := true, sCand := 0x1FF });
     let p : PortId := 5;
     s.live = true ∧ s.pst p = .listening ∧ (s.port p).link.window = true ∧ (s.port
       p).link.hdrSeen = false ∧ (s.port p).link.c28 = false ∧ (s.port p).link.c28Held = false ∧
       candidates (s.port p) ≠ 0 ∧ (s.port p).link.held = false) := by
  refine ⟨?_, ?_, ?_, ?_, ?_, ?_, ?_, ?_, ?_, ?_, ?_⟩ <;> decide +kernel

/-- SpringUpkeep. -/
theorem test_witness_SpringUpkeep :
    (let s : State := spring .up (fun g => partnered .head { g with out := [{ typ := .user }] });
     let p : PortId := 5;
     let f : TxFrame := { typ := .user };
     let fs : List TxFrame := [];
     s.live = true ∧ s.springRuns p = true ∧ (s.port p).spring.sstate = .partnered ∧ (s.port
       p).spring.out = f :: fs ∧ (s.port p).spring.expiries < 7 ∧ (s.port p).spring.cur = none ∧
       (s.port p).spring.due = []) ∧
    (let s : State := spring .up (partnered .head);
     let p : PortId := 5;
     let i : Instr := .springCarrierLoss 5;
     let c : Loss := .carrier;
     s.live = true ∧ (s.port p).spring.sstate = .partnered ∧ s.pst p = .up ∧ (s.port p).diag =
       none ∧ ((i = .springCarrierLoss p ∧ c = .carrier) ∨ (i = .springSilence p ∧ c = .silence)
       ∨ (i = .springRetryExpiry p ∧ c = .retry ∧ s.springRuns p = true ∧ (s.port p).spring.out
       ≠ [] ∧ 7 ≤ (s.port p).spring.expiries ∧ (s.port p).spring.cur = none ∧ (s.port
       p).spring.due = [])) ∧ (s.port p).spring.srole ≠ .none) ∧
    (let s : State := spring .up (partnered .tail);
     let p : PortId := 5;
     let i : Instr := .springSilence 5;
     let c : Loss := .silence;
     s.live = true ∧ (s.port p).spring.sstate = .partnered ∧ s.pst p = .up ∧ (s.port p).diag =
       none ∧ ((i = .springCarrierLoss p ∧ c = .carrier) ∨ (i = .springSilence p ∧ c = .silence)
       ∨ (i = .springRetryExpiry p ∧ c = .retry ∧ s.springRuns p = true ∧ (s.port p).spring.out
       ≠ [] ∧ 7 ≤ (s.port p).spring.expiries ∧ (s.port p).spring.cur = none ∧ (s.port
       p).spring.due = [])) ∧ (s.port p).spring.srole ≠ .none) ∧
    (let s : State := spring .up (fun g => partnered .tail { g with out := [{ typ := .user }], expiries := 7 });
     let p : PortId := 5;
     let i : Instr := .springRetryExpiry 5;
     let c : Loss := .retry;
     s.live = true ∧ (s.port p).spring.sstate = .partnered ∧ s.pst p = .up ∧ (s.port p).diag =
       none ∧ ((i = .springCarrierLoss p ∧ c = .carrier) ∨ (i = .springSilence p ∧ c = .silence)
       ∨ (i = .springRetryExpiry p ∧ c = .retry ∧ s.springRuns p = true ∧ (s.port p).spring.out
       ≠ [] ∧ 7 ≤ (s.port p).spring.expiries ∧ (s.port p).spring.cur = none ∧ (s.port
       p).spring.due = [])) ∧ (s.port p).spring.srole ≠ .none) ∧
    (let s : State := spring .up (partnered .head);
     let p : PortId := 5;
     s.live = true ∧ s.springRuns p = true ∧ (s.port p).spring.sstate = .partnered ∧ (s.port
       p).spring.cur = none) ∧
    (let s : State := spring .training (fun g => partnered .head { g with step := some ([1, 0, 0], none) });
     let p : PortId := 5;
     let i : Instr := .trainStepRepeat 5;
     let ty : FType := .trainStep;
     let pay : Bytes := [1, 0, 0];
     s.live = true ∧ (s.port p).spring.sstate = .partnered ∧ ((i = .trainStepRepeat p ∧ ty =
       .trainStep ∧ (s.port p).spring.step = some (pay, none)) ∨ (i = .spareRepeat p ∧ ty =
       .spare ∧ (s.port p).spring.spareRep.map (fun b => [b]) = some pay) ∨ (i = .wakeReqRepeat
       p ∧ ty = .wakeReq ∧ (s.port p).spring.wakeReq = true ∧ pay = []) ∨ (i = .wakeReadyRepeat
       p ∧ ty = .wakeReady ∧ (s.port p).spring.wakeReady = true ∧ pay = readyPayload (s.port
       p)))) ∧
    (let s : State := spring .training (fun g => partnered .head { g with spareRep := some 2 });
     let p : PortId := 5;
     let i : Instr := .spareRepeat 5;
     let ty : FType := .spare;
     let pay : Bytes := [2];
     s.live = true ∧ (s.port p).spring.sstate = .partnered ∧ ((i = .trainStepRepeat p ∧ ty =
       .trainStep ∧ (s.port p).spring.step = some (pay, none)) ∨ (i = .spareRepeat p ∧ ty =
       .spare ∧ (s.port p).spring.spareRep.map (fun b => [b]) = some pay) ∨ (i = .wakeReqRepeat
       p ∧ ty = .wakeReq ∧ (s.port p).spring.wakeReq = true ∧ pay = []) ∨ (i = .wakeReadyRepeat
       p ∧ ty = .wakeReady ∧ (s.port p).spring.wakeReady = true ∧ pay = readyPayload (s.port
       p)))) ∧
    (let s : State := spring .dormant (fun g => partnered .head { g with wakeReq := true });
     let p : PortId := 5;
     let i : Instr := .wakeReqRepeat 5;
     let ty : FType := .wakeReq;
     let pay : Bytes := [];
     s.live = true ∧ (s.port p).spring.sstate = .partnered ∧ ((i = .trainStepRepeat p ∧ ty =
       .trainStep ∧ (s.port p).spring.step = some (pay, none)) ∨ (i = .spareRepeat p ∧ ty =
       .spare ∧ (s.port p).spring.spareRep.map (fun b => [b]) = some pay) ∨ (i = .wakeReqRepeat
       p ∧ ty = .wakeReq ∧ (s.port p).spring.wakeReq = true ∧ pay = []) ∨ (i = .wakeReadyRepeat
       p ∧ ty = .wakeReady ∧ (s.port p).spring.wakeReady = true ∧ pay = readyPayload (s.port
       p)))) ∧
    (let s : State := spring .dormant (fun g => partnered .tail { g with wakeReady := true });
     let p : PortId := 5;
     let i : Instr := .wakeReadyRepeat 5;
     let ty : FType := .wakeReady;
     let pay : Bytes := zeros 8;
     s.live = true ∧ (s.port p).spring.sstate = .partnered ∧ ((i = .trainStepRepeat p ∧ ty =
       .trainStep ∧ (s.port p).spring.step = some (pay, none)) ∨ (i = .spareRepeat p ∧ ty =
       .spare ∧ (s.port p).spring.spareRep.map (fun b => [b]) = some pay) ∨ (i = .wakeReqRepeat
       p ∧ ty = .wakeReq ∧ (s.port p).spring.wakeReq = true ∧ pay = []) ∨ (i = .wakeReadyRepeat
       p ∧ ty = .wakeReady ∧ (s.port p).spring.wakeReady = true ∧ pay = readyPayload (s.port
       p)))) ∧
    (let s : State := spring .training (fun g => partnered .head { g with step := some ([3, 0, 0], some 4) });
     let p : PortId := 5;
     let pay : Bytes := [3, 0, 0];
     let n : Nat := 2;
     s.live = true ∧ (s.port p).spring.sstate = .partnered ∧ (s.port p).spring.step = some (pay,
       some (n + 2))) := by
  refine ⟨?_, ?_, ?_, ?_, ?_, ?_, ?_, ?_, ?_, ?_⟩ <;> decide +kernel

/-- SpringMessages. -/
theorem test_witness_SpringMessages :
    (let s : State := ((spring .training (fun g => rxOf .trainStep 3 (partnered .tail g))).modTrain 5 (fun t => { t with kind := .cold, phase := .echoHead })).modLink 5 (fun l => { l with role := .tail });
     let p : PortId := 5;
     let pay : Bytes := [1, 0, 0];
     s.accepts p .trainStep pay = true ∧ byteAt pay 0 = 1 ∧ bit (byteAt pay 2) 0 = false ∧ s.pst
       p = .training ∧ (s.port p).train.kind = .cold ∧ (s.port p).train.abortLeft = 0 ∧ (s.port
       p).link.role = .tail ∧ (s.port p).train.phase = .echoHead) ∧
    (let s : State := (spring .up (fun g => rxOf .spare 1 (partnered .head g))).modLink 5 (fun l => { l with role := .head, rung := 9, partnerSpare := true });
     let p : PortId := 5;
     let pay : Bytes := [2];
     s.accepts p .spare pay = true ∧ s.pst p = .up ∧ isCh (s.port p).link.rung = true ∧ (s.port
       p).link.role = .head ∧ sparePossible (s.port p) = true) ∧
    (let s : State := spring .up (fun g => rxOf .dormNotice 0 (partnered .head g));
     let p : PortId := 5;
     s.accepts p .dormNotice [] = true ∧ s.pst p = .up) ∧
    (let s : State := (inState .up).modDorm 5 (fun d => { d with noticeWait := true });
     let p : PortId := 5;
     s.live = true ∧ (s.port p).dorm.noticeWait = true ∧ s.pst p = .up ∧ (s.port p).line.closing
       = .data ∧ (s.port p).line.term = false) ∧
    (let s : State := (spring .dormant (fun g => rxOf .wakeReq 0 (partnered .tail g))).modCfg 5 (fun c => { c with stillctl := 0x800 });
     let p : PortId := 5;
     s.accepts p .wakeReq [] = true ∧ s.pst p = .dormant ∧ (s.port p).spring.srole = .tail ∧
       (s.port p).dorm.waking = false ∧ (s.port p).dorm.latched = false ∧ scWakeSpring (s.port
       p).cfg.stillctl = true ∧ s.canWake p = true) ∧
    (let s : State := (spring .dormant (fun g => rxOf .wakeReady 8 (partnered .head g))).modDorm 5 (fun d => { d with waking := true });
     let p : PortId := 5;
     let pay : Bytes := zeros 8;
     s.accepts p .wakeReady pay = true ∧ s.pst p = .dormant ∧ (s.port p).spring.srole = .head ∧
       (s.port p).dorm.waking = true ∧ (s.port p).fp = none) ∧
    (let s : State := (spring .dormant (fun g => rxOf .wakeGo 1 (partnered .tail g))).modDorm 5 (fun d => { d with waking := true });
     let p : PortId := 5;
     let pay : Bytes := [9];
     s.accepts p .wakeGo pay = true ∧ s.pst p = .dormant ∧ (s.port p).spring.srole = .tail ∧
       (s.port p).dorm.waking = true ∧ isCh (BitVec.ofNat 4 (byteAt pay 0).toNat) = true) ∧
    (let s : State := (spring .dormant (fun g => rxOf .wakeCold 0 (partnered .tail g))).modDorm 5 (fun d => { d with waking := true });
     let p : PortId := 5;
     let i : Instr := .wakeCold 5;
     s.live = true ∧ s.pst p = .dormant ∧ (s.port p).dorm.waking = true ∧ ((i = .wakeCold p ∧
       s.accepts p .wakeCold [] = true ∧ (s.port p).spring.srole = .tail) ∨ i =
       .wakeAnswerTimeout p)) ∧
    (let s : State := (spring .dormant (partnered .head)).modDorm 5 (fun d => { d with waking := true });
     let p : PortId := 5;
     let i : Instr := .wakeAnswerTimeout 5;
     s.live = true ∧ s.pst p = .dormant ∧ (s.port p).dorm.waking = true ∧ ((i = .wakeCold p ∧
       s.accepts p .wakeCold [] = true ∧ (s.port p).spring.srole = .tail) ∨ i =
       .wakeAnswerTimeout p)) := by
  refine ⟨?_, ?_, ?_, ?_, ?_, ?_, ?_, ?_, ?_⟩ <;> decide +kernel

/-- UserFrames. -/
theorem test_witness_UserFrames :
    (let s : State := (spring .up (fun g => { partnered .head g with rxBusy := true, rxHdr := some (BitVec.ofNat 72 (11 + 32 * 2 + 2 ^ 14)) })).modCfg 5 (fun c => { c with islandCtl := 0x20000 });
     let p : PortId := 5;
     let pay : Bytes := [7, 8];
     let h : BitVec 72 := BitVec.ofNat 72 (11 + 32 * 2 + 2 ^ 14);
     s.accepts p .user pay = true ∧ (s.port p).spring.rxHdr = some h ∧ h.getLsbD 14 = true ∧
       spUser (s.port p).cfg.islandCtl = true ∧ s.hub.mode ≠ .dormant ∧ (s.ring (sprRxRing
       (bedOf p))).state = .run ∧ (s.bed (bedOf p)).rxq = [] ∧ (s.ring (sprRxRing (bedOf
       p))).free ≠ 0) ∧
    (let s : State := (spring .up (partnered .head)).modBed 0 (fun d => { d with rxq := [{ port := 5, payload := [1], mode4 := false, tick := 3, rssi := 0, foff := 0 }] });
     let b : BedId := 0;
     let u : UserRx := { port := 5, payload := [1], mode4 := false, tick := 3, rssi := 0, foff := 0 };
     s.live = true ∧ (s.bed b).rxq = [u] ∧ s.ringsServed = true ∧ s.dmaOk false = true ∧ (s.ring
       (sprRxRing b)).state = .run ∧ (s.ring (sprRxRing b)).free ≠ 0 ∧ u.acked = false ∧ bedOf
       u.port = b ∧ (s.port u.port).spring.sstate = .partnered ∧ (s.port u.port).spring.sess =
       u.sess) ∧
    (let s : State := { spring .up (fun g => { partnered .head g with pcap := some (zeros 7 ++ [1]) }) with rings := awake.rings.set 40 { awake.ring 40 with tail := 1 } };
     let b : BedId := 0;
     let e : Bytes := [5, 0, 2, 0];
     let p : PortId := 5;
     s.live = true ∧ s.ringsServed = true ∧ s.dmaOk false = true ∧ (s.ring (sprTxRing b)).state
       = .run ∧ (s.ring (sprTxRing b)).used ≠ 0 ∧ leAt e 0 2 = p.val ∧ bedOf p = b ∧ 1 ≤ leAt e
       2 2 ∧ leAt e 2 2 ≤ 256 ∧ leAt e 2 2 ≤ maxUser (s.port p) ∧ (s.port p).spring.users.length
       < 16 ∧ (s.port p).spring.sstate = .partnered) ∧
    (let s : State := { awake with rings := awake.rings.set 40 { awake.ring 40 with tail := 1 } };
     let b : BedId := 0;
     let e : Bytes := [16, 0, 2, 0];
     s.live = true ∧ s.ringsServed = true ∧ s.dmaOk false = true ∧ (s.ring (sprTxRing b)).state
       = .run ∧ (s.ring (sprTxRing b)).used ≠ 0 ∧ leAt e 0 2 / 16 ≠ b.val) := by
  refine ⟨?_, ?_, ?_, ?_⟩ <;> decide +kernel

/-- DiagFrames. -/
theorem test_witness_DiagFrames :
    (let s : State := spring .disabled (fun g => rxOf .diag 3 (partnered .head g));
     let p : PortId := 5;
     let ms : Byte := 250;
     let sweep : Bool := false;
     s.accepts p .diag (if sweep then [3, ms] else [1, ms, 1]) = true ∧ (s.pst p = .disabled ∨
       s.pst p = .listening) ∧ (if sweep then 4 ≤ ms.toNat ∧ ms.toNat ≤ 64 else 1 ≤ ms.toNat ∧
       ms.toNat ≤ 250)) ∧
    (let s : State := spring .disabled (fun g => rxOf .diag 2 (partnered .head g));
     let p : PortId := 5;
     let ms : Byte := 4;
     let sweep : Bool := true;
     s.accepts p .diag (if sweep then [3, ms] else [1, ms, 1]) = true ∧ (s.pst p = .disabled ∨
       s.pst p = .listening) ∧ (if sweep then 4 ≤ ms.toNat ∧ ms.toNat ≤ 64 else 1 ≤ ms.toNat ∧
       ms.toNat ≤ 250)) ∧
    (let s : State := spring .listening (fun g => rxOf .diag 3 (partnered .head g));
     let p : PortId := 5;
     let ms : Byte := 1;
     let sweep : Bool := false;
     s.accepts p .diag (if sweep then [3, ms] else [1, ms, 1]) = true ∧ (s.pst p = .disabled ∨
       s.pst p = .listening) ∧ (if sweep then 4 ≤ ms.toNat ∧ ms.toNat ≤ 64 else 1 ≤ ms.toNat ∧
       ms.toNat ≤ 250)) ∧
    (let s : State := spring .up (fun g => rxOf .diag 2 (partnered .head g));
     let p : PortId := 5;
     let sweep : Bool := true;
     s.accepts p .diag (if sweep then [3, 4] else [1, 1, 0]) = true ∧ s.pst p ≠ .disabled ∧
       s.pst p ≠ .listening) ∧
    (let s : State := spring .up (fun g => rxOf .diag 3 (partnered .head g));
     let p : PortId := 5;
     let sweep : Bool := false;
     s.accepts p .diag (if sweep then [3, 4] else [1, 1, 0]) = true ∧ s.pst p ≠ .disabled ∧
       s.pst p ≠ .listening) ∧
    (let s : State := (spring .test (fun g => rxOf .diag 2 (partnered .head g))).modPort 5 (fun q => { q with diag := some { diagOf [.tdr] with inTest := true, waitAck := true } });
     let p : PortId := 5;
     let d : Diag := { diagOf [.tdr] with inTest := true, waitAck := true };
     s.accepts p .diag [2, 0] = true ∧ (s.port p).diag = some d ∧ d.waitAck = true ∧ d.inTest =
       true ∧ d.left.head? = some .tdr ∧ ((∀ r, r ≠ p → (s.port r).diag = none))) ∧
    (let s : State := (spring .test (fun g => rxOf .diag 2 (partnered .head g))).modPort 5 (fun q => { q with diag := some { diagOf [.il] with inTest := true, sweep := true } });
     let p : PortId := 5;
     let d : Diag := { diagOf [.il] with inTest := true, sweep := true };
     s.accepts p .diag [4, 0] = true ∧ (s.port p).diag = some d ∧ d.left = [.il] ∧ d.begun =
       true ∧ d.sweep = true) ∧
    (let s : State := spring .test (fun g => rxOf .diag 1 (partnered .head g));
     let p : PortId := 5;
     s.accepts p .diag [5] = true) ∧
    (let s : State := (spring .test (fun g => rxOf .diag 1 (partnered .head g))).modPort 5 (fun q => { q with grant := some { highz := true, sweepMs := none, sending := false, prior := .disabled } });
     let p : PortId := 5;
     let g : Grant := { highz := true, sweepMs := none, sending := false, prior := .disabled };
     let i : Instr := .diagEnd 5;
     s.live = true ∧ (s.port p).grant = some g ∧ g.sweepMs = none ∧ g.prior = .disabled ∧ s.pst
       p = .test ∧ ((i = .diagEnd p ∧ s.accepts p .diag [6] = true) ∨ i = .quietDurationExpiry
       p)) ∧
    (let s : State := (spring .test (partnered .head)).modPort 5 (fun q => { q with grant := some { highz := true, sweepMs := none, sending := false, prior := .disabled } });
     let p : PortId := 5;
     let g : Grant := { highz := true, sweepMs := none, sending := false, prior := .disabled };
     let i : Instr := .quietDurationExpiry 5;
     s.live = true ∧ (s.port p).grant = some g ∧ g.sweepMs = none ∧ g.prior = .disabled ∧ s.pst
       p = .test ∧ ((i = .diagEnd p ∧ s.accepts p .diag [6] = true) ∨ i = .quietDurationExpiry
       p)) ∧
    (let s : State := (inState .test).modPort 5 (fun q => { q with grant := some { highz := false, sweepMs := some 16, sending := false, prior := .disabled } });
     let p : PortId := 5;
     let g : Grant := { highz := false, sweepMs := some 16, sending := false, prior := .disabled };
     let n : Nat := 16;
     s.live = true ∧ (s.port p).grant = some g ∧ g.sweepMs = some n) ∧
    (let s : State := (spring .test (partnered .head)).modPort 5 (fun q => { q with grant := some { highz := false, sweepMs := some 16, sending := true, prior := .disabled } });
     let p : PortId := 5;
     let g : Grant := { highz := false, sweepMs := some 16, sending := true, prior := .disabled };
     s.live = true ∧ (s.port p).grant = some g ∧ g.sending = true ∧ g.prior = .disabled ∧ s.pst
       p = .test) := by
  refine ⟨?_, ?_, ?_, ?_, ?_, ?_, ?_, ?_, ?_, ?_, ?_, ?_⟩ <;> decide +kernel

/-- Doorbells. -/
theorem test_witness_Doorbells :
    (let s : State := awake;
     let r : RingId := 0;
     let v : Word := 63;
     s.live = true ∧ hostProduced r = true ∧ s.early 11 = false ∧ s.hub.mode ≠ .dormant ∧
       s.sluice.entry = false ∧ s.sluice.hubOn = true ∧ (s.ring r).state = .run ∧ fld v 0 16 <
       (s.ring r).size ∧ (fld v 0 16 + (s.ring r).size - (s.ring r).tail) % (s.ring r).size ≤
       (s.ring r).free) ∧
    (let s : State := awake;
     let r : RingId := 40;
     let v : Word := 63;
     s.live = true ∧ hostProduced r = true ∧ s.early 11 = false ∧ s.hub.mode ≠ .dormant ∧
       s.sluice.entry = false ∧ s.sluice.hubOn = true ∧ (s.ring r).state = .run ∧ fld v 0 16 <
       (s.ring r).size ∧ (fld v 0 16 + (s.ring r).size - (s.ring r).tail) % (s.ring r).size ≤
       (s.ring r).free) ∧
    (let s : State := { awake with rings := awake.rings.set 16 { awake.ring 16 with tail := 5 } };
     let r : RingId := 16;
     let v : Word := 5;
     s.live = true ∧ devProduced r = true ∧ s.early 11 = false ∧ s.hub.mode ≠ .dormant ∧
       s.sluice.entry = false ∧ s.sluice.hubOn = true ∧ (s.ring r).state = .run ∧ (s.ring
       r).store = [] ∧ (∀ b, (s.bed b).store = []) ∧ fld v 0 16 < (s.ring r).size ∧ (fld v 0 16
       + (s.ring r).size - (s.ring r).head) % (s.ring r).size ≤ (s.ring r).used) ∧
    (let s : State := { awake with rings := awake.rings.set 36 { awake.ring 36 with tail := 5 } };
     let r : RingId := 36;
     let v : Word := 5;
     s.live = true ∧ devProduced r = true ∧ s.early 11 = false ∧ s.hub.mode ≠ .dormant ∧
       s.sluice.entry = false ∧ s.sluice.hubOn = true ∧ (s.ring r).state = .run ∧ (s.ring
       r).store = [] ∧ (∀ b, (s.bed b).store = []) ∧ fld v 0 16 < (s.ring r).size ∧ (fld v 0 16
       + (s.ring r).size - (s.ring r).head) % (s.ring r).size ≤ (s.ring r).used) ∧
    (let s : State := awake;
     let r : RingId := 0;
     let v : Word := 64;
     let e : RErr := .indexRange;
     s.live = true ∧ hostProduced r = true ∧ s.early 11 = false ∧ s.hub.mode ≠ .dormant ∧
       s.sluice.entry = false ∧ s.sluice.hubOn = true ∧ (s.ring r).state = .run ∧ (((s.ring
       r).size ≤ fld v 0 16 ∧ e = .indexRange) ∨ (fld v 0 16 < (s.ring r).size ∧ e =
       .tailOverrun ∧ (s.ring r).free < (fld v 0 16 + (s.ring r).size - (s.ring r).tail) %
       (s.ring r).size))) ∧
    (let s : State := { awake with rings := awake.rings.set 0 { awake.ring 0 with tail := 9, head := 5 } };
     let r : RingId := 0;
     let v : Word := 6;
     let e : RErr := .tailOverrun;
     s.live = true ∧ hostProduced r = true ∧ s.early 11 = false ∧ s.hub.mode ≠ .dormant ∧
       s.sluice.entry = false ∧ s.sluice.hubOn = true ∧ (s.ring r).state = .run ∧ (((s.ring
       r).size ≤ fld v 0 16 ∧ e = .indexRange) ∨ (fld v 0 16 < (s.ring r).size ∧ e =
       .tailOverrun ∧ (s.ring r).free < (fld v 0 16 + (s.ring r).size - (s.ring r).tail) %
       (s.ring r).size))) ∧
    (let s : State := awake;
     let r : RingId := 16;
     let v : Word := 0xFFFF;
     let e : RErr := .indexRange;
     s.live = true ∧ devProduced r = true ∧ s.early 11 = false ∧ s.hub.mode ≠ .dormant ∧
       s.sluice.entry = false ∧ s.sluice.hubOn = true ∧ (s.ring r).state = .run ∧ (((s.ring
       r).size ≤ fld v 0 16 ∧ e = .indexRange) ∨ (fld v 0 16 < (s.ring r).size ∧ e =
       .headOverrun ∧ (s.ring r).used < (fld v 0 16 + (s.ring r).size - (s.ring r).head) %
       (s.ring r).size))) ∧
    (let s : State := awake;
     let r : RingId := 36;
     let v : Word := 1;
     let e : RErr := .headOverrun;
     s.live = true ∧ devProduced r = true ∧ s.early 11 = false ∧ s.hub.mode ≠ .dormant ∧
       s.sluice.entry = false ∧ s.sluice.hubOn = true ∧ (s.ring r).state = .run ∧ (((s.ring
       r).size ≤ fld v 0 16 ∧ e = .indexRange) ∨ (fld v 0 16 < (s.ring r).size ∧ e =
       .headOverrun ∧ (s.ring r).used < (fld v 0 16 + (s.ring r).size - (s.ring r).head) %
       (s.ring r).size))) ∧
    (let s : State := awake;
     s.live = true ∧ s.early 11 = false) := by
  refine ⟨?_, ?_, ?_, ?_, ?_, ?_, ?_, ?_, ?_⟩ <;> decide +kernel

/-- CommandQueue. -/
theorem test_witness_CommandQueue :
    (let s : State := { awake with rings := awake.rings.set 0 { awake.ring 0 with tail := 1 } };
     let c : Fin 16 := 0;
     s.live = true ∧ s.canFetch c = true) ∧
    (let s : State := State.reset;
     let c : Fin 16 := 15;
     s.live = true ∧ (s.ringsServed = false ∨ s.sluice.entry = true ∨ (s.ring (cmdRing c)).state
       ≠ .run ∨ (s.ring (cplRing c)).state ≠ .run)) ∧
    (let s : State := { awake with cmds := [{ hdr := hdrFor (.port 5), op := .portDisable }] };
     let c : Fin 16 := 0;
     let r : CmdRec := { hdr := hdrFor (.port 5), op := .portDisable };
     let rs : List CmdRec := [];
     s.live = true ∧ s.startsNow = true ∧ s.cmds = r :: rs ∧ r.hdr.ring = c ∧ r.started = false
       ∧ (s.nextStart c).isSome = true) ∧
    (let s : State := { awake with cmds := [{ hdr := hdrFor (.port 5), op := .portDisable, badForm := some .badParam }] };
     let c : Fin 16 := 0;
     let r : CmdRec := { hdr := hdrFor (.port 5), op := .portDisable, badForm := some .badParam };
     let rs : List CmdRec := [];
     s.live = true ∧ s.startsNow = true ∧ s.cmds = r :: rs ∧ r.hdr.ring = c ∧ r.started = false
       ∧ (s.nextStart c).isSome = true) ∧
    (let s : State := { awake with cmds := [{ hdr := hdrFor (.port 5), op := .portDisable, started := true, acted := true, targets := [{ elem := .port 5, status := some .ok }], doneTick := some 999 }] };
     let r : CmdRec := { hdr := hdrFor (.port 5), op := .portDisable, started := true, acted := true, targets := [{ elem := .port 5, status := some .ok }], doneTick := some 999 };
     s.live = true ∧ s.ringsServed = true ∧ s.dmaOk false = true ∧ s.cmds = [r] ∧ r.completed =
       true ∧ r.hasDetail = false ∧ (s.ring (cplRing r.hdr.ring)).state = .run) := by
  refine ⟨?_, ?_, ?_, ?_, ?_⟩ <;> decide +kernel

/-- RingControl. -/
theorem test_witness_RingControl :
    (let s : State := awake;
     let m : MasterId := 11;
     let r : RingId := 3;
     let cfg : Word := 8;
     s.live = true ∧ s.reaches m (cfgAddr r) = true ∧ s.unwritten = true ∧ bit (s.ring r).cfg 0
       = false ∧ isEvRing r = false ∧ r ≠ telRing ∧ s.badSize r (fld cfg 1 4) = false) ∧
    (let s : State := { awake with rings := awake.rings.set 32 { awake.ring 32 with state := .run, cfg := 9, store := [{ tick := 0, time := 0, code := .linkUp, src := .port 5, data := 0 }] } };
     let m : MasterId := 11;
     let r : RingId := 32;
     s.live = true ∧ s.reaches m (cfgAddr r) = true ∧ s.unwritten = true ∧ bit (s.ring r).cfg 0
       = true ∧ isSprTx r = false) ∧
    (let s : State := { awake with rings := awake.rings.set 0 { awake.ring 0 with state := .draining } };
     let r : RingId := 0;
     s.live = true ∧ (s.ring r).state = .draining ∧ (∀ x ∈ s.cmds, x.hdr.ring.val ≠ r.val)) ∧
    (let s : State := awake;
     let r : RingId := 36;
     s.live = true ∧ ((s.ring r).state = .run ∨ (s.ring r).state = .draining)) ∧
    (let s : State := { awake with rings := awake.rings.set 36 { awake.ring 36 with cfg := 0x00100800, unsent := 1 }, pins := { awake.pins with msix1 := { vecs := List.replicate 64 { mask := false } } } };
     let r : RingId := 36;
     s.live = true ∧ (s.ring r).irqEn = true ∧ (s.ring r).coalUs ≠ 0 ∧ (s.ring r).unsent ≠ 0 ∧
       s.pins.d3pf0 = false ∧ s.pins.d3pf1 = false ∧ s.msixMasked (decide (r = telRing)) (s.ring
       r).vec = false) ∧
    (let s : State := { awake with rings := awake.rings.set 32 { awake.ring 32 with state := .run, phase := true }, hub := { awake.hub with evSeen := true }, due := [{ tick := 0, time := 0, code := .linkUp, src := .port 5, data := 0 }] };
     let e : Event := { tick := 0, time := 0, code := .linkUp, src := .port 5, data := 0 };
     let es : List Event := [];
     let r : RingId := 32;
     s.live = true ∧ s.due = e :: es ∧ s.mustHold e = false ∧ e.code ≠ .ringError ∧ s.routeOf
       e.code.cls = some r ∧ (s.ring r).state = .run ∧ (s.ring r).store = [] ∧ (s.ring r).free ≠
       0 ∧ s.dmaOk false = true) := by
  refine ⟨?_, ?_, ?_, ?_, ?_, ?_⟩ <;> decide +kernel

/-- TelemetryDumps. -/
theorem test_witness_TelemetryDumps :
    (let s : State := { awake with clk := { awake.clk with tick := 0 }, tel := { awake.tel with next := some ({ en := false, periodMs := 5, ports := 1 }, 1000) } };
     let c : TelCfg := { en := false, periodMs := 5, ports := 1 };
     s.live = true ∧ s.ringsServed = true ∧ s.hub.mode ≠ .calibrate ∧ s.telBoundary = true ∧
       s.tel.next = some (c, s.now) ∧ c.en = false) ∧
    (let s : State := { awake with clk := { awake.clk with tick := 0 }, tel := { awake.tel with cfg := { en := true, periodMs := 5, ports := 0 } } };
     s.live = true ∧ s.ringsServed = true ∧ s.hub.mode ≠ .calibrate ∧ s.telBoundary = true ∧
       s.tel.next = none ∧ s.tel.cfg.en = true ∧ s.tel.writing = [] ∧ (s.ring telRing).state =
       .run ∧ s.tel.cfg.ports = 0 ∧ (s.ring telRing).free ≠ 0) ∧
    (let s : State := { awake with clk := { awake.clk with tick := 0 }, tel := { awake.tel with cfg := { en := true, periodMs := 5, ports := 0 }, writing := [[]] } };
     s.live = true ∧ s.ringsServed = true ∧ s.hub.mode ≠ .calibrate ∧ s.telBoundary = true ∧
       s.tel.next = none ∧ s.tel.cfg.en = true ∧ s.tel.writing ≠ [] ∧ (∀ b, (s.bed b).store =
       [])) ∧
    (let s : State := { awake with tel := { awake.tel with writing := [List.replicate 512 0], snapTick := 77 } };
     let e : Bytes := List.replicate 512 0;
     s.live = true ∧ s.tel.writing = [e] ∧ s.tel.snap = [] ∧ s.dmaOk true = true ∧ (s.ring
       telRing).state = .run ∧ (s.ring telRing).free ≠ 0 ∧ (∀ b, (s.bed b).store = [])) ∧
    (let s : State := withBed (fun d => { d with k := 10 });
     let p : PortId := 5;
     s.live = true ∧ (s.bed (bedOf p)).k ≠ 0 ∧ s.bedOn (bedOf p) = true ∧ (s.port p).linked =
       false) ∧
    (let s : State := (upCh 9 .head).modBed 0 (fun d => { d with k := 10 });
     let p : PortId := 5;
     s.live = true ∧ (s.bed (bedOf p)).k ≠ 0 ∧ s.bedOn (bedOf p) = true ∧ (s.port p).linked =
       true ∧ (s.port p).txSamp.flight = none ∧ (s.bed (bedOf p)).store.length < 64) ∧
    (let s : State := { (inState .up).modPort 5 (fun q => { q with txSamp := { flight := some { k := 10, slotNo := 3, tick := 5, rung := 9, deep := false } } }) with tel := { awake.tel with writing := [[]] } };
     let p : PortId := 5;
     let f : Flight := { k := 10, slotNo := 3, tick := 5, rung := 9, deep := false };
     let ticks : List Tick := [6, 7, 8, 9, 10];
     s.live = true ∧ (s.port p).txSamp.flight = some f ∧ f.left = false ∧ 5 ≤ ticks.length ∧ (∀
       b, (s.bed b).store = []) ∧ (s.ring telRing).state = .run ∧ s.tel.writing ≠ []) := by
  refine ⟨?_, ?_, ?_, ?_, ?_, ?_, ?_⟩ <;> decide +kernel

/-- RegisterWrites. -/
theorem test_witness_RegisterWrites :
    (let s : State := awake;
     let m : MasterId := 11;
     s.live = true ∧ hasBar0 m = true ∧ s.hub.retain.length = 64 ∧ s.unwritten = true) ∧
    (let s : State := awake;
     let m : MasterId := 2;
     let p : PortId := 127;
     s.live = true ∧ s.reaches m (portBase p + 0x114) = true ∧ s.unwritten = true) ∧
    (let s : State := awake;
     let m : MasterId := 11;
     let r : RingId := 63;
     s.live = true ∧ s.reaches m (0x20000 + 0x20 * r.val) = true ∧ s.unwritten = true) ∧
    (let s : State := awake.modPow 0 (fun w => { w with on := false });
     let m : MasterId := 11;
     let p : PortId := 5;
     s.live = true ∧ hasBar0 m = true ∧ s.bedOn (bedOf p) = false ∧ s.hub.afValid = false ∧
       s.hub.afClearAt ≤ s.now) ∧
    (let s : State := { awake with hub := { awake.hub with afValid := true, afCount := 3 } };
     let m : MasterId := 11;
     s.live = true ∧ hasBar0 m = true) ∧
    (let s : State := (inState .listening).modLink 5 (fun l => { l with removed := 3 });
     let m : MasterId := 11;
     let p : PortId := 5;
     s.live = true ∧ s.reaches m (portBase p + 0x108) = true) ∧
    (let s : State := awake;
     let m : MasterId := 11;
     let l : LaneId := 255;
     s.live = true ∧ s.reaches m (laneBase l + 4) = true ∧ s.unwritten = true) ∧
    (let s : State := awake;
     let i : Fin 64 := 63;
     s.live = true ∧ s.pins.msix0.vecs.length = 64 ∧ s.pins.msix0.pend.getLsbD i.val = false) ∧
    (let s : State := awake;
     let m : MasterId := 11;
     let form : WriteForm := .partialDword;
     s.live = true ∧ hasBar0 m = true ∧ form ≠ .whole ∧ form ≠ .msix ∧ s.hub.afClearAt ≤ s.now) := by
  refine ⟨?_, ?_, ?_, ?_, ?_, ?_, ?_, ?_, ?_⟩ <;> decide +kernel

/-- FlashAccess. -/
theorem test_witness_FlashAccess :
    (let s : State := awake;
     let m : MasterId := 2;
     let op : Fin 3 := 0;
     let ctl : Word := 0x400;
     s.live = true ∧ s.reaches m 0x40004 = true ∧ s.unwritten = true ∧ s.flashRefuse m op.val
       (fld ctl 2 9) = 0) ∧
    (let s : State := awake;
     let m : MasterId := 2;
     let op : Fin 3 := 1;
     let ctl : Word := 0x400;
     s.live = true ∧ s.reaches m 0x40004 = true ∧ s.unwritten = true ∧ s.flashRefuse m op.val
       (fld ctl 2 9) = 0) ∧
    (let s : State := awake;
     let m : MasterId := 2;
     let op : Fin 3 := 2;
     let ctl : Word := 0;
     s.live = true ∧ s.reaches m 0x40004 = true ∧ s.unwritten = true ∧ s.flashRefuse m op.val
       (fld ctl 2 9) = 0) ∧
    (let s : State := awake;
     let m : MasterId := 11;
     let op : Fin 3 := 0;
     let ctl : Word := 0x400;
     s.live = true ∧ s.reaches m 0x40004 = true ∧ s.unwritten = true ∧ s.flashRefuse m op.val
       (fld ctl 2 9) ≠ 0) ∧
    (let s : State := awake;
     let m : MasterId := 2;
     let op : Fin 3 := 0;
     let ctl : Word := 0;
     s.live = true ∧ s.reaches m 0x40004 = true ∧ s.unwritten = true ∧ s.flashRefuse m op.val
       (fld ctl 2 9) ≠ 0) ∧
    (let s : State := { awake with flash := { awake.flash with mem := [(0x10000, 1), (0x20000, 2)], busy := some { op := 2, addr := 0x10000, len := 0 } } };
     let o : FlashOp := { op := 2, addr := 0x10000, len := 0 };
     s.live = true ∧ s.flash.busy = some o ∧ o.op = 2) ∧
    (let s : State := { awake with flash := { awake.flash with mem := [(0x10000, 1), (0x20000, 2)], busy := some { op := 1, addr := 0x10000, len := 3 }, data := List.replicate 64 0x01020307 } };
     let o : FlashOp := { op := 1, addr := 0x10000, len := 3 };
     s.live = true ∧ s.flash.busy = some o ∧ o.op = 1 ∧ o.len ≤ 256 ∧ s.flash.data.length = 64) ∧
    (let s : State := { awake with flash := { awake.flash with mem := [(0x10000, 1), (0x20000, 2)], busy := some { op := 0, addr := 0x10000, len := 4 } } };
     let o : FlashOp := { op := 0, addr := 0x10000, len := 4 };
     s.live = true ∧ s.flash.busy = some o ∧ o.op = 0 ∧ o.len = 4 ∧ o.addr + 4 ≤ 0x1000000 ∧
       s.flash.density = 0 ∧ s.flash.data.length = 64) := by
  refine ⟨?_, ?_, ?_, ?_, ?_, ?_, ?_, ?_⟩ <;> decide +kernel

/-- FingerprintMoves. -/
theorem test_witness_FingerprintMoves :
    (let s : State := withPort (fun q => { q with fp := some (List.replicate 2048 7) });
     let h : CmdHdr := hdrFor (.port 5);
     let p : PortId := 5;
     let f : Bytes := List.replicate 2048 7;
     s.runsOn h .fpSave false true (.port p) = true ∧ (s.port p).fp = some f ∧ f.length = 2048 ∧
       s.flash.fpq = []) ∧
    (let s : State := withPort (fun q => { q with fp := some (List.replicate 2048 7) });
     let h : CmdHdr := hdrFor (.port 5);
     let p : PortId := 5;
     let f : Bytes := List.replicate 2048 7;
     s.runsOn h .fpSave false true (.port p) = true ∧ (s.port p).fp = some f ∧ s.flash.fpq = []) ∧
    (let s : State := awake;
     let h : CmdHdr := hdrFor (.port 5);
     let p : PortId := 5;
     s.runsOn h .fpSave false true (.port p) = true ∧ (s.port p).fp = none ∧ s.flash.fpq = []) ∧
    (let s : State := { awake with flash := { awake.flash with fpq := [{ port := 5, key := { ring := 0, cid := 7, serial := 0 }, tick := 0, body := [], copy := some (1, List.replicate 32 9) }] } };
     let p : PortId := 5;
     let w : FpWrite := { port := 5, key := { ring := 0, cid := 7, serial := 0 }, tick := 0, body := [], copy := some (1, List.replicate 32 9) };
     let k : Nat := 1;
     let c : Bytes := List.replicate 32 9;
     s.live = true ∧ s.flash.fpq = [w] ∧ w.port = p ∧ w.copy = some (k, c)) ∧
    (let s : State := withPort (fun q => { q with fp := some [1] });
     let m : MasterId := 11;
     let p : PortId := 5;
     s.live = true ∧ s.reaches m (portBase p + 0x13C) = true) := by
  refine ⟨?_, ?_, ?_, ?_, ?_⟩ <;> decide +kernel

/-- CableTests. -/
theorem test_witness_CableTests :
    (let s : State := (inState .up).modLink 5 (fun l => { l with rung := 9 });
     let h : CmdHdr := hdrFor (.port 5);
     let p : PortId := 5;
     s.runsOn h .diagRun true true (.port p) = true ∧ (s.port p).diag = none ∧ s.pst p = .up ∧
       (s.port p).link.rung ≠ 1) ∧
    (let s : State := (inState .up).modPort 5 (fun q => { q with diag := some (diagOf [.passive]) });
     let p : PortId := 5;
     let d : Diag := diagOf [.passive];
     s.live = true ∧ (s.port p).diag = some d ∧ d.left = [.passive] ∧ d.begun = true ∧ d.waitAck
       = false ∧ d.sweep = false ∧ d.inTest = false ∧ ((∀ r, r ≠ p → (s.port r).diag = none))) ∧
    (let s : State := (inState .test).modPort 5 (fun q => { q with diag := some { diagOf [.tdr, .il] with inTest := true, waitAck := true } });
     let p : PortId := 5;
     let d : Diag := { diagOf [.tdr, .il] with inTest := true, waitAck := true };
     s.live = true ∧ (s.port p).diag = some d ∧ d.waitAck = true ∧ d.inTest = true ∧
       d.left.head? = some .tdr ∧ ((∀ r, r ≠ p → (s.port r).diag = none))) ∧
    (let s : State := (inState .test).modPort 5 (fun q => { q with diag := some { diagOf [.il] with inTest := true, prior := .disabled } });
     let p : PortId := 5;
     let d : Diag := { diagOf [.il] with inTest := true, prior := .disabled };
     let granted : Bool := true;
     s.live = true ∧ (s.port p).diag = some d ∧ d.left = [.il] ∧ d.begun = true ∧ d.inTest =
       true ∧ d.sweep = !granted ∧ d.asked = false ∧ ((∀ r, r ≠ p → (s.port r).diag = none))) ∧
    (let s : State := (inState .test).modPort 5 (fun q => { q with diag := some { diagOf [.il] with inTest := true, sweep := true, prior := .listening } });
     let p : PortId := 5;
     let d : Diag := { diagOf [.il] with inTest := true, sweep := true, prior := .listening };
     let granted : Bool := false;
     s.live = true ∧ (s.port p).diag = some d ∧ d.left = [.il] ∧ d.begun = true ∧ d.inTest =
       true ∧ d.sweep = !granted ∧ d.asked = false ∧ ((∀ r, r ≠ p → (s.port r).diag = none))) := by
  refine ⟨?_, ?_, ?_, ?_, ?_⟩ <;> decide +kernel

/-- CalibrationRuns. -/
theorem test_witness_CalibrationRuns :
    (let s : State := awake;
     let h : CmdHdr := hdrFor (.bed 0);
     let b : BedId := 0;
     let g : Byte := 0;
     s.runsOn h .calRun true true (.bed b) = true ∧ g.toNat < 16 ∧ s.bedTest b = false ∧
       s.calWaits = false ∧ s.calWhole = false ∧ s.bedDisabled b = true) ∧
    (let s : State := awake;
     let h : CmdHdr := hdrFor (.bed 0);
     let b : BedId := 0;
     let g : Byte := 5;
     s.runsOn h .calRun true true (.bed b) = true ∧ g.toNat < 16 ∧ s.bedTest b = false ∧
       s.calWaits = false ∧ s.calWhole = false ∧ s.bedDisabled b = true) ∧
    (let s : State := withBed (fun d => { d with cal := some { key := some { ring := 0, cid := 7, serial := 0 }, groups := 5, wholeDevice := false, start := 0 } });
     let b : BedId := 0;
     let r : CalRun := { key := some { ring := 0, cid := 7, serial := 0 }, groups := 5, wholeDevice := false, start := 0 };
     let k : CmdKey := { ring := 0, cid := 7, serial := 0 };
     s.live = true ∧ (s.bed b).cal = some r ∧ r.key = some k ∧ r.wholeDevice = false) ∧
    (let s : State := withBed (fun d => { d with calPend := 3 });
     let h : CmdHdr := hdrFor .device;
     s.runsOn h .calStore true false .device = true ∧ s.calGoing = false ∧ s.cal.store = none ∧
       (∃ b, (s.bed b).calPend ≠ 0) ∧ (∀ b, (s.bed b).calFail = 0)) ∧
    (let s : State := awake;
     let h : CmdHdr := hdrFor .device;
     s.runsOn h .calStore true false .device = true ∧ s.calGoing = false ∧ s.cal.store = none ∧
       ((∀ b, (s.bed b).calPend = 0) ∨ (∃ b, (s.bed b).calFail ≠ 0))) ∧
    (let s : State := withBed (fun d => { d with calPend := 3, calFail := 1 });
     let h : CmdHdr := hdrFor .device;
     s.runsOn h .calStore true false .device = true ∧ s.calGoing = false ∧ s.cal.store = none ∧
       ((∀ b, (s.bed b).calPend = 0) ∨ (∃ b, (s.bed b).calFail ≠ 0))) ∧
    (let s : State := { awake with cal := { awake.cal with valid := true, store := some { key := some { ring := 0, cid := 7, serial := 0 }, body := [1, 2, 3], second := false, taken := [3] } } };
     let c : CalStore := { key := some { ring := 0, cid := 7, serial := 0 }, body := [1, 2, 3], second := false, taken := [3] };
     let k : CmdKey := { ring := 0, cid := 7, serial := 0 };
     s.live = true ∧ s.cal.store = some c ∧ c.key = some k ∧ s.cal.valid = true ∧ c.second =
       false) := by
  refine ⟨?_, ?_, ?_, ?_, ?_, ?_, ?_⟩ <;> decide +kernel

/-- SelfTestAndFuses. -/
theorem test_witness_SelfTestAndFuses :
    (let s : State := awake;
     let h : CmdHdr := hdrFor (.bed 0);
     let b : BedId := 0;
     let k : Byte := 3;
     s.runsOn h .bistRun true true (.bed b) = true ∧ k ≠ 0 ∧ k.toNat < 32 ∧ s.bistBar [b] = none) ∧
    (let s : State := withBed (fun d => { d with bist := some { key := some { ring := 0, cid := 7, serial := 0 }, left := [.logic, .memory], result := [] } });
     let b : BedId := 0;
     let r : BistRun := { key := some { ring := 0, cid := 7, serial := 0 }, left := [.logic, .memory], result := [] };
     let x : BKind := .logic;
     let xs : List BKind := [.memory];
     s.live = true ∧ (s.bed b).bist = some r ∧ r.key ≠ none ∧ r.left = x :: xs) ∧
    (let s : State := withBed (fun d => { d with bist := some { key := some { ring := 0, cid := 7, serial := 0 }, left := [], result := [(.logic, .pass)], reinit := true } });
     let b : BedId := 0;
     let r : BistRun := { key := some { ring := 0, cid := 7, serial := 0 }, left := [], result := [(.logic, .pass)], reinit := true };
     let k : CmdKey := { ring := 0, cid := 7, serial := 0 };
     s.live = true ∧ (s.bed b).bist = some r ∧ r.reinit = true ∧ r.key = some k) ∧
    (let s : State := withBed (fun d => { d with bist := some { key := some { ring := 0, cid := 7, serial := 0 }, left := [], result := [(.logic, .pass)], reinit := true } });
     let b : BedId := 0;
     let r : BistRun := { key := some { ring := 0, cid := 7, serial := 0 }, left := [], result := [(.logic, .pass)], reinit := true };
     s.live = true ∧ (s.bed b).bist = some r ∧ r.reinit = true) ∧
    (let s : State := withBed (fun d => { d with memPass := true, softMap := [0x1234] });
     let h : CmdHdr := hdrFor (.bed 0);
     let b : BedId := 0;
     let row : BitVec 8 := 0;
     let w : Word := 0x1234;
     let ws : List Word := [];
     s.runsOn h .repairFuse true false (.bed b) = true ∧ (s.bed b).bist = none ∧ (s.bed
       b).repair = none ∧ (s.bed b).memPass = true ∧ (s.bed b).toBlow = w :: ws ∧ ws.length + 1
       + (s.bed b).fuses.length ≤ 64 ∧ s.bedDisabled b = true ∧ (s.bed b).fuseBusy = none ∧
       (s.bed b).freeRow = some row) ∧
    (let s : State := awake;
     let m : MasterId := 11;
     let b : BedId := 0;
     let v : Word := 0x3F;
     s.live = true ∧ s.reaches m (bedBase b + 0x20) = true ∧ s.unwritten = true ∧ (s.bed
       b).fuseBusy = none ∧ fld v 0 8 ≤ 63) ∧
    (let s : State := withBed (fun d => { d with fuseBusy := some (3, 0x55, false) });
     let b : BedId := 0;
     let row : BitVec 8 := 3;
     let w : Word := 0x55;
     s.live = true ∧ (s.bed b).fuseBusy = some (row, w, false) ∧ (s.bed b).repair = none) := by
  refine ⟨?_, ?_, ?_, ?_, ?_, ?_, ?_⟩ <;> decide +kernel

/-- TelemetryAndRegisterCommands. -/
theorem test_witness_TelemetryAndRegisterCommands :
    (let s : State := awake;
     let h : CmdHdr := hdrFor .device;
     let en : Byte := 1;
     let ms : BitVec 16 := 1;
     s.runsOn h .telConfig false false .device = true ∧ en.toNat ≤ 1 ∧ 1 ≤ ms.toNat ∧ ms.toNat ≤
       10000) ∧
    (let s : State := awake;
     let h : CmdHdr := hdrFor .device;
     let en : Byte := 0;
     let ms : BitVec 16 := 10000;
     s.runsOn h .telConfig false false .device = true ∧ en.toNat ≤ 1 ∧ 1 ≤ ms.toNat ∧ ms.toNat ≤
       10000) ∧
    (let s : State := awake;
     let h : CmdHdr := hdrFor (.bed 0);
     let b : BedId := 0;
     let k : Byte := 24;
     s.runsOn h .sampleConfig true false (.bed b) = true ∧ (k = 0 ∨ 10 ≤ k.toNat) ∧ k.toNat ≤ 24) ∧
    (let s : State := awake;
     let h : CmdHdr := hdrFor (.bed 0);
     let b : BedId := 0;
     let k : Byte := 0;
     s.runsOn h .sampleConfig true false (.bed b) = true ∧ (k = 0 ∨ 10 ≤ k.toNat) ∧ k.toNat ≤ 24) ∧
    (let s : State := awake;
     let h : CmdHdr := hdrFor (.bed 0);
     let b : BedId := 0;
     let k : Byte := 10;
     s.runsOn h .sampleConfig true false (.bed b) = true ∧ (k = 0 ∨ 10 ≤ k.toNat) ∧ k.toNat ≤ 24) ∧
    (let s : State := awake;
     let h : CmdHdr := hdrFor (.port 5);
     let p : PortId := 5;
     s.runsOn h .counterAccess false false (.port p) = true) ∧
    (let s : State := withPort (fun q => { q with granted := true });
     let h : CmdHdr := hdrFor (.port 5);
     let p : PortId := 5;
     s.runsOn h .counterAccess false false (.port p) = true) ∧
    (let s : State := awake;
     let h : CmdHdr := hdrFor (.port 5);
     let p : PortId := 5;
     let i : BitVec 16 := 0x1D;
     let v : BitVec 64 := 0xFFFFFFFFFFFF;
     s.runsOn h .counterAccess true true (.port p) = true ∧ cntListed i.toNat = true ∧ v.toNat <
       2 ^ 48) ∧
    (let s : State := inState .listening;
     let h : CmdHdr := hdrFor (.port 5);
     let p : PortId := 5;
     s.runsOn h .springConfig false true (.port p) = true ∧ s.unwritten = true) ∧
    (let s : State := inState .listening;
     let h : CmdHdr := hdrFor (.port 5);
     let p : PortId := 5;
     let en : Byte := 1;
     en.toNat ≤ 1 ∧ s.runsOn h .springConfig false true (.port p) = true ∧ s.unwritten = true) ∧
    (let s : State := awake;
     let h : CmdHdr := hdrFor .device;
     let i : Fin 64 := 63;
     let e : RegEntry := { offset := 0x1FC, value := 0xFFFFFFFF, mask := 0xF0F, pad := 0 };
     s.runsOn h .regBatch false false .device = true ∧ e.pad = 0 ∧ e.offset.toNat = 0x100 + 4 *
       i.val ∧ s.hub.retain.length = 64 ∧ s.unwritten = true) := by
  refine ⟨?_, ?_, ?_, ?_, ?_, ?_, ?_, ?_, ?_, ?_, ?_⟩ <;> decide +kernel

/-- SecurityCommands. -/
theorem test_witness_SecurityCommands :
    (let s : State := awake;
     let h : CmdHdr := hdrFor .device;
     let n : Word := 4;
     s.runsOn h .fwStage false false .device = true ∧ s.flash.stage = none ∧ 4 ≤ n.toNat ∧
       n.toNat ≤ 0x100000 ∧ n.toNat % 4 = 0) ∧
    (let s : State := awake;
     let h : CmdHdr := hdrFor .device;
     let fl : Byte := 0;
     let off : Word := 0;
     let n : Word := 4;
     s.runsOn h .fwStage false false .device = true ∧ s.flash.stage = none ∧ fl.toNat < 4 ∧ 4 ≤
       n.toNat ∧ n.toNat ≤ 0x100000 ∧ n.toNat % 4 = 0 ∧ (bit fl 0 = false ∨ off ≠ 0)) ∧
    (let s : State := awake;
     let h : CmdHdr := hdrFor .device;
     let fl : Byte := 3;
     let off : Word := 4;
     let n : Word := 0x100000;
     s.runsOn h .fwStage false false .device = true ∧ s.flash.stage = none ∧ fl.toNat < 4 ∧ 4 ≤
       n.toNat ∧ n.toNat ≤ 0x100000 ∧ n.toNat % 4 = 0 ∧ (bit fl 0 = false ∨ off ≠ 0)) ∧
    (let s : State := { awake with flash := { awake.flash with stage := some { slot := true, done := 0, magic := [1,2,3,4], chunk := some ({ ring := 0, cid := 7, serial := 0 }, 0, [1,2,3,4,5,6,7,8], false) } }, cmds := [{ hdr := hdrFor .device, op := .fwStage, started := true, acted := true, targets := [{ elem := .device }] }] };
     let g : Staging := { slot := true, done := 0, magic := [1,2,3,4], chunk := some ({ ring := 0, cid := 7, serial := 0 }, 0, [1,2,3,4,5,6,7,8], false) };
     let k : CmdKey := { ring := 0, cid := 7, serial := 0 };
     let off : Nat := 0;
     let data : Bytes := [1,2,3,4,5,6,7,8];
     s.live = true ∧ s.flash.stage = some g ∧ g.chunk = some (k, off, data, false) ∧
       s.stillWaits k .device = true) ∧
    (let s : State := { awake with flash := { awake.flash with mem := [(imageBase true, 0xA7)] } };
     let h : CmdHdr := hdrFor .device;
     let slot : Byte := 1;
     s.runsOn h .fwActivate false false .device = true ∧ slot.toNat < 2 ∧ (s.imageHead (slot ==
       1)).take 4 ≠ [0xFF, 0xFF, 0xFF, 0xFF]) ∧
    (let s : State := { awake with sec := { awake.sec with key := true }, flash := { awake.flash with mem := memWriteBytes 0xFF [] chainBase (leBytes 4 1) } };
     let h : CmdHdr := hdrFor .device;
     let n : Word := 5517;
     s.runsOn h .attest false false .device = true ∧ 5517 ≤ n.toNat) ∧
    (let s : State := awake;
     let h : CmdHdr := hdrFor .device;
     let n : Word := 5517;
     s.runsOn h .attest false false .device = true ∧ 5517 ≤ n.toNat) ∧
    (let s : State := awake;
     let h : CmdHdr := hdrFor .device;
     let n : Word := 8192;
     let tok : Bytes := [1, 2];
     s.runsOn h .debugUnlock false false .device = true ∧ 1 ≤ n.toNat ∧ n.toNat ≤ 8192 ∧ bit
       (byteAt tok 1) 0 = false ∧ s.unlockBusy = false) ∧
    (let s : State := awake;
     let i : Jtag := .internal;
     s.pins.powered = true ∧ (i ≠ .internal ∨ s.sec.unlocked.getLsbD 0 = false)) ∧
    (let s : State := { awake with sec := { awake.sec with unlocked := 1 } };
     let i : Jtag := .boundary;
     s.pins.powered = true ∧ (i ≠ .internal ∨ s.sec.unlocked.getLsbD 0 = false)) ∧
    (let s : State := { awake with sec := { awake.sec with unlocked := 1 } };
     s.pins.powered = true ∧ s.sec.unlocked.getLsbD 0 = true) := by
  refine ⟨?_, ?_, ?_, ?_, ?_, ?_, ?_, ?_, ?_, ?_, ?_⟩ <;> decide +kernel

/-- The zero bytes of a length. -/
theorem zeros_length (k : Nat) : (zeros k).length = k := by simp [zeros]

/-- A fingerprint saved by port 5 as head. -/
def savedByPort5 : Bytes := zeros 4 ++ leBytes 8 (phyId 5).toNat ++ zeros 2036

/-- FingerprintMoves, the load. -/
theorem test_witness_FingerprintMoves_load :
    let s : State := awake
    let h : CmdHdr := hdrFor (.port 5)
    let p : PortId := 5
    let b : Bytes := fpSeal savedByPort5
    let f : Bytes := b
    let g : Bytes := fpSetLoaded f
    let src : Byte := 0
    src.toNat ≤ 1 ∧ s.runsOn h .fpLoad false true (.port p) = true ∧ s.pst p ≠ .training ∧
      s.pst p ≠ .test ∧ (s.port p).fpClearAt ≠ some (s.now + 1) ∧
      (if src = 1 then (s.fpFlash p).map (fun c => c.2) else some b) = some f ∧ fpCheckOk f = true ∧
      (if fpByTail f then fpTail f else fpHead f) = phyId p ∧ g = fpSetLoaded f := by
  have hl := leBytes_length 8 (phyId 5).toNat
  have hL : 2016 ≤ savedByPort5.length := by
    simp only [savedByPort5, List.length_append, hl, zeros_length]; decide
  refine ⟨by decide, by decide +kernel, by decide +kernel, by decide +kernel, by decide +kernel, rfl,
    fpSeal_checkOk _ hL, ?_, rfl⟩
  have h0 : fpByTail (fpSeal savedByPort5) = false := by
    unfold fpByTail; rw [fpSeal_byteAt _ _ (by decide) hL]; rfl
  simp only [h0, fpHead, leAt]
  rw [fpSeal_take _ 4 8 (by decide) hL]
  unfold savedByPort5
  rw [List.append_assoc, List.drop_left' (zeros_length 4), List.take_left' hl,
    leNat_leBytes _ _ (phyId_lt 5)]
  simp

/-- SpringHandshake, a SELECT that names the tail. -/
theorem test_witness_SpringHandshake_select :
    let s : State := spring .listening (fun g => rxOf .select 10 { g with
      sstate := .joining, srole := .tail })
    let p : PortId := 5
    let pay : Bytes := [9, 1] ++ leBytes 8 (phyId 5).toNat
    s.receives p .select pay = true ∧ pay.length = 10 ∧ (s.port p).spring.sstate = .joining ∧
      (s.port p).spring.srole = .tail ∧ s.pst p = .listening ∧ (s.port p).link.held = false ∧
      leAt pay 2 8 = (phyId p).toNat ∧ (byteAt pay 0 = 8 ∨ byteAt pay 0 = 9) ∧ byteAt pay 1 = 1 := by
  refine ⟨by decide +kernel, by simp [leBytes_length], by decide +kernel, by decide +kernel,
    by decide +kernel, by decide +kernel, ?_, Or.inr rfl, rfl⟩
  simp only [leAt]
  rw [show (([9, 1] : Bytes) ++ leBytes 8 (phyId 5).toNat).drop 2 = leBytes 8 (phyId 5).toNat from rfl,
    List.take_of_length_le (by simp [leBytes_length]), leNat_leBytes _ _ (phyId_lt 5)]

/-- IdleStep: an empty queue, live and held. -/
theorem test_witness_IdleStep :
    awake.pending = [] ∧
      ({ awake with pins := { awake.pins with perst := true } }).pending = [] ∧
      ({ awake with pins := { awake.pins with perst := true } }).live = false := by decide +kernel

/-- CommandsComplete: a held device and a command that it does not take. -/
theorem test_witness_CommandsComplete :
    ({ awake with pins := { awake.pins with powered := false } }).live = false ∧
      Instr.actsHeld .hotReset = false := by decide +kernel

/-- MemoryInvariant: a state in form that steps. -/
theorem test_witness_MemoryInvariant :
    awake.memOk = true ∧ awake.queueOk = true ∧ ∃ t, step awake = .next t :=
  ⟨by decide +kernel, by decide +kernel, _, rfl⟩

/-- SecurityVersionRises: a blown bit with none above, and a blow that comes to an end. -/
theorem test_witness_SecurityVersionRises :
    (0x14#64).getLsbD 4 = true ∧ (∀ m, 4 < m → (0x14#64).getLsbD m = false) ∧
      ∃ t, exec .svnFuseBlow { awake with boot := { awake.boot with blowing := true, imageSvn := 2 } } =
        .next t := by
  refine ⟨by decide, fun m hm => ?_, _, rfl⟩
  by_cases h : m < 64
  · have : ∀ k : Fin 64, 4 < k.val → (0x14#64).getLsbD k.val = false := by decide
    exact this ⟨m, h⟩ hm
  · exact BitVec.getLsbD_of_ge _ _ (by omega)

/-- TickCounterHolds: PERST# changes a count that is not 0. -/
theorem test_witness_TickCounterHolds :
    ∃ t, exec .perstAssert awake = .next t ∧ t.clk.tick ≠ awake.clk.tick :=
  ⟨_, rfl, by decide +kernel⟩

/-- SealedFields: a header whose LEN is at its limit. -/
theorem test_witness_SealedFields : fld (0x2000#72) 5 9 ≤ 256 := by decide

end Sys2Proof.Tests
end

section
/-! How a register write reaches its register (R8–R14, R345–R350). -/

namespace Sys2Proof.Machine

/-! ## Completion -/

/-- A live device's command with effect f goes to what f is found to make of s, which keeps queue and time. -/
theorem completes_of_effect {i : Instr} {s t : State} {f : State → State} {P : State → Prop}
    (hl : s.live = true) (he : exec i s = onLive s f) (hf : f s = t) (hp : t.pending = s.pending)
    (hn : t.now = s.now) (h : P t) : Completes i s P := by
  subst hf
  exact completes_with hl he hp hn h

/-! ## Accesses that are made at once -/

/-- A master with access to BAR0 is none of the identities that `writeTo` turns away (R369). -/
theorem hasBar0_identity {m : MasterId} (h : hasBar0 m = true) : ¬(m = 0 ∨ m = 12 ∨ m = 14 ∨ m = 15) := by
  simp only [hasBar0, Bool.and_eq_true, bne_iff_ne] at h
  tauto

/-- What an access that is made at once has met (R345, R369, R438). -/
theorem reaches_iff {s : State} {m : MasterId} {a : Nat} :
    s.reaches m a = true ↔ hasBar0 m = true ∧ s.holding a = false ∧
      ∃ k, blockOf a = some k ∧ s.answersAt m k a = true := by
  unfold State.reaches
  cases blockOf a <;> simp [and_assoc]

/-- A write that reaches its block is made (R345). -/
theorem writeTo_reached {s : State} {m : MasterId} {a : Nat} (f : State → State)
    (h : s.reaches m a = true) : s.writeTo m a f = f s := by
  obtain ⟨hm, -, k, hk, ha⟩ := reaches_iff.mp h
  simp only [State.writeTo, if_neg (hasBar0_identity hm), hk, ha, if_true]

/-- A write that reaches its block is not held at a bridge (R438). -/
theorem writeAt_reached {s : State} {m : MasterId} {a : Nat} (v : Word) (f : State → State)
    (h : s.reaches m a = true) : s.writeAt m a v f = f s := by
  obtain ⟨-, hh, -⟩ := reaches_iff.mp h
  rw [State.writeAt, hh, if_neg Bool.false_ne_true, writeTo_reached f h]

theorem blockOf_hub {a : Nat} (h : a < 0x1000) : blockOf a = some .hub := if_pos h

/-- The hub block answers every master, and no gate closes on it (R348, R431). -/
theorem reaches_hub {s : State} {m : MasterId} {a : Nat} (hm : hasBar0 m = true) (ha : a < 0x1000) :
    s.reaches m a = true := by
  refine reaches_iff.mpr ⟨hm, ?_, .hub, blockOf_hub ha, rfl⟩
  simp [State.holding, blockOf_hub ha, blockDom, blockBed]

/-- The port windows of a bed (R353). -/
theorem blockOf_portWindows (b : BedId) {a : Nat} (hlo : bedBase b + 0x100000 ≤ a)
    (hhi : a < bedBase b + 0x200000) : blockOf a = some (.port b) := by
  have hb := b.isLt
  unfold bedBase at *
  have hbed : Fin.ofNat 8 ((a - 0x1000000) / 0x400000) = b := by
    ext; simp only [Fin.val_ofNat]; omega
  have ho : (a - 0x1000000) % 0x400000 = a - (0x1000000 + b.val * 0x400000) := by omega
  unfold blockOf
  repeat rw [if_neg (by omega)]
  rw [if_pos (by omega)]
  dsimp only
  rw [hbed, ho]
  repeat rw [if_neg (by omega)]
  rw [if_pos (by omega)]

/-- An offset within a port's window (R23). -/
theorem blockOf_port (p : PortId) {o : Nat} (ho : o < 0x10000) :
    blockOf (portBase p + o) = some (.port (bedOf p)) := by
  unfold portBase
  exact blockOf_portWindows (bedOf p) (by omega) (by omega)

/-- The block of the ring registers (R310). -/
theorem blockOf_ring (r : RingId) : blockOf (0x20000 + 0x20 * r.val) = some .ring := by
  have hr := r.isLt
  unfold blockOf
  repeat rw [if_neg (by omega)]
  rw [if_pos (by omega)]

/-! ## The tick after -/

/-- An effect that neither sees nor sets the time and the tick is in the next tick what it is now (R408). -/
theorem inNextTick_of_timeless {g : State → State} {s : State}
    (h : ∀ n c, g { s with now := n, clk := c } = { g s with now := n, clk := c }) :
    inNextTick g s = { g s with now := s.now, clk := s.clk } := by
  unfold inNextTick
  dsimp only
  rw [h, BitVec.add_sub_cancel]

/-- An element's change does not depend on the tick. -/
theorem inNextTick_modPort (s : State) (p : PortId) (f : Port → Port) :
    inNextTick (fun t => t.modPort p f) s = s.modPort p f := inNextTick_of_timeless fun _ _ => rfl

theorem inNextTick_modRing (s : State) (r : RingId) (f : Ring → Ring) :
    inNextTick (fun t => t.modRing r f) s = s.modRing r f := inNextTick_of_timeless fun _ _ => rfl

theorem inNextTick_modLane (s : State) (l : LaneId) (f : Lane → Lane) :
    inNextTick (fun t => t.modLane l f) s = s.modLane l f := inNextTick_of_timeless fun _ _ => rfl

/-! ## What a write stores -/

/-- In a tick without an earlier register write a write stores its own value (R14). -/
theorem stored_unwritten {s : State} (m : MasterId) (a : Nat) (v : Word) (h : s.unwritten = true) :
    s.stored m a v = v := by
  have hw : s.hub.writes.filter
      (fun w => w.1 == s.now && w.2.1 == a && decide (m.toNat < w.2.2.1.toNat)) = [] := by
    rw [List.filter_eq_nil_iff]
    intro w hw
    have hnow : (w.1 != s.now) = true := List.all_eq_true.mp h w hw
    simp_all
  simp [State.stored, State.standing, hw]

/-- A write in such a tick is noted, and acts in the next (R11, R14, R408). -/
theorem writeIn_unwritten {s : State} (m : MasterId) (a : Nat) (v : Word) (f : Word → State → State)
    (h : s.unwritten = true) : s.writeIn m a v f = inNextTick (f v) (s.noteWrite m a v) := by
  rw [State.writeIn, stored_unwritten m a v h]

/-- The offset of a dword, as REGISTER_WRITE carries it. -/
theorem dword_offset {a : Nat} (ha : a < 2 ^ 26) (h4 : a % 4 = 0) :
    (BitVec.ofNat 26 a).toNat / 4 * 4 = a := by
  rw [BitVec.toNat_ofNat, Nat.mod_eq_of_lt ha]; omega

/-- R8, R14. A whole-dword write of a register outside the MBX block, in a tick without an earlier one. -/
theorem registerWrite_completes {s : State} {m : MasterId} {a : Nat} {v : Word} {P : State → Prop}
    (hl : s.live = true) (hr : s.reaches m a = true) (hu : s.unwritten = true) (ha : a < 2 ^ 26)
    (h4 : a % 4 = 0) (hb : blockOf a ≠ some .mbx)
    (h : P (inNextTick (fun t => t.regWrite m a v) (s.noteWrite m a v))) :
    Completes (.registerWrite m (BitVec.ofNat 26 a) v .whole) s P := by
  have hw : s.writeAt m a v (fun s => s.regWriteAt m a v) =
      inNextTick (fun t => t.regWrite m a v) (s.noteWrite m a v) := by
    rw [writeAt_reached v _ hr, ← writeIn_unwritten m a v (fun w t => t.regWrite m a w) hu]
    unfold State.regWriteAt
    split
    · contradiction
    · rfl
  have he : exec (.registerWrite m (BitVec.ofNat 26 a) v .whole) s =
      onLive s fun s => s.writeAt m a v fun s => s.regWriteAt m a v := by
    conv_rhs => rw [← dword_offset ha h4]
    rfl
  refine completes_with hl he ?_ ?_ (hw ▸ h)
  · rw [writeAt_reached v _ hr]; simp
  · rw [writeAt_reached v _ hr]; simp

end Sys2Proof.Machine
end

section
/-! The rules of the registers, dropped writes, access faults and the MSI-X table that O33 speaks of. -/

namespace Sys2Proof.Machine

/-! ## Elements changed and kept -/

theorem portsKept_modPort (s : State) (p : PortId) (f : Port → Port) :
    s.portsKept (s.modPort p f) [p] := fun i hi => port_modPort_ne s p f i (by simpa using hi)

theorem ringsKept_modRing (s : State) (r : RingId) (f : Ring → Ring) :
    s.ringsKept (s.modRing r f) [r] := fun i hi => ring_modRing_ne s r f i (by simpa using hi)

theorem lanesKept_modLane (s : State) (l : LaneId) (f : Lane → Lane) :
    s.lanesKept (s.modLane l f) [l] := fun i hi => lane_modLane_ne s l f i (by simpa using hi)

/-- A list with one element replaced, by the library's name. -/
theorem upd_eq_set {α : Type} (xs : List α) (i : Nat) (a : α) : upd xs i a = xs.set i a := by
  induction xs generalizing i with
  | nil => rfl
  | cons x xs ih => cases i <;> simp [upd, ih]

theorem getD_upd_self {α : Type} {xs : List α} {i : Nat} (a d : α) (h : i < xs.length) :
    (upd xs i a).getD i d = a := by
  simp [upd_eq_set, List.getD_eq_getElem?_getD, h]

theorem getD_upd_ne {α : Type} (xs : List α) {i j : Nat} (a d : α) (h : j ≠ i) :
    (upd xs i a).getD j d = xs.getD j d := by
  simp [upd_eq_set, List.getD_eq_getElem?_getD, List.getElem?_set_ne h.symm]

/-! ## The registers -/

/-- R360. A write of HUB.RETAIN[i]. -/
theorem regWrite_retain (s : State) (m : MasterId) (i : Fin 64) (v : Word) :
    s.regWrite m (0x100 + 4 * i.val) v =
      { s with hub := { s.hub with retain := upd s.hub.retain i.val (v &&& 0x83FFFFFF) } } := by
  have hi := i.isLt
  have hidx : (0x100 + 4 * i.val - 0x100) / 4 = i.val := by omega
  unfold State.regWrite
  rw [blockOf_hub (by omega)]
  dsimp only [State.hubWrite]
  rw [if_neg (by omega), if_neg (by omega), if_pos (by omega), hidx]

/-- R6, R23. The port whose window holds an offset of its bed. -/
theorem portAt_window (p : PortId) {o : Nat} (ho : o < 0x10000) :
    portAt (bedOf p) (0x100000 + (p.val % 16 * 0x10000 + o)) = p := by
  have hidx : (0x100000 + (p.val % 16 * 0x10000 + o) - 0x100000) / 0x10000 = p.val % 16 := by omega
  unfold portAt
  rw [hidx]
  exact Fin.ext (show 16 * (p.val / 16) + p.val % 16 % 16 = p.val by omega)

/-- R353. A write in the port windows of a bed, by its offset x in the bed. -/
theorem regWrite_portBlock (s : State) (m : MasterId) {a x : Nat} {b : BedId} (v : Word)
    (hb : blockOf a = some (.port b)) (hx : (a - 0x1000000) % 0x400000 = x) :
    s.regWrite m a v = s.portWrite (portAt b x) (x % 0x10000) v := by
  unfold State.regWrite
  rw [hb, hx]

/-- R23, R62. A write at an offset of a port's window is one of the port's registers. -/
theorem regWrite_port (s : State) (m : MasterId) (p : PortId) {o : Nat} (v : Word) (ho : o < 0x10000) :
    s.regWrite m (portBase p + o) v = s.portWrite p o v := by
  have hoff : (portBase p + o - 0x1000000) % 0x400000 = 0x100000 + (p.val % 16 * 0x10000 + o) := by
    unfold portBase bedBase
    omega
  have hreg : (0x100000 + (p.val % 16 * 0x10000 + o)) % 0x10000 = o := by omega
  rw [regWrite_portBlock s m v (blockOf_port p ho) hoff, portAt_window p ho, hreg]

/-- R310. A write of a ring's BASE_LO. -/
theorem regWrite_ringBase (s : State) (m : MasterId) (r : RingId) (v : Word) :
    s.regWrite m (0x20000 + 0x20 * r.val) v =
      s.modRing r fun g => { g with baseLo := v &&& 0xFFFFF000 } := by
  have hr := r.isLt
  have hring : Fin.ofNat 64 ((0x20000 + 0x20 * r.val - 0x20000) / 32) = r := by
    ext; simp only [Fin.val_ofNat]; omega
  unfold State.regWrite
  rw [blockOf_ring]
  dsimp only [State.ringWrite]
  rw [if_neg (by omega), if_pos (by omega), if_pos (by omega), hring]

/-- The offset of a port's register is one that REGISTER_WRITE can carry. -/
theorem portBase_lt (p : PortId) {o : Nat} (ho : o < 0x10000) : portBase p + o < 2 ^ 26 := by
  have := p.isLt
  simp only [portBase, bedBase, bedOf]; omega

theorem portBase_dvd (p : PortId) : portBase p % 4 = 0 := by
  simp only [portBase, bedBase, bedOf]; omega

/-! ## Dropped writes and access faults -/

/-- R345, R359. Bit 16 of HUB.AFAULT is BADSIZE. -/
theorem afault_badSize (s : State) : s.afault.getLsbD 16 = s.hub.afBadSize := by
  have hk := s.hub.afKind.isLt
  have hm := s.hub.afMaster.isLt
  have hv : b2n s.hub.afValid ≤ 1 := by cases s.hub.afValid <;> decide
  unfold State.afault packW
  rw [BitVec.getLsbD_ofNat, Nat.testBit_eq_decide_div_mod_eq]
  generalize b2n s.hub.afValid = valid at hv
  cases s.hub.afBadSize <;> simp [b2n] <;> omega

/-- R345. A write that is not of a whole dword sets BADSIZE and does nothing else. -/
theorem exec_badForm {s : State} {m : MasterId} {a : BitVec 26} {v : Word} {form : WriteForm}
    (hw : form ≠ .whole) (hx : form ≠ .msix) :
    exec (.registerWrite m a v form) s = onLive s fun s => s.badSizeWrite m := by
  cases form with
  | whole => contradiction
  | msix => contradiction
  | partialDword => rfl
  | oversized => rfl

theorem mem_insertEv (e : Event) (es : List Event) : e ∈ insertEv e es := by
  induction es with
  | nil => exact List.mem_singleton.mpr rfl
  | cons x xs ih =>
    unfold insertEv
    split
    · exact List.mem_cons_self
    · exact List.mem_cons_of_mem _ ih

/-- Fields beyond byte 16 leave the first byte of an event's DATA. -/
theorem foldl_evData_mod (fs : List (Nat × Nat × Nat)) (h : ∀ f ∈ fs, 16 < f.1) (a : Nat) :
    fs.foldl (fun a f => a + f.2.2 % 2 ^ (8 * f.2.1) * 2 ^ (8 * (f.1 - 16))) a % 2 ^ 8 = a % 2 ^ 8 := by
  induction fs generalizing a with
  | nil => rfl
  | cons f fs ih =>
    have hf : 16 < f.1 := h f List.mem_cons_self
    have hd : 2 ^ 8 ∣ f.2.2 % 2 ^ (8 * f.2.1) * 2 ^ (8 * (f.1 - 16)) :=
      Dvd.dvd.mul_left (Nat.pow_dvd_pow 2 (by omega)) _
    rw [List.foldl_cons, ih (fun g hg => h g (List.mem_cons_of_mem _ hg)), Nat.add_mod,
      Nat.mod_eq_zero_of_dvd hd, Nat.add_zero, Nat.mod_mod]

/-- R344. The byte 16 of an event whose first field is that byte. -/
theorem fld_evData_first (b : Nat) (fs : List (Nat × Nat × Nat)) (h : ∀ f ∈ fs, 16 < f.1) :
    fld (evData ((16, 1, b) :: fs)) 0 8 = b % 2 ^ 8 := by
  rw [fld, evData, BitVec.toNat_ofNat, pow_zero, Nat.div_one,
    Nat.mod_mod_of_dvd _ (Nat.pow_dvd_pow 2 (by decide)), List.foldl_cons, foldl_evData_mod fs h]
  simp

/-- R301, R344. An event that is raised with its byte 16 is due. -/
theorem hasDue_raise (s : State) (c : Ev) (src : Elem) {b : Nat} {fs : List (Nat × Nat × Nat)}
    (hb : b < 256) (h : ∀ f ∈ fs, 16 < f.1) :
    (s.raise c src ((16, 1, b) :: fs)).hasDue c src b = true :=
  List.any_eq_true.mpr ⟨_, mem_insertEv _ _, by
    simp [fld_evData_first b fs h, Nat.mod_eq_of_lt hb]⟩

/-- R347, R350. The first fault after a CLEAR is the one that HUB.AFAULT holds. -/
theorem fault_first {h : Hub} {now : Nat} {m : MasterId} {kind : BitVec 3} {addr : Word}
    (hc : h.afClearAt ≤ now) (hv : h.afValid = false) :
    h.fault now m kind addr = { h with afKind := kind, afMaster := m, afAddr := addr, afValid := true,
                                       afCount := 1, afAt := some now } := by
  rw [Hub.fault, if_neg (by omega), hv]; rfl

/-- R348. A write to a port's window of a bed that is off meets a block that is off. -/
theorem blockOff_port {s : State} (m : MasterId) {a : Nat} {b : BedId} (ha : blockOf a = some (.port b))
    (h : s.bedOn b = false) : s.blockOff m 2 a = true := by
  have hans : s.answersAt m (.port b) a = false := by
    simp only [State.answersAt, State.answers, h, Bool.false_and]
  simp only [State.blockOff, ha, hans]
  rfl

/-- R348, R350. An access of a write to a block that is off is a fault of kind 2. -/
theorem offBlockWrite_completes {s : State} {m : MasterId} {a : Nat} {P : State → Prop}
    (hl : s.live = true) (hm : hasBar0 m = true) (ha : a < 2 ^ 26) (h4 : a % 4 = 0)
    (hb : s.blockOff m 2 a = true) (h : P (s.accessFault m 2 a)) :
    Completes (.offBlockAccess m 2 (BitVec.ofNat 26 a)) s P := by
  refine completes_of_effect (t := s.accessFault m 2 a) hl
    (Eq.refl (execOffBlockAccess m 2 (BitVec.ofNat 26 a) s)) ?_ rfl rfl h
  have hread : ¬((2 : BitVec 3) = 1 ∧ s.holding a = true) := fun h => absurd h.1 (by decide)
  dsimp only
  rw [dword_offset ha h4, if_neg (hasBar0_identity hm), if_neg hread, if_pos (.inl ⟨.inr rfl, hb⟩)]

/-! ## MSI-X -/

/-- R284, R306. A write of a vector control dword sets the mask alone where no message of the vector is
pending. -/
theorem msixWrite_control (s : State) (i : Fin 64) (v : Word) (hp : s.pins.msix0.pend.getLsbD i.val = false) :
    s.msixWrite false (16 * i.val + 12) v =
      { s with pins := { s.pins with msix0 := { s.pins.msix0 with
          vecs := upd s.pins.msix0.vecs i.val
            { s.pins.msix0.vecs.getD i.val {} with mask := v.getLsbD 0 } } } } := by
  have hi := i.isLt
  have hidx : (16 * i.val + 12) / 16 % 64 = i.val := by omega
  have hdw : (16 * i.val + 12) % 16 / 4 = 3 := by omega
  unfold State.msixWrite
  dsimp only
  rw [hidx, hdw]
  have hdue : (s.msixTab false).pend.getLsbD i.val = false := hp
  rw [hdue]
  rfl

end Sys2Proof.Machine
end

section
/-! O33: the effects of the write-one actions, and the statement. -/

namespace Sys2Proof.Machine

/-- R132. A write of PORT.TRAINCTL. -/
theorem regWrite_trainctl (s : State) (m : MasterId) (p : PortId) (v : Word) :
    s.regWrite m (portBase p + 0x114) v =
      s.modPort p fun q => { q with cfg := { q.cfg with trainctl := v &&& 0x1FFF } } := by
  rw [regWrite_port s m p v (by omega)]
  rfl

/-- R347, R350, R359. AFAULT.CLEAR empties the capture in the tick after its write. -/
theorem afaultClear_effect (s : State) :
    inNextTick (fun t => t.hubWrite 0x30 0x20000) s =
      { s with hub := { s.hub with
          afKind := 0, afMaster := 0, afValid := false, afCount := 0, afBadSize := false, afAddr := 0,
          afAt := none, afClearAt := s.now + 1 } } := by
  simp only [inNextTick, State.hubWrite, if_true, show bit (0x20000 : Word) 17 = true from by decide,
    BitVec.add_sub_cancel]

/-- R51, R65. DSHIFT.CLEAR restores the removed rungs. -/
theorem dshiftClear_effect (s : State) (p : PortId) :
    inNextTick (fun t => t.dshiftWrite p 0x10000) s = s.clearRemoved p := by
  simp only [State.dshiftWrite, show bit (0x10000 : Word) 16 = true from by decide, if_true]
  exact inNextTick_modPort s p _

/-- R269. LANE.TXEQ is written as it applies. -/
theorem txeqWrite_effect (s : State) (l : LaneId) (v : Word) :
    inNextTick (fun t => t.txeqWrite l v) s = s.modLane l fun x => { x with txeq := txeqApplied v } :=
  inNextTick_modLane s l _

/-- R345, R359. What a write of a bad form leaves. -/
theorem badSizeWrite_eq {s : State} {m : MasterId} (hm : hasBar0 m = true) (hc : s.hub.afClearAt ≤ s.now) :
    s.badSizeWrite m = { s with hub := { s.hub with afBadSize := true } } := by
  rw [State.badSizeWrite, if_neg (hasBar0_identity hm), decide_eq_true hc, Bool.or_true]

/-- R284. REGISTER_WRITE of the MSI-X table by PF0. -/
theorem exec_msixTable {s : State} {a : Nat} (v : Word) (ha : a < 2 ^ 26) (h4 : a % 4 = 0) :
    exec (.registerWrite 11 (BitVec.ofNat 26 a) v .msix) s = onLive s fun s => s.msixWrite false a v := by
  conv_rhs => rw [← dword_offset ha h4]
  rfl

/-- Settles O33. A whole-dword write goes through `registerWrite_completes` to its register's rule; the other
commands act, are dropped, or raise the fault at once. -/
theorem registerWrites : Obligations.RegisterWrites := by
  unfold Obligations.RegisterWrites
  refine ⟨?retain, ?trainctl, ?ringBase, ?offBlock, ?clear, ?dshift, ?txeq, ?msix, ?badForm⟩
  case retain =>
    intro s m i v hl hm hlen hu
    have hi := i.isLt
    refine registerWrite_completes hl (reaches_hub hm (by omega)) hu (by omega) (by omega)
      (by rw [blockOf_hub (by omega)]; decide) ?_
    rw [funext fun t : State => regWrite_retain t m i v, inNextTick_of_timeless fun _ _ => rfl]
    have hv : i.val < s.hub.retain.length := by omega
    exact ⟨getD_upd_self _ _ hv,
      fun j hj => getD_upd_ne _ _ _ (Fin.val_ne_of_ne hj), rfl⟩
  case trainctl =>
    intro s m p v hl hr hu
    have h4 := portBase_dvd p
    refine registerWrite_completes hl hr hu (portBase_lt p (by omega)) (by omega)
      (by rw [blockOf_port p (by omega)]; simp) ?_
    rw [funext fun t : State => regWrite_trainctl t m p v, inNextTick_modPort]
    exact ⟨port_modPort_self _ _ _, portsKept_modPort _ p _, rfl⟩
  case ringBase =>
    intro s m r v hl hr hu
    have hlt := r.isLt
    refine registerWrite_completes hl hr hu (by omega) (by omega) (by rw [blockOf_ring]; decide) ?_
    rw [funext fun t : State => regWrite_ringBase t m r v, inNextTick_modRing]
    exact ⟨ring_modRing_self _ _ _, ringsKept_modRing (s.noteWrite _ _ _) r _, rfl⟩
  case offBlock =>
    intro s m p hl hm hoff hv hc
    have h4 := portBase_dvd p
    exact offBlockWrite_completes hl hm (portBase_lt p (by omega)) (by omega)
      (blockOff_port m (blockOf_port p (by omega)) hoff)
      ⟨fault_first hc hv, hasDue_raise _ _ _ (by decide) (by simp), rfl⟩
  case clear =>
    intro s m hl hm
    refine completes_of_effect hl (Eq.refl (execAfaultClear m s))
      ((writeTo_reached _ (reaches_hub hm (by decide))).trans (afaultClear_effect s)) rfl rfl ⟨?_, rfl, rfl⟩
    simp [State.afault, packW, b2n]
  case dshift =>
    intro s m p hl hr
    exact completes_of_effect hl (Eq.refl (execDshiftClear m p s))
      ((writeAt_reached _ _ hr).trans (dshiftClear_effect s p)) rfl rfl
      ⟨port_modPort_self s p _, portsKept_modPort s p _, rfl⟩
  case txeq =>
    intro s m l v hl hr hu
    exact completes_of_effect hl (Eq.refl (execLaneTxeqWrite m l v s))
      ((writeAt_reached _ _ hr).trans ((writeIn_unwritten _ _ _ _ hu).trans (txeqWrite_effect _ l v))) rfl rfl
      ⟨lane_modLane_self _ l _, lanesKept_modLane (s.noteWrite m _ v) l _, rfl⟩
  case msix =>
    intro s i v hl hlen hp
    have hi := i.isLt
    have hv : i.val < s.pins.msix0.vecs.length := by omega
    exact completes_of_effect hl (exec_msixTable v (by omega) (by omega)) (msixWrite_control s i v hp) rfl rfl
      ⟨getD_upd_self _ _ hv, fun j hj => getD_upd_ne _ _ _ (Fin.val_ne_of_ne hj), rfl⟩
  case badForm =>
    intro s m a v form hl hm hw hx hc
    exact completes_of_effect hl (exec_badForm hw hx) (badSizeWrite_eq hm hc) rfl rfl ⟨afault_badSize _, rfl⟩

end Sys2Proof.Machine
end

section
/-! O46 fails: a link that goes down by UNC_BURST may touch the MSI-X table of PF0. -/

namespace Sys2Proof.Machine

/-- A command's answer has the pins of its effect. -/
theorem answer_pins {s t u : State} (h : answer s t = .next u) : u.pins = t.pins := by
  rw [answer_next s t u h]

/-- Bed 0's Spring transmit queue, running, each entry signalled by vector 0 (R306). -/
def signallingQueue : Ring := { state := .run, cfg := 0x800 }

/-- A partnered tail with one USER entry taken and not yet completed (R206, R224). -/
def tailWithEntry : Spring :=
  { sstate := .partnered, srole := .tail, users := [{ idx := 0, phase := true, payload := [] }] }

/-- A port UP at CH-100T on three pairs, whose LINKCTL.ROLE has been set to HEAD since its session began and
whose DOWN_UNC is 1. -/
def burstPort : Port :=
  { cfg := { linkctl := 0x10000, decctl := 0x80000, islandEn := true },
    link := { state := .up, rung := 9, role := .tail, spared := true },
    rx := { run := .on }, spring := tailWithEntry }

/-- A device in ACTIVE with that port as port 0. Vector 0 of PF0 is masked, as at reset, and not pending. -/
def burstState : State :=
  let s := { State.reset with
    hub := { mode := .active, base := .active, bindLocked := true },
    clk := { lock := true, armed := true, tick := 1000 }, now := 1000 }
  ((s.modRing (sprTxRing 0) fun _ => signallingQueue).modPort 0 fun _ => burstPort).modPow 0 fun w =>
    { w with on := true, lineLock := true, tender := true }

/-- A section one bit off the code, with the W − 1 sections after it received. -/
def burstSection : SecObs :=
  { decided := 1, hard := 1, uncoded := 0, ahead := 5, next1 := 0, next2 := 0, pass := none }

/-- The burst takes the pair-spared port to LISTENING (R156). There its role is sampled as HEAD, so the session as
tail ends (R206, R208); the entry that it had taken completes (R224), and the message of that completion
leaves the pending bit of the masked vector 0 (R306). -/
theorem burst_sets_pending :
    (burstState.sectionOut 0 burstSection).pins.msix0.pend = 1 := by decide +kernel

theorem burst_exec : exec (.sectionRelease 0 burstSection) burstState =
    answer burstState (burstState.sectionOut 0 burstSection) := by
  have hl : burstState.live = true := by decide +kernel
  have hr : (burstState.bedOn (bedOf 0) && (burstState.port 0).releases burstSection) = true := by
    decide +kernel
  change execSectionRelease 0 burstSection burstState = _
  rw [execSectionRelease, onLive, if_pos hl, if_pos hr]

/-- Refutes O46: its second clause says that the pins, PF0's MSI-X table among them, are as before a link-down by
UNC_BURST. In `burstState`, which meets the clause's hypotheses, the link-down sets a pending bit. -/
theorem not_sectionsAndHealth : ¬ Obligations.SectionsAndHealth := by
  unfold Obligations.SectionsAndHealth
  rintro ⟨-, hburst, -⟩
  obtain ⟨t, ht, -, -, -, -, -, hpins, -⟩ := hburst burstState 0 burstSection (by decide +kernel)
    (by decide +kernel) (by decide +kernel) (by decide +kernel) (by decide +kernel) (by decide +kernel)
    (by decide +kernel) (by decide +kernel) (by decide +kernel) (by decide +kernel) (by decide +kernel)
    (by decide +kernel) (by decide +kernel) (by decide +kernel)
  have hpend : t.pins.msix0.pend = 1 := by
    rw [answer_pins (burst_exec.symm.trans ht)]
    exact burst_sets_pending
  rw [hpins] at hpend
  exact absurd hpend (by decide +kernel)

end Sys2Proof.Machine
end

section
/-! O49: sleep and wake of the device and its beds (R25, R442–R450). -/

namespace Sys2Proof.Machine

/-- A live device's command whose effect on s is t completes with t and nothing else. -/
theorem completes_eq {i : Instr} {s t : State} {f : State → State} (hl : s.live = true)
    (he : exec i s = onLive s f) (hf : f s = t) (hp : t.pending = s.pending) (hn : t.now = s.now) :
    Completes i s fun u => u = t :=
  completes_of_effect hl he hf hp hn rfl

/-! ## Beds in QUIET -/

/-- R442. Without a request no bed is on its way off. -/
theorem bedLeaving_of_noReqs {s : State} (h : s.sluice.reqs = []) (b : BedId) : s.bedLeaving b = false := by
  rw [State.bedLeaving, h]; rfl

/-- R25, R448. A bed that is held or not idle is not asked to switch off. -/
theorem bedIdleHoldoff_kept {s : State} {b : BedId} (hl : s.live = true)
    (h : (s.bed b).pow.hold = true ∨ s.bedIdle b = false) :
    Completes (.bedIdleHoldoffExpiry b) s fun t => t = s := by
  refine completes_eq hl (Eq.refl (execBedIdleHoldoffExpiry b s)) ?_ rfl rfl
  obtain hhold | hidle := h
  · simp [hhold]
  · simp [hidle]

/-! ## Latched wakes -/

theorem bit_or_pow (w : Byte) (g j : Fin 8) :
    bit (w ||| BitVec.ofNat 8 (2 ^ g.val)) j.val = (bit w j.val || decide (j = g)) := by
  have hpow : (BitVec.ofNat 8 (2 ^ g.val)).getLsbD j.val = decide (j = g) := by
    rw [BitVec.getLsbD_ofNat, Nat.testBit_two_pow]
    simp [j.isLt, Fin.ext_iff, eq_comm]
  rw [bit, BitVec.getLsbD_or, hpow, bit]

theorem bit_or_pow_self (w : Byte) (g : Fin 8) : bit (w ||| BitVec.ofNat 8 (2 ^ g.val)) g.val = true := by
  rw [bit_or_pow, decide_eq_true rfl, Bool.or_true]

theorem bit_or_pow_ne (w : Byte) {g j : Fin 8} (h : j ≠ g) :
    bit (w ||| BitVec.ofNat 8 (2 ^ g.val)) j.val = bit w j.val := by
  rw [bit_or_pow, decide_eq_false h, Bool.or_false]

/-- R442. A device in DORMANT sleeps. -/
theorem sleeping_of_dormant {s : State} (h : s.hub.mode = .dormant) : s.sleeping = true := by
  rw [State.sleeping, h]; rfl

theorem not_sleeping {s : State} (hm : s.hub.mode ≠ .dormant) (he : s.sluice.entry = false) :
    s.sleeping = false := by
  rw [State.sleeping, he, Bool.or_false]
  exact beq_false_of_ne hm

/-! ## The wake -/

/-- R443. Where no port is DORMANT, no latched port wake needs a bed. -/
theorem wakeBeds_eq_nil {s : State} (h : ∀ p, s.pst p ≠ .dormant) : s.wakeBeds = [] := by
  simp [State.wakeBeds, h]

/-- R352. Where nothing is saved, a domain's restore writes nothing. -/
theorem retainRestore_of_noneSaved {s : State} (h : s.hub.saved = []) (d : Dom) : s.retainRestore d = s := by
  have hs : { s with hub := { s.hub with saved := [] } } = s := by rw [← h]
  simp [State.retainRestore, h, hs, forAll]

/-- R442, R445. What was latched acts, and of the Sluice the latched sources alone change. -/
theorem latchedAct_sluice (s : State) :
    s.latchedAct.sluice = { s.sluice with latched := [], gpioEdges := 0 } := by
  simp -implicitDefEqProofs [State.latchedAct]

/-- R444, R446. A device whose EXITMODE is QUIET is awake in QUIET, with no change of mode to come. -/
theorem deviceAwake_quiet {s : State} (h : bit s.sluice.ctl 0 = false) :
    s.deviceAwake.hub = { s.hub with mode := .quiet, base := .quiet, changing := false, target := .quiet } ∧
      s.deviceAwake.sluice.hubRising = false := by
  simp -implicitDefEqProofs [State.deviceAwake, h, latchedAct_sluice]

/-- Settles O49. Each command's guard is decided by the clause's hypotheses; what the wake then does
beside its own fields, the restore, the latched port wakes and what was latched, is the lemmas' above. -/
theorem sleepAndWake : Obligations.SleepAndWake := by
  unfold Obligations.SleepAndWake
  refine ⟨?holdoff, fun s b hl h => bedIdleHoldoff_kept hl h, ?timer, ?input, ?latchedInput, ?wake, ?noWake,
    ?supplyGood, ?supplyTimeout, ?restored⟩
  case holdoff =>
    intro s b hl hmode hon hhold hrst hwant hidle htest hreqs hentry hchg
    have hleave := bedLeaving_of_noReqs hreqs b
    refine completes_eq hl (Eq.refl (execBedIdleHoldoffExpiry b s)) ?_ rfl rfl
    rw [State.bedOn] at hon
    simp [hmode, hon, hhold, hrst, hwant, hidle, htest, hreqs, hentry, hchg, hleave]
  case timer =>
    intro s hl hmode htime hlatch
    refine completes_eq hl (Eq.refl (execWaketimeReached s)) ?_ rfl rfl
    simp [sleeping_of_dormant hmode, htime, hlatch, State.latchWake]
  case input =>
    intro s g hl hmode hentry
    refine completes_of_effect hl (Eq.refl (execGpioRisingEdge g s)) (if_neg ?_) rfl rfl
      ⟨bit_or_pow_self _ g, fun j hj => bit_or_pow_ne _ hj, rfl⟩
    simp [not_sleeping hmode hentry]
  case latchedInput =>
    intro s g hl hmode hdir
    refine completes_of_effect hl (Eq.refl (execGpioRisingEdge g s)) (if_pos ?_) rfl rfl
      ⟨bit_or_pow_self _ g, rfl, bit_or_pow_self _ g, rfl, rfl⟩
    simp [sleeping_of_dormant hmode, hdir]
  case wake =>
    intro s w hl hmode hentry hon hrise hen hport
    refine completes_eq hl (Eq.refl (execWakeActedOn s)) ?_ rfl rfl
    simp [hmode, hentry, hon, hrise, hen, wakeBeds_eq_nil hport, forAll]
  case noWake =>
    intro s hl hmode hen
    refine completes_eq hl (Eq.refl (execWakeActedOn s)) ?_ rfl rfl
    simp [hen]
  case supplyGood =>
    intro s hl hrise hon hsaved
    refine completes_eq hl (Eq.refl (execDomainSupplyGood .hub s))
      ((if_pos (by rw [hrise, hon]; rfl)).trans (retainRestore_of_noneSaved ?_ .hub)) rfl rfl
    exact hsaved
  case supplyTimeout =>
    intro s hl hrise hon
    exact completes_of_effect hl (Eq.refl (execDomainSupplyTimeout .hub s))
      (if_pos (by rw [hrise, hon]; rfl)) rfl rfl ⟨rfl, rfl, rfl⟩
  case restored =>
    intro s hl hrise hon hexit
    obtain ⟨hhub, hdone⟩ := deviceAwake_quiet hexit
    refine completes_of_effect hl (Eq.refl (execHubRingsRestored s))
      (if_pos (by rw [hrise, hon]; rfl)) (by simp) (by simp) ⟨?_, ?_, ?_, hdone, by simp⟩
    all_goals rw [hhub]

end Sys2Proof.Machine
end

section
/-! O20 and O47 fail, each in a state that its hypotheses let through. -/

namespace Sys2Proof.Machine

/-- The state that a command leads to, or the one that it finds where it stops. -/
def State.after (s : State) (i : Instr) : State :=
  match exec i s with
  | .next t => t
  | _ => s

theorem after_of_exec {i : Instr} {s t : State} (h : exec i s = .next t) : s.after i = t := by
  rw [State.after, h]

/-- What is found not to have ended after a command has not ended in the state that it answers. -/
theorem not_ended_of_after {i : Instr} {s t : State} {h : CmdHdr} {o : Op} {e : Elem} {st : ST}
    (ht : exec i s = .next t) (ha : (s.after i).ended h o e st = false) : t.ended h o e st ≠ true := by
  rw [← after_of_exec ht, ha]
  exact Bool.false_ne_true

/-! ## A bed under self-test that has agreed to lose power -/

/-- A header of ring 0 with a CID and a target. -/
def headerFor (cid : BitVec 16) (e : Elem) : CmdHdr :=
  { ring := 0, cid := cid, portset := false, fence := false, target := BitVec.ofNat 16 e.code, ports := 0,
    detail := 0 }

/-- A device in QUIET with bed 0 on and idle. -/
def quietState : State :=
  { State.reset with
    hub := { mode := .quiet, base := .quiet, bindLocked := true },
    clk := { lock := true, armed := true, tick := 1000 }, now := 1000 }.modPow 0 fun w =>
    { w with on := true, lineLock := true, tender := true }

/-- R436, R316. The Sluice asks the idle bed 0 to switch off; before its Tender answers, a memory self-test
starts on the bed and its ports are reset, which puts them at rest; then the Tender answers ACK. -/
def testedLeavingState : State :=
  (((quietState.after (.bedIdleHoldoffExpiry 0)).after
    (.cmdBistRun (headerFor 1 (.bed 0)) 2)).after
    (.cmdReset { headerFor 2 (.port 0) with portset := true, ports := 0xFFFF })).after
    (.sluiceBlockAnswer (tenderBlk 0))

/-- The bed is on, tested, and takes no new work. -/
theorem testedLeaving_bed : testedLeavingState.bedOn 0 = true ∧ testedLeavingState.bedTest 0 = true ∧
    testedLeavingState.tenderReady 0 = true := by
  decide +kernel

/-- Refutes O20: its second clause says that CMD_PORT_ENABLE of a port whose bed is on and being tested ends
ST_BUSY. In `testedLeavingState` the bed's Tender has also agreed to lose power (R436), and the check of R26
comes first: the target ends ST_NOT_POWERED. -/
theorem not_commandChecks : ¬ Obligations.CommandChecks := by
  unfold Obligations.CommandChecks
  rintro ⟨-, hbed, -⟩
  obtain ⟨hon, htest, -⟩ := testedLeaving_bed
  obtain ⟨t, ht, -, hend⟩ := hbed testedLeavingState (headerFor 3 (.port 5)) 5 .busy (by decide +kernel)
    (by decide +kernel) (by decide +kernel) (if_pos hon).symm (.inr htest)
  exact not_ended_of_after ht (by decide +kernel) hend

/-! ## A record that is complete before its command acts -/

/-- The quiet device with a record of CMD_POWER_STATE that has its completion's tick and has not acted. -/
def doneWaitingState : State :=
  { quietState with cmds := [{ hdr := headerFor 1 .device, op := .powerState, doneTick := some 0 }] }

/-- Refutes O47: its third clause says of every state with the command's checks passed that QUIET ends ST_OK on
the device. In `doneWaitingState` the record that waits for the command is complete already, and takes no status
(R298). No command makes such a record, but `runsOn` asks of one that waits only that its form is good. -/
theorem not_powerStateCommand : ¬ Obligations.PowerStateCommand := by
  unfold Obligations.PowerStateCommand
  rintro ⟨-, -, hdevice, -⟩
  obtain ⟨t, ht, -, -, hend, -⟩ := hdevice doneWaitingState (headerFor 1 .device) 5 (by decide +kernel)
    (.inr (by decide +kernel)) (by decide +kernel) (.inl rfl)
  exact not_ended_of_after ht (by decide +kernel) hend

end Sys2Proof.Machine
end

section
/-! O43, O44, O45 and O53 fail for one reason: where a port goes to LISTENING and its ROLE is sampled anew, the end
of its Spring session completes the USER entries that it has taken (R206, R208, R224), and the message of that
completion may touch PF0's MSI-X table (R306), which the statements say is as before. -/

namespace Sys2Proof.Machine

/-- A port in PARTNERED as tail, with a USER entry taken, whose LINKCTL.ROLE has been set to HEAD since its session
began: its next entry to LISTENING ends the session (R206). -/
def rejoiningPort (l : Link) : Port :=
  { cfg := { linkctl := 0x10000, islandEn := true }, link := l, spring := tailWithEntry }

/-- The device of `burstState` with another port 0: the transmit queue of its bed signals by the masked vector 0. -/
def withPortZero (q : Port) : State := burstState.modPort 0 fun _ => q

/-- A command that leaves vector 0 of PF0 pending, where it was not, changes the pins. -/
theorem not_hubKept_of_pending {i : Instr} {s t : State} (ht : exec i s = .next t)
    (hs : s.pins.msix0.pend = 0) (ha : (s.after i).pins.msix0.pend = 1) : ¬ s.hubKept t := by
  rintro ⟨hpins, -⟩
  rw [after_of_exec ht, hpins, hs] at ha
  exact absurd ha (by decide)

/-! ## A standard rung whose training fails -/

/-- Port 0 in training at 10GBASE-T, its Spring session standing since before Clause 28 was agreed. -/
def standardTrainingState : State :=
  withPortZero { rejoiningPort { state := .training } with train := { kind := .standard, rung := 5 } }

/-- The clause reports that its training has failed. -/
def failedClause : ClauseObs := { ok := false, rxmap := 0, polinv := 0, skew := 0, errs := [] }

/-- Refutes O43: its fifth clause says that the pins are as before a training that fails under its clause. In
`standardTrainingState` the failure takes the port to LISTENING, and vector 0 of PF0 is pending after it. -/
theorem not_standardRungs : ¬ Obligations.StandardRungs := by
  unfold Obligations.StandardRungs
  rintro ⟨-, -, -, -, hfail, -⟩
  obtain ⟨t, ht, -, -, -, -, -, -, -, hkept⟩ := hfail standardTrainingState 0 failedClause .clause .trainFail
    (by decide +kernel) (by decide +kernel) (by decide +kernel) (by decide +kernel)
    (.inl ⟨rfl, by decide +kernel, rfl, rfl⟩)
  exact not_hubKept_of_pending ht (by decide +kernel) (by decide +kernel) hkept

/-! ## A pair that fails where sparing is not possible -/

/-- Port 0 UP at CH-100T; LINKCTL.PSPARE is 0, so no pair can be spared. -/
def unsparableState : State := withPortZero (rejoiningPort { state := .up, rung := 9, role := .tail })

/-- Refutes O44: its seventh clause says that the pins are as before a link-down by PAIR_FAULT. In
`unsparableState` the link-down takes the port to LISTENING, and vector 0 of PF0 is pending after it. -/
theorem not_commaLocksAndPairs : ¬ Obligations.CommaLocksAndPairs := by
  unfold Obligations.CommaLocksAndPairs
  rintro ⟨-, -, -, -, -, -, hfault, -⟩
  obtain ⟨t, ht, -, -, -, -, -, -, hkept⟩ := hfault unsparableState 0 [0] [0] (by decide +kernel)
    (by decide +kernel) (by decide +kernel) (by decide +kernel) (by decide +kernel) (by decide +kernel)
    (.inl (by decide +kernel))
  exact not_hubKept_of_pending ht (by decide +kernel) (by decide +kernel) hkept

/-! ## A 32nd OAM field that fails -/

/-- Port 0 UP at CH-50T on three pairs, with 31 failed OAM fields in a row behind it. -/
def oamGapState : State :=
  withPortZero { rejoiningPort { state := .up, rung := 8, role := .tail, spared := true } with
    rx := { run := .on }, line := { oamGap := 31 } }

/-- Refutes O45: its sixth clause says that the pins are as before a link-down by OAM_LOST. In `oamGapState` the
link-down of a pair-spared port goes to LISTENING (R156), and vector 0 of PF0 is pending after it. -/
theorem not_oamFields : ¬ Obligations.OamFields := by
  unfold Obligations.OamFields
  rintro ⟨-, -, -, -, -, hlost, -⟩
  obtain ⟨t, ht, -, -, -, hkept⟩ := hlost oamGapState 0 1 (by decide +kernel) (by decide +kernel)
    (by decide +kernel) (by decide +kernel) (by decide +kernel) (by decide +kernel) (by decide +kernel)
    (by decide +kernel) (by decide +kernel)
  exact not_hubKept_of_pending ht (by decide +kernel) (by decide +kernel) hkept

/-! ## A wake that is not answered -/

/-- Port 0 DORMANT and waking, its answer awaited. -/
def unansweredWakeState : State :=
  withPortZero { rejoiningPort { state := .dormant } with dorm := { waking := true } }

/-- Refutes O53: its last clause says that the pins are as before a wake that no answer comes to. In
`unansweredWakeState` the time-out takes the port to LISTENING, and vector 0 of PF0 is pending after it. -/
theorem not_springMessages : ¬ Obligations.SpringMessages := by
  unfold Obligations.SpringMessages
  rintro ⟨-, -, -, -, -, -, -, hcold⟩
  obtain ⟨t, ht, -, -, -, hkept⟩ := hcold unansweredWakeState 0 (.wakeAnswerTimeout 0) (by decide +kernel)
    (by decide +kernel) (by decide +kernel) (.inr rfl)
  exact not_hubKept_of_pending ht (by decide +kernel) (by decide +kernel) hkept

end Sys2Proof.Machine
end

section
/-! The Sluice's requests and what a bed's gate does to its ports, lanes and power (R436–R440). -/

namespace Sys2Proof.Machine

/-! ## An operation on each of a list -/

theorem forAll_eq_self {α : Type} {xs : List α} {f : α → State → State} {s : State}
    (h : ∀ x ∈ xs, f x s = s) : forAll xs f s = s := by
  unfold forAll
  induction xs with
  | nil => rfl
  | cons x xs ih =>
    rw [List.foldl_cons, h x List.mem_cons_self]
    exact ih fun y hy => h y (List.mem_cons_of_mem _ hy)

theorem forAll_cons {α : Type} (x : α) (xs : List α) (f : α → State → State) (s : State) :
    forAll (x :: xs) f s = forAll xs f (f x s) := rfl

theorem forAll_filter_singleton {α : Type} {xs : List α} {x : α} {g : α → Bool} {f : α → State → State} {s : State}
    (hx : xs = [x]) (hg : g x = true) : forAll (xs.filter g) f s = f x s := by
  rw [hx, List.filter_cons_of_pos hg]; rfl

/-- Each port of a list without repetition is changed once, from what it was. -/
theorem port_forAll_modPort {ps : List PortId} (hd : ps.Nodup) (f : PortId → Port → Port) (s : State)
    (i : PortId) :
    (forAll ps (fun p t => t.modPort p (f p)) s).port i = if i ∈ ps then f i (s.port i) else s.port i := by
  induction ps generalizing s with
  | nil => rfl
  | cons p ps ih =>
    obtain ⟨hp, hd⟩ := List.nodup_cons.mp hd
    rw [forAll_cons, ih hd, port_modPort]
    by_cases h : i = p
    · subst h; simp [hp]
    · simp [h]

theorem lane_forAll_modLane {ls : List LaneId} (hd : ls.Nodup) (f : LaneId → Lane → Lane) (s : State)
    (i : LaneId) :
    (forAll ls (fun l t => t.modLane l (f l)) s).lane i = if i ∈ ls then f i (s.lane i) else s.lane i := by
  induction ls generalizing s with
  | nil => rfl
  | cons l ls ih =>
    obtain ⟨hl, hd⟩ := List.nodup_cons.mp hd
    rw [forAll_cons, ih hd, lane_modLane]
    by_cases h : i = l
    · subst h; simp [hl]
    · simp [h]

/-- R6. A port is one of its bed's. -/
theorem mem_portsOf {p : PortId} {b : BedId} : p ∈ portsOf b ↔ bedOf p = b := by
  have hp := p.isLt
  simp only [portsOf, List.mem_map, List.mem_finRange, true_and, portOf, bedOf, Fin.ext_iff]
  exact ⟨fun ⟨i, hi⟩ => by have := i.isLt; omega, fun h => ⟨⟨p.val % 16, by omega⟩, by simp only; omega⟩⟩

theorem portsOf_nodup (b : BedId) : (portsOf b).Nodup :=
  (List.nodup_finRange 16).map fun i j h => by simpa [portOf, Fin.ext_iff] using h

/-- R15. A lane is one of its bed's. -/
theorem mem_lanesOf {l : LaneId} {b : BedId} : l ∈ lanesOf b ↔ bedOfLane l = b := by
  have hl := l.isLt
  simp only [lanesOf, List.mem_map, List.mem_finRange, true_and, laneOf, bedOfLane, Fin.ext_iff]
  exact ⟨fun ⟨i, hi⟩ => by have := i.isLt; omega, fun h => ⟨⟨l.val % 32, by omega⟩, by simp only; omega⟩⟩

theorem lanesOf_nodup (b : BedId) : (lanesOf b).Nodup :=
  (List.nodup_finRange 32).map fun i j h => by simpa [laneOf, Fin.ext_iff] using h

theorem bedsKept_modBed (s : State) (b : BedId) (f : Bed → Bed) :
    s.bedsKept (s.modBed b f) [b] := fun i hi => bed_modBed_ne s b f i (by simpa using hi)

theorem port_of_ports {s t : State} (h : t.ports = s.ports) (p : PortId) : t.port p = s.port p :=
  congrArg (Vector.get · p) h

theorem bed_of_beds {s t : State} (h : t.beds = s.beds) (b : BedId) : t.bed b = s.bed b :=
  congrArg (Vector.get · b) h

theorem lane_of_lanes {s t : State} (h : t.lanes = s.lanes) (l : LaneId) : t.lane l = s.lane l :=
  congrArg (Vector.get · l) h

/-! ## Requests -/

/-- R178. A port that is not DORMANT has no wake to go on with. -/
theorem wakeGoOn_of_awake {s : State} {p : PortId} (h : s.pst p ≠ .dormant) : State.wakeGoOn p s = s := by
  rw [State.pst] at h
  simp [State.wakeGoOn, h]

theorem wakeGoOn_all {s : State} (h : ∀ p, s.pst p ≠ .dormant) (ps : List PortId) :
    forAll ps (fun p t => State.wakeGoOn p t) s = s :=
  forAll_eq_self fun p _ => wakeGoOn_of_awake (h p)

/-- R438. Without a held access there is none to serve. -/
theorem heldServe_of_none {s : State} (h : s.sluice.heldAcc = []) : s.heldServe = s := by
  have hs : { s with sluice := { s.sluice with heldAcc := [] } } = s := by rw [← h]
  simp [State.heldServe, h, hs, forAll]

/-- The Sluice once it has abandoned a request (R438). -/
def Sluice.abandons (x : Sluice) (q : SReq) (blk : Byte) (n : Nat) : Sluice :=
  { x with lastBlock := blk, lastReason := BitVec.ofNat 2 n, reqs := x.reqs.filter fun r => r != q }

/-- A device whose Sluice has abandoned a bed's request of its own account: it says so by its event (R334, R436). -/
def State.abandons (s : State) (b : BedId) (q : SReq) (blk : Byte) (n : Nat) : State :=
  { s.raise .powerRefused (.bed b) [(16, 1, q.req.toNat), (17, 1, blk.toNat), (18, 1, n), (20, 2, 0)] with
    sluice := s.sluice.abandons q blk n }

/-- R436, R438. A failed request of a bed then lets the held accesses and the port wakes go on. -/
theorem reqFail_bed {s : State} {q : SReq} {b : BedId} (blk : Byte) (n : Nat) (he : q.elem = .bed b)
    (hk : q.key = none) :
    s.reqFail q blk n = forAll allPorts (fun p t => State.wakeGoOn p t) (s.abandons b q blk n).heldServe := by
  unfold State.reqFail
  rw [he, hk]
  exact if_neg (by simp)

/-- R436, R438. With no access held and no port to wake that is all. -/
theorem reqFail_alone {s : State} {q : SReq} {b : BedId} (blk : Byte) (n : Nat) (he : q.elem = .bed b)
    (hk : q.key = none) (hp : ∀ p, s.pst p ≠ .dormant) (ha : s.sluice.heldAcc = []) :
    s.reqFail q blk n = s.abandons b q blk n := by
  rw [reqFail_bed blk n he hk, heldServe_of_none (s := s.abandons b q blk n) ha]
  exact wakeGoOn_all (s := s.abandons b q blk n) hp allPorts

/-- The Sluice with one request, of which a block has answered ACK or DELAY (R436). -/
def State.answered (s : State) (q : SReq) (blk : Byte) : State :=
  { s with sluice := { s.sluice with reqs := [{ q with
    asked := q.asked.erase blk,
    delayed := if s.blkAnswer q blk = .delay then q.delayed ++ [blk] else q.delayed }] } }

/-- R334, R436. A command that abandons the only request does so and raises its event. -/
theorem completes_abandons {i : Instr} {s : State} {f : State → State} {b : BedId} {q : SReq} {blk : Byte} {n : Nat}
    (hl : s.live = true) (he : exec i s = onLive s f) (hq : s.sluice.reqs = [q])
    (hf : f s = s.abandons b q blk n) :
    Completes i s fun t =>
      t.sluice = { s.sluice with lastBlock := blk, lastReason := BitVec.ofNat 2 n, reqs := [] } ∧
      t.hasDue .powerRefused (.bed b) q.req.toNat = true ∧
      t = { s with sluice := t.sluice, due := t.due } := by
  refine completes_of_effect hl he hf rfl rfl ⟨?_, hasDue_raise s _ _ q.req.isLt (by simp), rfl⟩
  simp [State.abandons, Sluice.abandons, hq]

/-- R436. What becomes of the only request when a block of it answers ACK or DELAY. -/
theorem blockAnswer_taken {s : State} {q : SReq} {blk : Byte} (hq : s.sluice.reqs = [q])
    (he : q.elem ≠ .device) (ha : s.blkAnswer q blk ≠ .refuse) : s.blockAnswer q blk = s.answered q blk := by
  unfold State.blockAnswer
  rw [if_neg (by simp [hq])]
  split
  · contradiction
  · simp [State.decideReq, he, hq, State.answered]

/-- R436. A refusal abandons the request. -/
theorem blockAnswer_refused {s : State} {q : SReq} {blk : Byte} (hq : s.sluice.reqs = [q])
    (ha : s.blkAnswer q blk = .refuse) : s.blockAnswer q blk = s.reqFail q blk 1 := by
  unfold State.blockAnswer
  rw [if_neg (by simp [hq]), ha]

/-- R438. The only request gates its domain, a bed's. -/
theorem gater_bed {s : State} {q : SReq} {b : BedId} (hq : s.sluice.reqs = [q]) (hg : q.gating = true)
    (hd : q.doms.contains (.bed b) = true) : s.gater (.bed b) = some q := by
  rw [State.gater, hq]
  exact List.find?_cons_of_pos (by rw [hg, hd]; rfl)

end Sys2Proof.Machine
end

section
/-! A bed's gate and its supplies (R51, R438–R440). -/

namespace Sys2Proof.Machine

/-! ## The gate -/

theorem heldDrop_reqs (s : State) (d : Dom) : (s.heldDrop d).sluice.reqs = s.sluice.reqs := by
  simp -implicitDefEqProofs [State.heldDrop]

/-- R439. The only request is done with its only domain. -/
theorem reqGated_last {s : State} {q : SReq} {d : Dom} (hq : s.sluice.reqs = [q]) (hd : q.doms = [d]) :
    (s.reqGated q d).sluice.reqs = [] := by
  simp [State.reqGated, hq, hd]

/-- R184. The staging of a bed's capability frames changes nothing else of a port. -/
theorem capStageBed_port (s : State) (b : BedId) (p : PortId) :
    (s.capStageBed b).port p = { s.port p with spring := ((s.capStageBed b).port p).spring } := by
  unfold State.capStageBed
  split
  · have h := port_forAll_modPort (portsOf_nodup b)
      (fun p q => { q with spring := { q.spring with staged := (s.capBuild p).1 } }) s p
    change (forAll (portsOf b) (fun p t => t.modSpring p fun g => { g with staged := (s.capBuild p).1 }) s).port p
      = _ at h
    rw [h]
    split <;> rfl
  · rfl

/-- R184. No other bed's frames are staged. -/
theorem capStageBed_port_other (s : State) {b : BedId} {p : PortId} (hp : bedOf p ≠ b) :
    (s.capStageBed b).port p = s.port p := by
  unfold State.capStageBed
  split
  · exact (port_forAll_modPort (portsOf_nodup b)
      (fun p q => { q with spring := { q.spring with staged := (s.capBuild p).1 } }) s p).trans
      (if_neg (mt mem_portsOf.mp hp))
  · rfl

/-- What a bed's gate leaves of a lane (R441). -/
def Lane.gated (x : Lane) : Lane := { x with locked := false, adapting := true }

/-- The bed's frames staged, its registers saved and its lanes lost (R184, R352, R441). -/
def State.gateLanes (s : State) (b : BedId) : State :=
  forAll (lanesOf b) (fun l t => t.modLane l Lane.gated) ((s.capStageBed b).retainSave (.bed b))

/-- The same with what its ports lose (R51, R351). -/
def State.gatePorts (s : State) (b : BedId) : State :=
  forAll (portsOf b) (fun p t => t.modPort p Port.powerLoss) (s.gateLanes b)

/-- What a bed's gate leaves of its power (R439). -/
def BedPower.gated (w : BedPower) : BedPower :=
  { w with on := false, falling := true, tender := false, lineLock := false, laneLock := [false, false],
           steerNow := 0 }

theorem bedGate_eq (s : State) (b : BedId) :
    s.bedGate b = (s.gatePorts b).modBed b fun d => { d with
      pow := d.pow.gated, calRun := 0, calPass := 0, calPend := 0, calFail := 0, calBlk := s.calForce b,
      bistRes := 0, repairs := 0, fromStart := false, fuseErr := false, fuseRow := 0, fuseData := 0 } := rfl

theorem gatePorts_beds (s : State) (b : BedId) : (s.gatePorts b).beds = s.beds := by
  simp -implicitDefEqProofs [State.gatePorts, State.gateLanes]

/-- R439. The bed's power once its gate has closed. -/
theorem bedGate_pow (s : State) (b : BedId) : ((s.bedGate b).bed b).pow = (s.bed b).pow.gated := by
  rw [bedGate_eq, bed_modBed_self, bed_of_beds (gatePorts_beds s b)]

theorem bedGate_bedsKept (s : State) (b : BedId) : s.bedsKept (s.bedGate b) [b] := by
  intro i hi
  rw [bedGate_eq, bedsKept_modBed _ _ _ i hi, bed_of_beds (gatePorts_beds s b)]

theorem gateLanes_port (s : State) (b : BedId) (p : PortId) :
    (s.gateLanes b).port p = (s.capStageBed b).port p :=
  port_of_ports (by simp -implicitDefEqProofs [State.gateLanes]) p

/-- R51, R351. A port of the bed loses what its status registers held there. -/
theorem bedGate_port (s : State) {b : BedId} {p : PortId} (hp : bedOf p = b) :
    (s.bedGate b).port p = ((s.capStageBed b).port p).powerLoss := by
  rw [bedGate_eq, port_modBed, State.gatePorts, port_forAll_modPort (portsOf_nodup b) fun _ => Port.powerLoss,
    if_pos (mem_portsOf.mpr hp), gateLanes_port]

/-- R51, R351. What a port keeps at its bed's gate: configuration, fingerprint, state and DSHIFT.REMOVED. -/
theorem bedGate_port_kept (s : State) {b : BedId} {p : PortId} (hp : bedOf p = b) :
    ((s.bedGate b).port p).cfg = (s.port p).cfg ∧ ((s.bedGate b).port p).fp = (s.port p).fp ∧
      (s.bedGate b).pst p = s.pst p ∧ ((s.bedGate b).port p).link.removed = (s.port p).link.removed := by
  rw [State.pst, bedGate_port s hp, capStageBed_port]
  exact ⟨rfl, rfl, rfl, rfl⟩

theorem bedGate_port_other (s : State) {b : BedId} {p : PortId} (hp : bedOf p ≠ b) :
    (s.bedGate b).port p = s.port p := by
  rw [bedGate_eq, port_modBed, State.gatePorts, port_forAll_modPort (portsOf_nodup b) fun _ => Port.powerLoss,
    if_neg (mt mem_portsOf.mp hp), gateLanes_port, capStageBed_port_other s hp]

/-- R441. The lanes of the bed lose their lock. -/
theorem bedGate_lane_locked (s : State) {b : BedId} {l : LaneId} (hl : bedOfLane l = b) :
    ((s.bedGate b).lane l).locked = false := by
  have hports : (s.gatePorts b).lanes = (s.gateLanes b).lanes := by
    simp -implicitDefEqProofs [State.gatePorts]
  rw [bedGate_eq, lane_modBed, lane_of_lanes hports, State.gateLanes,
    lane_forAll_modLane (lanesOf_nodup b) fun _ => Lane.gated, if_pos (mem_lanesOf.mpr hl)]
  rfl

/-! ## The supplies -/

/-- A bed that has come on ends the commands that asked for it (R333). -/
def State.bedDone (s : State) (b : BedId) : State :=
  s.finishWhere (fun r => r.op == .powerState && r.arg == 1 && r.doneTick.isNone) (.bed b) .ok

/-- R440. With no change of mode in progress, and no port DORMANT that is all. -/
theorem bedReady_eq {s : State} {b : BedId} (hc : s.hub.changing = false) (hp : ∀ p, s.pst p ≠ .dormant) :
    s.bedReady b = s.bedDone b := by
  have hc' : (s.bedDone b).hub.changing = false := by simpa [State.bedDone] using hc
  have hp' : ∀ p, (s.bedDone b).pst p ≠ .dormant := hp
  unfold State.bedReady
  change ((forAll (portsOf b) (fun p u => State.wakeGoOn p u) (s.bedDone b)).activeDone).calRunGo = _
  rw [wakeGoOn_all hp', State.activeDone, hc', State.calRunGo]
  simp [State.calRunCheck, State.calModeGo, hc']

/-- R440. What the supplies' coming up makes of a bed's power, before its lane PLLs take their families. -/
def BedPower.switchedOn (w : BedPower) (lock : Bool) : BedPower :=
  { w with on := true, rising := false, falling := false, tender := true, lineLock := lock, laneFam := [0, 0],
           laneLock := [false, false], wanted := false }

/-- A bed switched on, its ports' registers at what they have at power-up (R352, R440). -/
def State.bedPowered (s : State) (b : BedId) : State :=
  forAll (portsOf b) (fun p t => t.modCfg p fun c => t.portUp c p) (s.modBed b fun d => { d with
    pow := d.pow.switchedOn (!s.clk.reflost), legacy := false, legacyUse := false })

theorem bedPowered_hub (s : State) (b : BedId) : (s.bedPowered b).hub = s.hub := by
  simp -implicitDefEqProofs [State.bedPowered]

theorem bedPowered_bed (s : State) (b i : BedId) : (s.bedPowered b).bed i = (s.modBed b fun d => { d with
    pow := d.pow.switchedOn (!s.clk.reflost), legacy := false, legacyUse := false }).bed i :=
  bed_of_beds (by simp -implicitDefEqProofs [State.bedPowered]) i

theorem forAll_pst {α : Type} {g : α → State → State} (h : ∀ x t p, (g x t).pst p = t.pst p) (xs : List α)
    (s : State) (p : PortId) : (forAll xs g s).pst p = s.pst p := by
  induction xs generalizing s with
  | nil => rfl
  | cons x xs ih => rw [forAll_cons, ih, h]

/-- R28. A port's registers are not its state. -/
theorem modCfg_pst (s : State) (p : PortId) (f : PortCfg → PortCfg) (i : PortId) :
    (s.modCfg p f).pst i = s.pst i := by
  rw [State.pst, State.modCfg, port_modPort]
  split
  · rename_i h; rw [h]; rfl
  · rfl

theorem bedPowered_pst (s : State) (b : BedId) (p : PortId) : (s.bedPowered b).pst p = s.pst p :=
  forAll_pst (fun x t i => modCfg_pst t x _ i) (portsOf b) _ p

theorem bedUp_eq {s : State} (b : BedId) (h : s.hub.saved = []) : s.bedUp b = (s.bedPowered b).famAssign b := by
  have hs : ((s.bedPowered b).famAssign b).hub.saved = [] := by
    simp [bedPowered_hub, h]
  exact retainRestore_of_noneSaved hs (.bed b)

/-- R259. The assignment of families to the lane PLLs leaves the rest of the power. -/
theorem famAssign_pow (s : State) (b : BedId) : ((s.famAssign b).bed b).pow = { (s.bed b).pow with
    laneFam := ((s.famAssign b).bed b).pow.laneFam, laneLock := ((s.famAssign b).bed b).pow.laneLock } := by
  unfold State.famAssign
  dsimp only
  rw [bed_modBed_self]

theorem famAssign_port (s : State) (b : BedId) (p : PortId) : (s.famAssign b).port p = s.port p :=
  port_modBed s b _ p

theorem famAssign_bedsKept (s : State) (b : BedId) : s.bedsKept (s.famAssign b) [b] :=
  bedsKept_modBed s b _

/-- R440. A bed that comes up outside a start. -/
theorem bedCameUp_eq {s : State} (b : BedId) (hst : s.boot.stage ≠ 7)
    (hs : s.hub.saved = []) (hc : s.hub.changing = false) (hp : ∀ p, s.pst p ≠ .dormant) :
    s.bedCameUp b = ((s.bedPowered b).famAssign b).bedDone b := by
  have hhub : ((s.bedPowered b).famAssign b).hub = s.hub := by simp [bedPowered_hub]
  unfold State.bedCameUp
  dsimp only
  rw [if_neg hst, bedUp_eq b hs, bedReady_eq (by rw [hhub, hc])]
  intro p
  rw [State.pst, famAssign_port]
  exact (bedPowered_pst s b p).trans_ne (hp p)

theorem bedDone_bed (s : State) (b i : BedId) : (s.bedDone b).bed i = s.bed i := rfl

/-- R440. The power of a bed that has come up. -/
theorem bedCameUp_pow {s : State} (b : BedId) (hst : s.boot.stage ≠ 7) (hs : s.hub.saved = [])
    (hc : s.hub.changing = false) (hp : ∀ p, s.pst p ≠ .dormant) :
    ((s.bedCameUp b).bed b).pow.on = true ∧ ((s.bedCameUp b).bed b).pow.rising = false ∧
      ((s.bedCameUp b).bed b).pow.tender = true ∧ ((s.bedCameUp b).bed b).pow.lineLock = !s.clk.reflost := by
  rw [bedCameUp_eq b hst hs hc hp, bedDone_bed, famAssign_pow, bedPowered_bed, bed_modBed_self]
  exact ⟨rfl, rfl, rfl, rfl⟩

/-- R440. What a bed's coming up leaves. -/
theorem bedCameUp_kept {s : State} (b : BedId) (hst : s.boot.stage ≠ 7) (hs : s.hub.saved = [])
    (hc : s.hub.changing = false) (hp : ∀ p, s.pst p ≠ .dormant) :
    s.hubKept (s.bedCameUp b) ∧ (s.bedCameUp b).rings = s.rings ∧ s.bedsKept (s.bedCameUp b) [b] := by
  rw [bedCameUp_eq b hst hs hc hp]
  refine ⟨?_, ?_, fun i hi => ?_⟩
  · simp -implicitDefEqProofs [State.hubKept, State.bedDone, State.bedPowered]
  · simp -implicitDefEqProofs [State.bedDone, State.bedPowered]
  · rw [bedDone_bed, famAssign_bedsKept _ b i hi, bedPowered_bed, bedsKept_modBed s b _ i hi]

/-- A bed's switch is open again, and an event names its supplies (R440). -/
def State.supplyEvent (s : State) (b : BedId) : State :=
  (s.modPow b fun w => { w with rising := false, wanted := false }).raise .powerRefused (.bed b)
    [(16, 1, 0), (17, 1, (supplyBlk (.bed b)).toNat), (18, 1, 2), (20, 2, 0)]

/-- The Sluice's record of a supply that did not come up (R334, R440). -/
def State.supplyNoted (s : State) (b : BedId) : State :=
  { s with sluice := { s.sluice with lastBlock := supplyBlk (.bed b), lastReason := 2 } }

theorem supplyEvent_bed (s : State) (b i : BedId) : (s.supplyEvent b).bed i =
    (s.modPow b fun w => { w with rising := false, wanted := false }).bed i := rfl

theorem finishWhere_of_noCmds {s : State} (h : s.cmds = []) (g : CmdRec → Bool) (e : Elem) (st : ST) :
    s.finishWhere g e st = s := by
  rw [State.finishWhere, h, List.map_nil, ← h]

/-- R440. With no command and no port that waits for the bed, nothing else fails with it. -/
theorem bedFailed_alone {s : State} (b : BedId) (hc : s.hub.changing = false) (hcmd : s.cmds = [])
    (hp : ∀ p, s.pst p ≠ .dormant) : s.bedFailed b = (s.supplyEvent b).supplyNoted b := by
  have hwait (o : Op) (e : Elem) : s.waiter o e = none := by rw [State.waiter, hcmd]; rfl
  have hp' : ∀ p, ((s.supplyEvent b).supplyNoted b).pst p ≠ .dormant := hp
  unfold State.bedFailed
  rw [hwait, hwait]
  have hc' : (s.supplyEvent b).hub.changing = false := hc
  have hcmd' : (s.supplyEvent b).cmds = [] := hcmd
  unfold State.supplyEvent at *
  dsimp only [cidOf]
  generalize (s.modPow b _).raise _ _ _ = x at *
  have hfin (g : CmdRec → Bool) (e : Elem) : (x.supplyNoted b).finishWhere g e .refused = x.supplyNoted b :=
    finishWhere_of_noCmds (s := x.supplyNoted b) hcmd' g e _
  unfold State.supplyNoted at hfin
  simp only [hfin, hc', Bool.false_and, Bool.false_eq_true, if_false]
  exact forAll_eq_self (s := x.supplyNoted b) fun p _ => by simp [hp' p]

end Sys2Proof.Machine
end

section
/-! O48: the statement. -/

namespace Sys2Proof.Machine

/-- Settles O48. The answers, the asks and the ends of a handshake are `forAll` over the requests that a block has,
here the only one; the gate, the supplies and the refusal are the lemmas' above. -/
theorem sluiceHandshake : Obligations.SluiceHandshake := by
  unfold Obligations.SluiceHandshake
  refine ⟨?answer, ?fails, ?reask, ?gate, ?off, ?hubOff, ?good, ?timeout⟩
  case answer =>
    intro s q blk hl hq hask he ha
    refine completes_of_effect hl (Eq.refl (execSluiceBlockAnswer blk s)) (t := s.answered q blk) ?_ rfl rfl
      ⟨rfl, rfl⟩
    exact (forAll_filter_singleton hq hask).trans (blockAnswer_taken hq he ha)
  case fails =>
    intro s q blk i r b hl hq he hk hp hacc hi
    obtain ⟨rfl, hask, ha, rfl⟩ | ⟨rfl, hask, rfl⟩ | ⟨rfl, hdel, rfl⟩ | ⟨rfl, hg, hd, rfl, rfl⟩ := hi
    · refine completes_abandons hl (Eq.refl (execSluiceBlockAnswer blk s)) hq ?_
      exact (forAll_filter_singleton hq hask).trans
        ((blockAnswer_refused hq ha).trans (reqFail_alone blk 1 he hk hp hacc))
    · refine completes_abandons hl (Eq.refl (execSluiceAnswerTimeout blk s)) hq ?_
      exact (forAll_filter_singleton hq hask).trans (reqFail_alone blk 2 he hk hp hacc)
    · refine completes_abandons hl (Eq.refl (execSluiceDelayLimit blk s)) hq ?_
      exact (forAll_filter_singleton hq hdel).trans (reqFail_alone blk 2 he hk hp hacc)
    · refine completes_abandons hl (Eq.refl (execSluiceBusIdleTimeout (.bed b) s)) hq ?_
      rw [gater_bed hq hg hd]
      exact reqFail_alone _ 2 he hk hp hacc
  case reask =>
    intro s q blk hl hq hd
    refine completes_eq hl (Eq.refl (execSluiceReask blk s)) ?_ rfl rfl
    rw [hq, List.map_singleton, if_pos hd]
  case gate =>
    intro s q b hl hq hg hd
    have hheld : ((s.reqGated q (.bed b)).heldDrop (.bed b)).beds = s.beds := by simp [State.reqGated]
    have hports : ((s.reqGated q (.bed b)).heldDrop (.bed b)).ports = s.ports := by simp [State.reqGated]
    refine completes_of_effect hl (Eq.refl (execSluiceBusIdle (.bed b) s))
      (t := ((s.reqGated q (.bed b)).heldDrop (.bed b)).bedGate b) ?_ (by simp) (by simp) ⟨?_, ?_, ?_, ?_, ?_, ?_, ?_⟩
    · rw [gater_bed hq hg (by rw [hd]; simp)]
    · rw [bedGate_pow, bed_of_beds hheld]; rfl
    · simp [heldDrop_reqs, reqGated_last hq hd]
    · intro i hi; rw [bedGate_bedsKept _ b i hi, bed_of_beds hheld]
    · simp [State.reqGated]
    · intro p hp
      obtain ⟨hcfg, hfp, hpst, hrem⟩ := bedGate_port_kept ((s.reqGated q (.bed b)).heldDrop (.bed b)) hp
      rw [hcfg, hfp, hpst, hrem, bedGate_port _ hp, State.pst, port_of_ports hports]
      exact ⟨rfl, rfl, rfl, rfl, rfl, rfl, rfl, rfl, rfl⟩
    · intro p hp
      rw [bedGate_port_other _ hp, port_of_ports hports]
    · exact fun l hl => bedGate_lane_locked _ hl
  case off =>
    intro s b hl hf hw
    refine completes_of_effect (t := s.modPow b fun w => { w with falling := false, wanted := false }) hl
      (Eq.refl (execDomainOffComplete (.bed b) s)) ?_ rfl rfl ⟨?_, bedsKept_modBed s b _, rfl⟩
    · simp [hf, hw]
    · rw [State.modPow, bed_modBed_self, ← hw]
  case hubOff =>
    intro s hl hf
    exact completes_eq hl (Eq.refl (execDomainOffComplete .hub s)) (if_pos hf) rfl rfl
  case good =>
    intro s b hl hr hst hs hc hp
    obtain ⟨hon, hrise, htend, hlock⟩ := bedCameUp_pow b hst hs hc hp
    obtain ⟨hhub, hrings, hbeds⟩ := bedCameUp_kept b hst hs hc hp
    exact completes_of_effect hl (Eq.refl (execDomainSupplyGood (.bed b) s)) (if_pos hr) (by simp) (by simp)
      ⟨hon, hrise, htend, hlock, hhub, hrings, hbeds⟩
  case timeout =>
    intro s b hl hr hc hcmd hp
    refine completes_of_effect hl (Eq.refl (execDomainSupplyTimeout (.bed b) s))
      ((if_pos hr).trans (bedFailed_alone b hc hcmd hp)) rfl rfl
      ⟨?_, fun i hi => ?_, rfl, hasDue_raise _ _ _ (by decide) (by simp), rfl⟩
    · exact (congrArg Bed.pow (supplyEvent_bed s b b)).trans (congrArg Bed.pow (bed_modBed_self s b _))
    · exact (supplyEvent_bed s b i).trans (bedsKept_modBed s b _ i hi)

end Sys2Proof.Machine
end

section
/-! What a port's Spring transmitter changes when frames fall due and start (R198, R211, R212). -/

namespace Sys2Proof.Machine

/-! ## The transmitter's own fields -/

/-- A port after its Spring transmitter has worked: its frames due and in transmission, what it stages and numbers
them with, its counters, and LAST_REJECT, which the staging of a capability frame evaluates (R216, R251). -/
def Port.transmits (q r : Port) : Prop :=
  r = { q with
    lastReject := r.lastReject, cnt := r.cnt,
    spring := { q.spring with
      staged := r.spring.staged, due := r.spring.due, cur := r.spring.cur, curHdr := r.spring.curHdr,
      body := r.spring.body, curAt := r.spring.curAt, cut := r.spring.cut, ackDue := r.spring.ackDue,
      sel := r.spring.sel, txSeq := r.spring.txSeq, out := r.spring.out, selCount := r.spring.selCount } }

theorem Port.transmits.trans {q r u : Port} (h : q.transmits r) (h' : r.transmits u) : q.transmits u :=
  Eq.trans h' (by rw [h])

/-- A state after port p's Spring transmitter has worked: no other port and no event. -/
def State.transmits (s t : State) (p : PortId) : Prop :=
  (s.port p).transmits (t.port p) ∧ s.portsKept t [p] ∧ t.due = s.due

theorem portsKept_trans {s t u : State} {ps : List PortId} (h : s.portsKept t ps) (h' : t.portsKept u ps) :
    s.portsKept u ps := fun i hi => (h' i hi).trans (h i hi)

theorem State.transmits.trans {s t u : State} {p : PortId} (h : s.transmits t p) (h' : t.transmits u p) :
    s.transmits u p :=
  ⟨h.1.trans h'.1, portsKept_trans h.2.1 h'.2.1, h'.2.2.trans h.2.2⟩

theorem transmits_refl (s : State) (p : PortId) : s.transmits s p := ⟨rfl, fun _ _ => rfl, rfl⟩

theorem transmits_modPort {s : State} {p : PortId} {f : Port → Port} (h : (s.port p).transmits (f (s.port p))) :
    s.transmits (s.modPort p f) p :=
  ⟨by rw [port_modPort_self]; exact h, portsKept_modPort s p f, rfl⟩

/-! ## A frame starts -/

theorem capBuild_transmits (s : State) (p : PortId) : s.transmits (s.capBuild p).2 p := by
  unfold State.capBuild
  dsimp only
  split
  · exact transmits_refl s p
  · exact transmits_modPort rfl

theorem capStage_transmits (s : State) (p : PortId) : s.transmits (s.capStage p) p := by
  unfold State.capStage
  split
  · exact (capBuild_transmits s p).trans (transmits_modPort rfl)
  · exact transmits_refl s p

theorem count_transmits (s : State) (p : PortId) (i n : Nat) : s.transmits (s.count p i n) p :=
  transmits_modPort rfl

theorem springStart_transmits (s : State) (p : PortId) (f : TxFrame) : s.transmits (s.springStart p f) p := by
  unfold State.springStart
  dsimp only
  generalize hs : (if f.typ = .cap then s.capStage p else s) = u
  have hu : s.transmits u p := by
    rw [← hs]; split
    · exact capStage_transmits s p
    · exact transmits_refl s p
  split
  · refine hu.trans (State.transmits.trans (transmits_modPort ?_)
      ((count_transmits _ p _ _).trans (count_transmits _ p _ _)))
    rfl
  · refine hu.trans (State.transmits.trans (transmits_modPort ?_) (count_transmits _ p _ _))
    rfl

theorem springCut_transmits (s : State) (p : PortId) : s.transmits (s.springCut p) p := by
  unfold State.springCut
  dsimp only
  split
  · exact transmits_refl s p
  · refine State.transmits.trans (transmits_modPort ?_) (count_transmits _ p _ _)
    rfl

theorem springKick_transmits (s : State) (p : PortId) : s.transmits (s.springKick p) p := by
  unfold State.springKick
  split
  · exact transmits_refl s p
  · split
    · exact springStart_transmits s p _
    · split
      · exact springCut_transmits s p
      · exact transmits_refl s p

/-- The state in which a frame has fallen due and has not started. -/
def State.fallsDue (s : State) (p : PortId) (f : TxFrame) : State :=
  s.modSpring p fun g =>
    if !f.typ.sequenced && g.due.any (fun x => x.typ == f.typ) then
      { g with due := g.due.map fun x => if x.typ == f.typ then f else x }
    else { g with due := g.due ++ [f] }

theorem springDue_eq (s : State) (p : PortId) (f : TxFrame) : s.springDue p f = (s.fallsDue p f).springKick p := rfl

theorem fallsDue_transmits (s : State) (p : PortId) (f : TxFrame) : s.transmits (s.fallsDue p f) p := by
  refine transmits_modPort ?_
  dsimp only
  split <;> rfl

theorem springDue_transmits (s : State) (p : PortId) (f : TxFrame) : s.transmits (s.springDue p f) p :=
  (fallsDue_transmits s p f).trans (springKick_transmits _ p)

/-! ## What stays due -/

theorem minRank_mem {fs : List TxFrame} {f : TxFrame} (h : minRank fs = some f) : f ∈ fs := by
  induction fs generalizing f with
  | nil => simp [minRank] at h
  | cons x xs ih =>
    unfold minRank at h
    cases hm : minRank xs with
    | none => simp_all
    | some y =>
      rw [hm] at h
      dsimp only at h
      split at h <;> cases h
      · exact List.mem_cons_self
      · exact List.mem_cons_of_mem _ (ih hm)

theorem seqNext_mem {q : Port} {f : TxFrame} (h : seqNext q = some f) : f ∈ q.spring.due := by
  unfold seqNext at h
  dsimp only at h
  split at h
  · rename_i g hg
    split at h <;> cases h
    exact List.mem_of_mem_filter (List.mem_of_find?_eq_some hg)
  · split at h
    · cases h
    · exact List.mem_of_mem_filter (List.mem_of_mem_filter (minRank_mem h))

/-- R206, R211. What starts next is due, or is the fill of the acknowledgement. -/
theorem springNext_mem {s : State} {p : PortId} {f : TxFrame} (h : s.springNext p = some f)
    (hk : f.typ ≠ .keepalive) : f ∈ (s.port p).spring.due := by
  unfold State.springNext at h
  dsimp only at h
  split at h
  · cases h
  · split at h
    · cases h
    · cases h
    · exact List.mem_of_find?_eq_some h
    · split at h
      · cases h
        rename_i hm
        exact List.mem_of_mem_filter (minRank_mem hm)
      · split at h
        · cases h
          rename_i hm
          exact seqNext_mem hm
        · split at h <;> cases h
          exact absurd rfl hk

/-- R184. The staging of a capability frame leaves the rest of the channel. -/
theorem capStage_spring (s : State) (p : PortId) :
    ((s.capStage p).port p).spring =
      { (s.port p).spring with staged := ((s.capStage p).port p).spring.staged } := by
  have hb : ((s.capBuild p).2.port p).spring = (s.port p).spring := by
    unfold State.capBuild
    dsimp only
    split
    · rfl
    · rw [State.fpEval, port_modPort_self]
  unfold State.capStage
  split
  · dsimp only
    rw [State.modSpring, port_modPort_self, hb]
  · rfl

/-- The state in which a frame starts, a capability frame staged (R184). -/
def State.startsFrom (s : State) (p : PortId) (f : TxFrame) : State := if f.typ = .cap then s.capStage p else s

theorem startsFrom_spring (s : State) (p : PortId) (f : TxFrame) :
    ((s.startsFrom p f).port p).spring =
      { (s.port p).spring with staged := ((s.startsFrom p f).port p).spring.staged } := by
  unfold State.startsFrom
  split
  · exact capStage_spring s p
  · rfl

theorem count_spring (s : State) (p : PortId) (i n : Nat) : ((s.count p i n).port p).spring = (s.port p).spring := by
  rw [State.count, port_modPort_self]

/-- What a started frame leaves due, in transmission and, a SELECT, as the selection (R198, R211, R217). -/
theorem springStart_spring (s : State) (p : PortId) (f : TxFrame) :
    ((s.springStart p f).port p).spring.due =
        (if f.typ = .keepalive then (s.port p).spring.due.filter (fun x => x.typ != .keepalive)
          else (s.port p).spring.due.erase f) ∧
      ((s.springStart p f).port p).spring.cur.map (·.typ) = some f.typ ∧
      (f.typ = .select → ((s.springStart p f).port p).spring.cur.map (·.payload) =
        some (selectNow (s.port p) f.payload)) ∧
      ((s.springStart p f).port p).spring.sel =
        (if f.typ = .select then some (selectNow (s.port p) f.payload) else (s.port p).spring.sel) := by
  have hg := startsFrom_spring s p f
  have hcount (t : State) : ((if f.again then t.count p 0x36 1 else t).port p).spring = (t.port p).spring := by
    split
    · exact count_spring t p _ _
    · rfl
  unfold State.springStart
  dsimp only
  rw [show (if f.typ = .cap then s.capStage p else s) = s.startsFrom p f from rfl, hcount, count_spring,
    State.modSpring, port_modPort_self]
  dsimp only
  refine ⟨by rw [hg], rfl, fun hf => ?_, ?_⟩
  · simp [hf, State.startsFrom]
  · rw [hg]
    split
    · rename_i hf
      simp [hf, State.startsFrom]
    · rfl

theorem springCut_spring (s : State) (p : PortId) :
    ((s.springCut p).port p).spring.due = (s.port p).spring.due ∧
      ((s.springCut p).port p).spring.cur = (s.port p).spring.cur ∧
      ((s.springCut p).port p).spring.sel = (s.port p).spring.sel := by
  unfold State.springCut
  dsimp only
  split
  · exact ⟨rfl, rfl, rfl⟩
  · rw [count_spring, State.modSpring, port_modPort_self]
    exact ⟨rfl, rfl, rfl⟩

/-- R211. What is due starts where the transmitter is free, or pre-empts what is sent, or waits. -/
theorem springKick_cases (s : State) (p : PortId) :
    s.springKick p = s ∨ s.springKick p = s.springCut p ∨
      ∃ f, s.springNext p = some f ∧ (s.port p).spring.cur = none ∧ s.springKick p = s.springStart p f := by
  unfold State.springKick
  split
  · exact .inl rfl
  · rename_i f hf
    split
    · rename_i hc
      exact .inr (.inr ⟨f, hf, hc, rfl⟩)
    · split
      · exact .inr (.inl rfl)
      · exact .inl rfl

/-- A frame that is due and does not start stays due. -/
theorem springStart_due_mem {s : State} {p : PortId} {f x : TxFrame} (hx : x ∈ (s.port p).spring.due)
    (hne : x.typ ≠ f.typ) : x ∈ ((s.springStart p f).port p).spring.due := by
  rw [(springStart_spring s p f).1]
  split
  · rename_i hf
    rw [hf] at hne
    simp [hx, hne]
  · exact (List.mem_erase_of_ne fun h => hne (congrArg TxFrame.typ h)).mpr hx

/-- No frame falls due by a start. -/
theorem springStart_due_subset {s : State} {p : PortId} {f x : TxFrame}
    (hx : x ∈ ((s.springStart p f).port p).spring.due) : x ∈ (s.port p).spring.due := by
  rw [(springStart_spring s p f).1] at hx
  split at hx
  · exact List.mem_of_mem_filter hx
  · exact List.mem_of_mem_erase hx

/-! ## What is sent stays sent -/

theorem sendsType_iff {s : State} {p : PortId} {ty : FType} : s.sendsType p ty = true ↔
    ∃ f, (f ∈ (s.port p).spring.due ∨ (s.port p).spring.cur = some f) ∧ f.typ = ty := by
  simp [State.sendsType, Option.mem_toList, or_and_right, exists_or]

theorem sends_iff {s : State} {p : PortId} {ty : FType} {pay : Bytes} : s.sends p ty pay = true ↔
    ∃ f, (f ∈ (s.port p).spring.due ∨ (s.port p).spring.cur = some f) ∧ f.typ = ty ∧ f.payload = pay := by
  simp [State.sends, Option.mem_toList, or_and_right, exists_or]

theorem springStart_sendsType (s : State) (p : PortId) (f : TxFrame) :
    (s.springStart p f).sendsType p f.typ = true := by
  obtain ⟨-, hcur, -, -⟩ := springStart_spring s p f
  obtain ⟨c, hc, htyp⟩ := Option.map_eq_some_iff.mp hcur
  exact sendsType_iff.mpr ⟨c, .inr hc, htyp⟩

/-- R211. A frame of a type that is due or in transmission still is after the transmitter has worked. -/
theorem springKick_sendsType {s : State} {p : PortId} {ty : FType} (h : s.sendsType p ty = true) :
    (s.springKick p).sendsType p ty = true := by
  obtain heq | heq | ⟨f, -, hcur, heq⟩ := springKick_cases s p <;> rw [heq]
  · exact h
  · obtain ⟨hdue, hcur, -⟩ := springCut_spring s p
    rw [sendsType_iff, hdue, hcur]
    exact sendsType_iff.mp h
  · by_cases hty : f.typ = ty
    · rw [← hty]
      exact springStart_sendsType s p f
    · obtain ⟨x, hx | hx, hxt⟩ := sendsType_iff.mp h
      · exact sendsType_iff.mpr ⟨x, .inl (springStart_due_mem hx fun he => hty (he ▸ hxt)), hxt⟩
      · rw [hcur] at hx; cases hx

theorem fallsDue_mem (s : State) (p : PortId) (f : TxFrame) : f ∈ ((s.fallsDue p f).port p).spring.due := by
  rw [State.fallsDue, State.modSpring, port_modPort_self]
  dsimp only
  split
  · rename_i h
    obtain ⟨-, hany⟩ := Bool.and_eq_true_iff.mp h
    obtain ⟨x, hx, hxt⟩ := List.any_eq_true.mp hany
    exact List.mem_map.mpr ⟨x, hx, if_pos hxt⟩
  · exact List.mem_append_right _ (List.mem_singleton.mpr rfl)

/-- R211. A frame that falls due is due or in transmission. -/
theorem springDue_sendsType (s : State) (p : PortId) (f : TxFrame) : (s.springDue p f).sendsType p f.typ = true :=
  springKick_sendsType (sendsType_iff.mpr ⟨f, .inl (fallsDue_mem s p f), rfl⟩)

/-- A Repeated frame that falls due is the only one of its type that is due. -/
theorem fallsDue_unique {s : State} {p : PortId} {f x : TxFrame} (hf : f.typ.sequenced = false)
    (hx : x ∈ ((s.fallsDue p f).port p).spring.due) (ht : x.typ = f.typ) : x = f := by
  rw [State.fallsDue, State.modSpring, port_modPort_self] at hx
  dsimp only at hx
  split at hx
  · obtain ⟨y, -, rfl⟩ := List.mem_map.mp hx
    split
    · rfl
    · rename_i hy
      rw [if_neg hy] at ht
      exact absurd (beq_iff_eq.mpr ht) hy
  · rename_i hany
    obtain hx | hx := List.mem_append.mp hx
    · rw [hf, Bool.not_false, Bool.true_and] at hany
      exact (hany (List.any_eq_true.mpr ⟨x, hx, beq_iff_eq.mpr ht⟩)).elim
    · exact List.mem_singleton.mp hx

/-! ## A SELECT -/

theorem springStart_sends_select (s : State) (p : PortId) {f : TxFrame} {pay : Bytes} (hf : f.typ = .select)
    (hpay : selectNow (s.port p) f.payload = pay) : (s.springStart p f).sends p .select pay = true := by
  obtain ⟨-, htyp, hpl, -⟩ := springStart_spring s p f
  obtain ⟨c, hc, hct⟩ := Option.map_eq_some_iff.mp htyp
  have hcp := hpl hf
  rw [hc, hpay, Option.map_some, Option.some.injEq] at hcp
  exact sends_iff.mpr ⟨c, .inr hc, hct.trans hf, hcp⟩

/-- R217, R218. Every SELECT that is due in LISTENING has one payload: a start of it leaves that as the selection. -/
theorem springKick_select {s : State} {p : PortId} {pay : Bytes} (hst : (s.port p).link.state = .listening)
    (hd : ∀ x ∈ (s.port p).spring.due, x.typ = .select → x.payload = pay) :
    (∀ x ∈ ((s.springKick p).port p).spring.due, x.typ = .select → x.payload = pay) ∧
      ((s.port p).spring.sel = some pay → ((s.springKick p).port p).spring.sel = some pay) ∧
      (s.sends p .select pay = true → (s.springKick p).sends p .select pay = true) := by
  obtain heq | heq | ⟨f, hnext, hcur, heq⟩ := springKick_cases s p <;> rw [heq]
  · exact ⟨hd, id, id⟩
  · obtain ⟨hdue, hcur, hsel⟩ := springCut_spring s p
    rw [sends_iff, sends_iff, hdue, hcur, hsel]
    exact ⟨hd, id, id⟩
  · obtain ⟨-, -, hpay, hsel⟩ := springStart_spring s p f
    have hnow (hf : f.typ = .select) : selectNow (s.port p) f.payload = pay := by
      rw [selectNow, if_pos hst]
      exact hd f (springNext_mem hnext (by rw [hf]; decide)) hf
    refine ⟨fun x hx => hd x (springStart_due_subset hx), fun h => ?_, fun h => ?_⟩
    · rw [hsel]
      split
      · rename_i hf; rw [hnow hf]
      · exact h
    · by_cases hf : f.typ = .select
      · exact springStart_sends_select s p hf (hnow hf)
      · obtain ⟨x, hx | hx, hxt, hxp⟩ := sends_iff.mp h
        · exact sends_iff.mpr ⟨x, .inl (springStart_due_mem hx fun he => hf (he ▸ hxt)), hxt, hxp⟩
        · rw [hcur] at hx; cases hx

end Sys2Proof.Machine
end

section
/-! O51: a frame accepted, the capability frame and SELECT (R42–R44, R204, R206, R207, R217, R218). -/

namespace Sys2Proof.Machine

/-! ## What a step of one port's channel leaves -/

/-- A step of port p: the other ports and beds, the hub, the rings and host memory are as before. -/
def State.portStep (s t : State) (p : PortId) : Prop :=
  s.portsKept t [p] ∧ s.bedsKept t [bedOf p] ∧ s.mostKept t

theorem mostKept_trans {s t u : State} (h : s.mostKept t) (h' : t.mostKept u) : s.mostKept u := by
  simp_all [State.mostKept, State.hubKept]

theorem State.portStep.trans {s t u : State} {p : PortId} (h : s.portStep t p) (h' : t.portStep u p) :
    s.portStep u p :=
  ⟨portsKept_trans h.1 h'.1, fun b hb => (h'.2.1 b hb).trans (h.2.1 b hb), mostKept_trans h.2.2 h'.2.2⟩

theorem mostKept_refl (s : State) : s.mostKept s := by simp [State.mostKept, State.hubKept]

theorem portStep_modPort (s : State) (p : PortId) (f : Port → Port) : s.portStep (s.modPort p f) p :=
  ⟨portsKept_modPort s p f, fun _ _ => rfl, mostKept_refl s⟩

theorem portStep_modBed (s : State) (p : PortId) (f : Bed → Bed) : s.portStep (s.modBed (bedOf p) f) p :=
  ⟨fun _ _ => rfl, bedsKept_modBed s _ f, mostKept_refl s⟩

theorem portStep_raise (s : State) (p : PortId) (c : Ev) (e : Elem) (fs : List (Nat × Nat × Nat)) :
    s.portStep (s.raise c e fs) p :=
  ⟨fun _ _ => rfl, fun _ _ => rfl, mostKept_refl s⟩

theorem portStep_springKick (s : State) (p : PortId) : s.portStep (s.springKick p) p :=
  ⟨(springKick_transmits s p).2.1, fun b _ => bed_of_beds (t := s.springKick p) (by simp) b,
    by simp [State.mostKept, State.hubKept]⟩

theorem portStep_springDue (s : State) (p : PortId) (f : TxFrame) : s.portStep (s.springDue p f) p :=
  (portStep_modPort s p _).trans (portStep_springKick (s.fallsDue p f) p)

theorem springDue_sidesKept (s : State) (p : PortId) (f : TxFrame) : s.sidesKept (s.springDue p f) := by
  simp [State.sidesKept, State.hubKept]

/-! ## A frame accepted -/

/-- R204, R210. What accepting the frame in reception does to its port: SPRINGSTAT, the counter of frames, and
where the partner was first heard. -/
theorem rxTake_port (s : State) (p : PortId) : (s.rxTake p).port p = { s.port p with
    cnt := ((s.rxTake p).port p).cnt,
    link := { (s.port p).link with heardAt := ((s.rxTake p).port p).link.heardAt },
    spring := { (s.port p).spring with
      rxBusy := false, rxHdr := none, rssi := ((s.rxTake p).port p).spring.rssi,
      foff := ((s.rxTake p).port p).spring.foff, good := ((s.rxTake p).port p).spring.good } } := by
  unfold State.rxTake
  dsimp only
  rw [State.countBed, port_modBed, State.count, port_modPort_self, port_modPort_self]

theorem rxTake_kept (s : State) (p : PortId) :
    ((s.rxTake p).port p).link.state = (s.port p).link.state ∧
      ((s.rxTake p).port p).link.held = (s.port p).link.held ∧
      ((s.rxTake p).port p).spring.sstate = (s.port p).spring.sstate ∧
      ((s.rxTake p).port p).spring.srole = (s.port p).spring.srole := by
  rw [rxTake_port]
  exact ⟨rfl, rfl, rfl, rfl⟩

theorem portStep_rxTake (s : State) (p : PortId) : s.portStep (s.rxTake p) p :=
  ((portStep_modPort s p _).trans (portStep_modPort _ p _)).trans (portStep_modBed _ p _)

theorem receives_live {s : State} {p : PortId} {ty : FType} {pay : Bytes} (h : s.receives p ty pay = true) :
    s.live = true := by
  simp only [State.receives, Bool.and_eq_true] at h
  tauto

/-- R204, R212. A frame that is not sequenced acts, and what is then due starts. -/
theorem rxFrame_received {s : State} {p : PortId} {ty : FType} {pay : Bytes} (f : State → State)
    (h : s.receives p ty pay = true) (hu : ty ≠ .user) :
    s.rxFrame p ty pay f = (f (s.rxTake p)).springKick p := by
  unfold State.receives at h
  unfold State.rxFrame
  dsimp only
  cases hh : (s.port p).spring.rxHdr with
  | none => simp [hh] at h
  | some hdr =>
    simp only [hh, Bool.and_eq_true, decide_eq_true_eq, beq_iff_eq, Bool.or_eq_true, Bool.not_eq_true'] at h
    obtain ⟨⟨⟨-, hrun⟩, hlen⟩, ⟨hty, hpl⟩, hseq⟩ := h
    have hform : ¬ (!s.springRuns p || fld hdr 0 4 != ty.code ||
        (minLen ty != 0 && fld hdr 5 9 != pay.length)) = true := by
      obtain h0 | hl := hpl
      · simp [hrun, hty, h0]
      · simp [hrun, hty, hl]
    dsimp only
    rw [if_neg hform, if_neg (by omega), hseq]
    simp [hu]

/-! ## A capability frame in LISTENING -/

/-- R44. What is abandoned is Clause 28. -/
theorem c28Abandon_port (s : State) (p : PortId) (id : BitVec 64) :
    (s.c28Abandon p id).port p = { s.port p with link := { (s.port p).link with
      c28 := ((s.c28Abandon p id).port p).link.c28,
      c28Held := ((s.c28Abandon p id).port p).link.c28Held } } := by
  unfold State.c28Abandon
  dsimp only
  split
  · rw [State.modLink, port_modPort_self]
  · rfl

theorem portStep_c28Abandon (s : State) (p : PortId) (id : BitVec 64) : s.portStep (s.c28Abandon p id) p := by
  unfold State.c28Abandon
  dsimp only
  split
  · exact portStep_modPort s p _
  · exact ⟨fun _ _ => rfl, fun _ _ => rfl, mostKept_refl s⟩

/-- R206, R207. A channel that has taken its partner's capability frame: a listener is the tail. -/
def Spring.hearsCap (g : Spring) (cap : Bytes) : Spring :=
  { g with
    pcap := some cap, capId := BitVec.ofNat 64 (leAt cap 8 8), interval := none, waitTail := false, capRep := false,
    srole := if g.srole == Role.none then .tail else g.srole }

/-- R44. The port that has taken it: a running Clause 28 is abandoned. -/
def State.hearsCap (s : State) (p : PortId) (cap : Bytes) : State :=
  (s.c28Abandon p (BitVec.ofNat 64 (leAt cap 8 8))).modSpring p fun g => g.hearsCap cap

theorem hearsCap_spring (s : State) (p : PortId) (cap : Bytes) :
    ((s.hearsCap p cap).port p).spring = (s.port p).spring.hearsCap cap := by
  rw [State.hearsCap, State.modSpring, port_modPort_self, c28Abandon_port]

theorem hearsCap_link (s : State) (p : PortId) (cap : Bytes) :
    ((s.hearsCap p cap).port p).link.state = (s.port p).link.state ∧
      ((s.hearsCap p cap).port p).link.held = (s.port p).link.held := by
  rw [State.hearsCap, State.modSpring, port_modPort_self, c28Abandon_port]
  exact ⟨rfl, rfl⟩

theorem portStep_hearsCap (s : State) (p : PortId) (cap : Bytes) : s.portStep (s.hearsCap p cap) p :=
  (portStep_c28Abandon s p _).trans (portStep_modPort _ p _)

/-- R44, R206, R218. A capability frame outside a session, in LISTENING: a head partners and selects, a tail joins. -/
theorem capTake_listening {s : State} {p : PortId} (cap : Bytes) (hst : (s.port p).link.state = .listening)
    (hss : (s.port p).spring.sstate ≠ .partnered) :
    s.capTake p cap =
      if ((s.hearsCap p cap).port p).spring.srole = .head then
        (((s.hearsCap p cap).springUndue p .cap).springPartner p).springSelect p
      else ((s.hearsCap p cap).modSpring p fun g => { g with sstate := .joining }).springDue p { typ := .cap } := by
  have hundo (id : BitVec 64) : s.c28Undo p id = s := by
    simp [State.c28Undo, State.c28Just, hst]
  have hrest : s.springRestart p = s := by
    simp [State.springRestart, hss]
  unfold State.capTake
  dsimp only
  rw [hundo, if_neg (by simp [hst]), hrest]
  rfl

/-- R217. The SELECT of an end that holds the line, or that is not LISTENING: KEEP, to the partner's PHY_ID. -/
def keepPayload (cap : Bytes) : Bytes := [15, 0] ++ slice cap 8 8

/-- R393, R217. A head that is held off the line selects KEEP. -/
theorem springSelect_held {s : State} {p : PortId} {cap : Bytes} (hh : (s.port p).link.held = true)
    (hc : (s.port p).spring.pcap = some cap) :
    s.springSelect p = (s.modSpring p fun g => { g with sel := some (keepPayload cap) }).springDue p
      { typ := .select, payload := keepPayload cap } := by
  unfold State.springSelect
  dsimp only
  rw [if_pos (by simp [hh]), hc]
  rfl

theorem hasDue_of_due {s t : State} (h : t.due = s.due) (c : Ev) (e : Elem) (b : Nat) :
    t.hasDue c e b = s.hasDue c e b := by
  rw [State.hasDue, h]
  rfl

/-- R207. The channel at entry to PARTNERED. -/
def Spring.enters (g : Spring) : Spring :=
  { g with
    sstate := .partnered, sess := g.sess + 1, txSeq := 0, rxSeq := 0, ackValid := false, ackSeq := 0, out := [],
    expiries := 0, unknown := false, due := [], interval := none, waitTail := false, capRep := false,
    hsDone := false, selCount := 0 }

theorem springPartner_port (s : State) (p : PortId) :
    (s.springPartner p).port p = { s.port p with spring := (s.port p).spring.enters } :=
  port_modPort_self s p fun q => { q with spring := q.spring.enters }

/-- R227. The entry says so by EV_SPRING_RX of cause 1. -/
theorem springPartner_hasDue (s : State) (p : PortId) : (s.springPartner p).hasDue .springRx (.port p) 1 = true :=
  hasDue_raise _ _ _ (by decide) (by simp)

theorem portStep_springPartner (s : State) (p : PortId) : s.portStep (s.springPartner p) p :=
  (portStep_modPort s p _).trans (portStep_raise _ p _ _ _)

/-- R43, R44, R217, R218. The held head, PARTNERED, whose selection is KEEP. -/
def State.selectsKeep (s : State) (p : PortId) (cap : Bytes) : State :=
  (((s.hearsCap p cap).springUndue p .cap).springPartner p).modSpring p fun g =>
    { g with sel := some (keepPayload cap) }

theorem selectsKeep_port (s : State) (p : PortId) (cap : Bytes) :
    ((s.selectsKeep p cap).port p).link.state = (s.port p).link.state ∧
      ((s.selectsKeep p cap).port p).spring.sstate = .partnered ∧
      ((s.selectsKeep p cap).port p).spring.pcap = some cap ∧
      ((s.selectsKeep p cap).port p).spring.sel = some (keepPayload cap) ∧
      ((s.selectsKeep p cap).port p).spring.due = [] := by
  rw [State.selectsKeep, State.modSpring, port_modPort_self, springPartner_port, State.springUndue, State.modSpring,
    port_modPort_self, hearsCap_spring, ← (hearsCap_link s p cap).1]
  exact ⟨rfl, rfl, rfl, rfl, rfl⟩

theorem selectsKeep_hasDue (s : State) (p : PortId) (cap : Bytes) :
    (s.selectsKeep p cap).hasDue .springRx (.port p) 1 = true := by
  rw [State.selectsKeep, State.modSpring, hasDue_of_due (modPort_due _ p _)]
  exact springPartner_hasDue _ p

theorem portStep_selectsKeep (s : State) (p : PortId) (cap : Bytes) : s.portStep (s.selectsKeep p cap) p :=
  (((portStep_hearsCap s p cap).trans (portStep_modPort _ p _)).trans (portStep_springPartner _ p)).trans
    (portStep_modPort _ p _)

theorem capTake_heldHead {s : State} {p : PortId} (cap : Bytes) (hst : (s.port p).link.state = .listening)
    (hss : (s.port p).spring.sstate = .joining) (hr : (s.port p).spring.srole = .head)
    (hh : (s.port p).link.held = true) :
    s.capTake p cap = (s.selectsKeep p cap).springDue p { typ := .select, payload := keepPayload cap } := by
  have hrole : ((s.hearsCap p cap).port p).spring.srole = .head := by
    rw [hearsCap_spring]; simp [Spring.hearsCap, hr]
  rw [capTake_listening cap hst (by rw [hss]; decide), if_pos hrole]
  refine springSelect_held ?_ ?_
  · rw [springPartner_port, State.springUndue, State.modSpring, port_modPort_self]
    exact (hearsCap_link s p cap).2.trans hh
  · rw [springPartner_port, State.springUndue, State.modSpring, port_modPort_self, hearsCap_spring]
    rfl

/-- R206. The tail that joins on its partner's capability frame. -/
def State.joinsAsTail (s : State) (p : PortId) (cap : Bytes) : State :=
  (s.hearsCap p cap).modSpring p fun g => { g with sstate := .joining }

theorem capTake_listener {s : State} {p : PortId} (cap : Bytes) (hst : (s.port p).link.state = .listening)
    (hss : (s.port p).spring.sstate = .listen) (hr : (s.port p).spring.srole = .none) :
    s.capTake p cap = (s.joinsAsTail p cap).springDue p { typ := .cap } := by
  have hrole : ((s.hearsCap p cap).port p).spring.srole = .tail := by
    rw [hearsCap_spring]; simp [Spring.hearsCap, hr]
  rw [capTake_listening cap hst (by rw [hss]; decide), if_neg (by rw [hrole]; decide)]
  rfl

theorem joinsAsTail_spring {s : State} {p : PortId} (cap : Bytes) (hr : (s.port p).spring.srole = .none) :
    ((s.joinsAsTail p cap).port p).spring.sstate = .joining ∧
      ((s.joinsAsTail p cap).port p).spring.srole = .tail ∧
      ((s.joinsAsTail p cap).port p).spring.pcap = some cap := by
  rw [State.joinsAsTail, State.modSpring, port_modPort_self, hearsCap_spring]
  exact ⟨rfl, by simp [Spring.hearsCap, hr], rfl⟩

theorem portStep_joinsAsTail (s : State) (p : PortId) (cap : Bytes) : s.portStep (s.joinsAsTail p cap) p :=
  (portStep_hearsCap s p cap).trans (portStep_modPort _ p _)

/-! ## A SELECT that starts a training -/

/-- R261. The host side's mode changes lanes, and of the ports one's host side. -/
theorem hostSet_port (s : State) (p : PortId) (m : HostMode) (e : Egress) :
    (∃ h l, (s.hostSet p m e).port p = { s.port p with host := h, still := l }) ∧
      s.portsKept (s.hostSet p m e) [p] := by
  have hidle (ls : List LaneId) (c : Prop) [Decidable c] (u : State) (i : PortId) :
      (if c then u else u.lanesIdle ls).port i = u.port i := by
    split
    · rfl
    · exact port_of_ports (by simp) i
  have hlanes : (if m = 0 then s else forAll (portLanes p (s.port p).cfg m) (fun l t => t.modLane l fun d =>
      { d with pll := s.pllFor (bedOf p) m }) s).ports = s.ports := by
    split
    · rfl
    · simp -implicitDefEqProofs
  unfold State.hostSet
  dsimp only
  generalize (if m = 0 then s else forAll _ _ s) = u at *
  refine ⟨?_, fun i hi => ?_⟩
  · rw [hidle]
    split
    · rw [State.modStill, port_modPort_self, State.modHost, port_modPort_self, port_of_ports hlanes]
      exact ⟨_, _, rfl⟩
    · rw [State.modHost, port_modPort_self, port_of_ports hlanes]
      exact ⟨_, _, rfl⟩
  · rw [hidle]
    split
    · rw [State.modStill, portsKept_modPort _ p _ i hi, State.modHost, portsKept_modPort _ p _ i hi,
        port_of_ports hlanes]
    · rw [State.modHost, portsKept_modPort _ p _ i hi, port_of_ports hlanes]

theorem portStep_hostSet (s : State) (p : PortId) (m : HostMode) (e : Egress) : s.portStep (s.hostSet p m e) p :=
  ⟨(hostSet_port s p m e).2, fun b _ => bed_of_beds (t := s.hostSet p m e) (by simp) b,
    by simp [State.mostKept, State.hubKept]⟩

/-- R100, R102. A cold training of a handshake begins in its first phase. -/
theorem startTraining_cold (s : State) (p : PortId) (rung : Rung) (origin : Nat) (silent : Bool) (q : Port)
    (hq : (s.startTraining p .cold .echoHead rung origin silent false).port p = q) :
    q.link.state = .training ∧ q.train.kind = .cold ∧ q.train.phase = .echoHead ∧ q.train.rung = rung ∧
      q.train.silent = silent ∧ q.spring = (s.port p).spring := by
  unfold State.startTraining at hq
  dsimp only at hq
  rw [if_neg Bool.false_ne_true] at hq
  obtain ⟨h, l, he⟩ := (hostSet_port (s.modPort p _) p _ .fault).1
  rw [he, port_modPort_self] at hq
  subst hq
  exact ⟨rfl, rfl, rfl, rfl, rfl, rfl⟩

theorem portStep_startTraining (s : State) (p : PortId) (k : TKind) (ph : Phase) (rung : Rung) (origin : Nat)
    (silent : Bool) : s.portStep (s.startTraining p k ph rung origin silent false) p :=
  (portStep_modPort s p _).trans (portStep_hostSet _ p _ _)

/-- R207, R217. The tail that follows a SELECT that it has not acted on: PARTNERED, with HS_DONE to send. -/
def State.followsSelect (s : State) (p : PortId) (pay : Bytes) : State :=
  (s.springPartner p).modSpring p fun g => { g with hsDone := true, sel := some pay, ackDue := true }

theorem followsSelect_port (s : State) (p : PortId) (pay : Bytes) :
    (s.followsSelect p pay).port p = { s.port p with
      spring := { (s.port p).spring.enters with hsDone := true, sel := some pay, ackDue := true } } := by
  rw [State.followsSelect, State.modSpring, port_modPort_self, springPartner_port]

theorem portStep_followsSelect (s : State) (p : PortId) (pay : Bytes) : s.portStep (s.followsSelect p pay) p :=
  (portStep_springPartner s p).trans (portStep_modPort _ p _)

/-- R43, R217. A SELECT of a CH rung and of KIND COLD begins the training of the tail that joins. -/
theorem selectTake_cold {s : State} {p : PortId} {pay : Bytes} (hr : (s.port p).spring.srole = .tail)
    (hss : (s.port p).spring.sstate = .joining) (hid : leAt pay 2 8 = (phyId p).toNat)
    (hst : (s.port p).link.state = .listening) (hh : (s.port p).link.held = false)
    (ho : byteAt pay 0 = 8 ∨ byteAt pay 0 = 9) (hk : byteAt pay 1 = 1) :
    s.selectTake p pay = (s.followsSelect p pay).hsTrain p (BitVec.ofNat 4 (byteAt pay 0).toNat) false := by
  have hform : ¬((s.port p).spring.srole != Role.tail || (s.port p).spring.sstate == .off ||
      leAt pay 2 8 != (phyId p).toNat) = true := by simp [hr, hss, hid]
  have hact : (s.followsSelect p pay).selectAct p pay =
      (s.followsSelect p pay).hsTrain p (BitVec.ofNat 4 (byteAt pay 0).toNat) false := by
    unfold State.selectAct
    dsimp only
    rw [followsSelect_port]
    obtain h | h := ho <;> simp [h, hk, hst, hh]
  unfold State.selectTake
  dsimp only
  rw [if_neg hform, hss, if_neg (c := SState.joining = SState.partnered) (by decide), if_neg (by simp)]
  exact hact

/-- R43, R100. What the training of a cold selection is, and what of the channel it leaves. -/
theorem hsTrain_cold (s : State) (p : PortId) (rung : Rung) (q : Port)
    (hq : (s.hsTrain p rung false).port p = q) :
    q.link.state = .training ∧ q.train.kind = .cold ∧ q.train.phase = .echoHead ∧ q.train.rung = rung ∧
      q.train.silent = ((s.port p).spring.srole == .tail) ∧ q.link.role = (s.port p).spring.srole ∧
      q.spring = (s.port p).spring := by
  unfold State.hsTrain at hq
  dsimp only at hq
  rw [if_neg Bool.false_ne_true, State.modLink, port_modPort_self] at hq
  obtain ⟨hst, hk, hph, hr, hs, hsp⟩ := startTraining_cold s p rung _ _ _ rfl
  subst hq
  exact ⟨hst, hk, hph, hr, hs, rfl, hsp⟩

theorem portStep_hsTrain (s : State) (p : PortId) (rung : Rung) : s.portStep (s.hsTrain p rung false) p :=
  (portStep_startTraining s p _ _ _ _ _).trans (portStep_modPort _ p _)

end Sys2Proof.Machine
end

section
/-! O51: the roles' draws, the timers, and the statement (R40–R44, R206, R564). -/

namespace Sys2Proof.Machine

/-! ## The draw of a listen interval -/

theorem natOfBits_lt (bs : List Bool) : natOfBits bs < 2 ^ bs.length := by
  induction bs with
  | nil => decide
  | cons b bs ih =>
    have hb : b2n b ≤ 1 := by cases b <;> decide
    rw [natOfBits, List.length_cons, Nat.pow_succ]
    omega

theorem lfsrRun_length {w : Nat} (ds : List Nat) (n : Nat) (st : BitVec w) : (lfsrRun ds n st).1.length = n := by
  induction n generalizing st with
  | zero => rfl
  | succ n ih => exact congrArg Nat.succ (ih _)

/-- R41, R564. A draw is 1 to 15. -/
theorem roleDraw_range (n : Nat) (st : BitVec 32) : 1 ≤ (roleDraw n st).1 ∧ (roleDraw n st).1 ≤ 15 := by
  induction n generalizing st with
  | zero => exact ⟨le_refl 1, Nat.le_add_left 1 14⟩
  | succ n ih =>
    unfold roleDraw
    dsimp only
    split
    · exact ih _
    · have h := natOfBits_lt (lfsrRun bedDelays 4 st).1
      rw [lfsrRun_length] at h
      dsimp only
      omega

/-! ## The transmitter and what does not depend on it -/

section
variable {q r : Port}

theorem Port.transmits.link (h : q.transmits r) : r.link = q.link := by rw [h]
theorem Port.transmits.train (h : q.transmits r) : r.train = q.train := by rw [h]
theorem Port.transmits.sstate (h : q.transmits r) : r.spring.sstate = q.spring.sstate := by rw [h]
theorem Port.transmits.srole (h : q.transmits r) : r.spring.srole = q.spring.srole := by rw [h]
theorem Port.transmits.interval (h : q.transmits r) : r.spring.interval = q.spring.interval := by rw [h]
theorem Port.transmits.pcap (h : q.transmits r) : r.spring.pcap = q.spring.pcap := by rw [h]
theorem Port.transmits.hsDone (h : q.transmits r) : r.spring.hsDone = q.spring.hsDone := by rw [h]
end

theorem portsKept_of_modPort {s t : State} {p : PortId} {f : Port → Port} (h : (s.modPort p f).portsKept t [p]) :
    s.portsKept t [p] := portsKept_trans (portsKept_modPort s p f) h

/-- R211. With nothing due and no acknowledgement due, no frame starts. -/
theorem springKick_idle {s : State} {p : PortId} (hd : (s.port p).spring.due = [])
    (ha : (s.port p).spring.ackDue = false) : s.springKick p = s := by
  have hn : s.springNext p = none := by
    unfold State.springNext
    dsimp only
    split
    · rfl
    · split <;> simp [hd, ha, minRank, seqNext]
  rw [State.springKick, hn]

/-- R211. A Repeated or Single frame that alone is due starts in PARTNERED where the transmitter is free. -/
theorem springKick_single {s : State} {p : PortId} {f : TxFrame} (hrun : s.springRuns p = true)
    (hss : (s.port p).spring.sstate = .partnered) (hcur : (s.port p).spring.cur = none)
    (hd : (s.port p).spring.due = [f]) (hf : f.typ.sequenced = false) (hk : f.typ ≠ .keepalive) :
    s.springKick p = s.springStart p f := by
  have hn : s.springNext p = some f := by
    unfold State.springNext
    dsimp only
    rw [hrun, hss, hd]
    simp [hf, hk, minRank]
  rw [State.springKick, hn, hcur]

/-! ## A frame that has fallen due -/

theorem fallsDue_port (s : State) (p : PortId) (f : TxFrame) :
    ((s.fallsDue p f).port p).spring.sel = (s.port p).spring.sel ∧
      ((s.fallsDue p f).port p).spring.cur = (s.port p).spring.cur ∧
      (s.fallsDue p f).springRuns p = s.springRuns p := by
  unfold State.springRuns State.fallsDue
  rw [State.modSpring, port_modPort_self]
  dsimp only
  split <;> exact ⟨rfl, rfl, rfl⟩

theorem fallsDue_due_nil {s : State} {p : PortId} (f : TxFrame) (h : (s.port p).spring.due = []) :
    ((s.fallsDue p f).port p).spring.due = [f] := by
  rw [State.fallsDue, State.modSpring, port_modPort_self]
  simp [h]

/-- R217, R218. A SELECT that falls due in LISTENING and is the selection. -/
theorem springDue_select {s : State} {p : PortId} (pay : Bytes) (hst : (s.port p).link.state = .listening) :
    (∀ x ∈ ((s.springDue p { typ := .select, payload := pay }).port p).spring.due, x.typ = .select →
        x.payload = pay) ∧
      ((s.port p).spring.sel = some pay →
        ((s.springDue p { typ := .select, payload := pay }).port p).spring.sel = some pay) ∧
      (s.springDue p { typ := .select, payload := pay }).sends p .select pay = true := by
  have hlink := (fallsDue_transmits s p { typ := .select, payload := pay }).1.link
  obtain ⟨hdue, hsel, hsends⟩ := springKick_select (s := s.fallsDue p { typ := .select, payload := pay }) (p := p)
    (pay := pay) (by rw [hlink]; exact hst)
    fun x hx ht => by rw [fallsDue_unique rfl hx ht]
  refine ⟨hdue, fun h => hsel ?_, hsends (sends_iff.mpr ⟨_, .inl (fallsDue_mem s p _), rfl, rfl⟩)⟩
  rw [(fallsDue_port s p _).1, h]

/-- R217. Outside LISTENING, where the transmitter is free, the SELECT that falls due starts as KEEP. -/
theorem springDue_free_sends_select {s : State} {p : PortId} {pay : Bytes} (hrun : s.springRuns p = true)
    (hss : (s.port p).spring.sstate = .partnered) (hcur : (s.port p).spring.cur = none)
    (hdue : (s.port p).spring.due = []) (hst : (s.port p).link.state ≠ .listening) :
    (s.springDue p { typ := .select, payload := pay }).sends p .select ([15, 0] ++ slice pay 2 8) = true := by
  obtain ⟨-, hcur', hrun'⟩ := fallsDue_port s p { typ := .select, payload := pay }
  have hport := (fallsDue_transmits s p { typ := .select, payload := pay }).1
  rw [springDue_eq, springKick_single (hrun'.trans hrun) (hport.sstate.trans hss) (hcur'.trans hcur)
    (fallsDue_due_nil _ hdue) rfl FType.noConfusion]
  exact springStart_sends_select _ p rfl (if_neg (by rwa [hport.link]))

/-! ## The other timers -/

theorem springDraw_port (s : State) (p : PortId) : (s.springDraw p).port p = { s.port p with
    spring := { (s.port p).spring with
      interval := some (roleDraw 64 (s.bed (bedOf p)).roleLfsr).1, waitTail := false } } := by
  unfold State.springDraw
  dsimp only
  rw [State.modSpring, port_modPort_self, port_modBed]

theorem portStep_springDraw (s : State) (p : PortId) : s.portStep (s.springDraw p) p :=
  (portStep_modBed s p _).trans (portStep_modPort _ p _)

/-- R44, R110. A port in LISTENING that has abandoned no Clause 28 loses nothing with its partner. -/
theorem springLostPort_listening {s : State} {p : PortId} (hst : (s.port p).link.state = .listening)
    (hh : (s.port p).link.c28Held = false) : s.springLostPort p = s := by
  simp [State.springLostPort, hst, hh]

/-- R40. A port past its Spring wait window. -/
def Port.pastWindow (q : Port) : Port :=
  { q with link := { q.link with window := false }, spring := q.spring.pastWindow q.link.sRole }

/-- R43. The port past its window begins Clause 28, with what it advertises. -/
def State.windowsIntoC28 (s : State) (p : PortId) : State :=
  (s.modPort p Port.pastWindow).modLink p fun l =>
    { l with c28 := true, c28Held := false, c28Adv := some (s.port p).c28Form }

theorem windowsIntoC28_link (s : State) (p : PortId) : ((s.windowsIntoC28 p).port p).link = { (s.port p).link with
    window := false, c28 := true, c28Held := false, c28Adv := some (s.port p).c28Form } := by
  rw [State.windowsIntoC28, State.modLink, port_modPort_self, port_modPort_self]
  rfl

/-- R40, R43. The window ends in Clause 28. -/
theorem windowOver_c28 {s : State} {p : PortId} (hc : (s.port p).link.c28 = false)
    (hch : (s.port p).link.c28Held = false) (hcand : candidates (s.port p) ≠ 0)
    (hheld : (s.port p).link.held = false) : s.windowOver p = s.windowsIntoC28 p := by
  have hq : (s.modPort p Port.pastWindow).port p = (s.port p).pastWindow := port_modPort_self s p _
  have hover : s.windowOver p =
      if ((s.modPort p Port.pastWindow).port p).link.c28 || ((s.modPort p Port.pastWindow).port p).link.c28Held then
        s.modPort p Port.pastWindow
      else (s.modPort p Port.pastWindow).c28Start p := rfl
  rw [hover, hq, if_neg (by simp [Port.pastWindow, hc, hch]), State.c28Start, hq,
    if_neg (by simpa [Port.pastWindow, hheld, candidates] using hcand)]
  rfl

/-! ## Frames accepted -/

/-- R43, R44, R206, R217. A held head that accepts a capability frame is PARTNERED and selects KEEP. -/
theorem completes_cap_heldHead {s : State} {p : PortId} {pay : Bytes} (hr : s.receives p .cap pay = true)
    (hv : byteAt pay 0 ≠ 0) (hss : (s.port p).spring.sstate = .joining) (hrole : (s.port p).spring.srole = .head)
    (hst : s.pst p = .listening) (hh : (s.port p).link.held = true) :
    Completes (.cap p pay) s fun t =>
      (t.port p).spring.sstate = .partnered ∧ (t.port p).spring.pcap = some (pay.take 24) ∧
      (t.port p).spring.sel = some (keepPayload (pay.take 24)) ∧
      t.sendsType p .select = true ∧ t.hasDue .springRx (.port p) 1 = true ∧ t.pst p = .listening ∧
      s.portStep t p := by
  obtain ⟨hst', hh', hss', hrole'⟩ := rxTake_kept s p
  obtain ⟨hkst, hkss, hkcap, hksel, -⟩ := selectsKeep_port (s.rxTake p) p (pay.take 24)
  have hlist : (((s.rxTake p).selectsKeep p (pay.take 24)).port p).link.state = .listening :=
    hkst.trans (hst'.trans hst)
  obtain ⟨hdue, hsel, -⟩ := springDue_select (keepPayload (pay.take 24)) hlist
  have htx := (springDue_transmits ((s.rxTake p).selectsKeep p (pay.take 24)) p
    { typ := .select, payload := keepPayload (pay.take 24) })
  have htx' := htx.trans (springKick_transmits _ p)
  obtain ⟨hports, hbeds, hmost⟩ := (((portStep_rxTake s p).trans (portStep_selectsKeep _ p (pay.take 24))).trans
    (portStep_springDue _ p { typ := .select, payload := keepPayload (pay.take 24) })).trans
    (portStep_springKick _ p)
  refine completes_of_effect (receives_live hr) (Eq.refl (execCap p pay s)) (t := (((s.rxTake p).selectsKeep p
    (pay.take 24)).springDue p { typ := .select, payload := keepPayload (pay.take 24) }).springKick p) ?_ ?_ ?_
    ⟨htx'.1.sstate.trans hkss, htx'.1.pcap.trans hkcap, ?_, springKick_sendsType (springDue_sendsType _ p _), ?_, ?_,
      hports, hbeds, hmost⟩
  · rw [rxFrame_received _ hr (by decide), if_neg (by rw [hss', hss]; simpa using hv),
      capTake_heldHead _ (hst'.trans hst) (hss'.trans hss) (hrole'.trans hrole) (hh'.trans hh)]
  · simp [State.selectsKeep, State.hearsCap]
  · simp [State.selectsKeep, State.hearsCap]
  · exact (springKick_select ((congrArg Link.state htx.1.link).trans hlist) hdue).2.1 (hsel hksel)
  · exact (hasDue_of_due htx'.2.2 _ _ _).trans (selectsKeep_hasDue _ p _)
  · exact (congrArg Link.state htx'.1.link).trans hlist

/-- R206. A listener that accepts a capability frame joins as tail. -/
theorem completes_cap_listener {s : State} {p : PortId} {pay : Bytes} (hr : s.receives p .cap pay = true)
    (hv : byteAt pay 0 ≠ 0) (hss : (s.port p).spring.sstate = .listen) (hrole : (s.port p).spring.srole = .none)
    (hst : s.pst p = .listening) :
    Completes (.cap p pay) s fun t =>
      (t.port p).spring.sstate = .joining ∧ (t.port p).spring.srole = .tail ∧
      (t.port p).spring.pcap = some (pay.take 24) ∧ t.sendsType p .cap = true ∧ s.portStep t p := by
  obtain ⟨hst', -, hss', hrole'⟩ := rxTake_kept s p
  obtain ⟨hjss, hjrole, hjcap⟩ := joinsAsTail_spring (pay.take 24) (hrole'.trans hrole)
  obtain ⟨hport, -⟩ := (springDue_transmits ((s.rxTake p).joinsAsTail p (pay.take 24)) p { typ := .cap }).trans
    (springKick_transmits _ p)
  refine completes_of_effect (receives_live hr) (Eq.refl (execCap p pay s)) (t := (((s.rxTake p).joinsAsTail p
    (pay.take 24)).springDue p { typ := .cap }).springKick p) ?_ (by simp [State.joinsAsTail, State.hearsCap])
    (by simp [State.joinsAsTail, State.hearsCap])
    ⟨hport.sstate.trans hjss, hport.srole.trans hjrole, hport.pcap.trans hjcap,
      springKick_sendsType (springDue_sendsType _ p _),
      ((portStep_rxTake s p).trans (portStep_joinsAsTail _ p _)).trans
        ((portStep_springDue _ p _).trans (portStep_springKick _ p))⟩
  rw [rxFrame_received _ hr (by decide), if_neg (by rw [hss', hss]; simpa using hv),
    capTake_listener _ (hst'.trans hst) (hss'.trans hss) (hrole'.trans hrole)]

/-- R43, R100, R217. A joining tail that accepts a SELECT of a CH rung and KIND COLD begins its training. -/
theorem completes_select_cold {s : State} {p : PortId} {pay : Bytes} (hr : s.receives p .select pay = true)
    (hlen : pay.length = 10) (hss : (s.port p).spring.sstate = .joining)
    (hrole : (s.port p).spring.srole = .tail) (hst : s.pst p = .listening)
    (hh : (s.port p).link.held = false) (hid : leAt pay 2 8 = (phyId p).toNat)
    (ho : byteAt pay 0 = 8 ∨ byteAt pay 0 = 9) (hk : byteAt pay 1 = 1) :
    Completes (.select p pay) s fun t =>
      t.pst p = .training ∧ (t.port p).train.kind = .cold ∧ (t.port p).train.phase = .echoHead ∧
      (t.port p).train.rung = BitVec.ofNat 4 (byteAt pay 0).toNat ∧ (t.port p).train.silent = true ∧
      (t.port p).link.role = .tail ∧ (t.port p).spring.sstate = .partnered ∧
      (t.port p).spring.hsDone = true ∧ s.portStep t p := by
  obtain ⟨hst', hh', hss', hrole'⟩ := rxTake_kept s p
  have hpay : pay.take 10 = pay := List.take_of_length_le hlen.le
  have hfol := followsSelect_port (s.rxTake p) p pay
  obtain ⟨htr, hkind, hphase, hrung, hsil, hlrole, hspr⟩ :=
    hsTrain_cold ((s.rxTake p).followsSelect p pay) p (BitVec.ofNat 4 (byteAt pay 0).toNat) _ rfl
  have hsrole : (((s.rxTake p).followsSelect p pay).port p).spring.srole = .tail := by
    rw [hfol]; exact hrole'.trans hrole
  obtain ⟨hport, -⟩ := springKick_transmits (((s.rxTake p).followsSelect p pay).hsTrain p
    (BitVec.ofNat 4 (byteAt pay 0).toNat) false) p
  rw [hsrole] at hsil hlrole
  refine completes_of_effect (receives_live hr) (Eq.refl (execSelect p pay s)) (t := (((s.rxTake p).followsSelect p
    pay).hsTrain p (BitVec.ofNat 4 (byteAt pay 0).toNat) false).springKick p) ?_ (by simp [State.followsSelect])
    (by simp [State.followsSelect]) ⟨?_, ?_, ?_, ?_, ?_, ?_, ?_, ?_,
      ((portStep_rxTake s p).trans (portStep_followsSelect _ p pay)).trans
        ((portStep_hsTrain _ p _).trans (portStep_springKick _ p))⟩
  · rw [rxFrame_received _ hr (by decide), hpay, selectTake_cold (hrole'.trans hrole) (hss'.trans hss) hid
      (hst'.trans hst) (hh'.trans hh) ho hk]
  · exact (congrArg Link.state hport.link).trans htr
  · exact (congrArg Train.kind hport.train).trans hkind
  · exact (congrArg Train.phase hport.train).trans hphase
  · exact (congrArg Train.rung hport.train).trans hrung
  · exact (congrArg Train.silent hport.train).trans hsil
  · exact (congrArg Link.role hport.link).trans hlrole
  · rw [hport.sstate, hspr, hfol]; rfl
  · rw [hport.hsDone, hspr, hfol]

/-! ## The statement -/

/-- Settles O51, clause by clause: what the transmitter does (`State.transmits`) leaves the roles, the link and the
training that the step itself has set. -/
theorem springHandshake : Obligations.SpringHandshake := by
  unfold Obligations.SpringHandshake
  refine ⟨?interval, ?noTail, ?capRepeat, ?joining, ?capHead, ?capTail, ?select, ?selectRepeat, ?frameEnd, ?extend,
    ?windowEnd⟩
  case interval =>
    intro s p hl hrun hint hss hr
    have htx := springDue_transmits (s.modSpring p fun g => { g with
      srole := .head, sstate := .joining, interval := none, capRep := false }) p { typ := .cap }
    obtain ⟨hport, hkept, -⟩ := htx
    rw [State.modSpring, port_modPort_self] at hport
    refine completes_of_effect hl (Eq.refl (execRoleIntervalExpiry p s)) (t := s.springHead p false) ?_ (by simp)
      (by simp) ⟨hport.srole, hport.sstate, hport.interval, springDue_sendsType _ p { typ := .cap }, hport.link,
        portsKept_of_modPort hkept, by simp [State.sidesKept, State.hubKept]⟩
    simp [hrun, hint, hss, hr]
  case noTail =>
    intro s p hl hrun hw hr hss
    obtain ⟨hports, hbeds, hmost⟩ := (portStep_modPort s p _).trans (portStep_springDraw
      (s.modSpring p fun g => { g with sstate := .listen, srole := .none }) p)
    refine completes_of_effect hl (Eq.refl (execTailSyncWaitExpiry p s)) (if_pos (by simp [hrun, hw, hr, hss]))
      (by simp) (by simp) ?_
    rw [springDraw_port, State.modSpring, port_modPort_self]
    refine ⟨rfl, rfl, rfl, fun v hv => ?_, rfl, hports, hbeds, hmost⟩
    cases Option.mem_some.mp hv
    exact roleDraw_range 64 _
  case capRepeat =>
    intro s p hl hrun hc
    have htx := springDue_transmits s p { typ := .cap }
    refine completes_of_effect hl (Eq.refl (execCapRepeatTimer p s)) (if_pos (by simp [hrun, hc])) (by simp) (by simp)
      ⟨springDue_sendsType s p { typ := .cap }, htx.1.link, htx.2.1, springDue_sidesKept s p _⟩
  case joining =>
    intro s p hl hss hr hst hh
    refine completes_of_effect hl (Eq.refl (execJoiningTimeout p s)) (t := s.modSpring p fun g => { g with
      sstate := .listen, due := [], cur := none, body := [] }) ?_ rfl rfl
      ⟨port_modPort_self s p _, portsKept_modPort s p _, rfl⟩
    dsimp only
    rw [if_pos (by simp [hss, hr])]
    refine springLostPort_listening ?_ ?_ <;> rw [State.modSpring, port_modPort_self]
    · exact hst
    · exact hh
  case capHead =>
    intro s p pay hr hv hss hrole hst hh
    exact completes_cap_heldHead hr hv hss hrole hst hh
  case capTail =>
    intro s p pay hr hv hss hrole hst
    exact completes_cap_listener hr hv hss hrole hst
  case select =>
    intro s p pay hr hlen hss hrole hst hh hid ho hk
    exact completes_select_cold hr hlen hss hrole hst hh hid ho hk
  case selectRepeat =>
    intro s p pay hl hrun hss hr hd hsel hcnt hst
    have htx := springDue_transmits s p { typ := .select, payload := pay }
    refine completes_of_effect hl (Eq.refl (execSelectRepeatTimer p s))
      (t := s.springDue p { typ := .select, payload := pay }) ?_ (by simp) (by simp)
      ⟨?_, htx.1.sstate.trans hss, htx.1.link, htx.2.1, springDue_sidesKept s p _⟩
    · simp [hrun, hss, hr, hd, hsel, Nat.not_le.mpr hcnt]
    · split
      · rename_i hlis
        exact (springDue_select pay hlis).2.2
      · rename_i hlis
        obtain ⟨hcur, hdue⟩ := hst.resolve_left hlis
        exact springDue_free_sends_select hrun hss hcur hdue hlis
  case frameEnd =>
    intro s p c hl hc hd ha
    refine completes_of_effect hl (Eq.refl (execSpringTxFrameEnd p s)) (t := s.modSpring p fun g => { g with
      cur := none, body := [], cut := false, waitTail := g.waitTail ||
        (c.typ == .cap && g.srole == Role.head && g.sstate == .joining && !g.capRep) }) ?_ rfl rfl
      ⟨port_modPort_self s p _, portsKept_modPort s p _, rfl⟩
    simp only [hc]
    refine springKick_idle ?_ ?_ <;> rw [State.modSpring, port_modPort_self]
    · exact hd
    · exact ha
  case extend =>
    intro s p hl hst hw hh he
    refine completes_of_effect hl (Eq.refl (execSpringWaitExpiry p s))
      (t := s.modLink p fun l => { l with extended := true }) ?_ rfl rfl
      ⟨port_modPort_self s p _, portsKept_modPort s p _, rfl⟩
    change (s.port p).link.state = .listening at hst
    simp [hst, hw, hh, he]
  case windowEnd =>
    intro s p hl hst hw hh hc hch hcand hheld
    refine completes_of_effect hl (Eq.refl (execSpringWaitExpiry p s)) (t := s.windowsIntoC28 p) ?_ rfl rfl
      ⟨?_, portsKept_trans (portsKept_modPort s p _) (portsKept_modPort _ p _), rfl⟩
    · change (s.port p).link.state = .listening at hst
      rw [if_neg (by simp [hw, hst]), if_neg (by simp [hh]), windowOver_c28 hc hch hcand hheld]
    · rw [windowsIntoC28_link, ← hch]

end Sys2Proof.Machine
end

section
/-! O8: sealed fields check back (R91, R92, R94, R105 to R107, R198, R199). A sealed word is read back as the
bits it was formed from: the contents in its low places and the check above them. -/

namespace Sys2Proof.Machine

/-! ## The bits of a word formed from a string of bits -/

@[simp] theorem length_bitsOf {w : Nat} (x : BitVec w) (lo n : Nat) : (bitsOf x lo n).length = n := by
  simp [bitsOf]

@[simp] theorem getElem_bitsOf {w : Nat} (x : BitVec w) (lo n i : Nat) (h : i < (bitsOf x lo n).length) :
    (bitsOf x lo n)[i] = x.getLsbD (lo + i) := by
  simp [bitsOf]

@[simp] theorem length_msbFirst {w : Nat} (x : BitVec w) : (msbFirst x).length = w := by
  simp [msbFirst]

@[simp] theorem length_crc16 (bs : List Bool) : (crc16 bs).length = 16 := length_msbFirst _

@[simp] theorem length_crc32 (bs : List Bool) : (crc32 bs).length = 32 := length_msbFirst _

/-- Bit i of the number of a string of bits is its element i. -/
theorem testBit_natOfBits (bs : List Bool) {i : Nat} (h : i < bs.length) : (natOfBits bs).testBit i = bs[i] := by
  induction bs generalizing i with
  | nil => exact absurd h (Nat.not_lt_zero i)
  | cons b bs ih =>
    cases i with
    | zero => cases b <;> simp [natOfBits, b2n, Nat.testBit_zero]
    | succ i =>
      have hhalf : natOfBits (b :: bs) / 2 = natOfBits bs := by
        have hb : b2n b ≤ 1 := by cases b <;> decide
        rw [natOfBits]
        omega
      rw [Nat.testBit_add_one, hhalf, List.getElem_cons_succ, ih]

/-- A word that has room for a string of bits holds any stretch of it. -/
theorem bitsOf_ofNat_natOfBits {n lo len : Nat} {bs : List Bool} (hlen : lo + len ≤ bs.length)
    (hn : bs.length ≤ n) : bitsOf (BitVec.ofNat n (natOfBits bs)) lo len = (bs.drop lo).take len := by
  refine List.ext_getElem (by simp; omega) fun i hi _ => ?_
  rw [length_bitsOf] at hi
  have hbs : lo + i < bs.length := by omega
  rw [getElem_bitsOf, BitVec.getLsbD_ofNat, testBit_natOfBits bs hbs, decide_eq_true (hbs.trans_le hn),
    Bool.true_and, List.getElem_take, List.getElem_drop]

/-- The two parts of a sealed word: the low k bits of x and, above them, the check. -/
theorem bitsOf_sealed {w n k m : Nat} (x : BitVec w) {check : List Bool} (hm : check.length = m)
    (hn : k + m ≤ n) :
    bitsOf (BitVec.ofNat n (natOfBits (bitsOf x 0 k ++ check))) 0 k = bitsOf x 0 k ∧
      bitsOf (BitVec.ofNat n (natOfBits (bitsOf x 0 k ++ check))) k m = check := by
  have hall : (bitsOf x 0 k ++ check).length = k + m := by simp [hm]
  constructor
  · rw [bitsOf_ofNat_natOfBits (by omega) (by omega), List.drop_zero, List.take_left' (length_bitsOf ..)]
  · rw [bitsOf_ofNat_natOfBits (by omega) (by omega), List.drop_left' (length_bitsOf ..),
      List.take_of_length_le hm.le]

/-- Words with the same k lowest bits are the same when cut to k bits. -/
theorem setWidth_eq_of_bitsOf_eq {v w k : Nat} {x : BitVec v} {y : BitVec w} (h : bitsOf x 0 k = bitsOf y 0 k) :
    x.setWidth k = y.setWidth k := by
  refine BitVec.eq_of_getLsbD_eq fun i hi => ?_
  have hbit : (bitsOf x 0 k)[i]'(by simpa) = (bitsOf y 0 k)[i]'(by simpa) := by simp only [h]
  simpa [hi] using hbit

/-- A field that lies in the low k bits is read from them alone. -/
theorem fld_setWidth {w k lo len : Nat} (x : BitVec w) (h : lo + len ≤ k) :
    fld (x.setWidth k) lo len = fld x lo len := by
  refine Nat.eq_of_testBit_eq fun i => ?_
  simp only [fld, BitVec.toNat_setWidth, Nat.testBit_mod_two_pow, Nat.testBit_div_two_pow]
  by_cases hi : i < len
  · simp [show i + lo < k by omega]
  · simp [hi]

/-! ## The three sealed forms -/

/-- R92, R94. -/
theorem oamSeal_checks (o : BitVec 182) : oamOk (oamSeal o) = true ∧ (oamSeal o).setWidth 182 = o := by
  obtain ⟨hlow, hcheck⟩ : bitsOf (oamSeal o) 0 182 = bitsOf o 0 182 ∧
      bitsOf (oamSeal o) 182 16 = crc16 (bitsOf o 0 182) := bitsOf_sealed o (length_crc16 _) (by decide)
  exact ⟨by rw [oamOk, hlow, hcheck, beq_self_eq_true],
    (setWidth_eq_of_bitsOf_eq hlow).trans (BitVec.setWidth_eq o)⟩

/-- R106, R107. -/
theorem tifSeal_checks (f : BitVec 480) : tifOk (tifSeal f) = true ∧ (tifSeal f).setWidth 480 = f := by
  obtain ⟨hlow, hcheck⟩ : bitsOf (tifSeal f) 0 480 = bitsOf f 0 480 ∧
      bitsOf (tifSeal f) 480 32 = crc32 (bitsOf f 0 480) := bitsOf_sealed f (length_crc32 _) (by decide)
  exact ⟨by rw [tifOk, hlow, hcheck, beq_self_eq_true],
    (setWidth_eq_of_bitsOf_eq hlow).trans (BitVec.setWidth_eq f)⟩

/-- R198, R199. LEN is among the contents, so that the sealed header's LEN is in range where that of h is. -/
theorem headerSeal_checks {h : BitVec 72} (hlen : fld h 5 9 ≤ 256) :
    headerOk (headerSeal h) = true ∧ (headerSeal h).setWidth 56 = h.setWidth 56 := by
  obtain ⟨hlow, hcheck⟩ : bitsOf (headerSeal h) 0 56 = bitsOf h 0 56 ∧
      bitsOf (headerSeal h) 56 16 = crc16 (bitsOf h 0 56) := bitsOf_sealed h (length_crc16 _) (by decide)
  have hcontents := setWidth_eq_of_bitsOf_eq hlow
  have hsame : fld (headerSeal h) 5 9 = fld h 5 9 := by
    rw [← fld_setWidth (k := 56) (headerSeal h) (by decide), hcontents, fld_setWidth h (by decide)]
  exact ⟨by rw [headerOk, hlow, hcheck, hsame, beq_self_eq_true, decide_eq_true hlen, Bool.and_self], hcontents⟩

/-- Settles O8: each form holds its contents and their check where the receiver reads them. -/
theorem sealedFields : Obligations.SealedFields :=
  ⟨oamSeal_checks, tifSeal_checks, fun _ => headerSeal_checks⟩

end Sys2Proof.Machine
end

section
/-! O56, O57 and O58 fail as O43 does. A training that ends in LISTENING ends the Spring session of `rejoiningPort`,
and the USER entry that completes with it leaves vector 0 of PF0 pending (R206, R224, R306), where the statements
say that the pins are as before. -/

namespace Sys2Proof.Machine

/-- Port 0 in a cold training at CH-100T, a tail, its Spring session standing since before its ROLE was written. -/
def coldTrainingState (t : Train) : State :=
  withPortZero { rejoiningPort { state := .training, role := .tail, after := .listening } with
    train := { t with kind := .cold, rung := 9 } }

/-! ## The last ABORT row group -/

/-- That port in PRECODER, with one ABORT row group to send. -/
def lastAbortState : State := coldTrainingState { phase := .precoder, abortLeft := 1 }

/-- Refutes O56: its third clause says that the pins are as before the last ABORT row group. In `lastAbortState`
that row group takes the port to LISTENING (R122), and vector 0 of PF0 is pending after it. -/
theorem not_trainingRowGroups : ¬ Obligations.TrainingRowGroups := by
  unfold Obligations.TrainingRowGroups
  rintro ⟨-, -, habort, -⟩
  obtain ⟨t, ht, -, -, -, hkept⟩ := habort lastAbortState 0 0 (by decide +kernel) (by decide +kernel)
    (by decide +kernel) (by decide +kernel) (by decide +kernel) (by decide +kernel)
  exact not_hubKept_of_pending ht (by decide +kernel) (by decide +kernel) hkept

/-! ## The partner's ABORT -/

/-- R107, R121. An accepted frame with ABORT and KIND other than THREE_PAIR fails the training. -/
theorem exec_tifAccept_abort {s : State} {p : PortId} {f : BitVec 512} (hl : s.live = true) (hf : tifOk f = true)
    (hst : s.pst p = .training) (hk : (s.port p).train.kind = .cold) (hw : (s.port p).train.waitPll = false)
    (hawait : (s.port p).train.await = false) (ha : (s.port p).train.abortLeft = 0) (habort : bit f 14 = true)
    (hcode : TKind.ofCode (fld f 0 4) ≠ .threePair) :
    exec (.tifAccept p f) s = answer s (s.trainFail p .peerAbort false) := by
  rw [State.pst] at hst
  have htrain : s.tifTrain p f = s.trainFail p .peerAbort false := by
    simp [State.tifTrain, State.tifAbort, habort, hcode, hawait]
  change execTifAccept p f s = _
  rw [execTifAccept, onLive, if_pos hl]
  simp [hf, hst, hk, hw, ha, htrain]

/-- A head's training info frame of a cold training with ABORT (R105). -/
def headAbort : BitVec 512 := tifSeal (BitVec.ofNat 480 (TKind.cold.code + 2 ^ 14))

theorem headAbort_fields : bit headAbort 14 = true ∧ fld headAbort 0 4 = TKind.cold.code := by
  obtain ⟨-, hcontents⟩ := tifSeal_checks (BitVec.ofNat 480 (TKind.cold.code + 2 ^ 14))
  constructor
  · have hbit : (headAbort.setWidth 480).getLsbD 14 = bit headAbort 14 := by simp [bit]
    rw [← hbit, headAbort, hcontents]
    decide +kernel
  · rw [← fld_setWidth (k := 480) headAbort (by decide), headAbort, hcontents]
    decide +kernel

/-- That port in PRECODER. -/
def precoderState : State := coldTrainingState { phase := .precoder }

/-- R206, R224, R306. The message of the USER entry's completion leaves the masked vector 0 pending. -/
theorem peerAbort_sets_pending : (precoderState.trainFail 0 .peerAbort false).pins.msix0.pend = 1 := by
  decide +kernel

/-- Refutes O57: its fourth clause says that the pins are as before a frame with ABORT. In `precoderState` that frame
takes the port to LISTENING (R123), and vector 0 of PF0 is pending after it. -/
theorem not_framesAndReady : ¬ Obligations.FramesAndReady := by
  unfold Obligations.FramesAndReady
  rintro ⟨-, -, -, habort, -⟩
  obtain ⟨hbit, hkind⟩ := headAbort_fields
  have hok : tifOk headAbort = true := (tifSeal_checks _).1
  have hl : precoderState.live = true := by decide +kernel
  have hst : precoderState.pst 0 = .training := by decide +kernel
  have hcold : (precoderState.port 0).train.kind = .cold := by decide +kernel
  have hpll : (precoderState.port 0).train.waitPll = false := by decide +kernel
  have hawait : (precoderState.port 0).train.await = false := by decide +kernel
  have hleft : (precoderState.port 0).train.abortLeft = 0 := by decide +kernel
  obtain ⟨t, ht, -, -, -, -, -, -, hkept⟩ :=
    habort precoderState 0 headAbort hl hok hst hcold hpll hawait hleft hbit
  have hexec := exec_tifAccept_abort hl hok hst hcold hpll hawait hleft hbit (by rw [hkind]; decide)
  refine not_hubKept_of_pending ht (by decide +kernel) ?_ hkept
  rw [after_of_exec ht, answer_pins (hexec.symm.trans ht)]
  exact peerAbort_sets_pending

/-! ## The deadline of ECHO_TAIL -/

/-- That port in ECHO_TAIL. -/
def echoTailState : State := coldTrainingState { phase := .echoTail }

/-- Refutes O58: its fifth clause says that the pins are as before an expired deadline in ECHO_TAIL. In
`echoTailState` the expiry takes the port to LISTENING (R101, R122), and vector 0 of PF0 is pending after it. -/
theorem not_handoffsAndLimits : ¬ Obligations.HandoffsAndLimits := by
  unfold Obligations.HandoffsAndLimits
  rintro ⟨-, -, -, -, hdeadline, -⟩
  obtain ⟨t, ht, -, -, -, -, hkept⟩ := hdeadline echoTailState 0 (by decide +kernel) (by decide +kernel)
    (by decide +kernel) (by decide +kernel) (by decide +kernel) (by decide +kernel) (by decide +kernel)
  exact not_hubKept_of_pending ht (by decide +kernel) (by decide +kernel) hkept

end Sys2Proof.Machine
end

section
/-! O19 fails: CMD_RETRAIN that takes a standard rung's port to LISTENING may touch PF0's MSI-X table, for the reason
that O43 fails (R206, R224, R306). -/

namespace Sys2Proof.Machine

/-- Port 0 UP at 10GBASE-T, which has kept its Spring session. -/
def standardUpState : State := withPortZero (rejoiningPort { state := .up, rung := 5 })

/-- Refutes O19: its fourth clause says that the pins are as before a CMD_RETRAIN on a standard rung without fast
retrain. In `standardUpState` the command takes the port to LISTENING (R319), and vector 0 of PF0 is pending after
it. -/
theorem not_retrainCommand : ¬ Obligations.RetrainCommand := by
  unfold Obligations.RetrainCommand
  rintro ⟨-, -, -, hstandard⟩
  obtain ⟨t, ht, -, -, hkept, -⟩ := hstandard standardUpState (headerFor 1 (.port 0)) 0 (by decide +kernel)
    (by decide +kernel) (by decide +kernel) (by decide +kernel)
  exact not_hubKept_of_pending ht (by decide +kernel) (by decide +kernel) hkept

end Sys2Proof.Machine
end

section
/-! The Still condition, and the wakes and refreshes of a quiet port (R164–R170, R172). -/

namespace Sys2Proof.Machine

/-! ## The Still condition (R164, R165) -/

/-- R77, R165. A port in data mode that begins its end to Still. -/
def Port.closesStill (q : Port) (now : Nat) : Port :=
  { q with
    line := { q.line with closing := .closeStill, downDue := false, closeAt := now, closeCnt := some 3 }
    link := { q.link with after := .none } }

theorem closeLink_still {s : State} {p : PortId} (hc : (s.port p).line.closing = .data) :
    s.closeLink p .closeStill .none false = s.modPort p fun q => q.closesStill s.now := by
  simp [State.closeLink, State.modPort, Port.closesStill, hc, LState.code]

/-- R165. A head in data mode on whose link both ends have the Still condition. -/
theorem stillDecide_closes {s : State} {p : PortId} (hst : (s.port p).link.state = .up)
    (hch : isCh (s.port p).link.rung = true) (hrole : (s.port p).link.role = .head)
    (hcond : (s.port p).still.cond = true) (hc : (s.port p).line.closing = .data)
    (hq : (s.port p).still.quiet = false) (ho : fld ((s.port p).line.oam.getD 0) 12 4 = 1) :
    s.stillDecide p = s.modPort p fun q => q.closesStill s.now := by
  rw [← closeLink_still hc]
  exact if_pos (by simpa [hst, hch, hrole, hcond, hc, hq] using ho)

/-- R165. A tail, or an end whose partner's field says otherwise, does not decide. -/
theorem stillDecide_stays {s : State} {p : PortId}
    (h : ¬((s.port p).link.role = .head ∧ fld ((s.port p).line.oam.getD 0) 12 4 = 1)) : s.stillDecide p = s := by
  refine if_neg fun hd => h ?_
  simp only [Bool.and_eq_true, beq_iff_eq, decide_eq_true_eq] at hd
  obtain ⟨⟨⟨⟨⟨⟨-, -⟩, hrole⟩, -⟩, -⟩, -⟩, ho⟩ := hd
  exact ⟨hrole, ho⟩

/-- R164. The host side has sent LPI for the entry delay, and the Still condition holds. -/
def State.lpiHeld (s : State) (p : PortId) : State := s.modStill p fun l => { l with lpi := true, cond := true }

theorem lpiHeld_port (s : State) (p : PortId) : (s.lpiHeld p).port p =
    { s.port p with still := { (s.port p).still with lpi := true, cond := true } } := port_modPort_self s p _

/-- R164. LPI for the entry delay at an UP port on a CH rung whose STILLCTL allows Still. -/
theorem completes_conditionMet {s : State} {p : PortId} {P : State → Prop} (hl : s.live = true)
    (hst : s.pst p = .up) (hch : isCh (s.port p).link.rung = true) (hen : scStill (s.port p).cfg.stillctl = true)
    (hmode : (s.port p).host.mode ≠ 0) (h : P ((s.lpiHeld p).stillDecide p)) :
    Completes (.stillConditionMet p) s P := by
  rw [State.pst] at hst
  refine completes_of_effect hl (Eq.refl (execStillConditionMet p s)) ?_ (by simp [State.lpiHeld])
    (by simp [State.lpiHeld]) h
  dsimp only
  rw [if_neg hmode]
  simp [hst, hch, hen, State.lpiHeld]

/-! ## Wakes (R164, R169, R170) -/

/-- R169. A quiet end whose wake begins. -/
def Still.woken (l : Still) (w : WakeBy) : Still :=
  { l with wake := some 18, refresh := 0, lastWake := w, wakeDue := false, heard := false }

theorem stillWake_quiet {s : State} {p : PortId} (w : WakeBy) (hq : (s.port p).still.quiet = true)
    (hw : (s.port p).still.wake = none) : s.stillWake p w = s.modStill p fun l => l.woken w := by
  simp [State.stillWake, Still.woken, hq, hw]

theorem stillWake_data {s : State} {p : PortId} (w : WakeBy) (hq : (s.port p).still.quiet = false)
    (hc : (s.port p).line.closing ≠ .closeStill) : s.stillWake p w = s := by
  simp [State.stillWake, hq, hc]

/-- R164. The host side is out of LPI. -/
def State.hostAwake (s : State) (p : PortId) : State := s.modStill p fun l => { l with lpi := false, cond := false }

theorem hostAwake_port (s : State) (p : PortId) : (s.hostAwake p).port p =
    { s.port p with still := { (s.port p).still with lpi := false, cond := false } } := port_modPort_self s p _

/-- R164, R170. The same after a block that starts a discarded frame, where frame says so. -/
def State.frameLost (s : State) (p : PortId) (frame : Bool) : State :=
  if frame then (s.hostAwake p).count p 0x24 1 else s.hostAwake p

theorem frameLost_port (s : State) (p : PortId) (frame : Bool) : (s.frameLost p frame).port p = { s.port p with
    still := { (s.port p).still with lpi := false, cond := false },
    cnt := if frame then (s.port p).cnt.add s.now 0x24 1 else (s.port p).cnt } := by
  cases frame
  · exact hostAwake_port s p
  · rw [State.frameLost, if_pos rfl, State.count, port_modPort_self, hostAwake_port]
    rfl

theorem frameLost_portsKept (s : State) (p : PortId) (frame : Bool) : s.portsKept (s.frameLost p frame) [p] := by
  unfold State.frameLost
  split
  · exact portsKept_trans (portsKept_modPort s p _) (portsKept_modPort _ p _)
  · exact portsKept_modPort s p _

/-- R164, R169, R170. A block other than LPI at a linked port on a CH rung. -/
theorem nonLpi_ch {s : State} {p : PortId} (frame : Bool) (hl : (s.port p).linked = true)
    (hch : isCh (s.port p).link.rung = true) :
    s.nonLpi p frame = (s.frameLost p (frame && (s.port p).wakeDiscards s.now)).stillWake p .host := by
  unfold State.nonLpi
  dsimp only
  rw [hl, if_neg (by decide), if_pos hch]
  rfl

/-- R170. A frame that finds its port quiet is discarded. -/
theorem wakeDiscards_quiet {q : Port} (now : Nat) (hl : q.linked = true) (hch : isCh q.link.rung = true)
    (hq : q.still.quiet = true) : q.wakeDiscards now = true := by
  simp [Port.wakeDiscards, hl, hch, hq]

/-- R170. One that finds it in data mode is not. -/
theorem wakeDiscards_data {q : Port} (now : Nat) (hst : q.link.state = .up) (hch : isCh q.link.rung = true)
    (hq : q.still.quiet = false) (hc : q.line.closing ≠ .closeStill) : q.wakeDiscards now = false := by
  simp [Port.wakeDiscards, hst, hch, hq, hc]

/-! ## Refreshes (R167, R168) -/

theorem refreshCycle_ge (r : Rung) : 592 ≤ refreshCycle r := by
  unfold refreshCycle; split <;> decide

/-- R167. A refresh begins at the first row group not below n that is 8 before the end of its cycle. -/
theorem refreshStart_spec (r : Rung) (n : Nat) :
    n ≤ refreshStart r n ∧ refreshStart r n < n + refreshCycle r ∧
      refreshStart r n % refreshCycle r = refreshCycle r - 8 := by
  have hc := refreshCycle_ge r
  unfold refreshStart
  dsimp only
  generalize refreshCycle r = c at hc
  have hn := Nat.mod_lt n (show 0 < c by omega)
  have hd := Nat.div_add_mod n c
  refine ⟨by omega, Nat.add_lt_add_left (Nat.mod_lt _ (by omega)) _, ?_⟩
  have he : n + (c + (c - 8) - n % c) = (c - 8) + c * (n / c + 1) := by
    rw [Nat.mul_add]; omega
  rw [Nat.add_mod_mod, he, Nat.add_mul_mod_self_left, Nat.mod_eq_of_lt (by omega)]

/-- R172. A pair that carried a comma in the refresh keeps its lock. -/
theorem refreshPairs_lock (q : Port) {commas : BitVec 4} {i : Pair} (h : bit commas i.val = true) :
    (q.refreshPairs commas).line.locks[i.val]? = q.line.locks[i.val]? := by
  have hi : allPairs[i.val]? = some i := by simp [allPairs]
  unfold Port.refreshPairs
  dsimp only
  rw [List.getElem?_map, List.zip, List.getElem?_zipWith, hi]
  cases q.line.locks[i.val]? <;> simp [h]

end Sys2Proof.Machine
end

section
/-! A link that is lost in Still: its link-down, and the tail's recovery (R119, R120, R156, R168, R172). -/

namespace Sys2Proof.Machine

/-! ## The link-down and its events -/

theorem mem_insertEv_of_mem {e x : Event} {es : List Event} (h : e ∈ es) : e ∈ insertEv x es := by
  induction es with
  | nil => exact absurd h List.not_mem_nil
  | cons y ys ih =>
    unfold insertEv
    split
    · exact List.mem_cons_of_mem _ h
    · obtain rfl | h := List.mem_cons.mp h
      · exact List.mem_cons_self
      · exact List.mem_cons_of_mem _ (ih h)

/-- R301. An event that is due stays so when another is raised. -/
theorem hasDue_raise_of_hasDue {s : State} {c : Ev} {e : Elem} {b : Nat} (h : s.hasDue c e b = true) (c' : Ev)
    (e' : Elem) (fs : List (Nat × Nat × Nat)) : (s.raise c' e' fs).hasDue c e b = true := by
  obtain ⟨x, hx, hb⟩ := List.any_eq_true.mp h
  exact List.any_eq_true.mpr ⟨x, mem_insertEv_of_mem hx, hb⟩

/-- R343. A cause fits its byte of the event. -/
theorem downCode_lt (c : Down) : c.code < 256 := by cases c <;> decide

/-- R168, R343, R344. The link-down of a STILL port whose leaving Still has not been said raises both events. -/
theorem linkDown_hasDue {s : State} {p : PortId} (c : Down) (pairs : BitVec 4) (tc : TCause) (fr : FReason)
    (hst : (s.port p).link.state = .still) (hleft : (s.port p).still.left = false) :
    (s.linkDown p c pairs tc fr).hasDue .linkDown (.port p) c.code = true ∧
      (s.linkDown p c pairs tc fr).hasDue .still (.port p) 0 = true := by
  have hcond : ((s.port p).link.state = PState.still && !(s.port p).still.left) = true := by simp [hst, hleft]
  unfold State.linkDown
  dsimp only
  rw [if_pos hcond]
  simp only [State.modStill, hasDue_of_due (modPort_due _ p _)]
  exact ⟨hasDue_raise_of_hasDue ((hasDue_of_due (modPort_due _ p _) _ _ _).trans
    (hasDue_raise _ _ _ (downCode_lt c) (by simp))) _ _ _, hasDue_raise _ _ _ (by decide) (by simp)⟩

/-- R157, R343. What the link-down leaves of the port's link, and its fingerprint. -/
theorem linkDown_port (s : State) (p : PortId) (c : Down) (pairs : BitVec 4) (tc : TCause) (fr : FReason) :
    ((s.linkDown p c pairs tc fr).port p).link =
        { (s.port p).link with downAt := some s.now, state := (s.port p).ls } ∧
      ((s.linkDown p c pairs tc fr).port p).fp = (s.port p).fp ∧ s.portsKept (s.linkDown p c pairs tc fr) [p] := by
  unfold State.linkDown
  dsimp only
  split
  · refine ⟨?_, ?_, fun i hi => ?_⟩
    · simp [State.count, State.modStill, Port.ls]
    · simp [State.count, State.modStill]
    · simp [State.count, State.modStill, port_modPort_ne _ p _ i (List.ne_of_not_mem_cons hi)]
  · refine ⟨?_, ?_, fun i hi => ?_⟩
    · simp [State.count, Port.ls]
    · simp [State.count]
    · simp [State.count, port_modPort_ne _ p _ i (List.ne_of_not_mem_cons hi)]

/-! ## A training that is entered from data mode -/

theorem ite_due (c : Prop) [Decidable c] (a b : State) :
    (if c then a else b).due = if c then a.due else b.due := apply_ite State.due c a b

theorem forAll_due {α : Type} (xs : List α) (g : α → State → State) (s : State)
    (h : (fun x t => (g x t).due) = fun (_ : α) t => t.due) : (forAll xs g s).due = s.due := by
  unfold forAll
  induction xs generalizing s with
  | nil => rfl
  | cons x xs ih => exact (ih _).trans (congrFun (congrFun h x) s)

/-- R261. The host side's mode raises no event. -/
theorem hostSet_due (s : State) (p : PortId) (m : HostMode) (e : Egress) : (s.hostSet p m e).due = s.due := by
  simp -implicitDefEqProofs [State.hostSet, State.lanesIdle, State.modHost, State.modStill, ite_due, forAll_due]

theorem ite_port (c : Prop) [Decidable c] (a b : State) (i : PortId) :
    (if c then a else b).port i = if c then a.port i else b.port i := apply_ite (State.port · i) c a b

theorem lanesIdle_port (s : State) (ls : List LaneId) (i : PortId) : (s.lanesIdle ls).port i = s.port i :=
  port_of_ports (by simp) i

/-- R261. The host side's mode changes a port's host side, and of Still LOCAL_LPI at most. -/
theorem hostSet_port_quiet (s : State) (p : PortId) (m : HostMode) (e : Egress) :
    ∃ h l, (s.hostSet p m e).port p = { s.port p with host := h, still := l } ∧
      l.quiet = (s.port p).still.quiet := by
  obtain ⟨h, l, he⟩ := (hostSet_port s p m e).1
  refine ⟨h, l, he, ?_⟩
  have hl : ((s.hostSet p m e).port p).still = l := by rw [he]
  rw [← hl]
  unfold State.hostSet
  dsimp only
  generalize hu : (if m = 0 then s else forAll _ _ s) = u
  have hport : u.port p = s.port p := port_of_ports (by rw [← hu]; simp -implicitDefEqProofs) p
  rw [ite_port, lanesIdle_port, ite_self, ite_port]
  split
  · rw [State.modStill, port_modPort_self, State.modHost, port_modPort_self, hport]
  · rw [State.modHost, port_modPort_self, hport]

theorem recover_tail {s : State} {p : PortId} (origin : Nat) (hs : (s.port p).link.spared = false)
    (hr : (s.port p).link.role = .tail) :
    s.recover p origin = s.startTraining p .none .timing (s.port p).link.rung origin false true := by
  simp [State.recover, hs, hr]

/-- R120. The tail that awaits the head's choice of a retrain. -/
theorem startTraining_await (s : State) (p : PortId) (rung : Rung) (origin : Nat) (q : Port)
    (hq : (s.startTraining p .none .timing rung origin false true).port p = q) :
    q.link.state = .training ∧ q.train.kind = .none ∧ q.train.await = true ∧ q.train.rung = rung ∧
      q.still.quiet = false ∧ q.fp = (s.port p).fp := by
  unfold State.startTraining at hq
  dsimp only at hq
  rw [if_pos rfl, State.count, port_modPort_self] at hq
  obtain ⟨h, l, he, hl⟩ := hostSet_port_quiet (s.modPort p _) p _ .fault
  rw [he, port_modPort_self] at hq
  rw [port_modPort_self] at hl
  subst hq
  exact ⟨rfl, rfl, rfl, rfl, hl, rfl⟩

theorem startTraining_due (s : State) (p : PortId) (k : TKind) (ph : Phase) (rung : Rung) (origin : Nat)
    (silent fromData : Bool) : (s.startTraining p k ph rung origin silent fromData).due = s.due := by
  unfold State.startTraining
  dsimp only
  split
  · exact hostSet_due _ p _ _
  · exact hostSet_due _ p _ _

theorem startTraining_portsKept (s : State) (p : PortId) (k : TKind) (ph : Phase) (rung : Rung) (origin : Nat)
    (silent fromData : Bool) : s.portsKept (s.startTraining p k ph rung origin silent fromData) [p] := by
  have hset (u : State) (m : HostMode) (f : Port → Port) : u.portsKept ((u.modPort p f).hostSet p m .fault) [p] :=
    portsKept_trans (portsKept_modPort u p f) (hostSet_port _ p m .fault).2
  unfold State.startTraining
  dsimp only
  split
  · exact portsKept_trans (hset s _ _) (portsKept_modPort _ p _)
  · exact hset s _ _

/-! ## The tail's recovery -/

/-- R168, R172. The link has gone down with STILL_LOST, and nothing is asked of the port's wake any more. -/
def State.stillDown (s : State) (p : PortId) : State :=
  ((s.linkDown p .stillLost 0 .none .none).sampleFlush p).modLink p fun l => { l with wakeJob := .none }

theorem stillDown_port (s : State) (p : PortId) :
    ((s.stillDown p).port p).link =
        { (s.port p).link with downAt := some s.now, state := (s.port p).ls, wakeJob := .none } ∧
      ((s.stillDown p).port p).fp = (s.port p).fp ∧ s.portsKept (s.stillDown p) [p] := by
  obtain ⟨hlink, hfp, hkept⟩ := linkDown_port s p .stillLost 0 .none .none
  refine ⟨?_, ?_, portsKept_trans (portsKept_trans hkept (portsKept_modPort _ p _)) (portsKept_modPort _ p _)⟩
  · rw [State.stillDown, State.modLink, port_modPort_self, State.sampleFlush, port_modPort_self, hlink]
  · rw [State.stillDown, State.modLink, port_modPort_self, State.sampleFlush, port_modPort_self, hfp]

theorem stillDown_due (s : State) (p : PortId) :
    (s.stillDown p).due = (s.linkDown p .stillLost 0 .none .none).due := rfl

/-- R156, R168. A tail whose link is lost in Still, with nothing asked of it, awaits the head's retrain. -/
theorem stillLost_tail {s : State} {p : PortId} (hj : (s.port p).link.wakeJob = .none)
    (hr : (s.port p).link.role = .tail) (hs : (s.port p).link.spared = false) :
    s.stillLost p = ((s.stillDown p).startTraining p .none .timing (s.port p).link.rung s.now false true).finishOp
      .retrain (.port p) .ok := by
  obtain ⟨hlink, -⟩ := stillDown_port s p
  have hrec : (s.stillDown p).recover p s.now =
      (s.stillDown p).startTraining p .none .timing (s.port p).link.rung s.now false true := by
    rw [recover_tail s.now (by rw [hlink]; exact hs) (by rw [hlink]; exact hr), hlink]
  rw [← hrec]
  unfold State.stillLost
  dsimp only
  rw [hj]
  rfl

/-- A tail whose link was lost in Still, as against s (R156, R168, R343, R344). -/
def State.lostTail (s t : State) (p : PortId) : Prop :=
  t.pst p = .training ∧ (t.port p).train.kind = .none ∧ (t.port p).train.await = true ∧
    (t.port p).train.rung = (s.port p).link.rung ∧ t.hasDue .linkDown (.port p) Down.stillLost.code = true ∧
    t.hasDue .still (.port p) 0 = true ∧ (t.port p).still.quiet = false ∧ (t.port p).fp = (s.port p).fp ∧
    s.portsKept t [p] ∧ s.sidesKept t

/-- R298. A command that ends with the loss changes nothing of that. -/
theorem lostTail_finishOp {s t : State} {p : PortId} (h : s.lostTail t p) (o : Op) (e : Elem) (st : ST) :
    s.lostTail (t.finishOp o e st) p := h

theorem stillLost_lostTail {s : State} {p : PortId} (hst : (s.port p).link.state = .still)
    (hj : (s.port p).link.wakeJob = .none) (hr : (s.port p).link.role = .tail)
    (hs : (s.port p).link.spared = false) (hleft : (s.port p).still.left = false) :
    s.lostTail (s.stillLost p) p := by
  obtain ⟨-, hfp, hdown⟩ := stillDown_port s p
  obtain ⟨hlinkDue, hstillDue⟩ := linkDown_hasDue .stillLost 0 .none .none hst hleft
  obtain ⟨htr, hkind, hawait, hrung, hquiet, hfp'⟩ :=
    startTraining_await (s.stillDown p) p (s.port p).link.rung s.now _ rfl
  have hkept := portsKept_trans hdown
    (startTraining_portsKept (s.stillDown p) p .none .timing (s.port p).link.rung s.now false true)
  have hdue := (startTraining_due (s.stillDown p) p .none .timing (s.port p).link.rung s.now false true).trans
    (stillDown_due s p)
  rw [stillLost_tail hj hr hs]
  exact lostTail_finishOp ⟨htr, hkind, hawait, hrung, (hasDue_of_due hdue _ _ _).trans hlinkDue,
    (hasDue_of_due hdue _ _ _).trans hstillDue, hquiet, hfp'.trans hfp, hkept,
    by simp [State.sidesKept, State.hubKept, State.stillDown]⟩ _ _ _

end Sys2Proof.Machine
end

section
/-! O59: the end of a partner's refresh window, and the statement. -/

namespace Sys2Proof.Machine

/-! ## The end of a partner's refresh window (R168, R172) -/

/-- R168. One more refresh has been missed. -/
def State.refreshMissed (s : State) (p : PortId) : State :=
  (s.modStill p fun l => { l with missed := true, missRun := l.missRun + 1 }).count p 0x25 1

theorem refreshMissed_port (s : State) (p : PortId) : (s.refreshMissed p).port p = { s.port p with
    still := { (s.port p).still with missed := true, missRun := (s.port p).still.missRun + 1 },
    cnt := (s.port p).cnt.add s.now 0x25 1 } := by
  simp [State.refreshMissed, State.count, State.modStill]

theorem refreshMissed_portsKept (s : State) (p : PortId) : s.portsKept (s.refreshMissed p) [p] :=
  portsKept_trans (portsKept_modPort s p _) (portsKept_modPort _ p _)

/-- R168. The refresh came: a training info frame of the partner, or a comma on a pair. -/
def State.refreshCame (s : State) (p : PortId) (commas : BitVec 4) : State :=
  (s.modStill p fun l => { l with missed := false, missRun := 0 }).modPort p fun q => q.refreshPairs commas

theorem refreshCame_port (s : State) (p : PortId) (commas : BitVec 4) : (s.refreshCame p commas).port p =
    { s.port p with still := { (s.port p).still with missed := false, missRun := 0 } }.refreshPairs commas :=
  (port_modPort_self _ p _).trans (congrArg (Port.refreshPairs · commas) (port_modPort_self s p _))

/-- R168. What lacks a sign of the partner has neither a training info frame nor a comma. -/
theorem sign_of_partner {seen : Bool} {ps : List Pair} {commas : BitVec 4}
    (h : (seen || ps.any fun i => bit commas i.val) = true) :
    ¬(!seen && ps.all fun i => !bit commas i.val) = true := by
  rw [← List.not_any_eq_all_not, ← Bool.not_or, h]
  exact Bool.false_ne_true

/-- R168. A loss after one more missed refresh is a loss as against the state before it. -/
theorem lostTail_refreshMissed {s t : State} {p : PortId} (h : (s.refreshMissed p).lostTail t p) :
    s.lostTail t p := by
  obtain ⟨htr, hkind, hawait, hrung, hdown, hstill, hquiet, hfp, hkept, hsides⟩ := h
  rw [refreshMissed_port] at hrung hfp
  exact ⟨htr, hkind, hawait, hrung, hdown, hstill, hquiet, hfp,
    portsKept_trans (refreshMissed_portsKept s p) hkept, hsides⟩

/-- R168. A window in which no pair carried a comma. -/
theorem all_commaless (ps : List Pair) : (ps.all fun i => !bit (0 : BitVec 4) i.val) = true := by simp [bit]

/-- R168. A window at a quiet port without a sign of the partner: the second in a row loses the link. -/
theorem completes_windowMissed {s : State} {p : PortId} {P : State → Prop} (hl : s.live = true)
    (hq : (s.port p).still.quiet = true)
    (h : P (if 1 ≤ (s.port p).still.missRun then (s.refreshMissed p).stillLost p else s.refreshMissed p)) :
    Completes (.partnerRefreshWindowEnd p false 0) s P := by
  have hrun : 2 ≤ ((s.refreshMissed p).port p).still.missRun ↔ 1 ≤ (s.port p).still.missRun := by
    rw [refreshMissed_port]; exact Nat.succ_le_succ_iff
  refine completes_of_effect hl (Eq.refl (execPartnerRefreshWindowEnd p false 0 s)) ?_ ?_ ?_ h
  · dsimp only
    rw [hq, all_commaless, if_neg (by decide), if_pos (by rfl)]
    exact if_congr hrun rfl rfl
  · split
    · simp [State.refreshMissed]
    · rfl
  · split
    · simp [State.refreshMissed]
    · rfl

/-! ## The statement -/

/-- Settles O59, clause by clause: each command's guard is decided by the clause's hypotheses, and the state that it
leads to is one of the lemmas' above. -/
theorem stillUpkeep : Obligations.StillUpkeep := by
  unfold Obligations.StillUpkeep
  refine ⟨?condition, ?wake, ?awake, ?refresh, ?came, ?missed, ?lost⟩
  case condition =>
    intro s p o hl hst hch hen hmode hq ho hc
    have hport := lpiHeld_port s p
    have hoam : fld (((s.lpiHeld p).port p).line.oam.getD 0) 12 4 = fld o 12 4 := by
      rw [hport]; dsimp only; rw [ho]; rfl
    refine completes_conditionMet hl hst hch hen hmode ?_
    by_cases h : (s.port p).link.role = .head ∧ fld o 12 4 = 1
    · rw [stillDecide_closes (by rw [hport]; exact hst) (by rw [hport]; exact hch) (by rw [hport]; exact h.1)
        (by rw [hport]) (by rw [hport]; exact hc) (by rw [hport]; exact hq) (hoam.trans h.2), if_pos h, if_pos h,
        State.pst, port_modPort_self, hport]
      exact ⟨rfl, rfl, rfl, rfl, hst, portsKept_trans (portsKept_modPort s p _) (portsKept_modPort _ p _), rfl⟩
    · rw [stillDecide_stays (by rw [hoam, hport]; exact h), if_neg h, if_neg h, State.pst, hport]
      exact ⟨rfl, rfl, hc, rfl, hst, portsKept_modPort s p _, rfl⟩
  case wake =>
    intro s p frame hl hlinked hch hq hw
    have hwake : s.nonLpi p frame = (s.frameLost p frame).modStill p fun l => l.woken .host := by
      rw [nonLpi_ch frame hlinked hch, wakeDiscards_quiet s.now hlinked hch hq, Bool.and_true]
      exact stillWake_quiet .host (by rw [frameLost_port]; exact hq) (by rw [frameLost_port]; exact hw)
    refine completes_of_effect hl (Eq.refl (execHostNonLpiBlock p frame s)) hwake
      (by simp [State.frameLost, State.hostAwake]) (by simp [State.frameLost, State.hostAwake]) ?_
    rw [State.modStill, port_modPort_self, frameLost_port]
    exact ⟨rfl, rfl, rfl, portsKept_trans (frameLost_portsKept s p frame) (portsKept_modPort _ p _), by
      cases frame <;> rfl⟩
  case awake =>
    intro s p frame hl hst hch hq hc
    have hport := hostAwake_port s p
    have hdisc := wakeDiscards_data s.now hst hch hq hc
    have hlinked : (s.port p).linked = true := by rw [Port.linked, ← State.pst, hst]; rfl
    refine completes_of_effect (t := s.hostAwake p) hl (Eq.refl (execHostNonLpiBlock p frame s)) ?_ rfl rfl
      ⟨hport, portsKept_modPort s p _, rfl⟩
    rw [nonLpi_ch frame hlinked hch, hdisc, Bool.and_false]
    exact stillWake_data (s := s.hostAwake p) .host (by rw [hport]; exact hq) (by rw [hport]; exact hc)
  case refresh =>
    intro s p hl hq hw
    obtain ⟨hge, hlt, hmod⟩ := refreshStart_spec (s.port p).link.rung (s.port p).still.qrg
    refine completes_of_effect hl (Eq.refl (execRefreshDue p s)) (if_pos (by rw [hq, hw]; rfl)) rfl rfl ?_
    rw [port_modPort_self]
    exact ⟨rfl, hge, hlt, hmod, hq, hw, rfl, rfl, portsKept_modPort s p _, rfl⟩
  case came =>
    intro s p seen commas hl hq hseen
    refine completes_of_effect (t := s.refreshCame p commas) hl
      (Eq.refl (execPartnerRefreshWindowEnd p seen commas s)) ?_ rfl rfl ?_
    · dsimp only
      rw [hq, if_neg (by decide), if_neg (sign_of_partner hseen)]
      rfl
    · rw [refreshCame_port]
      exact ⟨rfl, rfl, hq, rfl, fun i hi => refreshPairs_lock _ hi, rfl,
        portsKept_trans (portsKept_modPort s p _) (portsKept_modPort _ p _), rfl⟩
  case missed =>
    intro s p hl hq hrun
    refine completes_windowMissed hl hq ?_
    rw [if_neg (by omega), refreshMissed_port, hrun]
    exact ⟨rfl, refreshMissed_portsKept s p, rfl⟩
  case lost =>
    intro s p i hl hst hq hj hr hs hleft hi
    obtain ⟨rfl, hrun⟩ | ⟨rfl, hw, hh⟩ := hi
    · have hport := refreshMissed_port s p
      refine completes_windowMissed hl hq ?_
      rw [if_pos hrun]
      exact lostTail_refreshMissed (stillLost_lostTail (by rw [hport]; exact hst) (by rw [hport]; exact hj)
        (by rw [hport]; exact hr) (by rw [hport]; exact hs) (by rw [hport]; exact hleft))
    · exact completes_of_effect hl (Eq.refl (execStillWakeTimeout p s)) (if_pos (by simp [hq, hw, hh])) (by simp)
        (by simp) (stillLost_lostTail hst hj hr hs hleft)

end Sys2Proof.Machine
end

section
/-! O50: reception of a Spring frame (R198, R199, R201, R204, R205). -/

namespace Sys2Proof.Machine

/-! ## A frame that is not accepted -/

theorem rxFail_port (s : State) (p : PortId) (n : Nat) : (s.rxFail p n).port p = { s.port p with
    spring := { (s.port p).spring with rxBusy := false, rxHdr := none, good := 0 },
    cnt := (s.port p).cnt.add s.now n 1 } := by
  rw [State.rxFail, State.count, port_modPort_self, State.modSpring, port_modPort_self]
  rfl

theorem rxFail_portsKept (s : State) (p : PortId) (n : Nat) : s.portsKept (s.rxFail p n) [p] :=
  portsKept_trans (portsKept_modPort s p _) (portsKept_modPort _ p _)

/-- R204, R214. A command that ends the reception completes with the failure alone. -/
theorem completes_rxFail {i : Instr} {s : State} {f : State → State} {p : PortId} {n : Nat} (hl : s.live = true)
    (he : exec i s = onLive s f) (hf : f s = s.rxFail p n) :
    Completes i s fun t =>
      t.port p = { s.port p with
        spring := { (s.port p).spring with rxBusy := false, rxHdr := none, good := 0 },
        cnt := (s.port p).cnt.add s.now n 1 } ∧
      s.portsKept t [p] ∧ t = { s with ports := t.ports } :=
  completes_of_effect hl he hf rfl rfl ⟨rxFail_port s p n, rxFail_portsKept s p n, rfl⟩

/-! ## A header that passes -/

/-- R199, R204, R215. A valid header is the frame's own and the partner's last; a wait window notes it (R40). -/
def Port.keepsHeader (q : Port) (hdr : BitVec 72) : Port :=
  { q with
    spring := { q.spring with rxHdr := some hdr, lastHdr := some hdr },
    link := { q.link with hdrSeen := q.link.hdrSeen || (q.link.state == .listening && q.link.window) } }

/-- R204, R210. A header with a message's TYPE and with a payload to come does nothing more. -/
theorem rxByHeader_message (s : State) (p : PortId) {h : BitVec 72} (hlo : 1 ≤ fld h 0 4) (hhi : fld h 0 4 < 12)
    (hlen : fld h 5 9 ≠ 0) : s.rxByHeader p h = s := by
  have hmsg : ¬ noMessage h = true := by
    simp only [noMessage, Bool.or_eq_true, beq_iff_eq, decide_eq_true_eq]
    omega
  unfold State.rxByHeader
  dsimp only
  rw [if_neg hmsg, if_neg (by simp [hlen])]

/-! ## The statement -/

/-- Settles O50, clause by clause. What starts at a header, a capability frame that waited for it among them, leaves
the reception and the link (`State.transmits`). -/
theorem springReception : Obligations.SpringReception := by
  unfold Obligations.SpringReception
  refine ⟨?sync, ?header, ?failure⟩
  case sync =>
    intro s p bits rssi foff hl hrun hss hbusy hrssi hsync
    refine completes_of_effect hl (Eq.refl (execSyncWordDetect p bits rssi foff s))
      (if_neg (by simp [hrun, hss, hbusy, hrssi, hsync])) rfl rfl ?_
    rw [State.count, port_modPort_self, State.modSpring, port_modPort_self]
    exact ⟨rfl, rfl, rfl, rfl, rfl, rfl, by simp, rfl,
      portsKept_trans (portsKept_modPort s p _) (portsKept_modPort _ p _), rfl⟩
  case header =>
    intro s p hdr hl hrun hbusy hnone hok hss hlo hhi hlen hdone
    obtain ⟨hport, hkept, -⟩ := springKick_transmits (s.modPort p fun q => q.keepsHeader hdr) p
    rw [port_modPort_self] at hport
    refine completes_of_effect hl (Eq.refl (execSpringHeader p hdr s))
      (t := (s.modPort p fun q => q.keepsHeader hdr).springKick p) ?_ (by simp) (by simp)
      ⟨?_, ?_, ?_, hport.sstate, hport.link, portsKept_of_modPort hkept, by simp [State.sidesKept, State.hubKept],
        by simp⟩
    · dsimp only
      rw [if_neg (by simp [hrun, hbusy, hnone]), if_neg (by simp [hok]), if_neg hss, hdone,
        rxByHeader_message _ p hlo hhi hlen]
      rfl
    · rw [hport]; rfl
    · rw [hport]; rfl
    · rw [hport]; exact hbusy
  case failure =>
    intro s p hdr i n hl hi
    obtain ⟨rfl, hrun, hbusy, hnone, hbad, rfl⟩ | ⟨rfl, hsome, rfl⟩ | ⟨rfl, hbusy, rfl⟩ := hi
    · refine completes_rxFail hl (Eq.refl (execSpringHeader p hdr s)) ?_
      dsimp only
      rw [if_neg (by simp [hrun, hbusy, hnone]), if_pos (by simp [hbad])]
    · exact completes_rxFail hl (Eq.refl (execSpringPayloadFailure p s)) (if_pos hsome)
    · exact completes_rxFail hl (Eq.refl (execSpringFrameAbort p s)) (if_neg (by simp [hbusy]))

end Sys2Proof.Machine
end

section
/-! O54 fails: the completion of a Spring transmit entry may touch PF0's MSI-X table (R303, R306). -/

namespace Sys2Proof.Machine

/-- The device of `burstState` whose host has written one entry to the Spring transmit queue of bed 0. -/
def queuedEntryState : State := burstState.modRing (sprTxRing 0) fun g => { g with tail := 1 }

/-- A transmit entry for port 16, which is the first of bed 1, with a payload of two bytes (R303). -/
def otherBedEntry : Bytes := [16, 0, 2, 0] ++ zeros 60

/-- Refutes O54: its last clause says that the pins, PF0's MSI-X table among them, are as before an entry that
completes at once. In `queuedEntryState` bed 0 takes an entry for a port of bed 1; its completion is signalled as
R306 says, and leaves the pending bit of the masked vector 0. -/
theorem not_userFrames : ¬ Obligations.UserFrames := by
  unfold Obligations.UserFrames
  rintro ⟨-, -, -, hother⟩
  obtain ⟨t, ht, -, -, -, -, -, hkept⟩ := hother queuedEntryState 0 otherBedEntry [] (by decide +kernel)
    (by decide +kernel) (by decide +kernel) (by decide +kernel) (by decide +kernel) (by decide +kernel)
  exact not_hubKept_of_pending ht (by decide +kernel) (by decide +kernel) hkept

end Sys2Proof.Machine
end

section
/-! A message that is accepted in a session, and a DIAG frame that is sent (R204, R211, R212, R240). -/

namespace Sys2Proof.Machine

/-! ## A frame accepted in a session -/

section
variable {q r : Port}

theorem Port.transmits.diag (h : q.transmits r) : r.diag = q.diag := by rw [h]
theorem Port.transmits.grant (h : q.transmits r) : r.grant = q.grant := by rw [h]
theorem Port.transmits.rxBusy (h : q.transmits r) : r.spring.rxBusy = q.spring.rxBusy := by rw [h]
theorem Port.transmits.rssi (h : q.transmits r) : r.spring.rssi = q.spring.rssi := by rw [h]
end

/-- R204, R212. A port that has accepted the frame in reception: SPRINGSTAT, the counter of frames, the acknowledgement
that is due, and in LISTENING where the partner was first heard. -/
structure Port.accepted (q r : Port) : Prop where
  link : q.link.state ≠ .listening → r.link = q.link
  state : r.link.state = q.link.state
  diag : r.diag = q.diag
  grant : r.grant = q.grant
  sstate : r.spring.sstate = q.spring.sstate
  rxBusy : r.spring.rxBusy = false
  rssi : r.spring.rssi = q.spring.rxRssi

/-- The state in which port p has accepted its frame, and the message has not acted yet. -/
def State.accepted (s t : State) (p : PortId) : Prop :=
  (s.port p).accepted (t.port p) ∧ s.portStep t p ∧ t.pending = s.pending ∧ t.now = s.now

theorem rxTake_accepted (s : State) (p : PortId) : s.accepted (s.rxTake p) p := by
  refine ⟨?_, portStep_rxTake s p, by simp, by simp⟩
  unfold State.rxTake
  dsimp only
  rw [State.countBed, port_modBed, State.count, port_modPort_self, port_modPort_self]
  exact ⟨fun h => by simp [h], rfl, rfl, rfl, rfl, rfl, rfl⟩

/-- R212. A sequenced frame moves the expected SEQ on, and its acknowledgement falls due or waits. -/
theorem seqTake_port (s : State) (p : PortId) : ∃ g : Spring, (s.seqTake p).port p = { s.port p with spring := g } ∧
    g.sstate = (s.port p).spring.sstate ∧ g.rxBusy = (s.port p).spring.rxBusy ∧ g.rssi = (s.port p).spring.rssi := by
  unfold State.seqTake State.ackTo State.modSpring
  dsimp only
  split
  · rw [port_modPort_self]
    exact ⟨_, rfl, rfl, rfl, rfl⟩
  · rw [port_modPort_self, port_modPort_self]
    exact ⟨_, rfl, rfl, rfl, rfl⟩

theorem portStep_seqTake (s : State) (p : PortId) : s.portStep (s.seqTake p) p := by
  unfold State.seqTake
  dsimp only
  split
  · exact portStep_modPort s p _
  · exact (portStep_modPort s p _).trans (portStep_modPort _ p _)

theorem accepted_seqTake {s t : State} {p : PortId} (h : s.accepted t p) : s.accepted (t.seqTake p) p := by
  obtain ⟨hport, hstep, hpend, hnow⟩ := h
  obtain ⟨g, heq, hss, hbusy, hrssi⟩ := seqTake_port t p
  refine ⟨?_, hstep.trans (portStep_seqTake t p), by simp [hpend], by simp [hnow]⟩
  rw [heq]
  exact ⟨hport.link, hport.state, hport.diag, hport.grant, hss.trans hport.sstate, hbusy.trans hport.rxBusy,
    hrssi.trans hport.rssi⟩

theorem accepts_live {s : State} {p : PortId} {ty : FType} {pay : Bytes} (h : s.accepts p ty pay = true) :
    s.live = true := by
  simp only [State.accepts, Bool.and_eq_true] at h
  tauto

/-- R204, R212. A message that is accepted in PARTNERED acts, and what is then due starts. -/
theorem rxPartnered_accepted {s : State} {p : PortId} {ty : FType} {pay : Bytes} (f : State → State)
    (h : s.accepts p ty pay = true) (hu : ty ≠ .user) :
    ∃ u, s.accepted u p ∧ s.rxPartnered p ty pay f = (f u).springKick p := by
  unfold State.accepts at h
  unfold State.rxPartnered State.rxFrame
  dsimp only at h ⊢
  cases hh : (s.port p).spring.rxHdr with
  | none => simp [hh] at h
  | some hdr =>
    simp only [hh, Bool.and_eq_true, decide_eq_true_eq, beq_iff_eq, Bool.or_eq_true, Bool.not_eq_true'] at h
    obtain ⟨⟨⟨⟨-, hrun⟩, hlen⟩, hss⟩, ⟨hty, hpl⟩, hseq⟩ := h
    have hform : ¬ (!s.springRuns p || fld hdr 0 4 != ty.code ||
        (minLen ty != 0 && fld hdr 5 9 != pay.length)) = true := by
      obtain h0 | hl := hpl
      · simp [hrun, hty, h0]
      · simp [hrun, hty, hl]
    have htake := rxTake_accepted s p
    dsimp only
    rw [if_neg hform, if_neg (by omega)]
    cases hbit : hdr.getLsbD 14 with
    | false =>
      refine ⟨_, htake, ?_⟩
      simp [hu, htake.1.sstate, hss]
    | true =>
      have hnext := accepted_seqTake htake
      have hexp : fld hdr 15 4 = (s.port p).spring.rxSeq.toNat := hseq.resolve_left (by simp [hbit])
      refine ⟨_, hnext, ?_⟩
      simp [hu, hnext.1.sstate, hss, hexp]

/-- A command that is an accepted message completes with what its action f has made of the port that has accepted it. -/
theorem completes_accepted {i : Instr} {s : State} {p : PortId} {ty : FType} {pay : Bytes} {f : State → State}
    {P : State → Prop} (h : s.accepts p ty pay = true) (hu : ty ≠ .user)
    (he : exec i s = onLive s fun s => s.rxPartnered p ty pay f)
    (hf : ∀ u, s.accepted u p → ∃ v, f u = v ∧ v.pending = u.pending ∧ v.now = u.now ∧ P (v.springKick p)) :
    Completes i s P := by
  obtain ⟨u, hacc, heq⟩ := rxPartnered_accepted f h hu
  obtain ⟨v, rfl, hpend, hnow, hP⟩ := hf u hacc
  obtain ⟨-, -, hupend, hunow⟩ := hacc
  exact completes_of_effect (accepts_live h) he heq (by simp [hpend, hupend]) (by simp [hnow, hunow]) hP

/-! ## A DIAG frame is sent -/

/-- R187. Beside a capability frame and a SELECT, whose content the start decides, a frame starts with its own
payload. -/
theorem springStart_payload {s : State} {p : PortId} {f : TxFrame} (hcap : f.typ ≠ .cap) (hsel : f.typ ≠ .select) :
    ((s.springStart p f).port p).spring.cur.map (·.payload) = some f.payload := by
  have hcount (t : State) : ((if f.again then t.count p 0x36 1 else t).port p).spring = (t.port p).spring := by
    split
    · exact count_spring t p _ _
    · rfl
  unfold State.springStart
  dsimp only
  rw [hcount, count_spring, State.modSpring, port_modPort_self]
  simp [hcap, hsel]

/-- R211. A DIAG frame that is due or in transmission still is after the transmitter has worked. -/
theorem springKick_sends_diag {s : State} {p : PortId} {pay : Bytes} (h : s.sends p .diag pay = true) :
    (s.springKick p).sends p .diag pay = true := by
  obtain heq | heq | ⟨f, -, hcur, heq⟩ := springKick_cases s p <;> rw [heq]
  · exact h
  · obtain ⟨hdue, hcur, -⟩ := springCut_spring s p
    rw [sends_iff, hdue, hcur]
    exact sends_iff.mp h
  · obtain ⟨x, hx | hx, hxt, hxp⟩ := sends_iff.mp h
    · obtain ⟨hdue, htyp, -⟩ := springStart_spring s p f
      by_cases hxf : x = f
      · subst hxf
        obtain ⟨c, hc, hct⟩ := Option.map_eq_some_iff.mp htyp
        have hpay := springStart_payload (s := s) (p := p) (f := x) (by rw [hxt]; decide) (by rw [hxt]; decide)
        rw [hc, Option.map_some, Option.some.injEq] at hpay
        exact sends_iff.mpr ⟨c, .inr hc, hct.trans hxt, hpay.trans hxp⟩
      · refine sends_iff.mpr ⟨x, .inl ?_, hxt, hxp⟩
        rw [hdue]
        split
        · exact List.mem_filter.mpr ⟨hx, by rw [hxt]; decide⟩
        · exact (List.mem_erase_of_ne hxf).mpr hx
    · rw [hcur] at hx; cases hx

theorem springDiag_sends (s : State) (p : PortId) (pay : Bytes) : (s.springDiag p pay).sends p .diag pay = true :=
  springKick_sends_diag (sends_iff.mpr ⟨_, .inl (fallsDue_mem s p _), rfl, rfl⟩)

/-- R240. An answer of the port that has accepted a request: the frame goes out, and the port is else as it was. -/
theorem springDiag_answers (s : State) (p : PortId) (pay : Bytes) :
    ((s.springDiag p pay).springKick p).sends p .diag pay = true ∧
      (s.port p).transmits (((s.springDiag p pay).springKick p).port p) ∧
      s.portStep ((s.springDiag p pay).springKick p) p :=
  ⟨springKick_sends_diag (springDiag_sends s p pay),
    ((springDue_transmits s p _).trans (springKick_transmits _ p)).1,
    (portStep_springDue s p _).trans (portStep_springKick _ p)⟩

end Sys2Proof.Machine
end

section
/-! O55: the DIAG frames by which two ends keep a line quiet and send a sweep (R236, R240–R242). -/

namespace Sys2Proof.Machine

/-! ## A grant -/

theorem portStep_portRest (s : State) (p : PortId) : s.portStep (s.portRest p) p :=
  (portStep_modPort s p _).trans (portStep_modPort _ p _)

/-- R241, R242. A port that grants goes to TEST, and remembers the state that it leaves. -/
theorem grantGo_port (s : State) (p : PortId) (highz : Bool) (sweep : Option Nat) :
    (s.grantGo p highz sweep).pst p = .test ∧
      ((s.grantGo p highz sweep).port p).grant =
        some { highz := highz, sweepMs := sweep, sending := false, prior := s.pst p } := by
  rw [State.pst, State.grantGo, port_modPort_self, State.enterTest, State.modLink, port_modPort_self]
  exact ⟨rfl, rfl⟩

theorem portStep_grantGo (s : State) (p : PortId) (highz : Bool) (sweep : Option Nat) :
    s.portStep (s.grantGo p highz sweep) p :=
  (((portStep_portRest s p).trans (portStep_hostSet _ p 0 .test)).trans (portStep_modPort _ p _)).trans
    (portStep_modPort _ p _)

/-- What a grant makes of the port that has accepted the request, its answer sent (R240–R242). -/
theorem grantGo_answers {s u : State} {p : PortId} (h : s.accepted u p) (highz : Bool) (sweep : Option Nat) :
    let t := ((u.grantGo p highz sweep).springDiag p (if sweep.isSome then [4, 0] else [2, 0])).springKick p
    t.pst p = .test ∧
      (t.port p).grant = some { highz := highz, sweepMs := sweep, sending := false, prior := s.pst p } ∧
      t.sends p .diag (if sweep.isSome then [4, 0] else [2, 0]) = true ∧ s.portStep t p := by
  obtain ⟨hport, hstep, -⟩ := h
  obtain ⟨hst, hgrant⟩ := grantGo_port u p highz sweep
  obtain ⟨hsends, htx, hkept⟩ := springDiag_answers (u.grantGo p highz sweep) p
    (if sweep.isSome then [4, 0] else [2, 0])
  have hprior : u.pst p = s.pst p := hport.state
  rw [hprior] at hgrant
  exact ⟨(congrArg Link.state htx.link).trans hst, htx.grant.trans hgrant, hsends,
    (hstep.trans (portStep_grantGo u p highz sweep)).trans hkept⟩

/-- R242. The port of a grant that has ended, which DISABLED takes back. -/
def State.ungranted (s : State) (p : PortId) : State :=
  ((s.modPort p fun q => { q with grant := none }).portRest p).hostOff p

theorem grantEnd_disabled {s : State} {p : PortId} {g : Grant} (hg : (s.port p).grant = some g)
    (hprior : g.prior = .disabled) (hst : s.pst p = .test) : s.grantEnd p = s.ungranted p := by
  have hst' : (s.modPort p fun q => { q with grant := none }).pst p = .test := by
    rw [State.pst, port_modPort_self]; exact hst
  rw [State.grantEnd, hg]
  dsimp only
  rw [State.testReturn, hprior, if_neg (by decide), if_pos hst', State.ungranted]

theorem ungranted_port (s : State) (p : PortId) :
    (s.ungranted p).pst p = .disabled ∧ ((s.ungranted p).port p).grant = none ∧
      ((s.ungranted p).port p).spring.cur = (s.port p).spring.cur ∧
      (∀ f ∈ (s.port p).spring.due, f.typ = .diag → f ∈ ((s.ungranted p).port p).spring.due) := by
  obtain ⟨⟨h, l, heq⟩, -⟩ := hostSet_port ((s.modPort p fun q => { q with grant := none }).portRest p) p 0 .idle
  rw [State.pst, State.ungranted, State.hostOff, heq, State.portRest, port_modPort_self, State.sampleFlush,
    port_modPort_self, port_modPort_self]
  exact ⟨rfl, rfl, rfl, fun f hf ht => List.mem_filter.mpr ⟨hf, by rw [ht]; rfl⟩⟩

theorem ungranted_sends_diag {s : State} {p : PortId} {pay : Bytes} (h : s.sends p .diag pay = true) :
    (s.ungranted p).sends p .diag pay = true := by
  obtain ⟨-, -, hcur, hdue⟩ := ungranted_port s p
  obtain ⟨f, hf | hf, ht, hp⟩ := sends_iff.mp h
  · exact sends_iff.mpr ⟨f, .inl (hdue f hf ht), ht, hp⟩
  · exact sends_iff.mpr ⟨f, .inr (hcur.trans hf), ht, hp⟩

theorem portStep_ungranted (s : State) (p : PortId) : s.portStep (s.ungranted p) p :=
  ((portStep_modPort s p _).trans (portStep_portRest _ p)).trans (portStep_hostSet _ p 0 .idle)

/-! ## The requester's tests -/

/-- R233. Where port p alone has a run, and is in its active tests, no other port takes its turn. -/
theorem diagGo_alone {s : State} {p : PortId} {d : Diag} (hd : (s.port p).diag = some d) (ht : d.inTest = true)
    (halone : ∀ r, r ≠ p → (s.port r).diag = none) : s.diagGo d.key = s := by
  refine forAll_eq_self fun b _ => ?_
  unfold State.diagNext
  split
  · rfl
  · rename_i hidle
    have hnone (r : PortId) (hr : r ∈ portsOf b) : (s.port r).diag = none := by
      refine halone r fun hrp => hidle ?_
      have hact : s.diagActive d.key b = true :=
        List.any_eq_true.mpr ⟨r, hr, by rw [hrp, hd]; simp [ht]⟩
      rw [hact, Bool.or_true]
    rw [List.find?_eq_none.mpr fun r hr => by rw [hnone r hr]; exact Bool.false_ne_true]

/-- R236. The run of a port whose request for quiet has been answered, and whose TDR begins. -/
def Diag.quiet (d : Diag) (granted : Bool) : Diag :=
  { d with waitAck := false, flags := if granted then d.flags ||| 3 else d.flags, begun := true }

/-- R236. The port whose answer is in: the wait is over, and a grant is noted. -/
def State.quietAnswered (s : State) (p : PortId) (d : Diag) (granted : Bool) : State :=
  s.modPort p fun q => { q with
    diag := some { d with waitAck := false, flags := if granted then d.flags ||| 3 else d.flags } }

/-- R236. Where TDR is the port's next test, it begins. -/
theorem diagBegin_tdr {s : State} {p : PortId} {d : Diag} (hd : (s.port p).diag = some d)
    (hleft : d.left.head? = some .tdr) :
    s.diagBegin p = s.modPort p fun q => { q with diag := some { d with begun := true } } := by
  obtain ⟨rest, hrest⟩ := List.head?_eq_some_iff.mp hleft
  rw [State.diagBegin, hd]
  dsimp only
  split
  · rename_i hnil
    cases hrest.symm.trans hnil
  · rename_i hil
    cases hrest.symm.trans hil
  · rfl

/-- R236. Granted or not, TDR begins where it is the next test. -/
theorem quietOver_tdr {s : State} {p : PortId} {d : Diag} (hd : (s.port p).diag = some d) (hw : d.waitAck = true)
    (ht : d.inTest = true) (hleft : d.left.head? = some .tdr) (halone : ∀ r, r ≠ p → (s.port r).diag = none)
    (granted : Bool) :
    s.quietOver p granted =
      (s.quietAnswered p d granted).modPort p fun q => { q with diag := some (d.quiet granted) } := by
  have hans : ((s.quietAnswered p d granted).port p).diag =
      some { d with waitAck := false, flags := if granted then d.flags ||| 3 else d.flags } := by
    rw [State.quietAnswered, port_modPort_self]
  have hbegin := diagBegin_tdr hans hleft
  have hover : s.quietOver p granted = ((s.quietAnswered p d granted).diagBegin p).diagGo d.key := by
    rw [State.quietOver, hd]
    exact if_pos hw
  rw [hover, hbegin]
  refine diagGo_alone (p := p) (d := d.quiet granted) ?_ ht fun r hr => ?_
  · rw [port_modPort_self]
    rfl
  · rw [port_modPort_ne _ _ _ r hr, State.quietAnswered, port_modPort_ne _ _ _ r hr, halone r hr]

/-- R241, R242. DISABLED and LISTENING alone can grant. -/
theorem canGrant_iff {s : State} {p : PortId} :
    (s.port p).canGrant = true ↔ s.pst p = .disabled ∨ s.pst p = .listening := by
  simp [Port.canGrant, State.pst]

theorem accepted_canGrant {s u : State} {p : PortId} (h : s.accepted u p) :
    (u.port p).canGrant = (s.port p).canGrant := by
  rw [Port.canGrant, h.1.state]; rfl

/-- The refusal of a request by the port that has accepted it (R241, R242). -/
theorem refusal_answers {s u : State} {p : PortId} (h : s.accepted u p) (hst : s.pst p ≠ .listening) (pay : Bytes) :
    let t := (u.springDiag p pay).springKick p
    t.sends p .diag pay = true ∧ (t.port p).grant = (s.port p).grant ∧ (t.port p).link = (s.port p).link ∧
      s.portStep t p := by
  obtain ⟨hport, hstep, -⟩ := h
  obtain ⟨hsends, htx, hkept⟩ := springDiag_answers u p pay
  exact ⟨hsends, htx.grant.trans hport.grant, htx.link.trans (hport.link hst), hstep.trans hkept⟩

/-- What a change of the run alone makes of the port that has accepted a frame. -/
theorem modDiag_step {s u v : State} {p : PortId} {d : Option Diag} (h : s.accepted u p)
    (hv : v.port p = { u.port p with diag := d }) (hstep : u.portStep v p) :
    ((v.springKick p).port p).diag = d ∧
      (s.pst p ≠ .listening → ((v.springKick p).port p).link = (s.port p).link) ∧ s.portStep (v.springKick p) p := by
  obtain ⟨hport, hacc, -⟩ := h
  obtain ⟨htx, -⟩ := springKick_transmits v p
  rw [hv] at htx
  exact ⟨htx.diag, fun hst => htx.link.trans (hport.link hst), (hacc.trans hstep).trans (portStep_springKick v p)⟩

/-! ## The statement -/

/-- Settles O55. Each command's message is accepted by `completes_accepted`, or it is a timer; what it then makes of
the grant or of the run is the lemmas' above, and the transmitter leaves that (`Port.transmits`). -/
theorem diagFrames : Obligations.DiagFrames := by
  unfold Obligations.DiagFrames
  refine ⟨?grant, ?refusal, ?quietAck, ?sweepAck, ?sweepDone, ?quietEnd, ?sweepStart, ?sweepEnd⟩
  case grant =>
    intro s p ms sweep h hst hms
    have hcan (u : State) (hu : s.accepted u p) : (u.port p).canGrant = true :=
      (accepted_canGrant hu).trans (canGrant_iff.mpr hst)
    cases sweep with
    | false =>
      obtain ⟨hlo, hhi⟩ := hms
      refine completes_accepted h (by decide) (Eq.refl (execQuietReq p [1, ms, 1] s)) fun u hu =>
        ⟨(u.grantGo p true none).springDiag p [2, 0], ?_, by simp, by simp, grantGo_answers hu true none⟩
      have hform : ¬ (ms.toNat = 0 ∨ 250 < ms.toNat) := by omega
      simp [byteAt, hcan u hu, fld, bit, hform]
    | true =>
      obtain ⟨hlo, hhi⟩ := hms
      refine completes_accepted h (by decide) (Eq.refl (execSweepReq p [3, ms] s)) fun u hu =>
        ⟨(u.grantGo p false (some ms.toNat)).springDiag p [4, 0], ?_, by simp, by simp,
          grantGo_answers hu false (some ms.toNat)⟩
      simp [byteAt, hcan u hu]
      omega
  case refusal =>
    intro s p sweep h hst
    have hcan (u : State) (hu : s.accepted u p) : (u.port p).canGrant = false :=
      (accepted_canGrant hu).trans (Bool.eq_false_iff.mpr fun hc => (canGrant_iff.mp hc).elim hst.1 hst.2)
    cases sweep with
    | false =>
      refine completes_accepted h (by decide) (Eq.refl (execQuietReq p [1, 1, 0] s)) fun u hu =>
        ⟨u.springDiag p [2, 1], ?_, by simp, by simp, refusal_answers hu hst.2 [2, 1]⟩
      simp [byteAt, hcan u hu, fld]
    | true =>
      refine completes_accepted h (by decide) (Eq.refl (execSweepReq p [3, 4] s)) fun u hu =>
        ⟨u.springDiag p [4, 1], ?_, by simp, by simp, refusal_answers hu hst.2 [4, 1]⟩
      simp [byteAt, hcan u hu]
  case quietAck =>
    intro s p d h hd hw ht hleft halone
    refine completes_accepted h (by decide) (Eq.refl (execQuietAck p [2, 0] s)) fun u hu => ?_
    have hud : (u.port p).diag = some d := hu.1.diag.trans hd
    have hualone (r : PortId) (hr : r ≠ p) : (u.port r).diag = none := by
      rw [hu.2.1.1 r (by simpa using hr), halone r hr]
    refine ⟨_, (if_pos rfl).trans (quietOver_tdr hud hw ht hleft hualone true), rfl, rfl, modDiag_step hu ?_
      ((portStep_modPort u p _).trans (portStep_modPort _ p _))⟩
    rw [port_modPort_self, State.quietAnswered, port_modPort_self]
    rfl
  case sweepAck =>
    intro s p d h hd hleft hb hs
    refine completes_accepted h (by decide) (Eq.refl (execSweepAck p [4, 0] s)) fun u hu => ?_
    have hud : (u.port p).diag = some d := hu.1.diag.trans hd
    have hruns : (u.port p).ilRuns false = true := by simp [Port.ilRuns, hud, hleft, hb, hs]
    refine ⟨_, (if_neg (by rw [hruns]; decide)).trans (if_pos (by decide)), rfl, rfl,
      modDiag_step hu ?_ (portStep_modPort u p _)⟩
    rw [port_modPort_self, hud]
    rfl
  case sweepDone =>
    intro s p h
    refine completes_accepted h (by decide) (Eq.refl (execSweepDone p s)) fun u hu => ⟨u, rfl, rfl, rfl, ?_⟩
    obtain ⟨hport, hstep, -⟩ := hu
    obtain ⟨htx, -⟩ := springKick_transmits u p
    exact ⟨htx.diag.trans hport.diag, fun hst => htx.link.trans (hport.link hst), htx.rxBusy.trans hport.rxBusy,
      htx.rssi.trans hport.rssi, hstep.trans (portStep_springKick u p)⟩
  case quietEnd =>
    intro s p g i hl hg hq hprior hst hi
    have hheld : (s.port p).quietHeld = true := by rw [Port.quietHeld, hg]; simp [hq]
    obtain ⟨rfl, h⟩ | rfl := hi
    · refine completes_accepted h (by decide) (Eq.refl (execDiagEnd p s)) fun u hu => ?_
      obtain ⟨hport, hstep, -⟩ := hu
      have hug : (u.port p).grant = some g := hport.grant.trans hg
      obtain ⟨hend, hnone, -⟩ := ungranted_port u p
      obtain ⟨htx, -⟩ := springKick_transmits (u.ungranted p) p
      obtain ⟨hports, -, hmost⟩ := (hstep.trans (portStep_ungranted u p)).trans (portStep_springKick _ p)
      refine ⟨u.ungranted p, ?_, by simp [State.ungranted], by simp [State.ungranted], htx.grant.trans hnone,
        (congrArg Link.state htx.link).trans hend, hports, hmost⟩
      rw [if_pos (by rw [Port.quietHeld, hug]; simp [hq]), grantEnd_disabled hug hprior (hport.state.trans hst)]
    · obtain ⟨hend, hnone, -⟩ := ungranted_port s p
      obtain ⟨hports, -, hmost⟩ := portStep_ungranted s p
      exact completes_of_effect hl (Eq.refl (execQuietDurationExpiry p s))
        ((if_pos hheld).trans (grantEnd_disabled hg hprior hst)) (by simp [State.ungranted])
        (by simp [State.ungranted]) ⟨hnone, hend, hports, hmost⟩
  case sweepStart =>
    intro s p g n hl hg hn
    refine completes_of_effect hl (Eq.refl (execSweepStartDelay p s)) rfl rfl rfl ⟨?_, portsKept_modPort s p _, rfl⟩
    rw [port_modPort_self, hg]
    simp [hn]
  case sweepEnd =>
    intro s p g hl hg hs hprior hst
    have htx := springDue_transmits s p { typ := .diag, payload := [5] }
    have htg : ((s.springDiag p [5]).port p).grant = some g := htx.1.grant.trans hg
    have htst : (s.springDiag p [5]).pst p = .test := (congrArg Link.state htx.1.link).trans hst
    obtain ⟨hend, hnone, -⟩ := ungranted_port (s.springDiag p [5]) p
    refine completes_of_effect hl (Eq.refl (execSweepDurationEnd p s)) (t := (s.springDiag p [5]).ungranted p) ?_
      (by simp [State.ungranted]) (by simp [State.ungranted])
      ⟨hnone, hend, ungranted_sends_diag (springDiag_sends s p [5]),
        portsKept_trans htx.2.1 (portStep_ungranted _ p).1, by simp [State.sidesKept, State.hubKept, State.ungranted]⟩
    rw [hg]
    dsimp only
    rw [if_pos hs, grantEnd_disabled htg hprior htst]

end Sys2Proof.Machine
end

section
/-! O23 and O24 fail, each in a state that its hypotheses let through. -/

namespace Sys2Proof.Machine

/-! ## A fingerprint that is saved for a record that is complete already -/

/-- The quiet device, port 5's slot empty, with a record of CMD_FP_SAVE that has its completion's tick and has not
acted. -/
def doneSaveState : State :=
  { quietState with cmds := [{ hdr := headerFor 1 (.port 5), op := .fpSave, doneTick := some 0 }] }

/-- Refutes O23: its third clause says of every state with the command's checks passed that a CMD_FP_SAVE of an
empty slot ends ST_REFUSED. In `doneSaveState` the record that waits for the command is complete already, and takes no
status (R298). No command makes such a record, but `runsOn` asks of one that waits only that its form is good. -/
theorem not_fingerprintMoves : ¬ Obligations.FingerprintMoves := by
  unfold Obligations.FingerprintMoves
  rintro ⟨-, -, hempty, -⟩
  obtain ⟨t, ht, hend, -⟩ := hempty doneSaveState (headerFor 1 (.port 5)) 5 0 (by decide +kernel) (by decide +kernel)
    (by decide +kernel)
  exact not_ended_of_after ht (by decide +kernel) hend

/-! ## A run that returns its port to LISTENING -/

/-- A run on port 0 whose only test is IL, its sweep asked for and not yet answered; its turn found the port in
LISTENING (R233, R241). -/
def askedSweep : Diag :=
  { key := { ring := 0, cid := 1, serial := 0 }, addr := 0x10000, tests := 0x10, nvp := 700, left := [.il],
    begun := true, inTest := true, sweep := true, prior := .listening, pstate := .listening, rung := 0, partner := 0,
    start := 0, deskew := 0, pairs := [{}, {}, {}, {}] }

/-- Port 0 in TEST for that run, its partner one that advertised DIAG. -/
def askedSweepState : State :=
  withPortZero { rejoiningPort { state := .test } with
    spring := { tailWithEntry with pcap := some ([1, 0, 0, 0, 4] ++ zeros 19) }, diag := some askedSweep }

/-- Refutes O24: its last clause says that the pins, PF0's MSI-X table among them, are as before a sweep that is not
answered in the run's last test. In `askedSweepState` the end of the run takes the port back to LISTENING (R233), where
its session ends and the entry of it completes; vector 0 of PF0 is pending after it (R206, R224, R306). -/
theorem not_cableTests : ¬ Obligations.CableTests := by
  unfold Obligations.CableTests
  rintro ⟨-, -, -, hsweep⟩
  obtain ⟨t, ht, -, -, -, hkept, -⟩ := hsweep askedSweepState 0 askedSweep false (by decide +kernel)
    (by decide +kernel) (by decide +kernel) (by decide +kernel) (by decide +kernel) (by decide +kernel)
    (by decide +kernel) (by decide +kernel)
  exact not_hubKept_of_pending ht (by decide +kernel) (by decide +kernel) hkept

end Sys2Proof.Machine
end

section
/-! O22 fails: CMD_LANE_CONFIG of one port may touch the MSI-X table of PF0 by what it takes from another. -/

namespace Sys2Proof.Machine

/-- Port 0 in LISTENING on lanes 0 and 1, its session as tail begun before LINKCTL.ROLE was set to HEAD. -/
def sharedLanesState : State := withPortZero (rejoiningPort { state := .listening })

/-- An entry of CMD_LANE_CONFIG that maps lanes 0 and 1 and binds no rung (R278, R321). -/
def takingEntry : LaneCfg := { hostmap0 := 0, hostmap1 := 0, lanemap := 0x860, flags := 0, pad := 0 }

/-- Refutes O22: its first clause says that the pins, PF0's MSI-X table among them, are as before a CMD_LANE_CONFIG of
a DISABLED port. In `sharedLanesState` port 5 takes the lanes of port 0, which enters LISTENING afresh (R264); its
session ends there and the entry of it completes, so vector 0 of PF0 is pending after it (R206, R224, R306). -/
theorem not_lanesAndLoopback : ¬ Obligations.LanesAndLoopback := by
  unfold Obligations.LanesAndLoopback
  rintro ⟨hconfig, -⟩
  obtain ⟨t, ht, -, -, -, hkept⟩ := hconfig sharedLanesState (headerFor 1 (.port 5)) 5 takingEntry
    (by decide +kernel) (by decide +kernel) (by decide +kernel) (by decide +kernel) (by decide +kernel)
  exact not_hubKept_of_pending ht (by decide +kernel) (by decide +kernel) hkept

end Sys2Proof.Machine
end

section
/-! What the loss, the lock and the PLLs of host lanes leave of ports and lanes (R261, R266, R271, R272, R390). -/

namespace Sys2Proof.Machine

/-! ## LPI at the host side that ends -/

/-- LPI from the host side has ended at port p: a STILL port may be UP again, and what goes toward the ASIC, the
other ports and the events due are as before (R164, R169, R174). -/
structure State.LpiEnds (s t : State) (p : PortId) : Prop where
  host : (t.port p).host = (s.port p).host
  lpi : (t.port p).still.lpi = false
  pst : t.pst p = s.pst p ∨ t.pst p = .up
  ports : s.portsKept t [p]
  due : s.due ⊆ t.due
  now : t.now = s.now

theorem due_subset_raise (s : State) (c : Ev) (e : Elem) (fs : List (Nat × Nat × Nat)) :
    s.due ⊆ (s.raise c e fs).due := fun _ => mem_insertEv_of_mem

theorem hasDue_of_subset {s t : State} (h : s.due ⊆ t.due) {c : Ev} {e : Elem} {b : Nat}
    (hs : s.hasDue c e b = true) : t.hasDue c e b = true := by
  obtain ⟨x, hx, hb⟩ := List.any_eq_true.mp hs
  exact List.any_eq_true.mpr ⟨x, h hx, hb⟩

/-- A change of port p's Still that ends LPI. -/
theorem lpiEnds_modStill (s : State) (p : PortId) {f : Still → Still} (h : (f (s.port p).still).lpi = false) :
    s.LpiEnds (s.modStill p f) p where
  host := by simp [State.modStill]
  lpi := by simpa [State.modStill] using h
  pst := .inl (by simp [State.pst, State.modStill])
  ports := portsKept_modPort s p _
  due := List.Subset.refl _
  now := rfl

theorem State.LpiEnds.trans {s t u : State} {p : PortId} (h : s.LpiEnds t p) (h' : t.LpiEnds u p) :
    s.LpiEnds u p where
  host := h'.host.trans h.host
  lpi := h'.lpi
  pst := h'.pst.elim (fun e => e ▸ h.pst) .inr
  ports := portsKept_trans h.ports h'.ports
  due := List.Subset.trans h.due h'.due
  now := h'.now.trans h.now

/-- R169. A wake cause leaves LOCAL_LPI as it is. -/
theorem lpiEnds_stillWake {s : State} {p : PortId} (w : WakeBy) (h : (s.port p).still.lpi = false) :
    s.LpiEnds (s.stillWake p w) p := by
  have hself : s.LpiEnds s p := ⟨rfl, h, .inl rfl, fun _ _ => rfl, List.Subset.refl _, rfl⟩
  unfold State.stillWake
  dsimp only
  split
  · split
    · exact hself
    · exact lpiEnds_modStill s p h
  · split
    · exact lpiEnds_modStill s p h
    · exact hself

/-- R174. The transmit direction of a standard-rung line leaves LPI: a STILL port is UP. -/
theorem lpiEnds_lineLpi (s : State) (p : PortId) : s.LpiEnds (s.lineLpi p false false) p := by
  unfold State.lineLpi
  dsimp only
  generalize ht : (s.modPort p _).modPort p _ = t
  have hstep : s.LpiEnds t p ∧ (t.port p).still.txLpi = false := by
    subst ht
    exact ⟨⟨by simp [Port.hostLpi], by simp [Port.hostLpi], .inl (by simp [State.pst, Port.hostLpi]),
      portsKept_trans (portsKept_modPort s p _) (portsKept_modPort _ p _), List.Subset.refl _, rfl⟩, by simp⟩
  obtain ⟨hends, htx⟩ := hstep
  rw [htx, Bool.false_and, Bool.false_and, if_neg Bool.false_ne_true]
  split
  · refine hends.trans ⟨?_, ?_, .inr ?_, portsKept_trans (portsKept_modPort t p _) (portStep_raise _ p _ _ _).1,
      due_subset_raise _ _ _ _, rfl⟩
    · simp [State.modLink]
    · simpa [State.modLink] using hends.lpi
    · simp [State.pst, State.modLink]
  · exact hends

/-- R164, R169, R174. A block other than LPI that starts no frame. -/
theorem lpiEnds_nonLpi (s : State) (p : PortId) : s.LpiEnds (s.nonLpi p false) p := by
  have h : s.LpiEnds (s.modStill p fun l => { l with lpi := false, cond := false }) p := lpiEnds_modStill s p rfl
  unfold State.nonLpi
  dsimp only
  rw [Bool.false_and, if_neg Bool.false_ne_true]
  split
  · exact h
  split
  · exact h.trans (lpiEnds_stillWake .host h.lpi)
  split
  · exact h.trans (lpiEnds_lineLpi _ p)
  · exact h

/-! ## A lane that loses lock, port by port -/

/-- R271. What a lost lane has made of a port that used it: its cause, and where the port was UP or STILL its event,
the end of LPI and the loss. -/
def State.losesLane (s t : State) (p : PortId) (c : BitVec 3) : Prop :=
  (t.port p).host.lastCause = c ∧ (t.pst p = s.pst p ∨ t.pst p = .up) ∧
    (s.pst p = .up ∨ s.pst p = .still → (t.port p).host.lost = true ∧ (t.port p).still.lpi = false ∧
      t.hasDue .laneLockLost (.port p) 1 = true)

theorem laneEvent_port (s : State) (p : PortId) (flag lane : Nat) (i : PortId) :
    (s.laneEvent p flag lane).port i = s.port i := rfl

theorem laneEvent_portsKept (s : State) (p : PortId) (flag lane : Nat) : s.portsKept (s.laneEvent p flag lane) [p] :=
  (portStep_raise s p _ _ _).1

/-- R271. A linked port's loss, with its event. -/
def State.lossNoted (s : State) (p : PortId) (l : LaneId) (c : BitVec 3) : State :=
  ((s.modHost p fun h => { h with lastCause := c }).modHost p fun h => { h with lost := true }).laneEvent p 1
    (l.val % 32)

theorem lossNoted_port (s : State) (p : PortId) (l : LaneId) (c : BitVec 3) :
    (s.lossNoted p l c).port p = { s.port p with host := { (s.port p).host with lastCause := c, lost := true } } := by
  simp [State.lossNoted, State.laneEvent, State.modHost]

theorem lossNoted_portsKept (s : State) (p : PortId) (l : LaneId) (c : BitVec 3) :
    s.portsKept (s.lossNoted p l c) [p] :=
  portsKept_trans (portsKept_trans (portsKept_modPort s p _) (portsKept_modPort _ p _)) (laneEvent_portsKept _ p 1 _)

theorem laneEvent_hasDue (s : State) (p : PortId) (lane : Nat) {flag : Nat} (h : flag < 256) :
    (s.laneEvent p flag lane).hasDue .laneLockLost (.port p) flag = true := hasDue_raise _ _ _ h (by simp)

theorem linked_iff {q : Port} : q.linked = true ↔ q.link.state = .up ∨ q.link.state = .still := by
  simp [Port.linked]

/-- R271. A lost lane ends LPI at a linked port. -/
theorem laneLostPort_linked {s : State} {p : PortId} (l : LaneId) (c : BitVec 3) (h : (s.port p).linked = true) :
    (s.lossNoted p l c).LpiEnds (s.laneLostPort p l c) p := by
  have hl : ((s.modHost p fun h => { h with lastCause := c }).port p).linked = true := by
    simpa [State.modHost, Port.linked] using h
  unfold State.laneLostPort
  dsimp only
  rw [if_pos hl]
  split
  · exact lpiEnds_nonLpi _ p
  · exact lpiEnds_modStill _ p rfl

/-- R272. At a port without a link it leaves the cause, and an event where the link went down in this tick. -/
theorem laneLostPort_unlinked {s : State} {p : PortId} (l : LaneId) (c : BitVec 3) (h : ¬(s.port p).linked = true) :
    s.laneLostPort p l c =
      let t := s.modHost p fun h => { h with lastCause := c }
      if s.downNow p then t.laneEvent p 1 (l.val % 32) else t := by
  have hl : ¬((s.modHost p fun h => { h with lastCause := c }).port p).linked = true := by
    simpa [State.modHost, Port.linked] using h
  exact if_neg hl

theorem laneLostPort_spec (s : State) (p : PortId) (l : LaneId) (c : BitVec 3) :
    s.losesLane (s.laneLostPort p l c) p c ∧ s.portsKept (s.laneLostPort p l c) [p] ∧
      s.due ⊆ (s.laneLostPort p l c).due ∧ (s.laneLostPort p l c).now = s.now := by
  by_cases h : (s.port p).linked = true
  · obtain ⟨hhost, hlpi, hpst, hports, hdue, hnow⟩ := laneLostPort_linked l c h
    have hp : (s.lossNoted p l c).pst p = s.pst p := by rw [State.pst, lossNoted_port]; rfl
    rw [lossNoted_port] at hhost
    refine ⟨⟨by rw [hhost], by rwa [hp] at hpst, fun _ => ⟨by rw [hhost], hlpi, ?_⟩⟩, ?_, ?_, hnow⟩
    · exact hasDue_of_subset hdue (laneEvent_hasDue _ p _ (by decide))
    · exact portsKept_trans (lossNoted_portsKept s p l c) hports
    · exact List.Subset.trans (due_subset_raise _ _ _ _) hdue
  · have hu : ¬(s.pst p = .up ∨ s.pst p = .still) := mt linked_iff.mpr h
    rw [laneLostPort_unlinked l c h]
    dsimp only
    split
    · exact ⟨⟨by simp [State.laneEvent, State.modHost], .inl (by simp [State.pst, State.laneEvent, State.modHost]),
        fun hl => absurd hl hu⟩, portsKept_trans (portsKept_modPort s p _) (laneEvent_portsKept _ p 1 _),
        due_subset_raise _ _ _ _, rfl⟩
    · exact ⟨⟨by simp [State.modHost], .inl (by simp [State.pst, State.modHost]), fun hl => absurd hl hu⟩,
        portsKept_modPort s p _, List.Subset.refl _, rfl⟩

/-- R271. Each of the ports notes the loss for itself. -/
theorem forAll_laneLostPort (l : LaneId) (c : BitVec 3) {ps : List PortId} (hd : ps.Nodup) (s : State) :
    (∀ p ∈ ps, s.losesLane (forAll ps (fun p t => t.laneLostPort p l c) s) p c) ∧
      s.portsKept (forAll ps (fun p t => t.laneLostPort p l c) s) ps ∧
      s.due ⊆ (forAll ps (fun p t => t.laneLostPort p l c) s).due ∧
      (forAll ps (fun p t => t.laneLostPort p l c) s).now = s.now := by
  induction ps generalizing s with
  | nil => exact ⟨by simp, fun _ _ => rfl, List.Subset.refl _, rfl⟩
  | cons p ps ih =>
    obtain ⟨hp, hd⟩ := List.nodup_cons.mp hd
    obtain ⟨⟨hcause, hpst, hlink⟩, hkept, hdue, hnow⟩ := laneLostPort_spec s p l c
    obtain ⟨hall, hkept', hdue', hnow'⟩ := ih hd (s.laneLostPort p l c)
    rw [forAll_cons]
    refine ⟨?_, ?_, List.Subset.trans hdue hdue', hnow'.trans hnow⟩
    · intro i hi
      obtain rfl | hi := List.mem_cons.mp hi
      · rw [State.losesLane, State.pst, hkept' i hp]
        exact ⟨hcause, hpst, fun h => ⟨(hlink h).1, (hlink h).2.1, hasDue_of_subset hdue' (hlink h).2.2⟩⟩
      · have hne : i ∉ [p] := fun h => hp (List.mem_singleton.mp h ▸ hi)
        have hs := hall i hi
        rwa [State.losesLane, State.pst, State.pst, hkept i hne] at hs
    · intro i hi
      exact (hkept' i (List.not_mem_of_not_mem_cons hi)).trans (hkept i (by simpa using List.ne_of_not_mem_cons hi))

end Sys2Proof.Machine
end

section
/-! O60: host lanes and lane PLLs that lose lock and gain it, and the statement. -/

namespace Sys2Proof.Machine

/-! ## A lane that loses lock -/

/-- R271, R482. A lane that has lost lock, which one that had it counts. -/
def Lane.lost (x : Lane) (now : Nat) : Lane :=
  { x with locked := false, adapting := true, cnt := if x.locked then x.cnt.add now 3 1 else x.cnt }

/-- R271. The loss of a lane without lock concerns no port. -/
theorem laneLost_unlocked {s : State} {l : LaneId} (c : BitVec 3) (h : (s.lane l).locked = false) :
    s.laneLost l c = s.modLane l fun x => { x with locked := false, adapting := true } :=
  if_neg (ne_true_of_eq_false h)

theorem laneLost_locked {s : State} {l : LaneId} (c : BitVec 3) (h : (s.lane l).locked = true) :
    s.laneLost l c = forAll (s.laneLosers l) (fun p t => t.laneLostPort p l c)
      ((s.modLane l fun x => { x with locked := false, adapting := true }).countLane l 3 1) :=
  if_pos h

theorem laneLosers_nodup (s : State) (l : LaneId) : (s.laneLosers l).Nodup := (portsOf_nodup _).filter _

/-- R271, R482. Of the lanes only the one that is lost changes. -/
theorem laneLost_lane (s : State) (l : LaneId) (c : BitVec 3) (i : LaneId) :
    (s.laneLost l c).lane i = if i = l then (s.lane l).lost s.now else s.lane i := by
  by_cases h : (s.lane l).locked = true
  · rw [laneLost_locked c h, lane_of_lanes (forAll_lanes _ _ _ (by simp)), State.countLane, lane_modLane,
      lane_modLane_self]
    split
    · simp [Lane.lost, h]
    · next hi => rw [lane_modLane_ne _ _ _ _ hi]
  · rw [Bool.not_eq_true] at h
    rw [laneLost_unlocked c h, lane_modLane]
    simp [Lane.lost, h]

/-- R271. Each port that used a locked lane notes its loss, and no other does. -/
theorem laneLost_ports {s : State} {l : LaneId} (c : BitVec 3) (h : (s.lane l).locked = true) :
    (∀ p ∈ s.laneLosers l, s.losesLane (s.laneLost l c) p c) ∧ s.portsKept (s.laneLost l c) (s.laneLosers l) ∧
      (s.laneLost l c).now = s.now := by
  obtain ⟨hall, hkept, -, hnow⟩ := forAll_laneLostPort l c (laneLosers_nodup s l)
    ((s.modLane l fun x => { x with locked := false, adapting := true }).countLane l 3 1)
  rw [laneLost_locked c h]
  exact ⟨hall, hkept, hnow⟩

theorem laneLost_now (s : State) (l : LaneId) (c : BitVec 3) : (s.laneLost l c).now = s.now := by
  by_cases h : (s.lane l).locked = true
  · exact (laneLost_ports c h).2.2
  · rw [laneLost_unlocked c (Bool.eq_false_of_not_eq_true h)]; rfl

/-- R271. A lane's loss stays in its bed. -/
theorem laneLost_portsKept (s : State) (l : LaneId) (c : BitVec 3) :
    s.portsKept (s.laneLost l c) (portsOf (bedOfLane l)) := by
  by_cases h : (s.lane l).locked = true
  · exact fun p hp => (laneLost_ports c h).2.1 p (mt List.mem_of_mem_filter hp)
  · rw [laneLost_unlocked c (Bool.eq_false_of_not_eq_true h)]
    exact fun _ _ => rfl

/-! ## A lane PLL -/

/-- R272. A lane whose PLL has lost lock is lost with cause PLL, and its egress idle. -/
def State.laneUnclocked (s : State) (l : LaneId) : State :=
  (s.laneLost l 5).modLane l fun x => { x with idle := true }

theorem laneUnclocked_lane (s : State) (l i : LaneId) :
    (s.laneUnclocked l).lane i = if i = l then { (s.lane l).lost s.now with idle := true } else s.lane i := by
  rw [State.laneUnclocked, lane_modLane, laneLost_lane, laneLost_lane, if_pos rfl]
  split <;> rfl

/-- R272. Each lane of a list without repetition is lost once, in the tick in progress. -/
theorem forAll_laneUnclocked {b : BedId} {ls : List LaneId} (hd : ls.Nodup) (hb : ∀ l ∈ ls, bedOfLane l = b)
    (s : State) :
    (∀ i, (forAll ls (fun l t => t.laneUnclocked l) s).lane i =
        if i ∈ ls then { (s.lane i).lost s.now with idle := true } else s.lane i) ∧
      s.portsKept (forAll ls (fun l t => t.laneUnclocked l) s) (portsOf b) ∧
      (forAll ls (fun l t => t.laneUnclocked l) s).now = s.now := by
  induction ls generalizing s with
  | nil => exact ⟨fun _ => rfl, fun _ _ => rfl, rfl⟩
  | cons l ls ih =>
    obtain ⟨hl, hd⟩ := List.nodup_cons.mp hd
    obtain ⟨hlane, hkept, hnow⟩ := ih hd (fun i hi => hb i (List.mem_cons_of_mem _ hi)) (s.laneUnclocked l)
    have hnow1 : (s.laneUnclocked l).now = s.now := laneLost_now s l 5
    have hkept1 : s.portsKept (s.laneUnclocked l) (portsOf b) := hb l List.mem_cons_self ▸ laneLost_portsKept s l 5
    rw [forAll_cons]
    refine ⟨fun i => ?_, portsKept_trans hkept1 hkept, hnow.trans hnow1⟩
    rw [hlane, hnow1, laneUnclocked_lane]
    by_cases h : i = l
    · subst h; simp [hl]
    · simp [h]

theorem forAll_laneUnclocked_kept (ls : List LaneId) (s : State) :
    s.mostKept (forAll ls (fun l t => t.laneUnclocked l) s) ∧
      (forAll ls (fun l t => t.laneUnclocked l) s).beds = s.beds ∧
      (forAll ls (fun l t => t.laneUnclocked l) s).pending = s.pending := by
  simp -implicitDefEqProofs [State.mostKept, State.hubKept, State.laneUnclocked]

theorem pllLanes_nodup (s : State) (b : BedId) (k : Fin 2) : (s.pllLanes b k).Nodup := (lanesOf_nodup b).filter _

theorem bedOfLane_of_pllLanes {s : State} {b : BedId} {k : Fin 2} {l : LaneId} (h : l ∈ s.pllLanes b k) :
    bedOfLane l = b := mem_lanesOf.mp (List.mem_of_mem_filter h)

/-- The lock of a lane PLL of a bed. -/
def State.pllLocks (s : State) (b : BedId) (k : Fin 2) (lock : Bool) : State :=
  s.modPow b fun w => { w with laneLock := upd w.laneLock k.val lock }

theorem pllLocks_bed (s : State) (b : BedId) (k : Fin 2) (lock : Bool) :
    (s.pllLocks b k lock).bed b = { s.bed b with pow := { (s.bed b).pow with
      laneLock := upd (s.bed b).pow.laneLock k.val lock } } := bed_modBed_self s b _

theorem completes_lanePllLockLost {s : State} {b : BedId} {k : Fin 2} {P : State → Prop} (hl : s.live = true)
    (h : (s.bed b).pow.laneLock[k.val]? = some true)
    (hP : P (forAll (s.pllLanes b k) (fun l t => t.laneUnclocked l) (s.pllLocks b k false))) :
    Completes (.lanePllLockLost b k) s P := by
  obtain ⟨-, -, hpending⟩ := forAll_laneUnclocked_kept (s.pllLanes b k) (s.pllLocks b k false)
  obtain ⟨-, -, hnow⟩ := forAll_laneUnclocked (pllLanes_nodup s b k) (fun _ => bedOfLane_of_pllLanes)
    (s.pllLocks b k false)
  refine completes_of_effect hl (Eq.refl (execLanePllLockLost b k s)) (if_neg ?_) hpending hnow hP
  simp [List.getD_eq_getElem?_getD, h]

/-- Changes of lanes change nothing else. -/
theorem forAll_modLane_eq (ls : List LaneId) (f : LaneId → Lane → Lane) (s : State) :
    forAll ls (fun l t => t.modLane l (f l)) s =
      { s with lanes := (forAll ls (fun l t => t.modLane l (f l)) s).lanes } := by
  induction ls generalizing s with
  | nil => rfl
  | cons l ls ih => rw [forAll_cons, ih]; rfl

/-- R390. A lane PLL locks, and the egress of its lanes runs. -/
def State.pllRuns (s : State) (b : BedId) (k : Fin 2) : State :=
  forAll (s.pllLanes b k) (fun l t => t.modLane l fun x => { x with idle := false }) (s.pllLocks b k true)

theorem pllRuns_lane (s : State) (b : BedId) (k : Fin 2) (i : LaneId) :
    (s.pllRuns b k).lane i = if i ∈ s.pllLanes b k then { s.lane i with idle := false } else s.lane i :=
  lane_forAll_modLane (pllLanes_nodup s b k) (fun _ x => { x with idle := false }) (s.pllLocks b k true) i

theorem pllRuns_eq (s : State) (b : BedId) (k : Fin 2) :
    s.pllRuns b k = { s.pllLocks b k true with lanes := (s.pllRuns b k).lanes } :=
  forAll_modLane_eq (s.pllLanes b k) (fun _ x => { x with idle := false }) (s.pllLocks b k true)

theorem pllRuns_beds (s : State) (b : BedId) (k : Fin 2) : (s.pllRuns b k).beds = (s.pllLocks b k true).beds := by
  rw [pllRuns_eq]

theorem completes_lanePllLock {s : State} {b : BedId} {k : Fin 2} {P : State → Prop} (hl : s.live = true)
    (hon : (s.bed b).pow.on = true) (hfam : (s.bed b).pow.laneFam.getD k.val 0 ≠ 0)
    (hreset : (s.bed b).pow.inReset = false) (hP : P (s.pllRuns b k)) : Completes (.lanePllLock b k) s P := by
  refine completes_of_effect (t := s.pllRuns b k) hl (Eq.refl (execLanePllLock b k s)) (if_neg ?_) ?_ ?_ hP
  · rw [hon, hreset, decide_eq_false hfam]
    decide
  · rw [pllRuns_eq]; rfl
  · rw [pllRuns_eq]; rfl

/-! ## A lane that gains lock -/

/-- R271. A port's ingress that is up again where it was lost. -/
theorem laneGainedPort_port (s : State) (p : PortId) (l : LaneId) :
    (s.laneGainedPort p l).port p = { s.port p with host := { (s.port p).host with
      lost := (s.port p).host.lost && !s.ingressUp p } } := by
  unfold State.laneGainedPort
  dsimp only
  by_cases h : ((s.port p).host.lost && s.ingressUp p) = true
  · obtain ⟨hlost, hup⟩ := Bool.and_eq_true_iff.mp h
    rw [if_pos h, ite_port, laneEvent_port, ite_self, State.modHost, port_modPort_self, hlost, hup]
    rfl
  · have hkeep : ∀ a b : Bool, ¬(a && b) = true → (a && !b) = a := by decide
    rw [if_neg h, hkeep _ _ h]

theorem laneGainedPort_portsKept (s : State) (p : PortId) (l : LaneId) : s.portsKept (s.laneGainedPort p l) [p] := by
  unfold State.laneGainedPort
  dsimp only
  split
  · split
    · exact portsKept_trans (portsKept_modPort s p _) (laneEvent_portsKept _ p 0 _)
    · exact portsKept_modPort s p _
  · exact fun _ _ => rfl

/-- R271. A linked port reports its ingress up again. -/
theorem laneGainedPort_hasDue {s : State} {p : PortId} (l : LaneId) (hlost : (s.port p).host.lost = true)
    (hup : s.ingressUp p = true) (hlink : (s.port p).linked = true) :
    (s.laneGainedPort p l).hasDue .laneLockLost (.port p) 0 = true := by
  have h : s.laneGainedPort p l = (s.modHost p fun h => { h with lost := false }).laneEvent p 0 (l.val % 32) :=
    (if_pos (by rw [hlost, hup]; rfl)).trans (if_pos hlink)
  rw [h]
  exact laneEvent_hasDue _ p _ (by decide)

/-- R266. Whether the ingress is up does not depend on what has been noted of its loss. -/
theorem laneGainedPort_ingressUp (s : State) (p : PortId) (l : LaneId) :
    (s.laneGainedPort p l).ingressUp p = s.ingressUp p := by
  unfold State.ingressUp
  rw [laneGainedPort_port, funext (lane_of_lanes (s := s) (t := s.laneGainedPort p l) (by simp))]

/-- R266. A lane of one port locks: the port's skew is noted, and the lane is locked. -/
def State.laneLocks (s : State) (p : PortId) (l : LaneId) (k : Byte) : State :=
  (s.modHost p fun h => { h with skew := k }).modLane l fun x => { x with locked := true, adapting := false }

theorem laneLocks_port (s : State) (p : PortId) (l : LaneId) (k : Byte) :
    (s.laneLocks p l k).port p = { s.port p with host := { (s.port p).host with skew := k } } :=
  port_modPort_self s p fun q => { q with host := { q.host with skew := k } }

theorem laneLocks_portsKept (s : State) (p : PortId) (l : LaneId) (k : Byte) : s.portsKept (s.laneLocks p l k) [p] :=
  portsKept_modPort s p fun q => { q with host := { q.host with skew := k } }

/-- R266, R271. What a gained lock of a lane of one port leads to: too wide a skew is a cause, and the lane stays
without lock; within 40 ns it locks. -/
def State.laneGain (s : State) (p : PortId) (l : LaneId) (k : Byte) : State :=
  if skewTooWide (s.port p).host.mode k then s.modHost p fun h => { h with skew := k, lastCause := 2 }
  else (s.laneLocks p l k).laneGainedPort p l

theorem laneGain_frame (s : State) (p : PortId) (l : LaneId) (k : Byte) :
    (s.laneGain p l k).pending = s.pending ∧ (s.laneGain p l k).now = s.now := by
  unfold State.laneGain
  split
  · exact ⟨rfl, rfl⟩
  · simp [State.laneLocks, State.modHost]

theorem completes_ingressLockGained {s : State} {p : PortId} {l : LaneId} {k : Byte} {P : State → Prop}
    (hl : s.live = true) (hp : s.lanePorts l = [p]) (hidle : (s.lane l).idle = false)
    (hreset : (s.lane l).inReset = false) (hlock : (s.lane l).locked = false) (hP : P (s.laneGain p l k)) :
    Completes (.ingressLockGained l k) s P := by
  obtain ⟨hpending, hnow⟩ := laneGain_frame s p l k
  refine completes_of_effect hl (Eq.refl (execIngressLockGained l k s)) ?_ hpending hnow hP
  have hnote : (s.modHost p fun h => { h with
      skew := k, lastCause := if skewTooWide h.mode k then 2 else h.lastCause }) =
      s.modHost p fun h => { h with
        skew := k, lastCause := if skewTooWide (s.port p).host.mode k then 2 else h.lastCause } := rfl
  dsimp only
  rw [hp, if_neg (by simp [hidle, hreset, hlock]), forAll_cons, forAll_cons, hnote, List.any_cons, List.any_nil,
    Bool.or_false, State.laneGain]
  split
  · rfl
  · rfl

/-- Settles O60, clause by clause: what a loss makes of ports and lanes is said of one lane (`laneLost_ports`,
`laneLost_lane`), and of each lane of a PLL by `forAll_laneUnclocked`; a gained lock is `laneGainedPort`. -/
theorem hostLanes : Obligations.HostLanes := by
  unfold Obligations.HostLanes
  refine ⟨?_, ?_, ?_, ?_, ?_, ?_, ?_⟩
  · intro s l c hl hlock
    obtain ⟨hall, hkept, hnow⟩ := laneLost_ports c hlock
    refine completes_of_effect hl (Eq.refl (execIngressLockLost l c s)) rfl (by simp) hnow
      ⟨?_, fun i hi => ?_, hall, hkept, by simp [State.sidesKept, State.hubKept]⟩
    · rw [laneLost_lane, if_pos rfl, Lane.lost, if_pos hlock]
    · rw [laneLost_lane, if_neg (by simpa using hi)]
  · intro s l c hl hlock
    refine completes_of_effect hl (Eq.refl (execIngressLockLost l c s)) (laneLost_unlocked c hlock) rfl rfl
      ⟨?_, lanesKept_modLane s l _, rfl⟩
    rw [lane_modLane_self, ← hlock]
  · intro s p l k hl hp hidle hreset hlock hskew
    refine completes_ingressLockGained hl hp hidle hreset hlock ?_
    have hport := laneGainedPort_port (s.laneLocks p l k) p l
    have hlanes : ((s.laneLocks p l k).laneGainedPort p l).lanes = (s.laneLocks p l k).lanes := by simp
    rw [laneLocks_port] at hport
    rw [State.laneGain, if_neg (ne_true_of_eq_false hskew), lane_of_lanes hlanes, laneGainedPort_ingressUp, hport]
    refine ⟨lane_modLane_self _ l _, fun i hi => ?_, rfl, fun hlost hup hlink => ?_, rfl,
      portsKept_trans (laneLocks_portsKept s p l k) (laneGainedPort_portsKept _ p l),
      by simp [State.sidesKept, State.hubKept, State.laneLocks, State.modHost]⟩
    · rw [lane_of_lanes hlanes]
      exact lanesKept_modLane (s.modHost p _) l _ i hi
    · refine laneGainedPort_hasDue l ?_ hup ?_
      · rw [laneLocks_port]; exact hlost
      · rw [laneLocks_port]; exact hlink
  · intro s p l k hl hp hidle hreset hlock hskew
    refine completes_ingressLockGained hl hp hidle hreset hlock ?_
    rw [State.laneGain, if_pos hskew, State.modHost, port_modPort_self]
    exact ⟨rfl, portsKept_modPort s p _, rfl⟩
  · intro s p hl
    exact completes_of_effect hl (Eq.refl (execHostModeReady p s)) rfl rfl rfl
      ⟨port_modPort_self s p _, portsKept_modPort s p _, rfl⟩
  · intro s b k hl hlock
    obtain ⟨hlane, hports, -⟩ := forAll_laneUnclocked (pllLanes_nodup s b k) (fun _ => bedOfLane_of_pllLanes)
      (s.pllLocks b k false)
    obtain ⟨hmost, hbeds, -⟩ := forAll_laneUnclocked_kept (s.pllLanes b k) (s.pllLocks b k false)
    refine completes_lanePllLockLost hl hlock ⟨?_, fun l hm => ?_, fun l hm => ?_, fun i hi => ?_, hports, hmost⟩
    · rw [bed_of_beds hbeds, pllLocks_bed]
    · rw [hlane, if_pos hm]; rfl
    · rw [hlane, if_neg hm]; rfl
    · rw [bed_of_beds hbeds]; exact bedsKept_modBed s b _ i hi
  · intro s b k hl hon hfam hreset
    refine completes_lanePllLock hl hon hfam hreset ⟨?_, fun l hm => ?_, fun l hm => ?_, fun i hi => ?_, ?_⟩
    · rw [bed_of_beds (pllRuns_beds s b k), pllLocks_bed]
    · rw [pllRuns_lane, if_pos hm]
    · rw [pllRuns_lane, if_neg hm]
    · rw [bed_of_beds (pllRuns_beds s b k)]; exact bedsKept_modBed s b _ i hi
    · rw [pllRuns_beds]; exact pllRuns_eq s b k

end Sys2Proof.Machine
end

section
/-! The machine right after reset: what State.reset holds of each element. -/

namespace Sys2Proof.Machine

theorem get_mkVec {α : Type} {n : Nat} (f : Fin n → α) (i : Fin n) : (mkVec n f).get i = f i := by
  simp [mkVec, Vector.get_eq_getElem]

theorem reset_port (p : PortId) : State.reset.port p = Port.reset p := get_mkVec _ p

theorem reset_bed (b : BedId) : State.reset.bed b = Bed.reset b := get_mkVec _ b

theorem reset_lane (l : LaneId) : State.reset.lane l = {} := get_mkVec _ l

theorem reset_ring (r : RingId) : State.reset.ring r = {} := get_mkVec _ r

theorem reset_chan (c : ChanId) : State.reset.chan c = {} := get_mkVec _ c

/-- Settles O3, element by element. -/
theorem resetValues : Obligations.ResetValues := by
  unfold Obligations.ResetValues
  refine ⟨rfl, rfl, rfl, rfl, rfl, rfl, rfl, rfl, ?ports, ?rings, ?chans, ?beds, ?lanes, rfl, rfl, rfl, rfl, rfl,
    rfl, rfl, rfl, rfl⟩
  case ports =>
    intro p
    rw [State.pst, reset_port]
    exact ⟨rfl, rfl, rfl⟩
  case rings =>
    intro r
    rw [reset_ring]
    exact ⟨rfl, rfl, rfl⟩
  case chans =>
    intro c
    rw [reset_chan]
    exact ⟨rfl, rfl, rfl⟩
  case beds =>
    intro b
    rw [State.bedOn, reset_bed]
    exact ⟨rfl, rfl⟩
  case lanes =>
    intro l
    rw [reset_lane]

end Sys2Proof.Machine
end

section
/-! O29: a doorbell's index, its errors, and a doorbell of the wrong shape (R287, R290, R291, R309, R371). -/

namespace Sys2Proof.Machine

/-! ## Rings changed in the tick after -/

theorem modRing_modRing (s : State) (r : RingId) (f g : Ring → Ring) :
    (s.modRing r f).modRing r g = s.modRing r fun x => g (f x) := by
  rw [State.modRing, ring_modRing_self, State.modRing, State.modRing, Vector.set_set]

/-- What two effects do alike to a state of the next tick they do alike in it (R408). -/
theorem inNextTick_congr {f g : State → State} {s : State}
    (h : ∀ n c, f { s with now := n, clk := c } = g { s with now := n, clk := c }) :
    inNextTick f s = inNextTick g s := by
  unfold inNextTick
  dsimp only
  rw [h]

/-- R309, R408. A ring that enters ERROR in the next tick raises its event there; rings and due events change. -/
theorem inNextTick_ringError (s : State) (r : RingId) (e : RErr) :
    inNextTick (fun t => t.ringError r e) s = { s.modRing r (fun g => { g with state := .error, err := e }) with
      due := (inNextTick (fun t => t.ringError r e) s).due } := by
  unfold inNextTick State.ringError State.raise
  dsimp only
  simp only [modRing_now, modRing_clk, BitVec.add_sub_cancel]
  rfl

/-- R309, R344. The event of that ERROR names the ring. -/
theorem inNextTick_ringError_hasDue (s : State) (r : RingId) (e : RErr) :
    (inNextTick (fun t => t.ringError r e) s).hasDue .ringError .device r.val = true :=
  hasDue_raise _ .ringError .device (by omega) (by simp)

/-! ## The index of a doorbell (R291) -/

/-- R286. No ring has both ends produce into it. -/
theorem not_hostProduced : ∀ {r : RingId}, devProduced r = true → hostProduced r = false := by decide

section
variable {s : State} {r : RingId} {g : Ring} {v : Word} (hg : s.ring r = g) (hrun : g.state = .run)
include hg

/-- R302. Nothing is written from an empty overflow store. -/
theorem storeDrain_empty (n : Nat) (h : g.store = []) : State.storeDrain n r s = s := by
  cases n with
  | zero => rfl
  | succ n => simp [State.storeDrain, hg, h]

include hrun

theorem bellAct_outOfRange (hi : g.size ≤ fld v 0 16) : s.bellAct r v = s.ringError r .indexRange := by
  simp [State.bellAct, hg, hrun, hi]

theorem bellAct_tail (hp : hostProduced r = true) (hi : fld v 0 16 < g.size)
    (hfree : (fld v 0 16 + g.size - g.tail) % g.size ≤ g.free) :
    s.bellAct r v = s.modRing r fun x => { x with tail := fld v 0 16 } := by
  simp [State.bellAct, hg, hrun, hp, hi.not_ge, hfree]

theorem bellAct_tailOverrun (hp : hostProduced r = true) (hi : fld v 0 16 < g.size)
    (hfree : g.free < (fld v 0 16 + g.size - g.tail) % g.size) :
    s.bellAct r v = s.ringError r .tailOverrun := by
  simp [State.bellAct, hg, hrun, hp, hi.not_ge, hfree.not_ge]

theorem bellAct_headOverrun (hp : devProduced r = true) (hi : fld v 0 16 < g.size)
    (hused : g.used < (fld v 0 16 + g.size - g.head) % g.size) :
    s.bellAct r v = s.ringError r .headOverrun := by
  simp [State.bellAct, hg, hrun, hp, not_hostProduced hp, hi.not_ge, hused.not_ge]

end

/-- R492. No bed's sample record is next where every store is empty. -/
theorem sampleBed_none {s : State} (h : ∀ b, (s.bed b).store = []) : s.sampleBed = none := by
  unfold State.sampleBed
  generalize allBeds = bs
  induction bs with
  | nil => rfl
  | cons b bs ih => rw [List.foldl_cons, h b]; exact ih

theorem sampleDrain_empty {s : State} (n : Nat) (h : ∀ b, (s.bed b).store = []) : State.sampleDrain n s = s := by
  cases n with
  | zero => rfl
  | succ n => rw [State.sampleDrain, sampleBed_none h]

/-- R291. A new head in range moves the head alone where no entry waits in a store for the room it makes. -/
theorem bellAct_head {s : State} {r : RingId} {g : Ring} {v : Word} (hg : s.ring r = g) (hrun : g.state = .run)
    (hp : devProduced r = true) (hstore : g.store = []) (hbeds : ∀ b, (s.bed b).store = [])
    (hi : fld v 0 16 < g.size) (hused : (fld v 0 16 + g.size - g.head) % g.size ≤ g.used) :
    s.bellAct r v = s.modRing r fun x => { x with head := fld v 0 16 } := by
  have hmoved : (s.modRing r fun x => { x with head := fld v 0 16 }).ring r = { g with head := fld v 0 16 } := by
    rw [ring_modRing_self, hg]
  have hdrain : State.sampleDrain 512 (s.modRing r fun x => { x with head := fld v 0 16 }) = _ :=
    sampleDrain_empty 512 hbeds
  simp [State.bellAct, hg, hrun, hp, not_hostProduced hp, hi.not_ge, hused, storeDrain_empty hmoved 512 hstore, hdrain]

/-! ## A doorbell's write (R290) -/

/-- The device with a ring's doorbell dword written and its index not yet acted on. -/
def State.withBell (s : State) (r : RingId) (v : Word) : State := s.modRing r fun g => { g with bell := v }

theorem withBell_ring (s : State) (r : RingId) (v : Word) : (s.withBell r v).ring r = { s.ring r with bell := v } :=
  ring_modRing_self s r _

/-- R290. An awake device's doorbell register takes the value, and the index acts in the next tick. -/
theorem bellWrite_awake {s : State} {r : RingId} {v : Word} (hearly : s.early 11 = false)
    (hmode : s.hub.mode ≠ .dormant) (hentry : s.sluice.entry = false) (hon : s.sluice.hubOn = true) :
    s.bellWrite r v = inNextTick (fun t => t.bellAct r v) (s.withBell r v) := by
  unfold State.bellWrite State.withBell
  rw [if_neg (by rw [hearly]; decide), if_neg (by simp [hmode, hentry, hon])]

/-- R291, R309. A ring that a doorbell of value v has taken to ERROR. -/
def Ring.bellFailed (g : Ring) (v : Word) (e : RErr) : Ring := { g with state := .error, err := e, bell := v }

section
variable {i : Instr} {s : State} {r : RingId} {v : Word} {f : State → State} (hl : s.live = true)
  (he : exec i s = onLive s f) (hf : f s = inNextTick (fun t => t.bellAct r v) (s.withBell r v))
include hl he hf

/-- R291. A doorbell completes whose index changes by x the ring that it finds, and nothing else. -/
theorem completes_bellTaken {x : Ring → Ring}
    (hact : ∀ u : State, u.ring r = { s.ring r with bell := v } → (∀ b, u.bed b = s.bed b) →
      u.bellAct r v = u.modRing r x) :
    Completes i s fun t => t.ring r = x { s.ring r with bell := v } ∧ s.ringsKept t [r] ∧
      t = { s with rings := t.rings } := by
  have ht : f s = s.modRing r fun g => x { g with bell := v } := by
    rw [hf, inNextTick_congr (g := fun t => t.modRing r x) fun n c =>
      hact { s.withBell r v with now := n, clk := c } (withBell_ring s r v) fun _ => rfl]
    rw [inNextTick_modRing, State.withBell, modRing_modRing]
  exact completes_of_effect hl he ht rfl rfl ⟨ring_modRing_self s r _, ringsKept_modRing s r _, rfl⟩

/-- R291, R309. A doorbell completes whose index is an error, its ring in ERROR and the event of it due. -/
theorem completes_bellError {e : RErr}
    (hact : ∀ u : State, u.ring r = { s.ring r with bell := v } → u.bellAct r v = u.ringError r e) :
    Completes i s fun t => t.ring r = { s.ring r with state := .error, err := e, bell := v } ∧
      s.ringsKept t [r] ∧ t.hasDue .ringError .device r.val = true ∧
      t = { s with rings := t.rings, due := t.due } := by
  have ht : f s = { s.modRing r (·.bellFailed v e) with
      due := (inNextTick (fun t => t.ringError r e) (s.withBell r v)).due } := by
    rw [hf, inNextTick_congr (g := fun t => t.ringError r e) fun n c =>
      hact { s.withBell r v with now := n, clk := c } (withBell_ring s r v)]
    conv_lhs => rw [inNextTick_ringError, State.withBell, modRing_modRing]
    rfl
  exact completes_of_effect hl he ht rfl rfl ⟨ring_modRing_self s r (·.bellFailed v e),
    ringsKept_modRing s r (·.bellFailed v e),
    inNextTick_ringError_hasDue (s.withBell r v) r e, rfl⟩

end

/-- Settles O29. The index of each clause does one thing to the ring that it finds in the tick after (R291); the
write of the doorbell register before it is the same for all. -/
theorem doorbells : Obligations.Doorbells := by
  unfold Obligations.Doorbells
  refine ⟨?tail, ?head, ?tailError, ?headError, ?misuse⟩
  case tail =>
    intro s r v hl hp hearly hmode hentry hon hrun hi hfree
    exact completes_bellTaken (i := .hostProducerDoorbell r v) (x := fun g => { g with tail := fld v 0 16 }) hl
      (Eq.refl (execHostProducerDoorbell r v s)) ((if_pos hp).trans (bellWrite_awake hearly hmode hentry hon))
      fun u hg _ => bellAct_tail hg hrun hp hi hfree
  case head =>
    intro s r v hl hp hearly hmode hentry hon hrun hstore hbeds hi hused
    exact completes_bellTaken (i := .deviceConsumerDoorbell r v) (x := fun g => { g with head := fld v 0 16 }) hl
      (Eq.refl (execDeviceConsumerDoorbell r v s)) ((if_pos hp).trans (bellWrite_awake hearly hmode hentry hon))
      fun u hg hb => bellAct_head hg hrun hp hstore (fun b => hb b ▸ hbeds b) hi hused
  case tailError =>
    intro s r v e hl hp hearly hmode hentry hon hrun herr
    refine completes_bellError (i := .hostProducerDoorbell r v) hl (Eq.refl (execHostProducerDoorbell r v s))
      ((if_pos hp).trans (bellWrite_awake hearly hmode hentry hon)) fun u hg => ?_
    obtain ⟨hi, rfl⟩ | ⟨hi, rfl, hfree⟩ := herr
    · exact bellAct_outOfRange hg hrun hi
    · exact bellAct_tailOverrun hg hrun hp hi hfree
  case headError =>
    intro s r v e hl hp hearly hmode hentry hon hrun herr
    refine completes_bellError (i := .deviceConsumerDoorbell r v) hl (Eq.refl (execDeviceConsumerDoorbell r v s))
      ((if_pos hp).trans (bellWrite_awake hearly hmode hentry hon)) fun u hg => ?_
    obtain ⟨hi, rfl⟩ | ⟨hi, rfl, hused⟩ := herr
    · exact bellAct_outOfRange hg hrun hi
    · exact bellAct_headOverrun hg hrun hp hi hused
  case misuse =>
    intro s a hl hearly
    refine completes_of_effect (t := s.accessFault 11 5 a.toNat) hl (Eq.refl (execDoorbellMisuse a s)) ?_ rfl rfl
      ⟨?_, hasDue_raise _ .accessFault .device (by decide) (by simp), rfl⟩
    · rw [if_neg (by rw [hearly]; decide)]
    · change s.hub.fault s.now 11 5 (BitVec.ofNat 32 a.toNat) = _
      rw [BitVec.ofNat_toNat, BitVec.setWidth_eq]

end Sys2Proof.Machine
end

section
/-! O11, O30 and O31 fail, each in a state that its hypotheses let through. -/

namespace Sys2Proof.Machine

/-! ## A USER entry that completes as a cable test is abandoned -/

/-- Port 0 in TEST for the run `askedSweep`, with a USER entry taken, and the PCIe link there. -/
def linkedSweepState : State := { askedSweepState with pins := { askedSweepState.pins with link := true } }

/-- Refutes O11: its first clause says of every state that FLR of PF0 leaves host memory as before. In
`linkedSweepState` the run on port 0 is abandoned and the port goes back to LISTENING (R233, R308), where its session
ends and the USER entry of it completes (R206, R224); its write-back reaches host memory (R303) before the USER
entries are abandoned and the queue is reset. -/
theorem not_functionResets : ¬ Obligations.FunctionResets := by
  unfold Obligations.FunctionResets
  rintro ⟨hflr, -⟩
  obtain ⟨t, ht, -, -, -, -, -, -, -, -, -, hmem, -⟩ := hflr linkedSweepState (by decide +kernel)
    (by decide +kernel)
  have hwritten : (linkedSweepState.after .flrPf0).hostMem ≠ linkedSweepState.hostMem := by decide +kernel
  rw [after_of_exec ht] at hwritten
  exact hwritten hmem

/-! ## A completion whose vector is masked -/

/-- A command on the device that has ended. -/
def endedRec : CmdRec :=
  { hdr := headerFor 1 .device, op := .powerState, started := true, acted := true,
    targets := [{ elem := .device, status := some .ok }], doneTick := some 0 }

/-- The quiet device with that command, its completion ring set up as `signallingQueue` is. -/
def endedCommandState : State :=
  { quietState.modRing (cplRing 0) (fun _ => signallingQueue) with cmds := [endedRec] }

/-- Refutes O30: its last clause says that the pins, PF0's MSI-X table among them, are as before the write of a
completion. In `endedCommandState` the completion is signalled as R306 says, and leaves the pending bit of the
masked vector 0. -/
theorem not_commandQueue : ¬ Obligations.CommandQueue := by
  unfold Obligations.CommandQueue
  rintro ⟨-, -, -, hwrite⟩
  obtain ⟨t, ht, -, -, -, -, hkept, -⟩ := hwrite endedCommandState endedRec (by decide +kernel) (by decide +kernel)
    (by decide +kernel) rfl rfl (by decide +kernel) (by decide +kernel)
  exact not_hubKept_of_pending ht (by decide +kernel) (by decide +kernel) hkept

/-! ## An event whose vector is masked -/

/-- An event of the device: a calibration has ended. -/
def calEvent : Event := { tick := 1000, time := 1000, code := .calDone, src := .device, data := 0 }

/-- The quiet device with that event due, its event ring 0 enabled and set up as `signallingQueue` is. -/
def dueEventState : State :=
  let s := quietState.modRing (evRing 0) fun _ => signallingQueue
  { s with hub := { s.hub with evSeen := true }, due := [calEvent] }

/-- Refutes O31: its last clause says that the pins, PF0's MSI-X table among them, are as before the write of an
event. In `dueEventState` the entry is signalled as R306 says, and leaves the pending bit of the masked vector 0. -/
theorem not_ringControl : ¬ Obligations.RingControl := by
  unfold Obligations.RingControl
  rintro ⟨-, -, -, -, -, hevent⟩
  obtain ⟨t, ht, -, -, -, -, hkept, -⟩ := hevent dueEventState calEvent [] (evRing 0) (by decide +kernel) rfl
    (by decide +kernel) (by decide) (by decide +kernel) (by decide +kernel) (by decide +kernel) (by decide +kernel)
    (by decide +kernel)
  exact not_hubKept_of_pending ht (by decide +kernel) (by decide +kernel) hkept

end Sys2Proof.Machine
end

section
/-! O17, O18, O21 and O27 fail, each in a state that its hypotheses let through: the end of a port's Spring session
completes the USER entries that the port has taken (R208, R224), which shows in the transmit queue of its bed or in
PF0's MSI-X table (R305, R306). -/

namespace Sys2Proof.Machine

/-! ## A session that ends with an entry of a queue disabled since -/

/-- Port 0 UP at CH-100T and PARTNERED, LINKCTL.SPRING_EN = 1. It has taken a USER entry from the transmit queue of its
bed, which has been disabled since (R305). -/
def orphanEntryPort : Port :=
  { cfg := { linkctl := 0x8000, islandEn := true }, link := { state := .up, rung := 9, role := .tail },
    spring := { tailWithEntry with users := [{ idx := 0, phase := true, payload := [], orphan := true }] } }

/-- The device of `burstState` with that port, the transmit queue of bed 0 at rest. -/
def orphanEntryState : State := (withPortZero orphanEntryPort).modRing (sprTxRing 0) fun _ => {}

/-- A command that counts an entry of a ring as lost changes the rings. -/
theorem rings_ne_of_lost {i : Instr} {s t : State} {r : RingId} (ht : exec i s = .next t)
    (ha : ((s.after i).ring r).lost ≠ (s.ring r).lost) : t.rings ≠ s.rings := by
  intro h
  rw [after_of_exec ht] at ha
  exact ha (congrArg (fun v => (v.get r).lost) h)

/-- Refutes O17: its first clause says that the rings are as before a CMD_PORT_CONFIG. In `orphanEntryState` a LINKCTL
with SPRING_EN = 0 ends the session (R63, R208); the entry that it had taken completes, and its write-back is
dropped and counted in LOST of the queue (R305). -/
theorem not_portConfigCommand : ¬ Obligations.PortConfigCommand := by
  unfold Obligations.PortConfigCommand
  rintro ⟨hconfig, -⟩
  obtain ⟨t, ht, -, -, -, -, -, hrings, -⟩ := hconfig orphanEntryState (headerFor 1 (.port 0)) 0 1 0 0 0 0 0
    (by decide +kernel) (by decide +kernel) (by decide +kernel)
  exact rings_ne_of_lost (r := sprTxRing 0) ht (by decide +kernel) hrings

/-- Refutes O21: its second clause says that the rings are as before a CMD_RESET of a port. In `orphanEntryState` the
reset ends the session (R208, R400), and the write-back of the entry is counted as lost (R305). -/
theorem not_resetCommand : ¬ Obligations.ResetCommand := by
  unfold Obligations.ResetCommand
  rintro ⟨-, hport, -⟩
  obtain ⟨t, ht, -, -, -, -, -, -, -, hrings, -⟩ := hport orphanEntryState (headerFor 1 (.port 0)) 0
    (by decide +kernel) (by decide +kernel) (by decide +kernel)
  exact rings_ne_of_lost (r := sprTxRing 0) ht (by decide +kernel) hrings

/-- Refutes O27: its sixth clause says that the rings are as before a CMD_SPRING_CONFIG that sets SPRING_EN. In
`orphanEntryState` SPRING_EN = 0 ends the session (R63, R208), and the write-back of the entry is counted as lost
(R305). -/
theorem not_telemetryAndRegisterCommands : ¬ Obligations.TelemetryAndRegisterCommands := by
  unfold Obligations.TelemetryAndRegisterCommands
  rintro ⟨-, -, -, -, -, henable, -⟩
  obtain ⟨t, ht, -, -, -, -, hrings, -⟩ := henable orphanEntryState (headerFor 1 (.port 0)) 0 0 0 (by decide)
    (by decide +kernel) (by decide +kernel)
  exact rings_ne_of_lost (r := sprTxRing 0) ht (by decide +kernel) hrings

/-! ## A session that ends at an entry to LISTENING -/

/-- Port 0 DISABLED with its Spring session standing. -/
def disabledPartneredState : State := withPortZero (rejoiningPort { state := .disabled })

/-- Refutes O18: its first clause says that the pins, PF0's MSI-X table among them, are as before a CMD_PORT_ENABLE of a
DISABLED port. In `disabledPartneredState` the entry to LISTENING ends the session (R206), and vector 0 of PF0 is
pending after it (R224, R306). -/
theorem not_portEnableDisable : ¬ Obligations.PortEnableDisable := by
  unfold Obligations.PortEnableDisable
  rintro ⟨henable, -⟩
  obtain ⟨t, ht, -, -, -, -, -, -, hkept⟩ := henable disabledPartneredState (headerFor 1 (.port 0)) 0
    (by decide +kernel) (by decide +kernel) (by decide +kernel)
  exact not_hubKept_of_pending ht (by decide +kernel) (by decide +kernel) hkept

end Sys2Proof.Machine
end

section
/-! O16, O25, O26 and O28 fail for the reason that O47 fails: `takes` and `runsOn` ask of the record that waits for a
command only that its form is good, and one that has its completion's tick before its command acts takes no status
(R298). No command makes such a record, but the statements speak of every state. -/

namespace Sys2Proof.Machine

/-- The quiet device with a record of opcode o for element e that has its completion's tick and has not acted. -/
def completeRecState (o : Op) (e : Elem) : State :=
  { quietState with cmds := [{ hdr := headerFor 1 e, op := o, doneTick := some 0 }] }

/-- What is found not to wait for its status after a command does not wait for it in the state that it answers. -/
theorem not_inProgress_of_after {i : Instr} {s t : State} {h : CmdHdr} {o : Op} {e : Elem}
    (ht : exec i s = .next t) (ha : (s.after i).inProgress h o e = false) : t.inProgress h o e ≠ true := by
  rw [← after_of_exec ht, ha]
  exact Bool.false_ne_true

/-- Refutes O16: its sixth clause says that a LEAD with no FOLLOW armed ends ST_OK. Here its record is complete before
it acts. -/
theorem not_estateTime : ¬ Obligations.EstateTime := by
  unfold Obligations.EstateTime
  rintro ⟨-, -, -, -, -, hlead, -⟩
  obtain ⟨t, ht, -, -, -, hend, -⟩ := hlead (completeRecState .estateSync .device) (headerFor 1 .device) 500
    (by decide +kernel) (by decide +kernel) (by decide +kernel) (by decide +kernel)
  exact not_ended_of_after ht (by decide +kernel) hend

/-- Refutes O25: its fourth clause says that a CMD_CAL_STORE with no result pending ends ST_REFUSED. Here its record is
complete before it acts. -/
theorem not_calibrationRuns : ¬ Obligations.CalibrationRuns := by
  unfold Obligations.CalibrationRuns
  rintro ⟨-, -, -, hrefused, -⟩
  obtain ⟨t, ht, hend, -⟩ := hrefused (completeRecState .calStore .device) (headerFor 1 .device) (by decide +kernel)
    (by decide +kernel) (by decide +kernel) (.inl (by decide +kernel))
  exact not_ended_of_after ht (by decide +kernel) hend

/-- Refutes O26: its first clause says that the target of a CMD_BIST_RUN on an idle bed is in progress. Here its record
is complete before it acts; the run begins all the same. -/
theorem not_selfTestAndFuses : ¬ Obligations.SelfTestAndFuses := by
  unfold Obligations.SelfTestAndFuses
  rintro ⟨hrun, -⟩
  obtain ⟨t, ht, -, -, -, -, hwait⟩ := hrun (completeRecState .bistRun (.bed 0)) (headerFor 1 (.bed 0)) 0 2
    (by decide +kernel) (by decide) (by decide) (by decide +kernel)
  exact not_inProgress_of_after ht (by decide +kernel) hwait

/-- Refutes O28: its second clause says that a chunk that is not first while nothing is staged ends ST_BAD_PARAM. Here
its record is complete before it acts. -/
theorem not_securityCommands : ¬ Obligations.SecurityCommands := by
  unfold Obligations.SecurityCommands
  rintro ⟨-, hchunk, -⟩
  obtain ⟨t, ht, hend, -⟩ := hchunk (completeRecState .fwStage .device) (headerFor 1 .device) 0 0 4 (zeros 4)
    (by decide +kernel) (by decide +kernel) (by decide) (by decide) (by decide) (by decide) (.inl (by decide))
  exact not_ended_of_after ht (by decide +kernel) hend

end Sys2Proof.Machine
end

section
/-! What every command keeps of the tick counter and of the anti-rollback fuses (R404, R512). -/

namespace Sys2Proof.Machine

open Sys2Proof

/-- The count of the tick counter and the anti-rollback fuses are as before. -/
@[simp] abbrev State.steady (s t : State) : Prop := t.clk.tick = s.clk.tick ∧ t.sec.svn = s.sec.svn

@[simp] theorem tick_ite (c : Prop) [Decidable c] (a b : Clk) :
    (if c then a else b).tick = if c then a.tick else b.tick := apply_ite Clk.tick c a b

@[simp] theorem svn_ite (c : Prop) [Decidable c] (a b : Sec) :
    (if c then a else b).svn = if c then a.svn else b.svn := apply_ite Sec.svn c a b

section
variable {α : Type} (s : State)

@[simp] theorem forAll_steady (xs : List α) {g : α → State → State} (hg : ∀ x (t : State), t.steady (g x t)) :
    s.steady (forAll xs g s) := by
  unfold forAll
  induction xs generalizing s with
  | nil => exact ⟨rfl, rfl⟩
  | cons x xs ih => exact ⟨(ih _).1.trans (hg x s).1, (ih _).2.trans (hg x s).2⟩

@[simp] theorem inNextTick_steady {g : State → State} (hg : ∀ t : State, t.steady (g t)) : s.steady (inNextTick g s) :=
  ⟨(congrArg (· - _) (hg _).1).trans (BitVec.add_sub_cancel _ _), (hg _).2⟩

@[simp] theorem writeTo_steady (m : MasterId) (a : Nat) {g : State → State} (hg : ∀ t : State, t.steady (g t)) :
    s.steady (s.writeTo m a g) := by
  unfold State.writeTo
  repeat' split
  all_goals simp [hg]

@[simp] theorem writeAt_steady (m : MasterId) (a : Nat) (v : Word) {g : State → State}
    (hg : ∀ t : State, t.steady (g t)) : s.steady (s.writeAt m a v g) := by
  unfold State.writeAt
  split <;> simp [hg]

@[simp] theorem readOf_steady (m : MasterId) (a : Nat) {g : State → State} (hg : ∀ t : State, t.steady (g t)) :
    s.steady (s.readOf m a g) := by
  unfold State.readOf
  repeat' split
  all_goals simp [hg]

@[simp] theorem doneNext_steady (k : CmdKey) (e : Elem) {g : State → State} (hg : ∀ t : State, t.steady (g t)) :
    s.steady (s.doneNext k e g) := by
  simp [State.doneNext, hg]

@[simp] theorem onPort_steady (e : Elem) {g : PortId → State → State} (hg : ∀ p (t : State), t.steady (g p t)) :
    s.steady (onPort e g s) := by
  cases e <;> simp [onPort, hg]

@[simp] theorem writeIn_steady (m : MasterId) (a : Nat) (v : Word) {g : Word → State → State}
    (hg : ∀ w (t : State), t.steady (g w t)) : s.steady (s.writeIn m a v g) := by
  simp [State.writeIn, hg]

@[simp] theorem actAll_steady (k : CmdKey) (pw bs : Bool) (es : List Elem) {g : CmdKey → Nat → Elem → State → State}
    (hg : ∀ k i e (t : State), t.steady (g k i e t)) : s.steady (s.actAll k pw bs g es) := by
  refine forAll_steady s _ fun x t => ?_
  split <;> simp [hg]

@[simp] theorem runCmd_steady (h : CmdHdr) (o : Op) (ok pw bs : Bool) {g : CmdKey → Nat → Elem → State → State}
    (hg : ∀ k i e (t : State), t.steady (g k i e t)) : s.steady (s.runCmd h o ok pw bs g) := by
  unfold State.runCmd
  split
  · simp
  · dsimp only
    split <;> simp [hg]

@[simp] theorem rxFrame_steady (p : PortId) (ty : FType) (pay : Bytes) {g : State → State}
    (hg : ∀ t : State, t.steady (g t)) : s.steady (s.rxFrame p ty pay g) := by
  unfold State.rxFrame
  dsimp only
  repeat' split
  all_goals simp [hg]

@[simp] theorem rxPartnered_steady (p : PortId) (ty : FType) (pay : Bytes) {g : State → State}
    (hg : ∀ t : State, t.steady (g t)) : s.steady (s.rxPartnered p ty pay g) := by
  refine rxFrame_steady s p ty pay fun t => ?_
  split <;> simp [hg]

@[simp] theorem chanEnds_steady (c : ChanId) (rs rr : Bool) : s.steady (s.chanEnds c rs rr) := by
  simp [State.chanEnds]

@[simp] theorem chanReset_steady (ms : List MasterId) (c : ChanId) : s.steady (s.chanReset ms c) := by
  simp [State.chanReset]

@[simp] theorem resetMasters_steady (ms : List MasterId) : s.steady (s.resetMasters ms) := by
  simp [State.resetMasters]

@[simp] theorem noticeDone_steady (c : ChanId) (result : Byte) : s.steady (s.noticeDone c result) := by
  simp [State.noticeDone]

@[simp] theorem serve_steady (code : Byte) (sb : Bool) (buf : Bytes) {g : State → State}
    (hg : ∀ t : State, t.steady (g t)) : s.steady (s.serve code sb buf g) := by
  unfold State.serve
  repeat' split
  all_goals simp [hg]

@[simp] theorem postAccepted_steady (c : ChanId) : s.steady (s.postAccepted c) := by
  simp [State.postAccepted]

@[simp] theorem post_steady (m : MasterId) (c : ChanId) : s.steady (s.post m c) := by
  simp [State.post]

@[simp] theorem chanDone_steady (isR : Bool) (c : ChanId) (r : Byte) : s.steady (s.chanDone isR c r) := by
  simp [State.chanDone]

@[simp] theorem slotResult_steady (slotB : Bool) (r : SlotRes) : s.steady (s.slotResult slotB r) := by
  simp [State.slotResult]

@[simp] theorem verify_steady (slotB : Bool) (cid : Nat) : s.steady (s.verify slotB cid).2 := by
  simp [State.verify]

@[simp] theorem bedReset_steady (b : BedId) (origin cid : Nat) : s.steady (s.bedReset b origin cid) := by
  simp [State.bedReset]

@[simp] theorem tenderReset_steady (b : BedId) : s.steady (s.tenderReset b) := by
  simp [State.tenderReset]

@[simp] theorem abandonDevice_steady : s.steady (s.abandonDevice) := by
  simp [State.abandonDevice]

@[simp] theorem abandon_steady : s.steady (s.abandon) := by
  simp [State.abandon]

@[simp] theorem flrPf0_steady : s.steady (s.flrPf0) := by
  simp [State.flrPf0]

@[simp] theorem flrPf1_steady : s.steady (s.flrPf1) := by
  simp [State.flrPf1]

@[simp] theorem startBegin_steady (retry : Bool) : s.steady (s.startBegin retry) := by
  simp [State.startBegin]

@[simp] theorem deviceReset_steady (retry : Bool) : s.steady (s.deviceReset retry) := by
  simp [State.deviceReset]

@[simp] theorem chanWrite_steady (m : MasterId) (c : ChanId) (o : Nat) (v : Word) : s.steady (s.chanWrite m c o v) := by
  simp [State.chanWrite]

@[simp] theorem mbxWrite_steady (m : MasterId) (a : Nat) (v : Word) : s.steady (s.mbxWrite m a v) := by
  simp [State.mbxWrite]

@[simp] theorem hubWrite_steady (a : Nat) (v : Word) : s.steady (s.hubWrite a v) := by
  simp [State.hubWrite]

@[simp] theorem regWrite_steady (m : MasterId) (a : Nat) (v : Word) : s.steady (s.regWrite m a v) := by
  unfold State.regWrite
  dsimp only
  repeat' split
  all_goals simp

@[simp] theorem regWriteAt_steady (m : MasterId) (a : Nat) (v : Word) : s.steady (s.regWriteAt m a v) := by
  unfold State.regWriteAt
  repeat' split
  all_goals simp

@[simp] theorem cmdWrite_steady (p : PortId) (o : Nat) (v : Word) : s.steady (s.cmdWrite p o v) := by
  simp [State.cmdWrite]

@[simp] theorem cmdWriteIf_steady (b : Bool) (p : PortId) (o : Nat) (v : Word) : s.steady (s.cmdWriteIf b p o v) := by
  simp [State.cmdWriteIf]

@[simp] theorem portConfig_steady (p : PortId) (select : Byte) (linkctl trainctl decctl stillctl fpctl : Word) :
    s.steady (s.portConfig p select linkctl trainctl decctl stillctl fpctl) := by
  simp [State.portConfig]

@[simp] theorem resetElem_steady (k : CmdKey) (e : Elem) : s.steady (s.resetElem k e) := by
  unfold State.resetElem
  repeat' split
  all_goals simp

@[simp] theorem retainRestore_steady (d : Dom) : s.steady (s.retainRestore d) := by
  simp [State.retainRestore]

@[simp] theorem bedUp_steady (b : BedId) : s.steady (s.bedUp b) := by
  simp [State.bedUp]

@[simp] theorem heldOne_steady (x : MasterId × Nat × Option Word) : s.steady (s.heldOne x) := by
  unfold State.heldOne
  repeat' split
  all_goals simp

@[simp] theorem heldServe_steady : s.steady (s.heldServe) := by
  simp [State.heldServe]

@[simp] theorem reqFail_steady (q : SReq) (blk : Byte) (reason : Nat) : s.steady (s.reqFail q blk reason) := by
  unfold State.reqFail
  repeat' split
  all_goals simp

@[simp] theorem blockAnswer_steady (q : SReq) (blk : Byte) : s.steady (s.blockAnswer q blk) := by
  unfold State.blockAnswer
  repeat' split
  all_goals simp

@[simp] theorem blockAnswers_steady (blk : Byte) : s.steady (s.blockAnswers blk) := by
  simp [State.blockAnswers]

@[simp] theorem dormantReq_steady (k : CmdKey) : s.steady (s.dormantReq k) := by
  simp [State.dormantReq]

@[simp] theorem restartAs_steady (mode : DevMode) : s.steady (s.restartAs mode) := by
  simp [State.restartAs]

@[simp] theorem coresRestart_steady (mode : DevMode) : s.steady (s.coresRestart mode) := by
  simp [State.coresRestart]

@[simp] theorem hotReset_steady : s.steady (s.hotReset) := by
  simp [State.hotReset]

@[simp] theorem stage3End_steady : s.steady (s.stage3End) := by
  simp [State.stage3End]

@[simp] theorem stage4End_steady : s.steady (s.stage4End) := by
  simp [State.stage4End]

@[simp] theorem stage5End_steady : s.steady (s.stage5End) := by
  simp [State.stage5End]

@[simp] theorem bedCameUp_steady (b : BedId) : s.steady (s.bedCameUp b) := by
  simp [State.bedCameUp]

@[simp] theorem thermalFault_steady (b : BedId) : s.steady (s.thermalFault b) := by
  simp [State.thermalFault]

@[simp] theorem bedTrip_steady (b : BedId) : s.steady (s.bedTrip b) := by
  simp [State.bedTrip]

@[simp] theorem bedSample_steady (b : BedId) (v : BitVec 12) : s.steady (s.bedSample b v) := by
  simp [State.bedSample]

@[simp] theorem perstStart_steady : s.steady (s.perstStart) := by
  simp [State.perstStart]

@[simp] theorem bedRailLost_steady (b : BedId) : s.steady (s.bedRailLost b) := by
  simp [State.bedRailLost]

@[simp] theorem applyEntry_steady (e : RegEntry) : s.steady (s.applyEntry e) := by
  simp [State.applyEntry]

@[simp] theorem stageChunk_steady (k : CmdKey) (first last : Bool) (offset : Nat) (data : Bytes) :
    s.steady (s.stageChunk k first last offset data) := by
  unfold State.stageChunk
  repeat' split
  all_goals simp

@[simp] theorem stageLast_steady (k : CmdKey) (g : Staging) : s.steady (s.stageLast k g) := by
  simp [State.stageLast]

@[simp] theorem activate_steady (k : CmdKey) (slotB restart : Bool) : s.steady (s.activate k slotB restart) := by
  simp [State.activate]

@[simp] theorem unlock_steady (k : CmdKey) (len : Nat) (token : Bytes) : s.steady (s.unlock k len token) := by
  simp [State.unlock]

end

end Sys2Proof.Machine
end

section
/-! What the shared operations and the costly commands keep: the tick counter's count, the fuses, and the canonical
form of the memories (log 5). -/

namespace Sys2Proof.Machine

open Sys2Proof

/-- The three memories stay in canonical form. -/
@[simp] abbrev State.keepsMem (s t : State) : Prop :=
  (ramOk s.hostMem = true → ramOk t.hostMem = true) ∧ (ramOk s.mbxMem = true → ramOk t.mbxMem = true) ∧
    (flashOk s.flash.mem = true → flashOk t.flash.mem = true)

/-- The count, the fuses and the form of the memories are kept. -/
@[simp] def State.keeps (s t : State) : Prop := s.steady t ∧ s.keepsMem t

section
variable {s : State}

theorem keeps_answered {u : State} (hu : s.keeps u) :
    s.keeps { (if s.live then u else s) with pending := s.pending, now := s.now } := by
  cases s.live
  · exact ⟨⟨rfl, rfl⟩, id, id, id⟩
  · exact hu

theorem forAll_keeps {α : Type} {xs : List α} {g : α → State → State} (hg : ∀ x (t : State), t.keeps (g x t)) :
    s.keeps (forAll xs g s) := by
  refine ⟨forAll_steady _ _ fun x t => (hg x t).1, fun hs => forAll_wfH _ _ _ hs fun x t => (hg x t).2.1,
    fun hs => forAll_wfM _ _ _ hs fun x t => (hg x t).2.2.1, fun hs => forAll_wfF _ _ _ hs fun x t => (hg x t).2.2.2⟩

theorem inNextTick_keeps {g : State → State} (hg : ∀ t : State, t.keeps (g t)) : s.keeps (inNextTick g s) :=
  ⟨inNextTick_steady _ fun t => (hg t).1, fun hs => inNextTick_wfH _ _ hs fun t => (hg t).2.1,
    fun hs => inNextTick_wfM _ _ hs fun t => (hg t).2.2.1, fun hs => inNextTick_wfF _ _ hs fun t => (hg t).2.2.2⟩

theorem doneNext_keeps {k : CmdKey} {e : Elem} {g : State → State} (hg : ∀ t : State, t.keeps (g t)) :
    s.keeps (s.doneNext k e g) :=
  ⟨doneNext_steady _ _ _ fun t => (hg t).1, fun hs => doneNext_wfH _ _ _ _ hs fun t => (hg t).2.1,
    fun hs => doneNext_wfM _ _ _ _ hs fun t => (hg t).2.2.1, fun hs => doneNext_wfF _ _ _ _ hs fun t => (hg t).2.2.2⟩

theorem onPort_keeps {e : Elem} {g : PortId → State → State} (hg : ∀ p (t : State), t.keeps (g p t)) :
    s.keeps (onPort e g s) :=
  ⟨onPort_steady _ _ fun p t => (hg p t).1, fun hs => onPort_wfH _ _ _ hs fun p t => (hg p t).2.1,
    fun hs => onPort_wfM _ _ _ hs fun p t => (hg p t).2.2.1, fun hs => onPort_wfF _ _ _ hs fun p t => (hg p t).2.2.2⟩

theorem writeAt_keeps {m : MasterId} {a : Nat} {v : Word} {g : State → State} (hg : ∀ t : State, t.keeps (g t)) :
    s.keeps (s.writeAt m a v g) :=
  ⟨writeAt_steady _ _ _ _ fun t => (hg t).1, fun hs => writeAt_wfH _ _ _ _ _ hs fun t => (hg t).2.1,
    fun hs => writeAt_wfM _ _ _ _ _ hs fun t => (hg t).2.2.1, fun hs => writeAt_wfF _ _ _ _ _ hs fun t => (hg t).2.2.2⟩

theorem writeIn_keeps {m : MasterId} {a : Nat} {v : Word} {g : Word → State → State}
    (hg : ∀ w (t : State), t.keeps (g w t)) : s.keeps (s.writeIn m a v g) :=
  ⟨writeIn_steady _ _ _ _ fun w t => (hg w t).1, fun hs => writeIn_wfH _ _ _ _ _ hs fun w t => (hg w t).2.1,
    fun hs => writeIn_wfM _ _ _ _ _ hs fun w t => (hg w t).2.2.1,
    fun hs => writeIn_wfF _ _ _ _ _ hs fun w t => (hg w t).2.2.2⟩

theorem runCmd_keeps {h : CmdHdr} {o : Op} {ok pw bs : Bool} {g : CmdKey → Nat → Elem → State → State}
    (hg : ∀ k i e (t : State), t.keeps (g k i e t)) : s.keeps (s.runCmd h o ok pw bs g) :=
  ⟨runCmd_steady _ _ _ _ _ _ fun k i e t => (hg k i e t).1,
    fun hs => runCmd_wfH _ _ _ _ _ _ _ hs fun k i e t => (hg k i e t).2.1,
    fun hs => runCmd_wfM _ _ _ _ _ _ _ hs fun k i e t => (hg k i e t).2.2.1,
    fun hs => runCmd_wfF _ _ _ _ _ _ _ hs fun k i e t => (hg k i e t).2.2.2⟩

end

section
variable {s t : State}

theorem keeps_onLive {i : Instr} {f : State → State} (ht : exec i s = .next t) (he : exec i s = onLive s f)
    (hf : s.keeps (f s)) : s.keeps t := by
  rw [he] at ht
  cases ht
  exact keeps_answered hf

theorem keeps_self : s.keeps s := ⟨⟨rfl, rfl⟩, id, id, id⟩

theorem keeps_trans {u : State} (h₁ : s.keeps t) (h₂ : t.keeps u) : s.keeps u := by
  obtain ⟨⟨ht, hv⟩, hh, hm, hf⟩ := h₁
  obtain ⟨⟨ht', hv'⟩, hh', hm', hf'⟩ := h₂
  exact ⟨⟨ht'.trans ht, hv'.trans hv⟩, hh' ∘ hh, hm' ∘ hm, hf' ∘ hf⟩

theorem keeps_forAll {α : Type} {xs : List α} {g : α → State → State} (h : s.keeps t)
    (hg : ∀ x (t : State), t.keeps (g x t)) : s.keeps (forAll xs g t) :=
  keeps_trans h (forAll_keeps hg)

theorem applyBatch_steady (k : CmdKey) (buf n : Nat) (dropped : Bool) (es : List RegEntry) :
    s.steady (State.applyBatch k buf n dropped es s) := by
  induction es generalizing n dropped s with
  | nil => simp [State.applyBatch]
  | cons e es ih =>
    unfold State.applyBatch
    dsimp only
    have hu : s.steady ((s.applyEntry e).hostWrite (buf + 16 * n + 12)
        [BitVec.ofNat 8 (s.entryStatus e.offset.toNat).code]) := by simp
    have hr := inNextTick_steady ((s.applyEntry e).hostWrite (buf + 16 * n + 12)
      [BitVec.ofNat 8 (s.entryStatus e.offset.toNat).code]) fun t => ih (s := t) (n + 1)
        (dropped || s.entryStatus e.offset.toNat != .ok)
    exact ⟨hr.1.trans hu.1, hr.2.trans hu.2⟩

theorem applyBatch_keeps (k : CmdKey) (buf n : Nat) (dropped : Bool) (es : List RegEntry) :
    s.keeps (State.applyBatch k buf n dropped es s) :=
  ⟨applyBatch_steady _ _ _ _ _, fun hs => applyBatch_wfH _ _ _ _ _ _ hs,
    fun hs => applyBatch_wfM _ _ _ _ _ _ hs, fun hs => applyBatch_wfF _ _ _ _ _ _ hs⟩

theorem serve_keeps {code : Byte} {sb : Bool} {buf : Bytes} {g : State → State} (hg : ∀ t : State, t.keeps (g t)) :
    s.keeps (s.serve code sb buf g) :=
  ⟨serve_steady _ _ _ _ fun t => (hg t).1, fun hs => serve_wfH _ _ _ _ _ hs fun t => (hg t).2.1,
    fun hs => serve_wfM _ _ _ _ _ hs fun t => (hg t).2.2.1, fun hs => serve_wfF _ _ _ _ _ hs fun t => (hg t).2.2.2⟩

theorem message_keeps (pf1 : Bool) (v : Nat) : s.keeps (s.message pf1 v) := by simp +contextual

theorem sampleDrain_keeps (n : Nat) : s.keeps (State.sampleDrain n s) := by simp +contextual

theorem storeDrain_keeps (n : Nat) (r : RingId) : s.keeps (State.storeDrain n r s) := by simp +contextual

theorem flushWb_keeps : s.keeps s.flushWb := by simp +contextual

theorem produce_keeps (r : RingId) (e : Bool → Bytes) : s.keeps (s.produce r e) := by simp +contextual

theorem deviceReset_keeps (r : Bool) : s.keeps (s.deviceReset r) := by simp +contextual

theorem startFail_keeps (x : Reason) : s.keeps (s.startFail x) := by simp +contextual

theorem dshiftClear_keeps {m p} (ht : exec (.dshiftClear m p) s = .next t) : s.keeps t :=
  keeps_onLive ht (Eq.refl (execDshiftClear m p s)) (writeAt_keeps fun u => inNextTick_keeps fun v => by simp)

theorem fpClear_keeps {m p} (ht : exec (.fpClear m p) s = .next t) : s.keeps t :=
  keeps_onLive ht (Eq.refl (execFpClear m p s)) (writeAt_keeps fun u => inNextTick_keeps fun v => by simp)

theorem fuseGo_keeps {m b v} (ht : exec (.fuseGo m b v) s = .next t) : s.keeps t :=
  keeps_onLive ht (Eq.refl (execFuseGo m b v s)) (writeAt_keeps fun u => writeIn_keeps fun w x => by simp)

theorem laneTxeqWrite_keeps {m l v} (ht : exec (.laneTxeqWrite m l v) s = .next t) : s.keeps t :=
  keeps_onLive ht (Eq.refl (execLaneTxeqWrite m l v s)) (writeAt_keeps fun u => writeIn_keeps fun w x => by simp)

theorem cmdFpSave_keeps {h f b} (ht : exec (.cmdFpSave h f b) s = .next t) : s.keeps t := by
  refine keeps_onLive ht (Eq.refl (execCmdFpSave h f b s))
    (keeps_trans (runCmd_keeps fun k i e u => onPort_keeps fun p v => ?_) (inNextTick_keeps fun v => by simp +contextual))
  split
  · simp
  · split
    · exact doneNext_keeps fun w => by simp +contextual
    · simp

theorem cmdDiagRun_keeps {h k n b} (ht : exec (.cmdDiagRun h k n b) s = .next t) : s.keeps t :=
  keeps_onLive ht (Eq.refl (execCmdDiagRun h k n b s))
    (keeps_trans (runCmd_keeps fun k i e u => onPort_keeps fun p v => by simp +contextual)
      (inNextTick_keeps fun v => by simp +contextual))

theorem cmdRegBatch_keeps {h b es} (ht : exec (.cmdRegBatch h b es) s = .next t) : s.keeps t :=
  keeps_onLive ht (Eq.refl (execCmdRegBatch h b es s)) (runCmd_keeps fun _ _ _ _ => applyBatch_keeps ..)

theorem d3hotExit_keeps {pf1} (ht : exec (.d3hotExit pf1) s = .next t) : s.keeps t := by
  refine keeps_onLive ht (Eq.refl (execD3hotExit pf1 s)) ?_
  cases pf1
  · refine keeps_trans (keeps_forAll (keeps_forAll  (by simp) fun m u => message_keeps ..) fun r u => ?_) flushWb_keeps
    split
    · exact storeDrain_keeps ..
    · simp
  · exact keeps_trans (keeps_forAll  (by simp) fun m u => message_keeps ..) (sampleDrain_keeps 512)

theorem clockMonitorTrip_keeps (ht : exec .clockMonitorTrip s = .next t) : s.keeps t := by
  refine keeps_onLive ht (Eq.refl (execClockMonitorTrip s)) ?_
  split
  · simp
  · refine keeps_trans (keeps_forAll (keeps_forAll (keeps_forAll ?_ fun b u => ?_) fun p u => ?_) fun p u => ?_)
      (startFail_keeps _)
    all_goals simp +contextual -implicitDefEqProofs

theorem seedbedStatus_keeps {b} (ht : exec (.seedbedStatus b) s = .next t) : s.keeps t :=
  keeps_onLive ht (Eq.refl (execSeedbedStatus b s)) (serve_keeps fun u => by simp +contextual)

theorem retry_keeps {b} (ht : exec (.retry b) s = .next t) : s.keeps t :=
  keeps_onLive ht (Eq.refl (execRetry b s)) (serve_keeps fun u => by simp +contextual)

theorem calDigestWrite_keeps (c : CalStore) : s.keeps (s.calDigestWrite c).2 := by simp +contextual

theorem calStoreComplete_keeps (ht : exec .calStoreComplete s = .next t) : s.keeps t := by
  refine keeps_onLive ht (Eq.refl (execCalStoreComplete s)) ?_
  split
  · simp
  next c hc =>
    refine keeps_trans (calDigestWrite_keeps c) ?_
    rcases s.calDigestWrite c with ⟨b, u⟩
    cases b
    · simp
    · cases c.key
      · dsimp only
        split <;> simp +contextual
      · simp +contextual

theorem telemetryDumpWritten_keeps (ht : exec .telemetryDumpWritten s = .next t) : s.keeps t := by
  refine keeps_onLive ht (Eq.refl (execTelemetryDumpWritten s)) ?_
  extract_lets l u v
  split
  · exact keeps_self
  · split
    · exact keeps_trans (by simp) (sampleDrain_keeps 512)
    · have hu : s.keeps u := forAll_keeps fun e w => produce_keeps ..
      have hv : s.keeps v := keeps_forAll hu fun x w => by simp
      exact keeps_trans (keeps_trans hv (by simp)) (sampleDrain_keeps 512)

theorem degradeEpochEnd_keeps {o} (ht : exec (.degradeEpochEnd o) s = .next t) : s.keeps t := by
  refine keeps_onLive ht (Eq.refl (execDegradeEpochEnd o s)) ?_
  extract_lets p q l ch thr count unc s1
  split
  · exact keeps_self
  · split
    extract_lets span mar bad margin u
    have hu : s.keeps u := by simp [u, s1]
    split
    · exact hu
    · split
      · exact keeps_trans hu (by simp)
      · exact hu
    · split
      · exact keeps_trans hu (by simp)
      · exact hu

theorem startStageEnd_keeps {o} (ht : exec (.startStageEnd o) s = .next t) : s.keeps t := by
  refine keeps_onLive ht (Eq.refl (execStartStageEnd o s)) ?_
  extract_lets u n
  have hu : s.keeps u := by simp [u]
  refine keeps_trans hu ?_
  repeat' split
  all_goals simp +contextual

theorem tempSample_keeps {ts} (ht : exec (.tempSample ts) s = .next t) : s.keeps t := by
  refine keeps_onLive ht (Eq.refl (execTempSample ts s)) ?_
  extract_lets hv hub u
  split
  · have hu : s.keeps u := forAll_keeps fun b w => by simp
    exact keeps_trans (keeps_trans hu (by simp)) (deviceReset_keeps false)
  · exact keeps_forAll (by simp [hub]) fun b u => by simp +contextual

end

end Sys2Proof.Machine
end

section
/-! O1, O4, O5, O6 and O7: what every command keeps, and that every command completes. -/

namespace Sys2Proof.Machine

open Sys2Proof

/-- The commands that change the count of the tick counter or the anti-rollback fuses. -/
def setsCount : Instr → Bool
  | .powerOn | .powerRemoval | .perstAssert | .railPowerGoodLost _ | .estateSyncLead .. | .esyncEdge
  | .svnFuseBlow => true
  | _ => false

section
variable {s t : State}

theorem perstRelease_keeps {x} (ht : exec (.perstRelease x) s = .next t) : s.keeps t := by
  cases ht
  simp only [State.keeps]
  split
  · simp
  · split <;> simp +contextual

theorem railPowerGoodRegained_keeps {rs} (ht : exec (.railPowerGoodRegained rs) s = .next t) : s.keeps t := by
  cases ht
  dsimp only
  split
  · simp
  · repeat' split
    all_goals simp +contextual

theorem jtagInstruction_keeps {x} (ht : exec (.jtagInstruction x) s = .next t) : s.keeps t := by
  rw [show exec (.jtagInstruction x) s = execJtagInstruction x s from rfl, execJtagInstruction] at ht
  split at ht
  · cases ht
  · split at ht <;> cases ht <;> simp
end

/-- Every command but those of `setsCount` keeps the count, the fuses and the form of the memories. The dear arms have
lemmas of their own; of the rest each is a chain of operations whose frames say it. -/
theorem exec_keeps {i : Instr} {s t : State} (hi : setsCount i = false) (ht : exec i s = .next t) : s.keeps t := by
  cases i
  case powerOn => cases hi
  case powerRemoval => cases hi
  case perstAssert => cases hi
  case railPowerGoodLost => cases hi
  case estateSyncLead => cases hi
  case svnFuseBlow => cases hi
  case esyncEdge => cases hi
  case perstRelease => exact perstRelease_keeps ht
  case railPowerGoodRegained => exact railPowerGoodRegained_keeps ht
  case jtagInstruction => exact jtagInstruction_keeps ht
  case d3hotExit => exact d3hotExit_keeps ht
  case clockMonitorTrip => exact clockMonitorTrip_keeps ht
  case cmdDiagRun => exact cmdDiagRun_keeps ht
  case cmdFpSave => exact cmdFpSave_keeps ht
  case cmdRegBatch => exact cmdRegBatch_keeps ht
  case dshiftClear => exact dshiftClear_keeps ht
  case fpClear => exact fpClear_keeps ht
  case fuseGo => exact fuseGo_keeps ht
  case laneTxeqWrite => exact laneTxeqWrite_keeps ht
  case seedbedStatus => exact seedbedStatus_keeps ht
  case retry => exact retry_keeps ht
  case calStoreComplete => exact calStoreComplete_keeps ht
  case telemetryDumpWritten => exact telemetryDumpWritten_keeps ht
  case degradeEpochEnd => exact degradeEpochEnd_keeps ht
  case startStageEnd => exact startStageEnd_keeps ht
  case tempSample => exact tempSample_keeps ht
  all_goals
    cases ht
    refine keeps_answered ?_
    dsimp -failIfUnchanged only
    repeat' first
      | with_reducible refine runCmd_keeps fun k i e u => ?_
      | with_reducible refine onPort_keeps fun p u => ?_
      | with_reducible refine doneNext_keeps fun u => ?_
      | with_reducible refine inNextTick_keeps fun u => ?_
      | with_reducible refine writeAt_keeps fun u => ?_
      | with_reducible refine writeIn_keeps fun w u => ?_
      | with_reducible refine forAll_keeps fun x u => ?_
      | split
    all_goals simp +contextual -implicitDefEqProofs

section
variable {s t : State}

/-- The fuses are as before, and the memories keep their form. -/
def State.keepsStore (s t : State) : Prop := t.sec.svn = s.sec.svn ∧ s.keepsMem t

theorem keepsStore_of_keeps (h : s.keeps t) : s.keepsStore t := ⟨h.1.2, h.2⟩

theorem powerOn_keepsStore (ht : exec .powerOn s = .next t) : s.keepsStore t := by
  cases ht
  simp only [State.keepsStore]
  split
  · simp
  · simp +contextual [State.powerWipe]

theorem powerRemoval_keepsStore (ht : exec .powerRemoval s = .next t) : s.keepsStore t := by
  cases ht
  simp +contextual [State.keepsStore, State.powerWipe]

theorem perstAssert_keepsStore (ht : exec .perstAssert s = .next t) : s.keepsStore t := by
  cases ht
  simp only [State.keepsStore]
  split
  · simp
  · simp +contextual [State.perstWipe]

theorem railPowerGoodLost_keepsStore {rs} (ht : exec (.railPowerGoodLost rs) s = .next t) : s.keepsStore t := by
  cases ht
  dsimp only [State.keepsStore]
  repeat' split
  all_goals simp +contextual [State.powerWipe, State.perstWipe]

theorem esyncEdge_keepsStore (ht : exec .esyncEdge s = .next t) : s.keepsStore t := by
  cases ht
  dsimp only [State.keepsStore]
  repeat' split
  all_goals simp +contextual

theorem estateSyncLead_keepsStore {h ms v} (ht : exec (.estateSyncLead h ms v) s = .next t) : s.keepsStore t := by
  cases ht
  simp +contextual [State.keepsStore]

theorem esyncEdge_keeps (hf : s.clk.follow.isSome = false) (ht : exec .esyncEdge s = .next t) : s.keeps t := by
  refine keeps_onLive ht (Eq.refl (execEsyncEdge s)) ?_
  rw [Option.isSome_eq_false_iff, Option.isNone_iff_eq_none] at hf
  simp [hf]

end

/-- Every command but the blow keeps the fuses and the form of the memories. -/
theorem exec_keepsStore {i : Instr} {s t : State} (hi : i ≠ .svnFuseBlow) (ht : exec i s = .next t) :
    s.keepsStore t := by
  cases hc : setsCount i with
  | false => exact keepsStore_of_keeps (exec_keeps hc ht)
  | true =>
    cases i
    case powerOn => exact powerOn_keepsStore ht
    case powerRemoval => exact powerRemoval_keepsStore ht
    case perstAssert => exact perstAssert_keepsStore ht
    case railPowerGoodLost => exact railPowerGoodLost_keepsStore ht
    case estateSyncLead => exact estateSyncLead_keepsStore ht
    case esyncEdge => exact esyncEdge_keepsStore ht
    case svnFuseBlow => exact absurd rfl hi
    all_goals cases hc

/-! ## The thermometer of the security version (R512) -/

/-- The fold of `fusedSvn` over the first n bits. -/
def svnBelow (v : BitVec 64) (n : Nat) : Nat :=
  (List.range n).foldl (fun a i => if v.getLsbD i then i + 1 else a) 0

theorem svnBelow_succ (v : BitVec 64) (n : Nat) :
    svnBelow v (n + 1) = if v.getLsbD n then n + 1 else svnBelow v n := by
  simp [svnBelow, List.range_succ]

theorem fusedSvn_eq (v : BitVec 64) : fusedSvn v = svnBelow v 64 := rfl

theorem svnBelow_of_top {v : BitVec 64} {k n : Nat} (hk : k < n) (hv : v.getLsbD k = true)
    (ht : ∀ m, k < m → v.getLsbD m = false) : svnBelow v n = k + 1 := by
  induction n with
  | zero => omega
  | succ n ih =>
    rw [svnBelow_succ]
    rcases Nat.lt_succ_iff_lt_or_eq.mp hk with h | rfl
    · rw [ht n h, if_neg (by decide), ih h]
    · rw [hv, if_pos rfl]

theorem svnBelow_zero (n : Nat) : svnBelow 0 n = 0 := by
  induction n with
  | zero => rfl
  | succ n ih => rw [svnBelow_succ, if_neg (by simp), ih]

theorem clear_of_svnBelow_le {v : BitVec 64} {m n : Nat} (hm : svnBelow v n ≤ m) (hn : m < n) :
    v.getLsbD m = false := by
  induction n with
  | zero => omega
  | succ n ih =>
    rw [svnBelow_succ] at hm
    split at hm
    · omega
    next hv =>
      rcases Nat.lt_succ_iff_lt_or_eq.mp hn with h | rfl
      · exact ih hm h
      · simpa using hv

theorem fusedSvn_of_top {v : BitVec 64} {n : Nat} (hv : v.getLsbD n = true)
    (ht : ∀ m, n < m → v.getLsbD m = false) : fusedSvn v = n + 1 :=
  svnBelow_of_top (BitVec.lt_of_getLsbD hv) hv ht

theorem clear_of_fusedSvn_le {v : BitVec 64} {m : Nat} (hm : fusedSvn v ≤ m) : v.getLsbD m = false := by
  by_cases h : m < 64
  · exact clear_of_svnBelow_le hm h
  · exact BitVec.getLsbD_of_ge v m (by omega)

theorem getLsbD_twoPow (k m : Nat) : (BitVec.ofNat 64 (2 ^ k)).getLsbD m = (decide (m < 64) && decide (k = m)) := by
  rw [BitVec.getLsbD_ofNat, Nat.testBit_two_pow]

/-- Blowing the bit of the fused value raises the value by one. -/
theorem fusedSvn_blown {v : BitVec 64} (h : fusedSvn v < 64) :
    fusedSvn (v ||| BitVec.ofNat 64 (2 ^ fusedSvn v)) = fusedSvn v + 1 := by
  refine fusedSvn_of_top ?_ fun m hm => ?_
  · rw [BitVec.getLsbD_or, getLsbD_twoPow]
    simp [h]
  · rw [BitVec.getLsbD_or, getLsbD_twoPow, clear_of_fusedSvn_le (by omega)]
    simp; omega

/-! ## The blow of the fuses (R513) -/

section
variable {s t : State}

theorem svnFuseBlow_frame (ht : exec .svnFuseBlow s = .next t) : t.clk.tick = s.clk.tick ∧ s.keepsMem t := by
  cases ht
  dsimp only
  repeat' split
  all_goals simp

theorem svnFuseBlow_svn (ht : exec .svnFuseBlow s = .next t) :
    t.sec.svn = s.sec.svn ∨ s.boot.blowing = true ∧ fusedSvn s.sec.svn < s.boot.imageSvn.toNat ∧
      fusedSvn s.sec.svn < 64 ∧ t.sec.svn = s.sec.svn ||| BitVec.ofNat 64 (2 ^ fusedSvn s.sec.svn) := by
  cases ht
  dsimp only
  split
  · split
    · exact .inl rfl
    · split
      · exact .inl rfl
      next hb hv =>
        simp only [Bool.not_eq_true, Bool.or_eq_false_iff, decide_eq_false_iff_not, not_le,
          Bool.not_eq_eq_eq_not] at hb hv
        refine .inr ⟨by simpa using hb, hv.1, hv.2, ?_⟩
        split <;> simp
  · exact .inl rfl

end

/-- Settles O6: no command but the blow touches the fuses, and the blow sets the bit of the fused value. -/
theorem securityVersionRises : Obligations.SecurityVersionRises := by
  unfold Obligations.SecurityVersionRises
  refine ⟨fun v => ⟨?_, fun n hv ht => fusedSvn_of_top hv ht⟩, fun i s t ht => ?_⟩
  · rintro rfl
    exact svnBelow_zero 64
  · by_cases hi : i = .svnFuseBlow
    · subst hi
      rcases svnFuseBlow_svn ht with h | ⟨hb, hv, h64, h⟩
      · exact .inl h
      · exact .inr ⟨rfl, hb, hv, h64, h, h ▸ fusedSvn_blown h64⟩
    · exact .inl (exec_keepsStore hi ht).1

/-- Settles O7: every other command keeps the count, an ESYNC edge among them where no FOLLOW waits. -/
theorem tickCounterHolds : Obligations.TickCounterHolds := by
  unfold Obligations.TickCounterHolds
  intro i s t ht hne
  cases hc : setsCount i with
  | false => exact absurd (exec_keeps hc ht).1.1 hne
  | true =>
    cases i
    case esyncEdge =>
      cases hf : s.clk.follow.isSome with
      | false => exact absurd (esyncEdge_keeps hf ht).1.1 hne
      | true => simp
    case svnFuseBlow => exact absurd (svnFuseBlow_frame ht).1 hne
    case powerOn => exact .inl rfl
    case powerRemoval => exact .inr (.inl rfl)
    case perstAssert => exact .inr (.inr (.inl rfl))
    case railPowerGoodLost rs => simp
    case estateSyncLead h ms v => simp
    all_goals cases hc

/-! ## Every step keeps the memories (log 5) -/

theorem memOk_of_keepsMem {s t : State} (h : s.keepsMem t) (hs : s.memOk = true) : t.memOk = true := by
  simp only [State.memOk, Bool.and_eq_true] at hs ⊢
  obtain ⟨⟨hh, hm⟩, hf⟩ := hs
  exact ⟨⟨h.1 hh, h.2.1 hm⟩, h.2.2 hf⟩

theorem exec_keepsMem {i : Instr} {s t : State} (ht : exec i s = .next t) : s.keepsMem t := by
  by_cases hi : i = .svnFuseBlow
  · exact (svnFuseBlow_frame (hi ▸ ht)).2
  · exact (exec_keepsStore hi ht).2

/-! ## Every command completes -/

/-- R476. JTAG_INSTRUCTION completes but for internal scan under an open scan scope. -/
theorem jtagInstruction_completes (j : Jtag) (s : State) :
    (∃ t, exec (.jtagInstruction j) s = .next t ∧ t.pending = s.pending ∧ t.now = s.now) ∨
      (Instr.jtagInstruction j = .jtagInstruction .internal ∧ s.pins.powered = true ∧
        s.sec.unlocked.getLsbD 0 = true ∧ exec (.jtagInstruction j) s = .fault .internalScan) := by
  rw [show exec (.jtagInstruction j) s = execJtagInstruction j s from rfl, execJtagInstruction]
  split
  next h =>
    simp only [Bool.and_eq_true, beq_iff_eq] at h
    obtain ⟨⟨hp, rfl⟩, hu⟩ := h
    exact .inr ⟨rfl, hp, hu, rfl⟩
  · split
    · exact .inl ⟨_, rfl, rfl, rfl⟩
    · exact .inl ⟨_, rfl, rfl, rfl⟩

theorem exec_completes (i : Instr) (s : State) :
    (∃ t, exec i s = .next t ∧ t.pending = s.pending ∧ t.now = s.now) ∨
      (i = .jtagInstruction .internal ∧ s.pins.powered = true ∧ s.sec.unlocked.getLsbD 0 = true ∧
        exec i s = .fault .internalScan) := by
  cases i
  case jtagInstruction j => exact jtagInstruction_completes j s
  all_goals exact .inl ⟨_, rfl, rfl, rfl⟩

/-- What `onLive` answers is the state itself in a device that is not live. -/
theorem answered_held {s : State} (hl : s.live = false) (u : State) :
    (.next { (if s.live then u else s) with pending := s.pending, now := s.now } : Host.Outcome State Fault Refusal) =
      .next s := by
  rw [hl]; rfl

/-- R541, R542. A device that is held takes no command but those that act on its pins. -/
theorem exec_of_held {i : Instr} {s : State} (hl : s.live = false) (hi : i.actsHeld = false) :
    exec i s = .next s := by
  cases i
  case powerOn => cases hi
  case powerRemoval => cases hi
  case perstAssert => cases hi
  case perstRelease => cases hi
  case railPowerGoodLost => cases hi
  case railPowerGoodRegained => cases hi
  case jtagInstruction => cases hi
  all_goals exact answered_held hl _

/-- Settles O4: every meaning answers, JTAG_INSTRUCTION's but for internal scan. -/
theorem commandsComplete : Obligations.CommandsComplete :=
  ⟨exec_completes, fun _ _ => exec_of_held⟩

/-- A command that completes leaves the queue. -/
theorem exec_pending {i : Instr} {s t : State} (ht : exec i s = .next t) : t.pending = s.pending := by
  rcases exec_completes i s with ⟨u, hu, hp, -⟩ | ⟨-, -, -, hf⟩
  · cases hu.symm.trans ht
    exact hp
  · cases hf.symm.trans ht

/-- Settles O5: a step is a tick, which leaves the memories, or a command, which keeps their form. -/
theorem memoryInvariant : Obligations.MemoryInvariant := by
  unfold Obligations.MemoryInvariant
  intro s t hm hq ht
  cases hp : s.pending with
  | nil =>
    rw [step, hp] at ht
    cases ht
    exact ⟨memOk_of_keepsMem (by simp) hm, by simpa [State.queueOk] using hq⟩
  | cons c cs =>
    rw [step, hp] at ht
    refine ⟨memOk_of_keepsMem (exec_keepsMem ht) hm, ?_⟩
    rw [State.queueOk, hp, List.all_cons, Bool.and_eq_true] at hq
    rw [State.queueOk, exec_pending ht]
    exact hq.2

/-- Settles O1: both halves are the definitions of `step` and of the table's words. -/
theorem stepRunsFront : Obligations.StepRunsFront :=
  ⟨fun _ _ _ => rfl, fun _ _ _ => ⟨rfl, rfl⟩⟩

end Sys2Proof.Machine
end

section
/-! O12, O13, O34 and O41 fail, each in a state that its hypotheses let through. -/

namespace Sys2Proof.Machine

open Sys2Proof

/-! ## A Spring session that ends at the trip of the clock monitor -/

/-- A port DISABLED with a Spring session standing, which has taken the entry of `orphanEntryPort`. -/
def disabledOrphanPort : Port := { spring := orphanEntryPort.spring }

/-- A device in ACTIVE, its loop locked, whose port 127 is that port. -/
def tripSessionState : State :=
  { State.reset with
    hub := { mode := .active, base := .active, bindLocked := true },
    clk := { lock := true, armed := true, tick := 1000 }, boot := { stage := 0 }, now := 1000 }.modPort 127 fun _ =>
    disabledOrphanPort

/-- The clock monitor's trip as far as the hub and the beds. -/
def State.tripHub (s : State) : State :=
  let s1 : State := { s with clk := { s.clk with
    lock := false, coast := true, reflost := true, reacq := false, synced := false,
    tripTick := s.clk.tick, coastTicks := 0 } }
  forAll allBeds (fun b t => t.tripBed b) ((s1.raise .reflost .device [(16, 1, 1)]).log .reflost 0 0 0)

/-- A part of the state other than the queue and the time, after a command of a live device. -/
theorem next_part {β : Type} {i : Instr} {s t u : State} {f : State → State} (part : State → β) (hl : s.live = true)
    (ht : exec i s = .next t) (he : exec i s = onLive s f) (hf : f s = u)
    (hpart : ∀ (v : State) (cs : List Instr) (n : Nat), part { v with pending := cs, now := n } = part v) :
    part t = part u := by
  rw [he, onLive_eq, if_pos hl, hf] at ht
  cases ht
  exact hpart ..

/-- The ports follow the hub and the beds, first their links and then their Spring islands. -/
theorem execClockMonitorTrip_eq (s : State) : execClockMonitorTrip s = onLive s fun s =>
    if !s.clk.armed || s.clk.coast then s
    else (forAll allPorts (fun p t => t.tripSpring p)
      (forAll allPorts (fun p t => t.tripPort p) s.tripHub)).startFail .refclkLost := rfl

theorem clockMonitorTrip_rings {s t : State} (hl : s.live = true) (ha : s.clk.armed = true) (hc : s.clk.coast = false)
    (ht : exec .clockMonitorTrip s = .next t) :
    t.rings = (forAll allPorts (fun p u => u.tripSpring p)
      (forAll allPorts (fun p u => u.tripPort p) s.tripHub)).rings := by
  rw [next_part State.rings hl ht (execClockMonitorTrip_eq s) (if_neg (by simp [ha, hc])) fun _ _ _ => rfl]
  simp only [startFail_frame]

/-- The trip leaves a DISABLED port that is under no diagnostic and has no link event of this tick. -/
theorem tripPort_eq_self {s : State} {p : PortId} (hd : (s.port p).diag = none)
    (hst : (s.port p).link.state = .disabled) (h₁ : s.heldEv p .linkDown = false)
    (h₂ : s.heldEv p .pairSpared = false) : s.tripPort p = s := by
  have ht : s.diagAbort p = s := by simp only [State.diagAbort, hd]
  have hls : (s.port p).ls = .disabled := by simp [Port.ls, hst]
  simp [State.tripPort, ht, hls, hst, h₁, h₂]

/-- The trip leaves the Spring island that is OFF. -/
theorem tripSpring_eq_self {s : State} {p : PortId} (h : (s.port p).spring.sstate = .off) : s.tripSpring p = s :=
  if_pos h

theorem forAll_last {α : Type} {xs : List α} {y : α} {f : α → State → State} {s : State}
    (h : ∀ x ∈ xs, f x s = s) : forAll (xs ++ [y]) f s = f y s := by
  rw [forAll, List.foldl_append]
  exact congrArg (f y) (forAll_eq_self h)

theorem allPorts_eq_append : allPorts = allPorts.dropLast ++ [127] := by decide +kernel

theorem tripHub_tripSession_port : ∀ p : PortId,
    (tripSessionState.tripHub.port p).diag = none ∧ (tripSessionState.tripHub.port p).link.state = .disabled ∧
      tripSessionState.tripHub.heldEv p .linkDown = false ∧ tripSessionState.tripHub.heldEv p .pairSpared = false := by
  decide +kernel

theorem tripHub_tripSession_spring : ∀ p ∈ allPorts.dropLast,
    (tripSessionState.tripHub.port p).spring.sstate = .off := by
  decide +kernel

theorem tripSession_lost : ((tripSessionState.tripHub.tripSpring 127).ring (sprTxRing 7)).lost = 1 := by
  decide +kernel

/-- Refutes O12: its third clause says that the rings are as before the trip of the clock monitor. In
`tripSessionState` the trip ends the Spring session of port 127 (R208); the USER entry that it had taken completes, and
its write-back is dropped and counted in LOST of the queue (R305). -/
theorem not_clockLoop : ¬ Obligations.ClockLoop := by
  unfold Obligations.ClockLoop
  rintro ⟨-, -, htrip, -⟩
  have hl : tripSessionState.live = true := by decide +kernel
  obtain ⟨t, ht, -, -, -, hrings, -⟩ := htrip tripSessionState hl rfl rfl
  have hports : forAll allPorts (fun p u => u.tripPort p) tripSessionState.tripHub = tripSessionState.tripHub := by
    refine forAll_eq_self fun p _ => ?_
    obtain ⟨hd, hst, h₁, h₂⟩ := tripHub_tripSession_port p
    exact tripPort_eq_self hd hst h₁ h₂
  rw [clockMonitorTrip_rings hl rfl rfl ht, hports, allPorts_eq_append,
    forAll_last fun p hp => tripSpring_eq_self (tripHub_tripSession_spring p hp)] at hrings
  have hlost := tripSession_lost
  rw [State.ring, hrings] at hlost
  exact absurd hlost (by decide +kernel)

/-! ## A line PLL that is lost, and a program of flash -/

/-- Port 0 TRAINING, in its last ABORT row group, with the entry of `orphanEntryPort` taken and LINKCTL.ROLE set to HEAD
since its session began as tail. -/
def abortingOrphanPort : Port :=
  { rejoiningPort { state := .training, rung := 9, role := .tail } with
    train := { abortLeft := 1 }, spring := orphanEntryPort.spring }

/-- The device of `orphanEntryState` with that port. -/
def abortingOrphanState : State := orphanEntryState.modPort 0 fun _ => abortingOrphanPort

/-- Refutes O13: its first clause says that the rings are as before the loss of a bed's line PLL. In
`abortingOrphanState` port 0 goes on to LISTENING, which ends its session (R206), and the write-back of the entry is
counted as lost (R305). -/
theorem not_linePllAndSteering : ¬ Obligations.LinePllAndSteering := by
  unfold Obligations.LinePllAndSteering
  rintro ⟨hlost, -⟩
  obtain ⟨t, ht, -, -, -, hrings, -⟩ := hlost abortingOrphanState 0 (by decide +kernel) (by decide +kernel)
    (by decide +kernel)
  exact rings_ne_of_lost (r := sprTxRing 0) ht (by decide +kernel) hrings

/-- A program of one byte in progress, over a flash memory out of canonical form (log 5), which lists the byte twice:
the erased value of the first entry hides the second. -/
def overlaidFlashState : State :=
  { State.reset with
    flash := { mem := [(3, 0xFF), (3, 0)], data := 0xFF :: List.replicate 63 0,
               busy := some { op := 1, addr := 3, len := 1 } } }

/-- Refutes O34: its fourth clause says that the end of a program leaves the byte of DATA where flash was erased. In
`overlaidFlashState` programming 0xFF takes the entry away that hid another, and the byte reads 0. No command makes
such a memory (`MemoryInvariant`), but the statement speaks of every state. -/
theorem not_flashAccess : ¬ Obligations.FlashAccess := by
  unfold Obligations.FlashAccess
  rintro ⟨-, -, -, hprogram, -⟩
  obtain ⟨t, ht, -, -, -, hbytes, -⟩ := hprogram overlaidFlashState { op := 1, addr := 3, len := 1 }
    (by decide +kernel) rfl rfl (by decide) rfl
  have hbyte := hbytes 0 (by decide) (by decide +kernel)
  rw [← after_of_exec ht] at hbyte
  exact absurd hbyte (by decide +kernel)

/-! ## A held event that is written at the end of a start -/

/-- The device of `dueEventState` at the end of stage 9 of a start, its event held since before the rings are served. -/
def heldEventStartState : State :=
  { dueEventState with
    hub := { dueEventState.hub with mode := .calibrate, base := .calibrate },
    boot := { dueEventState.boot with stage := 9 }, due := [], held := [calEvent] }

/-- Only ports, the start's record, flash and the events of this tick differ. -/
def State.startOnly (s t : State) : Prop :=
  t = { s with ports := t.ports, boot := t.boot, flash := t.flash, free := t.free, due := t.due }

theorem startOnly_trans {s t u : State} (h₁ : s.startOnly t) (h₂ : t.startOnly u) : s.startOnly u := by
  rw [State.startOnly] at h₁ h₂ ⊢
  rw [h₁] at h₂
  exact h₂

theorem startOnly_forAll {α : Type} (xs : List α) {g : α → State → State} (hg : ∀ x t, State.startOnly t (g x t))
    (s : State) : s.startOnly (forAll xs g s) := by
  unfold forAll
  induction xs generalizing s with
  | nil => rfl
  | cons x xs ih => exact startOnly_trans (hg x s) (ih _)

theorem startOnly_flashProgram (s : State) (a : Nat) (bs : Bytes) : s.startOnly (s.flashProgram a bs) := by
  unfold State.flashProgram
  dsimp only
  split <;> rfl

theorem startOnly_logWrite (s : State) (k : LogKind) (r l d : Nat) (n : Tick) :
    s.startOnly (s.logWrite k r l d n) := by
  unfold State.logWrite
  dsimp only
  split
  · exact startOnly_trans (t := s.flashErase _ 4096) rfl (startOnly_flashProgram ..)
  · exact startOnly_flashProgram ..

theorem startOnly_log (s : State) (k : LogKind) (r l d : Nat) : s.startOnly (s.log k r l d) := by
  unfold State.log
  split
  · exact startOnly_logWrite ..
  · rfl

theorem startOnly_fpTornCheck (s : State) (p : PortId) (k : Nat) : s.startOnly (s.fpTornCheck p k) := by
  unfold State.fpTornCheck
  split
  · exact startOnly_trans (startOnly_log s .tornFp 0 0 (2 * p.val + k)) rfl
  · rfl

theorem startOnly_modPort (s : State) (p : PortId) (f : Port → Port) : s.startOnly (s.modPort p f) := rfl

theorem startOnly_fpStart (s : State) (p : PortId) : s.startOnly (s.fpStart p) := by
  have h := startOnly_trans (startOnly_fpTornCheck s p 0) (startOnly_fpTornCheck _ p 1)
  unfold State.fpStart
  dsimp only
  split
  · exact startOnly_trans h (startOnly_modPort ..)
  · split
    · exact startOnly_trans h (startOnly_modPort ..)
    · exact h

theorem startOnly_fallbackEvent (s : State) : s.startOnly s.fallbackEvent := by
  unfold State.fallbackEvent
  dsimp only
  split <;> rfl

/-- R306. The message of a masked vector of PF0 leaves the vector pending. -/
theorem message_pend {s : State} {v : Nat} (hd : s.pins.d3pf0 = false) (hm : s.msixMasked false v = true) :
    (s.message false v).pins.msix0.pend = s.pins.msix0.pend ||| BitVec.ofNat 64 (2 ^ v) := by
  rw [State.message, if_neg (by simp [hd]), if_pos hm]
  rfl

/-- R306. So does an entry of a ring that signals at once. -/
theorem produce_pend {s : State} {r : RingId} (e : Bool → Bytes) (hirq : (s.ring r).irqEn = true)
    (hcoal : (s.ring r).coalUs = 0) (htel : r ≠ telRing) (hd : s.pins.d3pf0 = false)
    (hm : s.msixMasked false (s.ring r).vec = true) :
    (s.produce r e).pins.msix0.pend = s.pins.msix0.pend ||| BitVec.ofNat 64 (2 ^ (s.ring r).vec) := by
  rw [Ring.irqEn] at hirq
  rw [Ring.coalUs] at hcoal
  simp only [State.produce, State.signal, ring_modRing_self, ring_hostWrite, Ring.irqEn, hirq, Ring.coalUs, hcoal,
    Bool.not_true, Bool.false_eq_true, if_false, if_true, State.sendMsix, decide_eq_false htel]
  exact message_pend hd hm

/-- R302. A held event whose ring runs with room and nothing stored is written to it at the release. -/
theorem releaseEvent_eq {s : State} {e : Event} {r : RingId} (hroute : s.routeOf e.code.cls = some r)
    (hlost : s.heldLost = false) (hrun : (s.ring r).state = .run) (hstore : (s.ring r).store = [])
    (hfree : (s.ring r).free ≠ 0) (hdma : s.dmaOk false = true) : s.releaseEvent e = s.writeEvent r e := by
  simp [State.releaseEvent, hroute, hlost, State.eventToRing, hrun, hstore, hfree, hdma]

/-- What the release of the held events reads is as `heldEventStartState` has it in ACTIVE. -/
def State.servesAsHeld (s : State) : Prop :=
  s.pins = heldEventStartState.pins ∧ s.sluice = heldEventStartState.sluice ∧ s.rings = heldEventStartState.rings ∧
    s.heldLost = false ∧ s.hub.mode = .active ∧ s.hub.evroute = heldEventStartState.hub.evroute

theorem releaseHeld_pend {s : State} (h : s.servesAsHeld) (hheld : s.held = [calEvent]) :
    s.releaseHeld.pins.msix0.pend = 1 := by
  obtain ⟨hpins, hsluice, hrings, hlost, hmode, hroute⟩ := h
  have hserved : s.ringsServed = true := by rw [State.ringsServed, hsluice, hmode]; decide +kernel
  have hring : ({ s with held := [] } : State).ring (evRing 0) = signallingQueue := by
    rw [State.ring, hrings]; rfl
  have hev : ({ s with held := [] } : State).releaseEvent calEvent =
      State.writeEvent { s with held := [] } (evRing 0) calEvent := by
    refine releaseEvent_eq ?_ hlost (by rw [hring]; rfl) (by rw [hring]; rfl) (by rw [hring]; decide +kernel) ?_
    · rw [State.routeOf, hroute]; decide +kernel
    · rw [State.dmaOk, hsluice, hpins]; decide +kernel
  rw [State.releaseHeld, hserved, hheld]
  change (({ s with held := [] } : State).releaseEvent calEvent).pins.msix0.pend = 1
  rw [hev, State.writeEvent, produce_pend _ (by rw [hring]; decide) (by rw [hring]; decide) (by decide)
    (by rw [hpins]; decide +kernel) (by rw [hring, State.msixMasked, State.msixTab, hpins]; decide +kernel),
    hring, hpins]
  decide +kernel

theorem servesAsHeld_stage9 : ∀ u, State.startOnly heldEventStartState u →
    ((u.enterActive.log .active 0 0 0).fallbackEvent).servesAsHeld ∧
      ((u.enterActive.log .active 0 0 0).fallbackEvent).held = [calEvent] := by
  intro u hu
  have hv := startOnly_trans (startOnly_log u.enterActive .active 0 0 0) (startOnly_fallbackEvent _)
  rw [State.startOnly] at hu hv
  rw [hv, hu]
  exact ⟨⟨rfl, rfl, rfl, rfl, rfl, rfl⟩, rfl⟩

theorem startStageEnd_nine {s t : State} {o : StageObs} (hl : s.live = true) (hlate : s.boot.late = none)
    (hst : s.starting = true) (hn : s.boot.stage = 9) (ht : exec (.startStageEnd o) s = .next t) :
    t.pins = s.stage9End.pins := by
  have hu : s.lateUndo = s := by simp [State.lateUndo, hlate]
  refine next_part State.pins hl ht (Eq.refl (execStartStageEnd o s)) ?_ fun _ _ _ => rfl
  simp [hu, hst, hn]

/-- Refutes O41: its fourth clause says that the pins, PF0's MSI-X table among them, are as before the end of stage 9.
In `heldEventStartState` the held event is written to its ring and signalled as R306 says, and leaves the pending bit
of the masked vector 0. -/
theorem not_startStages : ¬ Obligations.StartStages := by
  unfold Obligations.StartStages
  rintro ⟨-, -, -, hactive, -⟩
  obtain ⟨t, ht, -, -, -, -, -, hpins, -⟩ := hactive heldEventStartState
    { sfdp := true, supported := true, density := 0, layoutOk := true } (by decide +kernel) rfl rfl
  have hfp := startOnly_forAll allPorts (fun p t => startOnly_fpStart t p) heldEventStartState
  obtain ⟨hserves, hheld⟩ := servesAsHeld_stage9 _ hfp
  have hpend : heldEventStartState.stage9End.pins.msix0.pend = 1 := by
    rw [State.stage9End]
    simp only [forAll_pins, springResume_frame]
    exact releaseHeld_pend hserves hheld
  have hend : t.pins = heldEventStartState.stage9End.pins :=
    startStageEnd_nine (by decide +kernel) rfl (by decide +kernel) rfl ht
  rw [← hend, hpins] at hpend
  exact absurd hpend (by decide +kernel)

end Sys2Proof.Machine
end

section
/-! O2, O9, O10, O15 and O42: a tick, the supplies, a temperature sample and the security version. -/

namespace Sys2Proof.Machine

open Sys2Proof

/-! ## A tick -/

theorem slotTick_frame (q : Port) (n : Nat) (f : Nat → Byte) :
    q.slotTick n f = { q with cnt := (q.slotTick n f).cnt, slots := (q.slotTick n f).slots } := by
  unfold Port.slotTick
  split <;> rfl

theorem bedOnTick_frame (d : Bed) (n : Nat) :
    d.onTick n = { d with onFrac := (d.onTick n).onFrac, cnt := (d.onTick n).cnt } := by
  unfold Bed.onTick
  repeat' split
  all_goals rfl

/-- R541, R542. In a device that is held only the clock's part of a tick is done. -/
theorem tickOn_held {s : State} (h : s.live = false) : s.tickOn = { s with now := s.now + 1, clk := s.clk.onTick } := by
  simp [State.tickOn, h]

/-- In a live device the slots of every port and the on-time of every bed are done too. -/
theorem tickOn_live {s : State} (h : s.live = true) : s.tickOn =
    { s with
      now := s.now + 1, clk := s.clk.onTick, free := s.free + 1,
      ports := mkVec 128 fun p => (s.port p).slotTick (s.now + 1) fun i => Config.freeByte s.free (8 * p.val + i),
      beds := mkVec 8 fun b => (s.bed b).onTick (s.now + 1) } := by
  simp [State.tickOn, h]

/-- Settles O2: a tick is the clock's part and, in a live device, that of each port and each bed. -/
theorem idleStep : Obligations.IdleStep := by
  unfold Obligations.IdleStep
  have hstep : ∀ s : State, s.pending = [] → step s = .next s.tickOn := fun s hs => by rw [step, hs]
  refine ⟨fun s hs => ⟨s.tickOn, hstep s hs, ?_⟩, fun s hs hl => ?_⟩
  · cases hl : s.live with
    | false =>
      rw [tickOn_held hl]
      exact ⟨rfl, rfl, rfl, fun _ => rfl, fun _ => rfl⟩
    | true =>
      rw [tickOn_live hl]
      refine ⟨rfl, rfl, rfl, fun p => ?_, fun b => ?_⟩
      · simp only [State.port, get_mkVec]
        exact slotTick_frame ..
      · simp only [State.bed, get_mkVec]
        exact bedOnTick_frame ..
  · rw [hstep s hs, tickOn_held hl]

/-! ## A temperature sample (R552) -/

/-- The bed with its sample, as `State.bedSample` records it. -/
def Bed.sampled (d : Bed) (v : BitVec 12) : Bed :=
  { d with temp := v, tempValid := true, hotRun := tempHot v, tempHeld := d.tempHeld && !tempCool v }

theorem bedSample_cool {s : State} {b : BedId} {v : BitVec 12} (hv : tempHot v = false)
    (hd : (s.bed b).tempHeld = false) : s.bedSample b v = s.modBed b fun d => d.sampled v := by
  rw [State.bedSample, hv, hd, Bool.false_and, Bool.false_and, Bool.false_and]
  simp only [Bed.sampled, hv, Bool.false_eq_true, if_false]

theorem sampled_cool {d : Bed} {v : BitVec 12} (hv : tempHot v = false) (hd : d.tempHeld = false) :
    d.sampled v = { d with temp := v, tempValid := true, hotRun := false } := by
  rw [Bed.sampled, hv, hd, Bool.false_and, ← hd]

theorem forAll_bedSample {v : BedId → BitVec 12} (hv : ∀ b, tempHot (v b) = false) (bs : List BedId) {s : State}
    (hs : ∀ b, (s.bed b).tempHeld = false) :
    forAll bs (fun b t => t.bedSample b (v b)) s = forAll bs (fun b t => t.modBed b fun d => d.sampled (v b)) s := by
  induction bs generalizing s with
  | nil => rfl
  | cons b bs ih =>
    rw [forAll_cons, forAll_cons, bedSample_cool (hv b) (hs b)]
    refine ih fun i => ?_
    rw [bed_modBed]
    split <;> simp [Bed.sampled, hs]

theorem bed_forAll_modBed {bs : List BedId} (hd : bs.Nodup) (f : BedId → Bed → Bed) (s : State) (i : BedId) :
    (forAll bs (fun b t => t.modBed b (f b)) s).bed i = if i ∈ bs then f i (s.bed i) else s.bed i := by
  induction bs generalizing s with
  | nil => rfl
  | cons b bs ih =>
    obtain ⟨hb, hd⟩ := List.nodup_cons.mp hd
    rw [forAll_cons, ih hd, bed_modBed]
    by_cases h : i = b
    · subst h; simp [hb]
    · simp [h]

theorem forAll_modBed_frame (bs : List BedId) (f : BedId → Bed → Bed) (s : State) :
    forAll bs (fun b t => t.modBed b (f b)) s =
      { s with beds := (forAll bs (fun b t => t.modBed b (f b)) s).beds } := by
  induction bs generalizing s with
  | nil => rfl
  | cons b bs ih =>
    rw [forAll_cons, ih]
    rfl

/-- Settles O15: the sample is that of the hub and of every bed. -/
theorem temperatureSample : Obligations.TemperatureSample := by
  unfold Obligations.TemperatureSample
  intro s v hl hcool hheld
  have hv : ∀ n, tempHot (v.getD n 0) = false := fun n => by
    rw [List.getD_eq_getElem?_getD]
    cases h : v[n]? with
    | none => decide
    | some x => exact hcool x (List.mem_of_getElem? h)
  have hbeds := forAll_bedSample (fun b => hv b.val) allBeds
    (s := { s with hub := { s.hub with temp := v.getD 8 0, tempValid := true, hotRun := false } }) hheld
  refine completes_of_effect hl (Eq.refl (execTempSample v s))
    (t := forAll allBeds (fun b t => t.modBed b fun d => d.sampled (v.getD b.val 0))
      { s with hub := { s.hub with temp := v.getD 8 0, tempValid := true, hotRun := false } }) ?_ ?_ ?_ ?_
  · dsimp only
    rw [hv, if_neg (by simp)]
    exact hbeds
  · rw [forAll_modBed_frame]
  · rw [forAll_modBed_frame]
  · refine ⟨fun b => ?_, ?_⟩
    · rw [bed_forAll_modBed (bs := allBeds) (List.nodup_finRange 8), if_pos (show b ∈ allBeds from List.mem_finRange b)]
      exact sampled_cool (hv b.val) (hheld b)
    · rw [forAll_modBed_frame]

/-! ## The security version (R511–R513) -/

/-- The state with the bit of the fused value blown. -/
def State.blown (s : State) : State :=
  { s with sec := { s.sec with svn := s.sec.svn ||| BitVec.ofNat 64 (2 ^ fusedSvn s.sec.svn) } }

theorem svnFuseBlow_last {s : State} (hl : s.live = true) (hb : s.boot.blowing = true)
    (hv : s.boot.imageSvn.toNat = fusedSvn s.sec.svn + 1) (h64 : fusedSvn s.sec.svn < 64) :
    Completes .svnFuseBlow s fun t =>
      t = State.security { s.blown with boot := { s.boot with blowing := false } } 5 1 0 := by
  refine completes_eq hl (Eq.refl (execSvnFuseBlow s)) ?_ rfl rfl
  rw [if_neg (by simp [hb]), if_neg (by simp; omega), if_pos hv]
  rfl

theorem svnFuseBlow_more {s : State} (hl : s.live = true) (hb : s.boot.blowing = true)
    (hv : fusedSvn s.sec.svn + 1 < s.boot.imageSvn.toNat) (h64 : fusedSvn s.sec.svn < 64) :
    Completes .svnFuseBlow s fun t => t = s.blown := by
  refine completes_eq hl (Eq.refl (execSvnFuseBlow s)) ?_ rfl rfl
  rw [if_neg (by simp [hb]), if_neg (by simp; omega), if_neg (by omega)]
  rfl

theorem svnFuseBlow_none {s : State} (hl : s.live = true)
    (h : s.boot.blowing = false ∨ s.boot.imageSvn.toNat ≤ fusedSvn s.sec.svn) :
    Completes .svnFuseBlow s fun t => t = { s with boot := { s.boot with blowing := false } } := by
  refine completes_eq hl (Eq.refl (execSvnFuseBlow s)) ?_ rfl rfl
  cases hb : s.boot.blowing with
  | false =>
    rw [if_pos (by simp), ← hb]
  | true =>
    have hv := h.resolve_left (by simp [hb])
    rw [if_neg (by simp), if_pos (by simp [hv])]

theorem slotEvent_due (s : State) (r : SlotRes) (cid : Nat) :
    s.slotEvent r cid = { s with due := (s.slotEvent r cid).due } := by
  cases r <;> rfl

/-- The verification reads nothing of the start's record but the slot. -/
theorem verifySlot_bgDue (s : State) (slotB : Bool) :
    State.verifySlot { s with boot := { s.boot with bgDue := false } } slotB = s.verifySlot slotB := rfl

theorem slotBackgroundVerify_known {s : State} {r : SlotRes} (hl : s.live = true) (hd : s.boot.bgDue = true)
    (hon : s.sluice.hubOn = true) (hr : s.verifySlot (!s.boot.slot) = r)
    (hk : (if !s.boot.slot then s.sec.slotB else s.sec.slotA) ≠ .unknown) :
    Completes .slotBackgroundVerify s fun t =>
      t = State.slotResult { s with boot := { s.boot with bgDue := false } } (!s.boot.slot) r := by
  refine completes_eq hl (Eq.refl (execSlotBackgroundVerify s)) ?_ rfl rfl
  rw [if_neg (by simp [hd, hon])]
  dsimp only
  rw [if_neg hk, verifySlot_bgDue, hr]

theorem slotBackgroundVerify_unknown {s : State} {r : SlotRes} (hl : s.live = true) (hd : s.boot.bgDue = true)
    (hon : s.sluice.hubOn = true) (hr : s.verifySlot (!s.boot.slot) = r)
    (hk : (if !s.boot.slot then s.sec.slotB else s.sec.slotA) = .unknown) :
    Completes .slotBackgroundVerify s fun t =>
      t = (State.slotResult { s with boot := { s.boot with bgDue := false } } (!s.boot.slot) r).slotEvent r 0 := by
  refine completes_eq hl (Eq.refl (execSlotBackgroundVerify s)) ?_ ?_ ?_
  · rw [if_neg (by simp [hd, hon])]
    dsimp only
    rw [if_pos hk, State.verify, verifySlot_bgDue, hr]
  · rw [slotEvent_due]; rfl
  · rw [slotEvent_due]; rfl

/-- Settles O42: the blow by whether it is the last one, the verification by whether its result was known. -/
theorem securityVersion : Obligations.SecurityVersion := by
  unfold Obligations.SecurityVersion
  refine ⟨fun s hl hd hon => ?_, fun s hl hb hv h64 => ?_, fun s hl hor => ?_⟩
  · generalize hr : s.verifySlot (!s.boot.slot) = r
    by_cases hk : (if !s.boot.slot then s.sec.slotB else s.sec.slotA) = .unknown
    · obtain ⟨t, ht, rfl⟩ := slotBackgroundVerify_unknown hl hd hon hr hk
      refine ⟨_, ht, ?_⟩
      cases r <;> exact ⟨rfl, rfl, rfl⟩
    · obtain ⟨t, ht, rfl⟩ := slotBackgroundVerify_known hl hd hon hr hk
      exact ⟨_, ht, rfl, rfl, rfl⟩
  · by_cases hlast : s.boot.imageSvn.toNat = fusedSvn s.sec.svn + 1
    · obtain ⟨t, ht, rfl⟩ := svnFuseBlow_last hl hb hlast h64
      refine ⟨_, ht, rfl, fusedSvn_blown h64, iff_of_false (by exact Bool.false_ne_true) ?_, rfl⟩
      change ¬ fusedSvn (s.sec.svn ||| _) < _
      rw [fusedSvn_blown h64]
      omega
    · obtain ⟨t, ht, rfl⟩ := svnFuseBlow_more hl hb (by omega) h64
      refine ⟨_, ht, rfl, fusedSvn_blown h64, iff_of_true hb ?_, rfl⟩
      change fusedSvn (s.sec.svn ||| _) < _
      rw [fusedSvn_blown h64]
      omega
  · obtain ⟨t, ht, rfl⟩ := svnFuseBlow_none hl hor
    exact ⟨_, ht, rfl, rfl⟩

/-! ## Power, PERST# and the rails (R399, R400, R414, R541, R542) -/

theorem powerWipe_bed (s : State) (b : BedId) :
    s.powerWipe.bed b = { Bed.reset b with fuses := (s.bed b).fuses } :=
  get_mkVec (fun b => ({ Bed.reset b with fuses := (s.bed b).fuses } : Bed)) b

/-- PERST# keeps of a port its fingerprint, the settings of its rung and its map of host lanes. -/
def Port.perstKept (p : PortId) (q : Port) : Port :=
  let r := q.wipe p
  { r with cfg := { r.cfg with hostmap0 := q.cfg.hostmap0, hostmap1 := q.cfg.hostmap1, lanemap := q.cfg.lanemap } }

theorem perstWipe_port (s : State) (p : PortId) : s.perstWipe.port p = (s.port p).perstKept p :=
  get_mkVec (fun p => (s.port p).perstKept p) p

theorem perstWipe_bed (s : State) (b : BedId) : s.perstWipe.bed b =
    { fuses := (s.bed b).fuses, roleLfsr := (s.bed b).roleLfsr, softMap := (s.bed b).softMap } :=
  get_mkVec (fun b => ({
    fuses := (s.bed b).fuses, roleLfsr := (s.bed b).roleLfsr, softMap := (s.bed b).softMap } : Bed)) b

/-- Settles O9: what the wipes of power and of PERST# write, read back bed by bed and port by port. -/
theorem powerAndPerst : Obligations.PowerAndPerst := by
  unfold Obligations.PowerAndPerst
  refine ⟨fun s hp => ?_, fun s => ?_, fun s hp => ?_⟩
  · refine completes_answer (Eq.refl (execPowerOn s)) ?_
    rw [if_neg (by simp [hp])]
    exact ⟨rfl, rfl, rfl, rfl, rfl, rfl, rfl, rfl, rfl, rfl, rfl, rfl, rfl, rfl, rfl, rfl, powerWipe_bed s, rfl⟩
  · refine completes_answer (Eq.refl (execPowerRemoval s)) ?_
    exact ⟨rfl, rfl, rfl, rfl, rfl, rfl, rfl, rfl, rfl, rfl, rfl, rfl, rfl, rfl, rfl, rfl, powerWipe_bed s, rfl⟩
  · refine completes_answer (Eq.refl (execPerstAssert s)) ?_
    rw [if_neg (by simp [hp])]
    refine ⟨rfl, hp, rfl, rfl, rfl, rfl, rfl, rfl, rfl, rfl, rfl, rfl, rfl, rfl, fun p => ?_, rfl, rfl,
      fun b => ?_, rfl⟩
    · change (s.perstWipe.port p).fp = _ ∧ (s.perstWipe.port p).cnt = _ ∧ (s.perstWipe.port p).cfg.applied = _ ∧
        (s.perstWipe.port p).link.state = _
      rw [perstWipe_port]
      exact ⟨rfl, rfl, rfl, rfl⟩
    · change (s.perstWipe.bed b).fuses = _ ∧ (s.perstWipe.bed b).pow = _
      rw [perstWipe_bed]
      exact ⟨rfl, rfl⟩

theorem perstStart_eq {s : State} (h : s.sec.wellUnlock = false) :
    s.perstStart = State.startBegin { s with pins := { s.pins with startDue := false } } false := by
  rw [State.perstStart]
  exact if_neg (by simp [State.startBegin, h])

/-- Settles O10: a release and the last rail's return begin a start, the loss of VDD_CORE wipes as PERST# does. -/
theorem railsAndRelease : Obligations.RailsAndRelease := by
  unfold Obligations.RailsAndRelease
  refine ⟨fun s x hp hr hlost hu => ?_, fun s x hp hr hlost => ?_, fun s rs hp hcore haon hio => ?_,
    fun s rs hp hdue hall hu => ?_⟩
  · refine completes_answer (Eq.refl (execPerstRelease x s)) ?_
    rw [if_neg (by simp [hp, hr])]
    dsimp only
    rw [if_pos (by simp [hlost]), perstStart_eq (by exact hu)]
    exact ⟨rfl, rfl, rfl, rfl, rfl, rfl, rfl, rfl, rfl, rfl, rfl, rfl, rfl, rfl⟩
  · refine completes_answer (Eq.refl (execPerstRelease x s)) ?_
    rw [if_neg (by simp [hp, hr])]
    dsimp only
    rw [if_neg (by simpa using hlost)]
  · refine completes_answer (Eq.refl (execRailPowerGoodLost rs s)) ?_
    rw [if_neg (by simp [hp])]
    dsimp only
    have hoff : (rs.any fun r => r == .aon || r == .io) ≠ true := by
      rw [Ne, List.any_eq_true]
      rintro ⟨r, hr, h⟩
      rcases (by simpa using h : r = .aon ∨ r = .io) with rfl | rfl
      · exact haon hr
      · exact hio hr
    rw [if_neg hoff, if_pos (by simpa using hcore)]
    have hlost : Rail.core ∈ s.pins.lost ++ rs.filter fun r => !s.pins.lost.contains r := by
      by_cases h : Rail.core ∈ s.pins.lost <;> simp [h, hcore]
    refine ⟨hlost, hp, rfl, ?_, rfl, rfl, rfl, rfl, rfl, fun p => ?_, rfl, rfl, rfl⟩
    · change (_ && !s.pins.perst && _ && _ && !(!s.pins.perst)) = false
      cases s.pins.perst <;> simp
    · change ((State.perstWipe _).port p).fp = _ ∧ ((State.perstWipe _).port p).cnt = _
      rw [perstWipe_port]
      exact ⟨rfl, rfl⟩
  · refine completes_answer (Eq.refl (execRailPowerGoodRegained rs s)) ?_
    have hlost : (s.pins.lost.filter fun r => !rs.contains r) = [] := by
      simpa [List.filter_eq_nil_iff] using hall
    rw [if_neg (by simp [hp])]
    dsimp only
    rw [if_pos (by rw [Bool.and_eq_true, hlost]; exact ⟨hdue, rfl⟩), perstStart_eq (by exact hu)]
    exact ⟨hlost, rfl, rfl, rfl, rfl, rfl, rfl, rfl, rfl⟩

end Sys2Proof.Machine
end

section
/-! O35–O39: mailbox locks, staging, posts, answers, bells, the bind table and SMBALERT# (R371–R385). -/

namespace Sys2Proof.Machine

open Sys2Proof

/-! ## What reaches a channel -/

theorem chansKept_modChan (s : State) (c : ChanId) (f : Chan → Chan) : s.chansKept (s.modChan c f) [c] :=
  fun i hi => chan_modChan_ne s c f i (by simpa using hi)

theorem chansKept_trans {s t u : State} {cs : List ChanId} (h₁ : s.chansKept t cs) (h₂ : t.chansKept u cs) :
    s.chansKept u cs :=
  fun c hc => (h₂ c hc).trans (h₁ c hc)

theorem chansKept_of_eq {s t : State} (cs : List ChanId) (h : t.chans = s.chans) : s.chansKept t cs :=
  fun c _ => congrArg (·.get c) h

/-- R369, R370. A write of a master that reaches the mailbox block is that command's effect. -/
theorem completes_mbxWrite {i : Instr} {s t : State} {m : MasterId} {a : Nat} {g : State → State} {P : State → Prop}
    (hl : s.live = true) (hm : hasBar0 m = true) (he : s.early m = false) (hb : blockOf a = some .mbx)
    (hi : exec i s = onLive s fun s => s.writeTo m a g) (hg : g s = t) (hp : t.pending = s.pending) (hn : t.now = s.now)
    (h : P t) : Completes i s P :=
  completes_of_effect hl hi ((writeTo_block hm he hb).trans hg) hp hn h

/-- A write of LOCK, PTR, META, BELL, MASK or CTL of channel c. -/
theorem completes_chanWrite {i : Instr} {s t : State} {m : MasterId} {c : ChanId} {o : Nat} {g : State → State}
    {P : State → Prop} (hl : s.live = true) (hm : hasBar0 m = true) (he : s.early m = false) (ho : o < 0x20)
    (hi : exec i s = onLive s fun s => s.writeTo m (mbxAddr c o) g) (hg : g s = t) (hp : t.pending = s.pending)
    (hn : t.now = s.now) (h : P t) : Completes i s P :=
  completes_mbxWrite hl hm he (blockOf_mbx c o ho) hi hg hp hn h

/-- A write of a channel that changes the channel alone. -/
theorem completes_modChan {i : Instr} {s : State} {m : MasterId} {c : ChanId} {o : Nat} {g : State → State}
    {f : Chan → Chan} {P : State → Prop} (hl : s.live = true) (hm : hasBar0 m = true) (he : s.early m = false)
    (ho : o < 0x20) (hi : exec i s = onLive s fun s => s.writeTo m (mbxAddr c o) g) (hg : g s = s.modChan c f)
    (h : ∀ t, t.chan c = f (s.chan c) → s.chansKept t [c] → t = { s with chans := t.chans } → P t) :
    Completes i s P :=
  completes_chanWrite hl hm he ho hi hg rfl rfl (h _ (chan_modChan_self ..) (chansKept_modChan _ _ _) rfl)

/-- A write of a channel that is ignored. -/
theorem completes_chanIgnored {i : Instr} {s : State} {m : MasterId} {c : ChanId} {o : Nat} {g : State → State}
    (hl : s.live = true) (hm : hasBar0 m = true) (he : s.early m = false) (ho : o < 0x20)
    (hi : exec i s = onLive s fun s => s.writeTo m (mbxAddr c o) g) (hg : g s = s) : Completes i s fun t => t = s :=
  completes_chanWrite hl hm he ho hi hg rfl rfl rfl

/-! ## Locks (R373, R374) -/

/-- The lowest identity of a list is what the fold over it finds. -/
theorem foldl_lowest {w : MasterId} {ms : List MasterId} {a : MasterId} (hw : w = a ∨ w ∈ ms)
    (hle : w.toNat ≤ a.toNat ∧ ∀ m ∈ ms, w.toNat ≤ m.toNat) :
    ms.foldl (fun a m => if m.toNat < a.toNat then m else a) a = w := by
  induction ms generalizing a with
  | nil => simpa [eq_comm] using hw
  | cons m ms ih =>
    obtain ⟨ha, hms⟩ := hle
    have hm := hms m List.mem_cons_self
    have hrest := fun x hx => hms x (List.mem_cons_of_mem m hx)
    rw [List.foldl_cons]
    split
    next hlt =>
      refine ih ?_ ⟨hm, hrest⟩
      rcases hw with rfl | hw
      · omega
      · exact List.mem_cons.mp hw
    next hge =>
      refine ih ?_ ⟨ha, hrest⟩
      rcases hw with rfl | hw
      · exact .inl rfl
      · rcases List.mem_cons.mp hw with rfl | hw
        · exact .inl (BitVec.eq_of_toNat_eq (by omega))
        · exact .inr hw

theorem filter_hasBar0 {ms : List MasterId} (h : ∀ m ∈ ms, hasBar0 m = true) :
    (ms.filter fun m => m != 0 && m != 12 && m != 14 && m != 15) = ms :=
  List.filter_eq_self.mpr h

/-- R373. Of the masters that read a free lock in one tick the lowest identity gets it. -/
theorem lockRead_free {s : State} {c : ChanId} {ms : List MasterId} {w : MasterId} (hw : w ∈ ms)
    (hms : ∀ m ∈ ms, hasBar0 m = true ∧ w.toNat ≤ m.toNat) (hfree : (s.chan c).owner s.now = 0) :
    s.lockRead ms c = s.modChan c fun q => { q with lock := w, lockAt := some s.now } := by
  have hlock : (s.chan c).lock = 0 := by
    by_contra h
    rw [Chan.owner, if_pos (bne_iff_ne.mpr h)] at hfree
    exact h hfree
  obtain ⟨m0, rest, rfl⟩ : ∃ m0 rest, ms = m0 :: rest := List.exists_cons_of_ne_nil (List.ne_nil_of_mem hw)
  have hfold := foldl_lowest (w := w) (ms := rest) (a := m0) (by simpa using hw)
    ⟨(hms m0 List.mem_cons_self).2, fun m hm => (hms m (List.mem_cons_of_mem m0 hm)).2⟩
  have hable := filter_hasBar0 fun m hm => (hms m hm).1
  simp only [State.lockRead, hfree, hlock, bne_self_eq_false, Bool.false_and, Bool.false_eq_true, if_false,
    List.nil_append, hable, hfold]

/-- R373. A further read of the tick in which the lock was taken leaves it to the lower identity. -/
theorem lockRead_took {s : State} {c : ChanId} {m : MasterId} (hm : hasBar0 m = true) (hlock : (s.chan c).lock ≠ 0)
    (hat : (s.chan c).lockAt = some s.now) : s.lockRead [m] c = s.modChan c fun q => { q with
      lock := if m.toNat < (s.chan c).lock.toNat then m else (s.chan c).lock, lockAt := some s.now } := by
  have htook : ((s.chan c).lock != 0 && (s.chan c).lockAt == some s.now) = true := by
    rw [Bool.and_eq_true, bne_iff_ne, beq_iff_eq]
    exact ⟨hlock, hat⟩
  have hable := filter_hasBar0 (ms := [m]) (by simpa using hm)
  simp only [State.lockRead, htook, Bool.not_true, Bool.and_false, Bool.false_eq_true, if_false, if_true, hable,
    List.singleton_append, List.foldl_cons, List.foldl_nil]

/-- R374. A lock that is held since an earlier tick, or freed in this one, stays. -/
theorem lockRead_held {s : State} {c : ChanId} {ms : List MasterId} (how : (s.chan c).owner s.now ≠ 0)
    (h : (s.chan c).lock = 0 ∨ (s.chan c).lockAt ≠ some s.now) : s.lockRead ms c = s := by
  have htook : ((s.chan c).lock != 0 && (s.chan c).lockAt == some s.now) = false := by
    rcases h with h | h <;> simp [h]
  simp only [State.lockRead, htook, Bool.not_false, Bool.and_true, bne_iff_ne]
  exact if_pos how

theorem completes_lockRead {s : State} {c : ChanId} {ms : List MasterId} {P : State → Prop} {t : State}
    (hl : s.live = true) (he : ∀ m ∈ ms, s.early m = false) (ht : s.lockRead ms c = t) (hp : t.pending = s.pending)
    (hn : t.now = s.now) (h : P t) : Completes (.mbxLockRead ms c) s P := by
  refine completes_of_effect hl (Eq.refl (execMbxLockRead ms c s)) ?_ hp hn h
  have hoff : (ms.filter fun m => s.early m) = [] := List.filter_eq_nil_iff.mpr fun m hm => by simp [he m hm]
  have hon : (ms.filter fun m => !s.early m) = ms := List.filter_eq_self.mpr fun m hm => by simp [he m hm]
  dsimp only
  rw [hoff, hon]
  exact ht

theorem unlock_held {q : Chan} {n : Nat} (h : q.lock ≠ 0) :
    q.unlock n = { q with lock := 0, lockWas := q.lock, lockRel := n } := if_neg h

theorem owner_unlock_next {q : Chan} {n : Nat} (h : q.lock ≠ 0) : (q.unlock n).owner (n + 1) = 0 := by
  simp [unlock_held h, Chan.owner]

theorem owner_unlock_now {q : Chan} {n : Nat} (h : q.lock ≠ 0) : (q.unlock n).owner n = q.lock := by
  simp [unlock_held h, Chan.owner]

@[simp] theorem lock_unlock (q : Chan) (n : Nat) : (q.unlock n).lock = 0 := by
  unfold Chan.unlock
  split
  · assumption
  · rfl

@[simp] theorem reject_unlock (q : Chan) (n : Nat) : (q.unlock n).reject = q.reject := by
  unfold Chan.unlock
  split <;> rfl

theorem ne_zero_of_hasBar0 {m : MasterId} (h : hasBar0 m = true) : m ≠ 0 := fun h0 => (hasBar0_identity h) (.inl h0)

/-- Settles O35, by the three cases of a read of LOCK, and what its release leaves for either tick. -/
theorem mailboxLocksAndStaging : Obligations.MailboxLocksAndStaging := by
  unfold Obligations.MailboxLocksAndStaging
  refine ⟨fun s c ms w hl hw hms hfree => ?_, fun s c m hl hm he hlock hat => ?_, fun s c ms hl he how h => ?_,
    fun s c m hl hm he hlock hout => ?_, fun s c m v hl hm he h => ?_, fun s c m k v hl hm he hb hs hout => ?_,
    fun s c m k v hl hm he h => ?_⟩
  · refine completes_lockRead hl (fun m hm => (hms m hm).2.1)
      (lockRead_free hw (fun m hm => ⟨(hms m hm).1, (hms m hm).2.2⟩) hfree) rfl rfl ?_
    have hc := chan_modChan_self s c fun q => { q with lock := w, lockAt := some s.now }
    exact ⟨congrArg Chan.lock hc, chansKept_modChan _ _ _, rfl, hc⟩
  · refine completes_lockRead hl (by simpa using he) (lockRead_took hm hlock hat) rfl rfl
      ⟨(chan_modChan_self ..).trans ?_, chansKept_modChan _ _ _, rfl⟩
    rw [← hat]
  · exact completes_lockRead hl he (lockRead_held how h) rfl rfl rfl
  · have hne : (s.chan c).lock ≠ 0 := hlock ▸ ne_zero_of_hasBar0 hm
    refine completes_modChan hl hm he (by decide) (Eq.refl (execMbxLockRelease m c 0 s))
      (if_pos (by simp [hlock, hout])) fun t hc hkept ht => ?_
    rw [hc]
    exact ⟨lock_unlock _ _, owner_unlock_next hne, (owner_unlock_now hne).trans hlock, hkept, ht⟩
  · refine completes_chanIgnored hl hm he (by decide) (Eq.refl (execMbxLockRelease m c v s)) (if_neg ?_)
    rw [Bool.and_eq_true, Bool.and_eq_true, decide_eq_true_eq, decide_eq_true_eq]
    rintro ⟨⟨hv, hlock⟩, hout⟩
    rcases h with h | h | h
    · exact h hv
    · exact h hlock.symm
    · simp [h] at hout
  · refine completes_modChan hl hm he ?_ (Eq.refl (execMbxStageWrite m c k v s))
      (if_pos (by simp [hb, hs, hout])) fun t hc hkept ht => ⟨hc, hkept, ht⟩
    have := k.isLt
    omega
  · refine completes_chanIgnored hl hm he ?_ (Eq.refl (execMbxStageWrite m c k v s)) (if_neg ?_)
    · have := k.isLt
      omega
    · rcases h with h | h | h <;> simp [h]

/-! ## Notifications (R380) -/

theorem chan_alertUpdate (s : State) (i : ChanId) : s.alertUpdate.chan i = s.chan i := rfl

theorem chan_message (s : State) (pf1 : Bool) (v : Nat) (i : ChanId) : (s.message pf1 v).chan i = s.chan i :=
  congrArg (fun cs => Vector.get cs i) (by simp : (s.message pf1 v).chans = s.chans)

theorem chansKept_notify (s : State) (m : MasterId) (c : ChanId) (bell : Bool) :
    s.chansKept (s.notify m c bell) [c] := by
  intro i hi
  have hne : i ≠ c := by simpa using hi
  unfold State.notify
  split
  · dsimp only
    split
    · exact chan_message ..
    · rfl
  · split
    · rw [chan_alertUpdate, chan_modChan_ne _ _ _ _ hne]
    · rfl

/-- A notification may set the conditions that identity 13 has not read, and nothing else of the channel. -/
theorem chan_notify (s : State) (m : MasterId) (c : ChanId) (bell : Bool) :
    (s.notify m c bell).chan c = { s.chan c with
      unreadStat := ((s.notify m c bell).chan c).unreadStat,
      unreadBell := ((s.notify m c bell).chan c).unreadBell } := by
  unfold State.notify
  split
  · dsimp only
    split
    · rw [chan_message]
    · rfl
  · split
    · rw [chan_alertUpdate, chan_modChan_self]
      cases bell <;> rfl
    · rfl

/-- A change of channel c that is notified leaves the other channels. -/
theorem chansKept_modChan_notify (s : State) (m : MasterId) (c : ChanId) (f : Chan → Chan) (bell : Bool) :
    s.chansKept ((s.modChan c f).notify m c bell) [c] :=
  chansKept_trans (chansKept_modChan s c f) (chansKept_notify _ m c bell)

theorem chan_modChan_notify (s : State) (m : MasterId) (c : ChanId) (f : Chan → Chan) (bell : Bool) :
    ((s.modChan c f).notify m c bell).chan c = { f (s.chan c) with
      unreadStat := (((s.modChan c f).notify m c bell).chan c).unreadStat,
      unreadBell := (((s.modChan c f).notify m c bell).chan c).unreadBell } := by
  have h := chan_notify (s.modChan c f) m c bell
  rwa [chan_modChan_self] at h

/-! ## Posts and answers (R375–R378) -/

/-- The channel with its notice done. -/
def Chan.answered (q : Chan) (now : Nat) (r : Byte) : Chan :=
  { q.unlock now with notice := false, taken := false, done := true, result := r, doneAt := some now }

theorem noticeDone_eq {s : State} {c : ChanId} {r : Byte} (hd : (s.chan c).discard = false) :
    s.noticeDone c r = (s.modChan c fun q => q.answered s.now r).notify (s.chan c).sender c false := by
  rw [State.noticeDone]
  exact if_neg (by simp [hd])

/-- The channel with its notice posted. -/
def Chan.posted (q : Chan) : Chan :=
  { q with done := false, result := 0, aborted := false, withdrawn := false, reject := .none, notice := true }

/-- The reason for which a post of m is rejected, in the order of R375. -/
def Chan.postReject (q : Chan) (m : MasterId) : Reject :=
  if q.bound = false then .unbound else if q.sender ≠ m then .notSender
  else if q.lock ≠ m then .noLock else if q.outstanding = true then .busy
  else if q.ptrOk = false then .badPtr else .none

theorem post_rejected {s : State} {m : MasterId} {c : ChanId} (hrst : (s.chan c).rxRstAt ≠ some s.now)
    (hr : (s.chan c).postReject m ≠ .none) :
    s.post m c = s.modChan c fun q => { q with reject := (s.chan c).postReject m } := by
  simp only [Chan.postReject] at hr ⊢
  simp only [State.post, if_neg hrst, State.mbxReject, Bool.not_eq_true', bne_iff_ne]
  repeat' split at hr
  all_goals simp_all

theorem post_accepted {s : State} {m : MasterId} {c : ChanId} (hrst : (s.chan c).rxRstAt ≠ some s.now)
    (hb : (s.chan c).bound = true) (hs : (s.chan c).sender = m) (hl : (s.chan c).lock = m)
    (ho : (s.chan c).outstanding = false) (hp : (s.chan c).ptrOk = true) : s.post m c = s.postAccepted c := by
  simp [State.post, if_neg hrst, hb, hs, hl, ho, hp]

/-- A post whose receiver takes notices at once. -/
theorem postAccepted_awake {s : State} {c : ChanId} (hrst : (s.chan c).rxRstAt ≠ some s.now)
    (hmode : s.hub.mode ≠ .dormant) (hentry : s.sluice.entry = false) :
    s.postAccepted c =
      if s.runs (s.chan c).receiver then (s.modChan c Chan.posted).notify (s.chan c).receiver c false
      else (s.modChan c Chan.posted).noticeDone c 6 := by
  simp only [State.postAccepted, if_neg hrst, hmode, hentry, Bool.false_eq_true, or_self, and_false, if_false]
  rfl

/-- Settles O36: a post is rejected, notified or answered at once. -/
theorem mailboxPost : Obligations.MailboxPost := by
  unfold Obligations.MailboxPost
  refine ⟨fun s c m r hl hm he hr hne hrst => ?_, fun s c m hl hm he hb hs hlock ho hp hrun hmode hentry hrst => ?_,
    fun s c m hl hm he hb hs hlock ho hd hp hrun hmode hentry hrst => ?_⟩
  · subst hr
    exact completes_modChan hl hm he (by decide) (Eq.refl (execMbxPost m c s)) (post_rejected hrst hne)
      fun t hc hkept ht => ⟨hc, hkept, ht⟩
  · have hpost : s.post m c = (s.modChan c Chan.posted).notify (s.chan c).receiver c false := by
      rw [post_accepted hrst hb hs hlock ho hp, postAccepted_awake hrst hmode hentry, if_pos hrun]
    refine completes_chanWrite hl hm he (by decide) (Eq.refl (execMbxPost m c s)) hpost (by simp) (by simp) ?_
    rw [chan_modChan_notify]
    exact ⟨rfl, rfl, rfl, rfl, rfl, rfl, hlock, chansKept_modChan_notify _ _ _ _ _, by simp, by simp, by simp⟩
  · have hpost : s.post m c = ((s.modChan c Chan.posted).modChan c fun q => q.answered s.now 6).notify
        ((s.modChan c Chan.posted).chan c).sender c false := by
      rw [post_accepted hrst hb hs hlock ho hp, postAccepted_awake hrst hmode hentry, if_neg (by simp [hrun]),
        noticeDone_eq (by rw [chan_modChan_self]; exact hd)]
      rfl
    refine completes_chanWrite hl hm he (by decide) (Eq.refl (execMbxPost m c s)) hpost (by simp) (by simp) ?_
    rw [chan_modChan_notify]
    exact ⟨rfl, rfl, rfl, by rw [chan_modChan_self]; exact reject_unlock _ _, lock_unlock _ _,
      chansKept_trans (chansKept_modChan s c _) (chansKept_modChan_notify _ _ _ _ _), by simp, by simp, by simp⟩

/-- Settles O37: TAKE changes the channel alone, DONE is a notice done, and neither is another master's. -/
theorem mailboxTakeDone : Obligations.MailboxTakeDone := by
  unfold Obligations.MailboxTakeDone
  refine ⟨fun s c m hl hm he hb hr hn => ?_, fun s c m x hl hm he hb hr ho hd => ?_,
    fun s c m x i hi hl hm he hnot => ?_⟩
  · refine completes_modChan hl hm he (by decide) (Eq.refl (execMbxTake m c s))
      (f := fun q => { q with notice := false, taken := true, heldPost := false }) ?_
      fun t hc hkept ht => ⟨hc, hkept, ht⟩
    simp [State.chanTake, hb, hr, hn]
  · have hdone : s.chanDone ((s.chan c).bound && (s.chan c).receiver == m) c x =
        (s.modChan c fun q => q.answered s.now x).notify (s.chan c).sender c false := by
      rw [← noticeDone_eq hd]
      simp [State.chanDone, hb, hr, ho]
    refine completes_chanWrite hl hm he (by decide) (Eq.refl (execMbxDone m c x s)) hdone (by simp) (by simp) ?_
    rw [chan_modChan_notify]
    exact ⟨rfl, rfl, rfl, rfl, lock_unlock .., chansKept_modChan_notify _ _ _ _ _, by simp, by simp⟩
  · have hno : ((s.chan c).bound && (s.chan c).receiver == m) = false := by
      rcases hnot with h | h <;> simp [h]
    rcases hi with rfl | rfl
    · refine completes_modChan hl hm he (by decide) (Eq.refl (execMbxTake m c s))
        (f := fun q => { q with reject := .notReceiver }) ?_ fun t hc hkept ht => ⟨hc, hkept, ht⟩
      simp [State.chanTake, hno, State.mbxReject]
    · refine completes_modChan hl hm he (by decide) (Eq.refl (execMbxDone m c x s))
        (f := fun q => { q with reject := .notReceiver }) ?_ fun t hc hkept ht => ⟨hc, hkept, ht⟩
      simp [State.chanDone, hno, State.mbxReject]

/-! ## Bells (R379, R380) -/

/-- The channel with bits of BELL set in the tick now. -/
def Chan.rung (q : Chan) (now : Nat) (v : Word) : Chan :=
  { q with bell := q.bell ||| v, bellAt := now, bellNew := if q.bellAt = now then q.bellNew ||| v else v }

theorem bellSet_eq (s : State) (c : ChanId) (v : Word) : s.bellSet c v =
    if v &&& ~~~(s.chan c).bell &&& ~~~(s.chan c).mask = 0 then s.modChan c fun q => q.rung s.now v
    else (s.modChan c fun q => q.rung s.now v).notify (s.chan c).receiver c true := rfl

theorem maskSet_eq (s : State) (c : ChanId) (v : Word) : s.maskSet c v =
    if (s.chan c).bell &&& (s.chan c).mask &&& ~~~v = 0 then s.modChan c fun q => { q with mask := v }
    else (s.modChan c fun q => { q with mask := v }).notify (s.chan c).receiver c true := rfl

/-- No clear of its tick clears a bit that has been set. -/
theorem bellClear_rung (q : Chan) (n : Nat) (v w : Word) : ((q.rung n v).bellClear n w).bell &&& v = v := by
  simp only [Chan.bellClear, Chan.rung, if_true]
  ext i hi
  cases hv : v[i] <;> split <;> simp [hv]

theorem bellClear_later {q : Chan} {n : Nat} (h : q.bellAt ≠ n) (v : Word) :
    q.bellClear n v = { q with bell := q.bell &&& ~~~v } := by
  simp [Chan.bellClear, h]

/-- Settles O38: bits set and a mask written may notify besides, which leaves the bells. -/
theorem mailboxBells : Obligations.MailboxBells := by
  unfold Obligations.MailboxBells
  refine ⟨fun s c m v hl hm he hb hs => ?_, fun s c m v hl hm he hb hr hat => ?_, fun s c m v hl hm he hb hr => ?_,
    fun s c m v i hl hm he hi => ?_⟩
  · refine completes_chanWrite hl hm he (by decide) (Eq.refl (execMbxBellSet m c v s))
      ((if_pos (by simp [hb, hs])).trans (bellSet_eq s c v)) ?_ ?_ ?_
    · split <;> simp
    · split <;> simp
    · split
      · rw [chan_modChan_self]
        exact ⟨rfl, rfl, chansKept_modChan _ _ _, rfl, rfl, bellClear_rung _ _ _ _⟩
      · rw [chan_modChan_notify]
        exact ⟨rfl, rfl, chansKept_modChan_notify _ _ _ _ _, by simp, by simp, bellClear_rung _ _ _ _⟩
  · refine completes_modChan hl hm he (by decide) (Eq.refl (execMbxBellClear m c v s))
      (if_pos (by simp [hb, hr])) fun t hc hkept ht => ⟨?_, hkept, ht⟩
    rw [hc, bellClear_later hat]
  · refine completes_chanWrite hl hm he (by decide) (Eq.refl (execMbxMaskWrite m c v s))
      ((if_pos (by simp [hb, hr])).trans (maskSet_eq s c v)) ?_ ?_ ?_
    · split <;> simp
    · split <;> simp
    · split
      · rw [chan_modChan_self]
        exact ⟨rfl, rfl, chansKept_modChan _ _ _, rfl⟩
      · rw [chan_modChan_notify]
        exact ⟨rfl, rfl, chansKept_modChan_notify _ _ _ _ _, by simp⟩
  · rcases hi with ⟨rfl, h⟩ | ⟨rfl | rfl, h⟩
    · exact completes_chanIgnored hl hm he (by decide) (Eq.refl (execMbxBellSet m c v s))
        (if_neg (by rcases h with h | h <;> simp [h]))
    · exact completes_chanIgnored hl hm he (by decide) (Eq.refl (execMbxBellClear m c v s))
        (if_neg (by rcases h with h | h <;> simp [h]))
    · exact completes_chanIgnored hl hm he (by decide) (Eq.refl (execMbxMaskWrite m c v s))
        (if_neg (by rcases h with h | h <;> simp [h]))

/-! ## The bind table and SMBALERT# (R371, R380, R384) -/

theorem alertUpdate_iff (s : State) : s.alertUpdate.pins.alert = true ↔
    ∃ d, (s.chan d).unreadStat = true ∨ (s.chan d).unreadBell = true := by
  simp [State.alertUpdate, allChans]

/-- Settles O39. -/
theorem bindTableAndAlert : Obligations.BindTableAndAlert := by
  unfold Obligations.BindTableAndAlert
  refine ⟨fun s c v hl hlock => ?_, fun s c m v hl hm he h => ?_, fun s m v hl hm he => ?_, fun s c b hl he => ?_⟩
  · exact completes_mbxWrite hl (by decide) (by simp [State.early]) (blockOf_bind c)
      (Eq.refl (execMbxBindWrite 1 c v s)) (if_pos (by simp [hlock])) rfl rfl
      ⟨chan_modChan_self .., chansKept_modChan _ _ _, rfl⟩
  · refine completes_mbxWrite hl hm he (blockOf_bind c) (Eq.refl (execMbxBindWrite m c v s)) (if_neg ?_) rfl rfl rfl
    rw [Bool.and_eq_true, decide_eq_true_eq]
    rintro ⟨hm1, hfree⟩
    rcases h with h | h
    · exact h hm1
    · simp [h] at hfree
  · refine completes_mbxWrite hl hm he (a := 0x4040) (by decide) (Eq.refl (execMbxBindctlLock m v s))
      (t := { s with hub := { s.hub with bindLocked := s.hub.bindLocked || (decide (m = 1) && bit v 0) } }) ?_
      rfl rfl rfl
    cases (decide (m = 1) && bit v 0)
    · rw [Bool.or_false]; rfl
    · rw [Bool.or_true]; rfl
  · refine completes_of_effect hl (Eq.refl (execSmbusStatusRead c b s))
      (readOf_block (by decide) he (blockOf_mbx c _ (by cases b <;> decide))) rfl rfl ⟨?_, ?_, ?_, rfl⟩
    · rw [chan_alertUpdate, chan_modChan_self]
      cases b <;> rfl
    · exact fun i hi => (chan_alertUpdate _ i).trans (chansKept_modChan s c _ i hi)
    · exact alertUpdate_iff _

end Sys2Proof.Machine
end

section
/-! O40: requests that Wicket serves on channel 0 (R376, R420, R428, R511). -/

namespace Sys2Proof.Machine

open Sys2Proof

/-! ## What a service answers -/

theorem serve_served {s : State} {code : Byte} {sb : Bool} {buf : Bytes} {g : State → State}
    (hw : s.wicketServes = true) (hr : s.requestOk code buf = true) (hm : sb = false ∨ s.hub.mode = .seedbed) :
    s.serve code sb buf g = g s := by
  have hmode : (sb && s.hub.mode != .seedbed) = false := by rcases hm with h | h <;> simp [h]
  simp [State.serve, hw, hr, hmode]

theorem serve_malformed {s : State} {code : Byte} {sb : Bool} {buf : Bytes} {g : State → State}
    (hw : s.wicketServes = true) (hr : s.requestOk code buf = false) :
    s.serve code sb buf g = s.noticeDone 0 (BitVec.ofNat 8 ST.badParam.code) := by
  simp [State.serve, hw, hr]

theorem serve_refused {s : State} {code : Byte} {buf : Bytes} {g : State → State}
    (hw : s.wicketServes = true) (hr : s.requestOk code buf = true) (hm : s.hub.mode ≠ .seedbed) :
    s.serve code true buf g = s.noticeDone 0 (BitVec.ofNat 8 ST.refused.code) := by
  simp [State.serve, hw, hr, hm]

/-- Channel c holds the answer r, its lock is free, and the other channels are as in s. -/
def State.answeredOn (s t : State) (c : ChanId) (r : Byte) : Prop :=
  (t.chan c).done = true ∧ (t.chan c).result = r ∧ (t.chan c).lock = 0 ∧ s.chansKept t [c]

theorem noticeDone_answered {s : State} {c : ChanId} (r : Byte) (hd : (s.chan c).discard = false) :
    s.answeredOn (s.noticeDone c r) c r := by
  rw [noticeDone_eq hd, State.answeredOn, chan_modChan_notify]
  exact ⟨rfl, rfl, lock_unlock _ _, chansKept_modChan_notify _ _ _ _ _⟩

/-- The same after an operation that leaves the channels. -/
theorem noticeDone_answered_of_chans {s t : State} {c : ChanId} (r : Byte) (hc : t.chans = s.chans)
    (hd : (s.chan c).discard = false) : s.answeredOn (t.noticeDone c r) c r := by
  have hchan : ∀ i, t.chan i = s.chan i := fun i => congrArg (·.get i) hc
  obtain ⟨hdone, hres, hlock, hkept⟩ := noticeDone_answered (s := t) r (by rw [hchan]; exact hd)
  exact ⟨hdone, hres, hlock, fun i hi => (hkept i hi).trans (hchan i)⟩

/-- What noticeDone leaves besides the other channels, where the notice is not discarded. -/
theorem noticeDone_rest {s : State} {c : ChanId} (r : Byte) (hd : (s.chan c).discard = false) :
    (s.noticeDone c r).hub = s.hub ∧ (s.noticeDone c r).sec = s.sec ∧ (s.noticeDone c r).hostMem = s.hostMem := by
  rw [noticeDone_eq hd]
  simp

theorem bootctlWrite_flash (s : State) (slotB b : Bool) (r : SlotRes) (cid : Nat) :
    (((s.slotResult slotB r).slotEvent r cid).bootctlWrite b).flash = (s.bootctlWrite b).flash := by
  cases r <;> rfl

theorem authFail_ne_zero : BitVec.ofNat 8 ST.authFail.code ≠ 0 := by decide

theorem refused_ne_zero : BitVec.ofNat 8 ST.refused.code ≠ 0 := by decide

/-- R376. A buffer in mailbox memory is written there. -/
theorem noticeWrite_mbx {s : State} {c : ChanId} (bs : Bytes) (h : bit (s.chan c).ptrHi 31 = true) :
    s.noticeWrite c bs = { s with mbxMem := memWriteBytes 0 s.mbxMem (fld (s.chan c).ptrLo 0 13) bs } := by
  rw [State.noticeWrite]
  exact if_pos h

/-- A request that is answered without being served. -/
theorem completes_noticeDone {i : Instr} {s : State} {f : State → State} {r : Byte} {P : State → Prop}
    (hl : s.live = true) (hi : exec i s = onLive s f) (hf : f s = s.noticeDone 0 r)
    (h : P (s.noticeDone 0 r)) : Completes i s P :=
  completes_of_effect hl hi hf (by simp) (by simp) h

/-- The state with the result of a verification asked for by a request. -/
def State.verifiedSlot (s : State) (slotB : Bool) (r : SlotRes) : State := (s.slotResult slotB r).slotEvent r 0

theorem verify_eq {s : State} {slotB : Bool} {r : SlotRes} (hv : s.verifySlot slotB = r) :
    s.verify slotB 0 = (r, s.verifiedSlot slotB r) := by
  rw [State.verify, hv, State.verifiedSlot]

theorem verifiedSlot_frame (s : State) (slotB : Bool) (r : SlotRes) :
    s.verifiedSlot slotB r = { s with
      sec := (s.slotResult slotB r).sec, due := (s.verifiedSlot slotB r).due } := by
  cases r <;> rfl

theorem verifiedSlot_chans (s : State) (slotB : Bool) (r : SlotRes) : (s.verifiedSlot slotB r).chans = s.chans := by
  cases r <;> rfl

theorem chan_verifiedSlot (s : State) (slotB : Bool) (r : SlotRes) (i : ChanId) :
    (s.verifiedSlot slotB r).chan i = s.chan i := by
  cases r <;> rfl

theorem seedbedVerify_completes {s : State} {buf : Bytes} {r : SlotRes} (hl : s.live = true)
    (hw : s.wicketServes = true) (hr : s.requestOk 2 buf = true) (hv : s.verifySlot (bit (byteAt buf 1) 0) = r) :
    Completes (.seedbedVerify buf) s fun t => t = (s.verifiedSlot (bit (byteAt buf 1) 0) r).noticeDone 0
      (if r = .verified then 0 else BitVec.ofNat 8 ST.authFail.code) := by
  refine completes_eq hl (Eq.refl (execSeedbedVerify buf s)) ((serve_served hw hr (.inl rfl)).trans ?_) ?_ ?_
  · dsimp only
    rw [verify_eq hv]
  · rw [verifiedSlot_frame]; simp
  · rw [verifiedSlot_frame]; simp

theorem setPreferred_completes {s : State} {buf : Bytes} {r : SlotRes} (hl : s.live = true)
    (hw : s.wicketServes = true) (hr : s.requestOk 3 buf = true) (hm : s.hub.mode = .seedbed)
    (hv : s.verifySlot (bit (byteAt buf 1) 0) = r) :
    Completes (.setPreferred buf) s fun t => t =
      if r = .verified then
        ((s.verifiedSlot (bit (byteAt buf 1) 0) r).bootctlWrite (bit (byteAt buf 1) 0)).noticeDone 0 0
      else (s.verifiedSlot (bit (byteAt buf 1) 0) r).noticeDone 0 (BitVec.ofNat 8 ST.refused.code) := by
  refine completes_eq hl (Eq.refl (execSetPreferred buf s)) ((serve_served hw hr (.inr hm)).trans ?_) ?_ ?_
  · dsimp only
    rw [verify_eq hv]
  · rw [verifiedSlot_frame]; split <;> simp
  · rw [verifiedSlot_frame]; split <;> simp

theorem seedbedStatus_answer {s : State} (bs : Bytes) (hd : (s.chan 0).discard = false)
    (hptr : bit (s.chan 0).ptrHi 31 = true) :
    s.answeredOn ((s.noticeWrite 0 bs).noticeDone 0 0) 0 0 ∧
      ((s.noticeWrite 0 bs).noticeDone 0 0).mbxMem = memWriteBytes 0 s.mbxMem (fld (s.chan 0).ptrLo 0 13) bs ∧
      ((s.noticeWrite 0 bs).noticeDone 0 0).hostMem = s.hostMem ∧
      ((s.noticeWrite 0 bs).noticeDone 0 0).sec = s.sec := by
  rw [noticeWrite_mbx bs hptr]
  have hrest := noticeDone_rest (s := { s with mbxMem := memWriteBytes 0 s.mbxMem (fld (s.chan 0).ptrLo 0 13) bs })
    (c := 0) 0 hd
  exact ⟨noticeDone_answered_of_chans 0 rfl hd, by simp, hrest.2.2, hrest.2.1⟩

/-- A request that is not served: nothing but the answer. -/
theorem noticeDone_only {s : State} (r : Byte) (hd : (s.chan 0).discard = false) :
    s.answeredOn (s.noticeDone 0 r) 0 r ∧ (s.noticeDone 0 r).mbxMem = s.mbxMem ∧ (s.noticeDone 0 r).boot = s.boot ∧
      (s.noticeDone 0 r).flash = s.flash ∧ (s.noticeDone 0 r).sec = s.sec ∧ (s.noticeDone 0 r).hub = s.hub := by
  obtain ⟨hhub, hsec, -⟩ := noticeDone_rest r hd
  exact ⟨noticeDone_answered r hd, by simp, by simp, by simp, hsec, hhub⟩

/-! ## What a device reset begins (R402, R422, R423) -/

theorem log_count (s : State) (k : LogKind) (r l d : Nat) : (s.log k r l d).boot.count = s.boot.count := by
  unfold State.log
  split <;> simp

theorem logCut_count (s : State) (ops : List Nat) : (s.logCut ops).boot.count = s.boot.count := by
  unfold State.logCut
  induction ops generalizing s with
  | nil => rfl
  | cons o ops ih => rw [forAll_cons, ih, log_count]

theorem abandon_lock (s : State) : s.abandon.clk.lock = s.clk.lock := by
  simp [State.abandon, State.abandonDevice]

/-- What a device reset hands to the start that it begins. -/
theorem deviceReset_start (s : State) (retry : Bool) : ∃ u : State, s.deviceReset retry = u.startBegin retry ∧
    u.boot.count = s.boot.count ∧ u.clk.lock = s.clk.lock := by
  refine ⟨_, rfl, ?_, ?_⟩
  · simp [logCut_count]
  · simp [abandon_lock]

theorem retry_served {s : State} {buf : Bytes} (hl : s.live = true) (hw : s.wicketServes = true)
    (hr : s.requestOk 4 buf = true) (hm : s.hub.mode = .seedbed) :
    Completes (.retry buf) s fun t =>
      t = (State.noticeDone { s with boot := { s.boot with count := 0 } } 0 0).deviceReset true :=
  completes_eq hl (Eq.refl (execRetry buf s)) (serve_served hw hr (.inr hm)) (by simp) (by simp)

/-- Settles O40, service by service; a request that is malformed or refused is answered and nothing else. -/
theorem seedbedService : Obligations.SeedbedService := by
  unfold Obligations.SeedbedService
  refine ⟨fun s buf hl hw hr hd hptr => ?_, fun s buf i hl hw hd hi => ?_, fun s buf hl hw hr hd => ?_,
    fun s buf hl hw hr hd hm => ?_, fun s buf i hl hw hd hm hi => ?_, fun s buf hl hw hr hm => ?_⟩
  · refine completes_of_effect hl (Eq.refl (execSeedbedStatus buf s)) (serve_served hw hr (.inl rfl)) (by simp)
      (by simp) ?_
    obtain ⟨⟨hdone, hres, hlock, hkept⟩, hmbx, hhost, hsec⟩ := seedbedStatus_answer (s := s) _ hd hptr
    exact ⟨hdone, hres, hlock, hkept, hmbx, hhost, by simp, by simp, hsec⟩
  · obtain ⟨⟨hdone, hres, -, hkept⟩, hmbx, hboot, hflash, hsec, hhub⟩ :=
      noticeDone_only (BitVec.ofNat 8 ST.badParam.code) hd
    suffices hserve : ∃ f, exec i s = onLive s f ∧ f s = s.noticeDone 0 (BitVec.ofNat 8 ST.badParam.code) by
      obtain ⟨f, hexec, hf⟩ := hserve
      exact completes_noticeDone hl hexec hf ⟨hdone, hres, hkept, hmbx, hboot, hflash, hsec, hhub⟩
    rcases hi with ⟨rfl, hr⟩ | ⟨rfl, hr⟩ | ⟨rfl, hr⟩ | ⟨rfl, hr⟩
    · exact ⟨_, Eq.refl (execSeedbedStatus buf s), serve_malformed hw hr⟩
    · exact ⟨_, Eq.refl (execSeedbedVerify buf s), serve_malformed hw hr⟩
    · exact ⟨_, Eq.refl (execSetPreferred buf s), serve_malformed hw hr⟩
    · exact ⟨_, Eq.refl (execRetry buf s), serve_malformed hw hr⟩
  · generalize hv : s.verifySlot (bit (byteAt buf 1) 0) = r
    obtain ⟨t, ht, rfl⟩ := seedbedVerify_completes hl hw hr hv
    obtain ⟨hdone, hres, -, hkept⟩ := noticeDone_answered_of_chans (s := s)
      (t := s.verifiedSlot (bit (byteAt buf 1) 0) r)
      (if r = .verified then 0 else BitVec.ofNat 8 ST.authFail.code) (verifiedSlot_chans ..) hd
    refine ⟨_, ht, hdone, ?_, ?_, hkept, ?_, ?_, ?_⟩
    · rw [hres]
      split
      next h => simp [h]
      next h => exact iff_of_false authFail_ne_zero h
    · rw [(noticeDone_rest _ (by rw [chan_verifiedSlot]; exact hd)).2.1]
      cases r <;> rfl
    · rw [verifiedSlot_frame]; simp
    · rw [verifiedSlot_frame]; simp
    · rw [verifiedSlot_frame]; simp
  · generalize hv : s.verifySlot (bit (byteAt buf 1) 0) = r
    obtain ⟨t, ht, rfl⟩ := setPreferred_completes hl hw hr hm hv
    refine ⟨_, ht, ?_⟩
    by_cases h : r = .verified
    · subst h
      obtain ⟨hdone, hres, -, hkept⟩ := noticeDone_answered_of_chans (s := s)
        (t := (s.verifiedSlot (bit (byteAt buf 1) 0) .verified).bootctlWrite (bit (byteAt buf 1) 0)) 0
        (by simp [verifiedSlot_chans]) hd
      rw [if_pos rfl]
      refine ⟨hdone, iff_of_true hres rfl, fun _ => ?_, fun h => absurd rfl h, hkept, ?_, ?_⟩
      · simp only [noticeDone_frame]
        exact bootctlWrite_flash ..
      · rw [verifiedSlot_frame]; simp
      · rw [verifiedSlot_frame]; simp
    · obtain ⟨hdone, hres, -, hkept⟩ := noticeDone_answered_of_chans (s := s)
        (t := s.verifiedSlot (bit (byteAt buf 1) 0) r) (BitVec.ofNat 8 ST.refused.code) (verifiedSlot_chans ..) hd
      rw [if_neg h]
      refine ⟨hdone, iff_of_false (by rw [hres]; exact refused_ne_zero) h, fun h' => absurd h' h, fun _ => ?_, hkept,
        ?_, ?_⟩
      · rw [verifiedSlot_frame]; simp
      · rw [verifiedSlot_frame]; simp
      · rw [verifiedSlot_frame]; simp
  · obtain ⟨⟨hdone, hres, -, hkept⟩, -, hboot, hflash, -, hhub⟩ :=
      noticeDone_only (BitVec.ofNat 8 ST.refused.code) hd
    suffices hserve : ∃ f, exec i s = onLive s f ∧ f s = s.noticeDone 0 (BitVec.ofNat 8 ST.refused.code) by
      obtain ⟨f, hexec, hf⟩ := hserve
      exact completes_noticeDone hl hexec hf ⟨hdone, hres, hkept, hflash, hboot, hhub⟩
    rcases hi with ⟨rfl, hr⟩ | ⟨rfl, hr⟩
    · exact ⟨_, Eq.refl (execSetPreferred buf s), serve_refused hw hr hm⟩
    · exact ⟨_, Eq.refl (execRetry buf s), serve_refused hw hr hm⟩
  · obtain ⟨t, ht, h⟩ := retry_served hl hw hr hm
    obtain ⟨u, hu, hcount, hlock⟩ :=
      deviceReset_start (State.noticeDone { s with boot := { s.boot with count := 0 } } 0 0) true
    have hcount : u.boot.count = 0 := by simpa using hcount
    have hlock : u.clk.lock = s.clk.lock := by simpa using hlock
    rw [hu] at h
    subst h
    refine ⟨_, ht, rfl, hcount, rfl, ?_, ?_⟩
    · simp [State.startBegin, hcount]
    · simp [State.startBegin, hlock]

end Sys2Proof.Machine
end

section
/-! O32: telemetry dumps and sampled blocks. -/

namespace Sys2Proof.Machine

open Sys2Proof

/-! ## Dump boundaries (R493, R501) -/

theorem telApply_none {s : State} (h : s.tel.next = none) : s.telApply = s := by
  rw [State.telApply, h]

/-- At a boundary a device that serves its rings applies the settings that wait, and takes a dump where they
have dumps on and the tick is a boundary of theirs. -/
theorem telemetryDumpDue_at {s u : State} {P : State → Prop} (hl : s.live = true) (hr : s.ringsServed = true)
    (hm : s.hub.mode ≠ .calibrate) (hb : s.telBoundary = true)
    (hu : (if s.telApply.tel.cfg.en && s.telApply.telBoundary then s.telApply.telDue else s.telApply) = u)
    (hp : u.pending = s.pending) (hn : u.now = s.now) (h : P u) : Completes .telemetryDumpDue s P := by
  refine completes_of_effect hl (Eq.refl (execTelemetryDumpDue s)) ?_ hp hn h
  rw [if_pos (by simp [hr, hm, hb])]
  exact hu

theorem telDue_boundary {s u : State} (hb : s.telBoundary = true) (hx : s.tel.next = none)
    (he : s.tel.cfg.en = true) (hu : s.telDue = u) :
    (if s.telApply.tel.cfg.en && s.telApply.telBoundary then s.telApply.telDue else s.telApply) = u := by
  rw [telApply_none hx, he, hb, Bool.and_self, if_pos rfl, hu]

/-- A dump of no port is its header alone. -/
theorem telEntries_noPorts {s : State} (h : s.tel.cfg.ports = 0) : s.telEntries = [s.telHeader 1] := by
  have hp : ∀ b, s.telPorts b = [] := fun b => by simp [State.telPorts, h]
  have hbody : allBeds.flatMap s.telBedEntries = [] := by simp [State.telBedEntries, hp]
  rw [State.telEntries, hbody]
  rfl

/-- R493. The state with a dump counted, be it written or dropped. -/
def State.telCounted (s : State) : State := { s with tel := { s.tel with seq := s.tel.seq + 1 } }

theorem telDue_noPorts {s : State} (hw : s.tel.writing = []) (hrun : (s.ring telRing).state = .run)
    (hp : s.tel.cfg.ports = 0) (hf : (s.ring telRing).free ≠ 0) :
    s.telDue = { s with tel := { s.telCounted.tel with
      writing := [s.telCounted.telHeader 1], snap := [], snapTick := s.clk.tick, dropped := false } } := by
  have hes : s.telCounted.telEntries = [s.telCounted.telHeader 1] := telEntries_noPorts hp
  have hps : (allPorts.filter fun p => s.tel.cfg.ports.getLsbD p.val) = [] := by
    simp [hp]
  rw [State.telDue]
  simp only [show ({ s with tel := { s.tel with seq := s.tel.seq + 1 } } : State) = s.telCounted from rfl, hes, hps]
  rw [if_neg (by simp [hw]),
    if_neg (by rw [show s.telCounted.ring telRing = s.ring telRing from rfl]; simp [hrun]; omega)]
  rfl

/-- A dump that falls due while another is written is dropped; with no stored record nothing follows. -/
theorem telDue_writing {s : State} (hw : s.tel.writing ≠ []) (hst : ∀ b, (s.bed b).store = []) :
    s.telDue = s.telCounted.telDrop := by
  have hkept : s.telCounted.telDrop.beds = s.beds := by simp [State.telCounted]
  rw [State.telDue, if_pos (by simpa using hw)]
  exact sampleDrain_empty 512 fun b => by
    rw [show ({ s with tel := { s.tel with seq := s.tel.seq + 1 } } : State).telDrop = s.telCounted.telDrop from rfl,
      bed_of_beds hkept, hst]

/-- R305. The drop counts in LOST and marks the ring; beside that it changes telemetry and what is due. -/
theorem telDrop_eq (s : State) : s.telDrop =
    { s with tel := s.telDrop.tel, rings := (s.ringDrop telRing).rings, due := s.telDrop.due } := by
  unfold State.telDrop
  dsimp only
  split <;> rfl

theorem telDrop_tel (s : State) :
    s.telDrop.tel.seq = s.tel.seq ∧ s.telDrop.tel.writing = s.tel.writing ∧ s.telDrop.tel.dropped = true := by
  unfold State.telDrop
  dsimp only
  split <;> exact ⟨rfl, rfl, rfl⟩

theorem rings_telDrop (s : State) : s.telDrop.rings = (s.ringDrop telRing).rings := by
  rw [telDrop_eq]

theorem ring_telDrop (s : State) (r : RingId) : s.telDrop.ring r = (s.ringDrop telRing).ring r := by
  rw [telDrop_eq]
  rfl

/-! ## An entry of the telemetry ring (R288, R306) -/

theorem sendMsix_rings (s : State) (r : RingId) :
    (s.sendMsix r).rings = (s.modRing r fun g => { g with unsent := 0 }).rings := by
  simp [State.sendMsix]

/-- R306. Signalling changes of the rings only how many entries of this one no message has told of. -/
theorem signal_rings (s : State) (r : RingId) :
    ∃ n, (s.signal r).rings = (s.modRing r fun g => { g with unsent := n }).rings := by
  have hself : (s.modRing r fun g => { g with unsent := (s.ring r).unsent }).rings = s.rings :=
    Vector.set_getElem_self ..
  unfold State.signal
  dsimp only
  split
  · exact ⟨_, hself.symm⟩
  split
  · exact ⟨_, sendMsix_rings s r⟩
  split
  · exact ⟨_, sendMsix_rings s r⟩
  · exact ⟨_, rfl⟩

theorem ringsKept_signal (s : State) (r : RingId) : s.ringsKept (s.signal r) [r] := by
  obtain ⟨n, h⟩ := signal_rings s r
  exact fun i hi => (congrArg (Vector.get · i) h).trans (ringsKept_modRing s r _ i hi)

theorem signal_tail (s : State) (r : RingId) : ((s.signal r).ring r).tail = (s.ring r).tail := by
  obtain ⟨n, h⟩ := signal_rings s r
  have hr : (s.signal r).ring r = { s.ring r with unsent := n } :=
    (congrArg (Vector.get · r) h).trans (ring_modRing_self s r _)
  rw [hr]

theorem ringsKept_produce (s : State) (r : RingId) (e : Bool → Bytes) : s.ringsKept (s.produce r e) [r] :=
  fun i hi => (ringsKept_signal _ r i hi).trans (ring_modRing_ne _ r _ i (by simpa using hi))

theorem produce_tail (s : State) (r : RingId) (e : Bool → Bytes) :
    ((s.produce r e).ring r).tail = (s.ring r).succ (s.ring r).tail := by
  rw [State.produce, signal_tail, ring_modRing_self]

theorem produce_hostMem (s : State) (r : RingId) (e : Bool → Bytes) : (s.produce r e).hostMem =
    memWriteBytes 0 s.hostMem ((s.ring r).base.toNat + entrySize r * (s.ring r).tail) (e (s.ring r).phase) := by
  simp [State.produce, State.hostWrite]

/-- R285, R497. A dump of one entry that can be written is written, and with no stored record nothing follows. -/
theorem telemetryDumpWritten_one {s : State} {e : Bytes} (hl : s.live = true) (hw : s.tel.writing = [e])
    (hsnap : s.tel.snap = []) (hd : s.dmaOk true = true) (hrun : (s.ring telRing).state = .run)
    (hf : (s.ring telRing).free ≠ 0) (hst : ∀ b, (s.bed b).store = []) :
    Completes .telemetryDumpWritten s fun t => t =
      { s.produce telRing (telPhase e) with
        tel := { s.tel with writing := [], snap := [], prevTick := some s.tel.snapTick } } := by
  have hbeds : (s.produce telRing (telPhase e)).beds = s.beds := by simp
  refine completes_eq hl (Eq.refl (execTelemetryDumpWritten s)) ?_ (by simp) (by simp)
  dsimp only
  rw [if_neg (by simp [hw, hd]), if_neg (by simp [hrun, hw]; omega), hw, hsnap]
  simp only [forAll, List.foldl_cons, List.foldl_nil]
  refine (sampleDrain_empty 512 fun b => ?_).trans ?_
  · exact (congrArg Bed.store (bed_of_beds hbeds b)).trans (hst b)
  · rw [show (s.produce telRing (telPhase e)).tel = s.tel by simp]

/-! ## Sampled blocks (R489–R492) -/

/-- R489, R490. The state with a draw: the transmitter's countdown and the LFSR after it. -/
def State.txReloaded (s : State) (p : PortId) (n : Nat) (v : BitVec 32) : State :=
  (s.modBed (bedOf p) fun d => { d with sampLfsr := v }).modPort p fun q =>
    { q with txSamp := { q.txSamp with count := n } }

theorem portsKept_txReloaded (s : State) (p : PortId) (n : Nat) (v : BitVec 32) :
    s.portsKept (s.txReloaded p n v) [p] := fun i hi =>
  (portsKept_modPort _ p _ i hi).trans (port_modBed s (bedOf p) _ i)

theorem bedsKept_txReloaded (s : State) (p : PortId) (n : Nat) (v : BitVec 32) :
    s.bedsKept (s.txReloaded p n v) [bedOf p] := fun i hi =>
  (bed_modPort _ p _ i).trans (bedsKept_modBed s (bedOf p) _ i hi)

theorem sampReload_tx (s : State) (p : PortId) : ∃ n v, s.sampReload p false = s.txReloaded p n v :=
  ⟨_, _, rfl⟩

/-- R490. The block that a countdown's end tags at a transmitter. -/
def State.txFlight (s : State) (p : PortId) : Flight :=
  { k := (s.bed (bedOf p)).k, slotNo := ((s.port p).cnt.get 0).val, tick := s.clk.tick,
    rung := (s.port p).link.rung, deep := false }

/-- R490. The state with a block tagged at a transmitter and counted in the bed. -/
def State.txTagged (s : State) (p : PortId) (n : Nat) (v : BitVec 32) (f : Flight) : State :=
  ((s.txReloaded p n v).modPort p fun q =>
    { q with txSamp := { q.txSamp with flight := some f } }).countBed (bedOf p) 2 1

theorem modPort_ports_beds (s : State) (p : PortId) (f : Port → Port) :
    s.modPort p f = { s with ports := (s.modPort p f).ports, beds := (s.modPort p f).beds } := rfl

theorem modBed_ports_beds (s : State) (b : BedId) (f : Bed → Bed) :
    s.modBed b f = { s with ports := (s.modBed b f).ports, beds := (s.modBed b f).beds } := rfl

/-- What changes ports and beds alone, twice over, changes ports and beds alone. -/
theorem ports_beds_trans {s t u : State} (ht : t = { s with ports := t.ports, beds := t.beds })
    (hu : u = { t with ports := u.ports, beds := u.beds }) : u = { s with ports := u.ports, beds := u.beds } :=
  hu.trans (by rw [ht])

theorem txReloaded_frame (s : State) (p : PortId) (n : Nat) (v : BitVec 32) : s.txReloaded p n v =
    { s with ports := (s.txReloaded p n v).ports, beds := (s.txReloaded p n v).beds } :=
  ports_beds_trans (modBed_ports_beds s (bedOf p) _) (modPort_ports_beds _ p _)

theorem txTagged_frame (s : State) (p : PortId) (n : Nat) (v : BitVec 32) (f : Flight) : s.txTagged p n v f =
    { s with ports := (s.txTagged p n v f).ports, beds := (s.txTagged p n v f).beds } := by
  rw [State.txTagged, State.countBed]
  exact ports_beds_trans (ports_beds_trans (txReloaded_frame s p n v) (modPort_ports_beds _ p _))
    (modBed_ports_beds _ (bedOf p) _)

section

variable {s : State} {p : PortId} (hl : s.live = true) (hk : (s.bed (bedOf p)).k ≠ 0)
  (hon : s.bedOn (bedOf p) = true)
include hl hk hon

/-- R501. A port that is not linked counts the block as missed. -/
theorem sampleCountdownExpiry_unlinked (hlink : (s.port p).linked = false) :
    Completes (.sampleCountdownExpiry p false) s fun t => ∃ n v, t = (s.txReloaded p n v).count p 0x3D 1 := by
  obtain ⟨n, v, hu⟩ := sampReload_tx s p
  refine completes_of_effect hl (Eq.refl (execSampleCountdownExpiry p false s))
    (t := (s.txReloaded p n v).count p 0x3D 1) ?_ rfl rfl ⟨n, v, rfl⟩
  dsimp only
  rw [hon, if_neg (by rw [Bool.not_true, Bool.or_false, decide_eq_true_eq]; exact hk), hu,
    if_pos (by rw [hlink]; simp)]

/-- R490. A linked port with no block in flight and room in its bed's store tags one. -/
theorem sampleCountdownExpiry_linked (hlink : (s.port p).linked = true) (hf : (s.port p).txSamp.flight = none)
    (hroom : (s.bed (bedOf p)).store.length < 64) :
    Completes (.sampleCountdownExpiry p false) s fun t => ∃ n v, t = s.txTagged p n v (s.txFlight p) := by
  obtain ⟨n, v, hu⟩ := sampReload_tx s p
  refine completes_of_effect hl (Eq.refl (execSampleCountdownExpiry p false s))
    (t := s.txTagged p n v (s.txFlight p)) ?_ (by rw [txTagged_frame]) (by rw [txTagged_frame]) ⟨n, v, rfl⟩
  dsimp only
  rw [hon, if_neg (by rw [Bool.not_true, Bool.or_false, decide_eq_true_eq]; exact hk), hu,
    if_neg (by rw [hlink]; simp [hf]; omega)]
  rfl

end

/-- R492. While a dump is being written into a ring that runs, stored records wait. -/
theorem sampleDrain_writing {s : State} (n : Nat) (hrun : (s.ring telRing).state = .run)
    (hw : s.tel.writing ≠ []) : State.sampleDrain n s = s := by
  cases n with
  | zero => rfl
  | succ n =>
    rw [State.sampleDrain]
    split
    · rfl
    · split
      · rfl
      · rw [if_neg (by simp [hrun]), if_pos (by simp [hw])]

/-- R491. The record of a block at a transmitter that has passed every stage. -/
def txRecord (p : PortId) (f : Flight) (ticks : List Tick) (fine : List (BitVec 6)) (iter : Byte) : Sample :=
  { port := p, rx := false, rung := f.rung, iter := iter, k := f.k, deep := f.deep, slotNo := f.slotNo,
    ticks := f.tick :: ticks.take 5, fine := fine.take (1 + ticks.length), incomplete := f.left }

/-- R491, R492. The state with a transmitter's block no longer in flight, its record stored and counted. -/
def State.txStored (s : State) (p : PortId) (r : Sample) : State :=
  ((s.modPort p fun q => { q with txSamp := { q.txSamp with flight := none } }).modBed (bedOf p) fun d =>
    { d with store := sampleInsert r d.store }).count p 0x3C 1

theorem txStored_frame (s : State) (p : PortId) (r : Sample) :
    s.txStored p r = { s with ports := (s.txStored p r).ports, beds := (s.txStored p r).beds } := by
  rw [State.txStored, State.count]
  exact ports_beds_trans (ports_beds_trans (modPort_ports_beds s p _) (modBed_ports_beds _ (bedOf p) _))
    (modPort_ports_beds _ p _)

theorem sampleRecordQueue_tx {s : State} {p : PortId} {f : Flight} {ticks : List Tick} (fine : List (BitVec 6))
    (sects : List (Fin 16)) (hl : s.live = true) (hf : (s.port p).txSamp.flight = some f)
    (ht : 5 ≤ ticks.length) (hrun : (s.ring telRing).state = .run) (hw : s.tel.writing ≠ []) :
    Completes (.sampleRecordQueue p false ticks fine sects) s fun t =>
      t = s.txStored p (txRecord p f ticks fine 0) := by
  refine completes_eq hl (Eq.refl (execSampleRecordQueue p false ticks fine sects s)) ?_ rfl rfl
  simp only [Bool.false_eq_true, if_false, hf]
  rw [if_neg (by simp; omega)]
  exact sampleDrain_writing 512 hrun hw

/-- Settles O32: a boundary, a dump written, a countdown's end and a record, each from what it does. -/
theorem telemetryDumps : Obligations.TelemetryDumps := by
  unfold Obligations.TelemetryDumps
  refine ⟨fun s c hl hr hm hb hx hc => ?_, fun s hl hr hm hb hx he hw hrun hp hf => ?_,
    fun s hl hr hm hb hx he hw hst => ?_, fun s e hl hw hsnap hd hrun hf hst => ?_,
    fun s p hl hk hon hlink => ?_, fun s p hl hk hon hlink hf hroom => ?_,
    fun s p f ticks fine sects hl hf _ ht hst hrun hw => ?_⟩
  · refine telemetryDumpDue_at hl hr hm hb (if_neg ?_) ?_ ?_ ?_
    all_goals rw [State.telApply, hx]; simp [hc]
  · exact telemetryDumpDue_at hl hr hm hb (telDue_boundary hb hx he (telDue_noPorts hw hrun hp hf)) rfl rfl
      ⟨rfl, rfl, rfl, rfl⟩
  · obtain ⟨hseq, hwr, hdr⟩ := telDrop_tel s.telCounted
    refine telemetryDumpDue_at hl hr hm hb (telDue_boundary hb hx he (telDue_writing hw hst))
      (by simp [State.telCounted]) (by simp [State.telCounted]) ⟨hseq, hwr, hdr, ?_, fun r hr => ?_, ?_⟩
    · rw [ring_telDrop, State.ringDrop, ring_modRing_self]
      rfl
    · rw [ring_telDrop]
      exact ring_modRing_ne _ _ _ r (by simpa using hr)
    · conv_lhs => rw [telDrop_eq]
      rw [rings_telDrop]
      rfl
  · obtain ⟨t, ht, rfl⟩ := telemetryDumpWritten_one hl hw hsnap hd hrun hf hst
    refine ⟨_, ht, rfl, ?_, produce_tail s telRing _, ringsKept_produce s telRing _, by simp, by simp⟩
    exact produce_hostMem s telRing _
  · obtain ⟨t, ht, n, v, rfl⟩ := sampleCountdownExpiry_unlinked hl hk hon hlink
    refine ⟨_, ht, ?_, ?_, ?_, fun i hi => ?_,
      ports_beds_trans (txReloaded_frame s p n v) (modPort_ports_beds _ p _)⟩
    · rw [State.count, port_modPort_self, State.txReloaded, port_modPort_self, port_modBed]
      rfl
    · rw [State.count, port_modPort_self, State.txReloaded, port_modPort_self, port_modBed]
    · exact fun i hi => (portsKept_modPort _ p _ i hi).trans (portsKept_txReloaded s p n v i hi)
    · rw [State.count, bed_modPort]
      exact bedsKept_txReloaded s p n v i hi
  · obtain ⟨t, ht, n, v, rfl⟩ := sampleCountdownExpiry_linked hl hk hon hlink hf hroom
    refine ⟨_, ht, ?_, ?_, ?_, ?_, ?_, txTagged_frame ..⟩
    · rw [State.txTagged, State.countBed, port_modBed, port_modPort_self]
      rfl
    · rw [State.txTagged, State.countBed, bed_modBed_self, bed_modPort, State.txReloaded, bed_modPort, bed_modBed_self]
      rfl
    · rw [State.txTagged, State.countBed, port_modBed, port_modPort_self, State.txReloaded, port_modPort_self,
        port_modBed]
    · intro i hi
      rw [State.txTagged, State.countBed, port_modBed]
      exact (portsKept_modPort _ p _ i hi).trans (portsKept_txReloaded s p n v i hi)
    · intro i hi
      rw [State.txTagged, State.countBed]
      refine (bedsKept_modBed _ (bedOf p) _ i hi).trans ?_
      rw [bed_modPort]
      exact bedsKept_txReloaded s p n v i hi
  · obtain ⟨t, ht, rfl⟩ := sampleRecordQueue_tx fine sects hl hf ht hrun hw
    refine ⟨_, ht, ?_, ?_, ?_, ?_, ?_, txStored_frame ..⟩
    · rw [State.txStored, State.count, port_modPort_self, port_modBed, port_modPort_self]
    · rw [State.txStored, State.count, port_modPort_self, port_modBed, port_modPort_self]
      rfl
    · rw [State.txStored, State.count, bed_modPort, bed_modBed_self, bed_modPort, hst]
      rfl
    · intro i hi
      rw [State.txStored, State.count]
      refine (portsKept_modPort _ p _ i hi).trans ?_
      rw [port_modBed]
      exact portsKept_modPort s p _ i hi
    · intro i hi
      rw [State.txStored, State.count, bed_modPort]
      refine (bedsKept_modBed _ (bedOf p) _ i hi).trans ?_
      rw [bed_modPort]

end Sys2Proof.Machine
end

section
/-! What leaves the events that are due, and what only adds to them. -/

namespace Sys2Proof.Machine

open Sys2Proof

variable {s : State}

/-! ## Ring entries and mailbox channels -/

@[simp] theorem message_due (pf1 : Bool) (v : Nat) : (s.message pf1 v).due = s.due := by
  simp [State.message, State.modMsix, ite_due]

@[simp] theorem signal_due (r : RingId) : (s.signal r).due = s.due := by
  simp [State.signal, State.sendMsix, ite_due]

@[simp] theorem completeTx_due (b : BedId) (u : UserTx) (st : ST) (d : Nat) : (s.completeTx b u st d).due = s.due := by
  simp [State.completeTx, State.writeBackNow, State.ringDrop, ite_due]

@[simp] theorem usersEnd_due (p : PortId) (c : Loss) : (s.usersEnd p c).due = s.due := by
  simp [State.usersEnd, State.modSpring, ite_due, forAll_due]

@[simp] theorem notify_due (m : MasterId) (c : ChanId) (bell : Bool) : (s.notify m c bell).due = s.due := by
  simp [State.notify, State.alertUpdate, ite_due]

@[simp] theorem chanReset_due (ms : List MasterId) (c : ChanId) : (s.chanReset ms c).due = s.due := by
  simp [State.chanReset, State.chanEnds, ite_due]

@[simp] theorem resetMasters_due (ms : List MasterId) : (s.resetMasters ms).due = s.due := by
  have hclr (t : State) : (forAll allChans (fun c u => u.modChan c fun q => { q with irq := 0 }) t).due = t.due :=
    forAll_due _ _ _ rfl
  have hchans : (forAll allChans (fun c t => t.chanReset ms c) s).due = s.due := forAll_due _ _ _ (by simp)
  unfold State.resetMasters State.alertUpdate
  dsimp only
  rw [ite_due, ite_self, ite_due, hclr, ite_self, hchans]

/-! ## A port's channel and its host side -/

@[simp] theorem capStage_due (p : PortId) : (s.capStage p).due = s.due := by
  have h : (s.capBuild p).2.due = s.due := by
    unfold State.capBuild
    dsimp only
    split <;> rfl
  simp [State.capStage, State.modSpring, ite_due, h]

@[simp] theorem springKick_due (p : PortId) : (s.springKick p).due = s.due := by
  have hcut : (s.springCut p).due = s.due := by
    simp [State.springCut, State.modSpring, State.count, ite_due]
  have hstart (f : TxFrame) : (s.springStart p f).due = s.due := by
    simp [State.springStart, State.modSpring, State.count, ite_due]
  unfold State.springKick
  repeat' split
  · rfl
  · exact hstart _
  · exact hcut
  · rfl

@[simp] theorem springDue_due (p : PortId) (f : TxFrame) : (s.springDue p f).due = s.due := by
  simp [State.springDue, State.modSpring]

@[simp] theorem springHead_due (p : PortId) (rep : Bool) : (s.springHead p rep).due = s.due := by
  simp [State.springHead, State.modSpring]

@[simp] theorem springResume_due (p : PortId) : (s.springResume p).due = s.due := by
  simp [State.springResume, State.springOn, State.springIdle, State.modSpring, ite_due]

@[simp] theorem springListen_due (p : PortId) (sel : RoleSel) : (s.springListen p sel).due = s.due := by
  cases sel with
  | head => exact springHead_due p true
  | tail => rfl
  | auto => rfl

@[simp] theorem portRest_due (p : PortId) : (s.portRest p).due = s.due := rfl

@[simp] theorem hostOff_due (p : PortId) : (s.hostOff p).due = s.due := hostSet_due ..

/-! ## A run that ends -/

@[simp] theorem bedRelease_due (b : BedId) : (s.bedRelease b).due = s.due := by
  simp [State.bedRelease, State.modSpring, ite_due, forAll_due]

@[simp] theorem calModeEnd_due : s.calModeEnd.due = s.due := by
  simp [State.calModeEnd, ite_due, forAll_due]

@[simp] theorem runDrop_due (b : BedId) (st : ST) : (s.runDrop b st).due = s.due := by
  have hmode (t : State) : t.modeAfterTest.due = t.due := by simp [State.modeAfterTest, ite_due]
  have hend (t : State) : ((t.bedRelease b).modeAfterTest).calModeEnd.due = t.due := by simp [hmode]
  unfold State.runDrop
  dsimp only
  split
  · rw [hend]
    split <;> simp
  · rfl

/-! ## A diagnostic run that ends: the next ports take their turns -/

@[simp] theorem enterTest_due (p : PortId) : (s.enterTest p).due = s.due := by
  simp [State.enterTest, State.modLink, hostSet_due]

@[simp] theorem diagEndQuiet_due (p : PortId) : (s.diagEndQuiet p).due = s.due := by
  unfold State.diagEndQuiet
  split
  · simp [State.springDiag, ite_due]
  · rfl

@[simp] theorem diagWrite_due (p : PortId) : (s.diagWrite p).due = s.due := by
  unfold State.diagWrite
  split <;> simp

section

variable {e : Event} (h : e ∈ s.due)
include h

theorem raise_mem_due (c : Ev) (src : Elem) (fs : List (Nat × Nat × Nat)) : e ∈ (s.raise c src fs).due :=
  mem_insertEv_of_mem h

theorem springEndSession_mem_due (p : PortId) (c : Loss) : e ∈ (s.springEndSession p c).due := by
  unfold State.springEndSession
  split
  · simp only [State.modSpring, modPort_due, usersEnd_due, State.count]
    exact raise_mem_due (by simpa [State.modSpring] using h) ..
  · exact h

theorem springAtListening_mem_due (p : PortId) : e ∈ (s.springAtListening p).due := by
  have hend (keep : Bool) : e ∈ (if keep then
      if (s.port p).spring.srole = Role.head then
        (s.modSpring p fun g => { g with capRep := true }).springDue p { typ := .cap }
      else s
    else (s.springEndSession p .restart).springListen p (s.port p).link.sRole).due := by
    split
    · simpa [State.modSpring, ite_due] using h
    · rw [springListen_due]
      exact springEndSession_mem_due h ..
  unfold State.springAtListening
  dsimp only
  split
  · exact h
  · generalize (s.port p).spring.sstate = st
    cases st with
    | off => simpa using h
    | listen => simpa using h
    | joining => exact hend _
    | partnered => exact hend _

theorem toListening_mem_due (p : PortId) : e ∈ (s.toListening p).due := by
  have hc28 (t : State) : (t.c28Start p).due = t.due := by simp [State.c28Start, State.modLink, ite_due]
  unfold State.toListening
  dsimp only
  rw [ite_due, hc28, ite_self]
  refine springAtListening_mem_due ?_ p
  rw [hostSet_due]
  exact h

theorem testReturn_mem_due (p : PortId) (st : PState) : e ∈ (s.testReturn p st).due := by
  unfold State.testReturn
  split
  · exact toListening_mem_due h p
  · simpa [ite_due] using h

theorem diagBegin_mem_due (p : PortId) : e ∈ (s.diagBegin p).due := by
  have hend (t : State) (ht : t.due = s.due) (d : Diag) :
      e ∈ (if d.inTest then t.testReturn p d.prior else t).due := by
    split
    · exact testReturn_mem_due (ht ▸ h) ..
    · exact ht ▸ h
  unfold State.diagBegin
  split
  · exact h
  split
  · exact hend _ (by simp) _
  · dsimp only
    split
    · simpa [State.springDiag] using h
    · exact hend _ (by simp) _
  · exact h

theorem diagTurn_mem_due (p : PortId) : e ∈ (s.diagTurn p).due := by
  unfold State.diagTurn
  split
  · exact h
  dsimp only
  split
  · simpa using h
  split
  · split
    · simpa [State.springDiag] using h
    · exact diagBegin_mem_due (by simpa using h) p
  · simpa using h

theorem diagNext_mem_due (n : Nat) (k : CmdKey) (b : BedId) : e ∈ (State.diagNext n k b s).due := by
  induction n generalizing s with
  | zero => exact h
  | succ n ih =>
    rw [State.diagNext]
    split
    · exact h
    · split
      · exact h
      · exact ih (diagTurn_mem_due h _)

theorem forAll_mem_due {α : Type} (xs : List α) (g : α → State → State)
    (hg : ∀ x t, e ∈ t.due → e ∈ (g x t).due) : e ∈ (forAll xs g s).due := by
  induction xs generalizing s with
  | nil => exact h
  | cons x xs ih => exact ih (hg x s h)

theorem diagDrop_mem_due (p : PortId) : e ∈ (s.diagDrop p).due := by
  unfold State.diagDrop
  split
  · exact h
  · exact forAll_mem_due (by simpa using h) _ _ fun b t ht => diagNext_mem_due ht 16 _ b

/-- R399. A port that goes into reset adds to what is due. -/
theorem portWipe_mem_due (p : PortId) : e ∈ (s.portWipe p).due := by
  unfold State.portWipe
  dsimp only
  simp only [modPort_due, hostOff_due, usersEnd_due]
  refine springEndSession_mem_due ?_ p .reset
  rw [State.sampleFlush, modPort_due]
  exact diagDrop_mem_due h p

end

end Sys2Proof.Machine
end

section
/-! O14: the watchdog of a Tender. -/

namespace Sys2Proof.Machine

open Sys2Proof

variable {s : State}

/-! ## What the reset of a Tender's core leaves (R374, R381) -/

/-- A Tender is neither PF0 nor Wicket: its reset is that of its channels, with SMBALERT# after them. -/
theorem resetMasters_tender (b : BedId) :
    s.resetMasters [tenderId b] = (forAll allChans (fun c t => t.chanReset [tenderId b] c) s).alertUpdate := by
  have hpf0 : ∀ b, [tenderId b].contains 11 = false := by decide
  have hwicket : ∀ b, [tenderId b].contains 1 = false := by decide
  simp only [State.resetMasters, hpf0 b, hwicket b, Bool.false_eq_true, if_false]

theorem tenderId_ne_zero : ∀ b, tenderId b ≠ 0 := by decide

theorem chanEnds_ports (c : ChanId) (rs rr : Bool) : (s.chanEnds c rs rr).ports = s.ports := by
  simp [State.chanEnds, apply_ite State.ports]

theorem resetMasters_tender_ports (b : BedId) : (s.resetMasters [tenderId b]).ports = s.ports := by
  rw [resetMasters_tender]
  exact forAll_ports _ _ _ (by simp [State.chanReset, chanEnds_ports])

theorem chansKept_chanReset (ms : List MasterId) (c : ChanId) : s.chansKept (s.chanReset ms c) [c] := by
  have hends (t : State) (rs rr : Bool) : t.chansKept (t.chanEnds c rs rr) [c] := by
    have hmod (f : Chan → Chan) : t.chansKept (t.modChan c f) [c] := chansKept_modChan t c f
    have hnote (f : Chan → Chan) (m : MasterId) : t.chansKept ((t.modChan c f).notify m c false) [c] :=
      chansKept_modChan_notify t m c f false
    unfold State.chanEnds
    dsimp only
    repeat' split
    · exact hmod _
    · exact hnote _ _
    · exact hmod _
    · exact hnote _ _
    · exact hnote _ _
    · exact hmod _
    · exact fun _ _ => rfl
    · exact fun _ _ => rfl
  exact chansKept_trans (chansKept_trans (chansKept_modChan s c _) (hends _ _ _)) (chansKept_modChan _ c _)

/-- R374. The reset master holds the lock of the channel no more. -/
theorem chanReset_lock {m : MasterId} (hm : m ≠ 0) (c : ChanId) : ((s.chanReset [m] c).chan c).lock ≠ m := by
  rw [State.chanReset, chan_modChan_self]
  generalize State.chan _ c = q
  split
  · rw [lock_unlock]
    exact hm.symm
  · rename_i h
    intro heq
    exact hm (by simpa [heq] using h)

theorem forAll_chanReset_lock {m : MasterId} (hm : m ≠ 0) (cs : List ChanId) (c : ChanId)
    (h : c ∈ cs ∨ (s.chan c).lock ≠ m) :
    ((forAll cs (fun c t => t.chanReset [m] c) s).chan c).lock ≠ m := by
  induction cs generalizing s with
  | nil => exact h.resolve_left List.not_mem_nil
  | cons i cs ih =>
    refine ih ?_
    by_cases hi : c = i
    · subst hi
      exact .inr (chanReset_lock hm c)
    · rw [chansKept_chanReset [m] i c (by simpa using hi)]
      exact h.imp_left fun hc => (List.mem_cons.mp hc).resolve_left hi

theorem resetMasters_tender_lock (b : BedId) (c : ChanId) :
    ((s.resetMasters [tenderId b]).chan c).lock ≠ tenderId b := by
  rw [resetMasters_tender, chan_alertUpdate]
  exact forAll_chanReset_lock (tenderId_ne_zero b) _ c (.inl (List.mem_finRange c))

/-! ## The event and the bed of a bed reset (R400, R438) -/

theorem bedReset_hasDue (b : BedId) (origin cid : Nat) (ho : origin < 256) :
    (s.bedReset b origin cid).hasDue .reset (.bed b) origin = true := by
  refine hasDue_of_subset (fun e he => ?_)
    (hasDue_raise (s.resetUnraise (inBed b)) .reset (.bed b) ho (fs := [(18, 2, cid)]) (by simp))
  unfold State.bedReset
  dsimp only
  rw [resetMasters_due, modBed_due]
  refine forAll_mem_due (forAll_mem_due ?_ _ _ fun p t ht => portWipe_mem_due ht p) _ _ fun l t ht => ht
  rw [runDrop_due, abortTargets_due]
  exact he

theorem bedReset_pow (b : BedId) (origin cid : Nat) :
    ((s.bedReset b origin cid).bed b).pow.inReset = true ∧
    ((s.bedReset b origin cid).bed b).pow.forced = (origin == 2) ∧
    ((s.bedReset b origin cid).bed b).pow.tender = false := by
  unfold State.bedReset
  dsimp only
  generalize forAll (lanesOf b) _ _ = u
  have hbeds (t : State) : (t.resetMasters [tenderId b]).bed b = t.bed b := bed_of_beds (by simp) b
  rw [hbeds, bed_modBed_self]
  exact ⟨rfl, rfl, rfl⟩

/-! ## A firing (R399) -/

section

variable {b : BedId} (hl : s.live = true) (hon : (s.bed b).pow.on = true) (ht : (s.bed b).pow.tender = true)
  (hr : (s.bed b).pow.inReset = false)
include hl hon ht hr

theorem tenderWatchdogExpiry_first (hw : (s.bed b).pow.wdogAt = none) (hb : (s.bed b).bist = none) :
    Completes (.tenderWatchdogExpiry b) s fun t =>
      t = ((s.modPow b fun w => { w with wdogAt := some s.now }).resetEvent (.bed b) 3 0).resetMasters
        [tenderId b] := by
  refine completes_eq hl (Eq.refl (execTenderWatchdogExpiry b s)) ?_ (by simp [State.resetEvent])
    (by simp [State.resetEvent])
  have hbist : ((((s.modPow b fun w => { w with wdogAt := some s.now }).resetEvent (.bed b) 3 0).bed b).bist).isSome =
      false := by
    rw [show ∀ t : State, (t.resetEvent (.bed b) 3 0).bed b = t.bed b from fun _ => rfl, State.modPow,
      bed_modBed_self, hb, Option.isSome_none]
  dsimp only
  rw [if_neg (by simp [hon, ht, hr]), hw, if_neg (by simp), State.tenderReset, hbist, if_neg (by simp)]

theorem tenderWatchdogExpiry_again {n : Nat} (hw : (s.bed b).pow.wdogAt = some n) (hn : s.now < n + Config.tk1s) :
    Completes (.tenderWatchdogExpiry b) s fun t =>
      t = (s.bedReset b 2 0).modPow b fun w => { w with wdogAt := none } := by
  refine completes_eq hl (Eq.refl (execTenderWatchdogExpiry b s)) ?_ (by simp) (by simp)
  have hpos : 0 < Config.tk1s := by decide
  dsimp only
  rw [if_neg (by simp [hon, ht, hr]), hw, if_pos (by simp; omega)]

end

/-- Settles O14: the first firing resets the core, one within the second its bed. -/
theorem tenderWatchdog : Obligations.TenderWatchdog := by
  unfold Obligations.TenderWatchdog
  refine ⟨fun s b hl hon ht hr hw hb => ?_, fun s b n hl hon ht hr hw hn => ?_⟩
  · obtain ⟨t, he, hu⟩ := tenderWatchdogExpiry_first hl hon ht hr hw hb
    have hbeds : t.beds = (s.modPow b fun w => { w with wdogAt := some s.now }).beds := by
      simp [hu, State.resetEvent]
    have hdue : t.due = ((s.modPow b fun w => { w with wdogAt := some s.now }).resetEvent (.bed b) 3 0).due := by
      rw [hu, resetMasters_due]
    refine ⟨t, he, ?_, ?_, fun i hi => ?_, fun p => ?_, ?_, ?_, ?_, fun c => ?_⟩
    · rw [bed_of_beds hbeds, State.modPow, bed_modBed_self]
    · rw [bed_of_beds hbeds, State.modPow, bed_modBed_self, hr]
    · rw [bed_of_beds hbeds]
      exact bedsKept_modBed s b _ i hi
    · rw [port_of_ports (t := t) (s := s) (by rw [hu, resetMasters_tender_ports]; rfl)]
    · rw [hasDue_of_due hdue]
      exact hasDue_raise _ .reset (.bed b) (by decide) (by simp)
    · simp [hu, State.resetEvent]
    · simp [hu, State.resetEvent]
    · rw [hu]
      exact resetMasters_tender_lock b c
  · obtain ⟨t, he, hu⟩ := tenderWatchdogExpiry_again hl hon ht hr hw hn
    obtain ⟨hreset, hforced, htender⟩ := bedReset_pow (s := s) b 2 0
    have hpow : (t.bed b).pow = { ((s.bedReset b 2 0).bed b).pow with wdogAt := none } := by
      rw [hu, State.modPow, bed_modBed_self]
    refine ⟨t, he, ?_, ?_, ?_, ?_, ?_, ?_, ?_⟩
    · rw [hpow]; exact hreset
    · rw [hpow]; exact hforced
    · rw [hpow]
    · rw [hpow]; exact htender
    · rw [hu, State.modPow, hasDue_of_due (modBed_due _ b _)]
      exact bedReset_hasDue b 2 0 (by decide)
    · simp [hu]
    · simp [hu]

end Sys2Proof.Machine
end
